-- ==== Sys2Proof/Word.lean ====
section
/-!
DEFINITION. The plain words of the EB7432: bytes, 32-bit register words and bit sets. Register fields are
held as `Nat` below their field's width (R8, R15), so that the manual's saturating counts, exact ledger
arithmetic and roundings (R14) are written as the manual writes them; a byte that moves on a bus is a `Byte`.
-/
namespace Sys2Proof

/-- One byte of data (R15: little-endian throughout). -/
abbrev Byte := BitVec 8

/-- One 32-bit word of the management space (R15). -/
abbrev Word32 := BitVec 32

end Sys2Proof
end

