-- ==== Sys2Proof/Syntax.lean ====
section
/-!
DEFINITION. The commands of the block, as plain syntax: one constructor for each row of the table of operations
and events (opcode_table.json), with what the command carries from outside: a request's address and data, a
register write's path and value, a measurement's result. The meaning of each stands in Machine/.
-/
namespace Sys2Proof

/-- The path by which a register access reaches the management space (R503, R505, Table 21-2). [DEDUCED, unsafe: log 19] -/
inductive Path where
  /-- BAR0 of function 0 of logical device `ld` on a host port (0 for A, 1 for B). -/
  | host (port ld : Nat)
  /-- The TWI0 vendor path. -/
  | twi
  /-- A management core, MC0 to MC3. -/
  | core (n : Nat)
  deriving DecidableEq, Repr

/-- The blocks whose RWS fields wait for an apply boundary (R18). -/
inductive RwsBlock where
  | hold | scrub | dchCtl | dchRef | epoch | audit | idle
  deriving DecidableEq, Repr

/-- What the symbol code reports for a line read from DRAM (R127 to R129): no error, an error of one device
(corrected), or an error that the second read of R129 corrects or does not correct. -/
inductive EccResult where
  | clean | corrected | reread | uncorrectable
  deriving DecidableEq, Repr

/-- What a check of a volume's read eye finds: it passes; it fails, and a full training passes; or the training fails too (R240). -/
inductive EyeResult where
  | passed | trained | failed
  deriving DecidableEq, Repr

/-- What DRAM training, NAND discovery and training find at stage 8 (R107, R132, R142, R239, R242): per channel of DRAM,
whether DIMMs answer, whether the population is the declared one, the highest rate that the SPD and the training allow in
units of 100 MT/s, the geometry bits and the refresh-management declaration; the ranks 4c + r that fail training and the
serial number at each; per flash channel, the declared dies 128c + d that answer as declared, the undeclared that
answer, by die the highest rate of its standard mode and the three copies of its extended timing descriptor, by channel the extended
rates at which training passes (bit 0: 4,000, bit 1: 4,400, bit 2: 4,800 MT/s), the suspend declarations, and the four declared times
(the pseudo-SLC program time for dies without a descriptor); and the slots that will not decode when the maps load (R163).
[DESIGN CHOICE, safe: log 163] -/
structure HwFound where
  dramPop : Nat
  ranks : List Nat
  rankGib : List Nat
  x4 : Nat
  refSb : Nat
  dramRate : List Nat
  colw : List Nat
  cidw : List Nat
  roww : List Nat
  rfm : Nat
  rankBad : List Nat
  serials : List Nat
  dies : List Nat
  extra : List Nat
  dieRate : List (Nat × Nat)
  xtDesc : List (Nat × List (List Nat))
  xtTrain : List Nat
  psus : Nat
  esus : Nat
  tRead : List Nat
  tProgSlc : List Nat
  tProg : List Nat
  tErase : List Nat
  unread : List Nat
  deriving DecidableEq, Repr

/-- The commands of the block: one constructor per row of the table of operations and events; those
that carry operands stand first, each part in the order of the table. [DESIGN CHOICE, unsafe: log 25] -/
inductive Instr where
  /-- MEM_RD (R82): A CXL.mem MemRd or MemRdData request arrives at a port, is decoded and takes a tracker entry, and is later answered with MemData. -/
  | memRd (port : Nat) (ld : Nat) (sid : Nat) (tag : Nat) (hpa : Nat)
  /-- MEM_WR (R32): A CXL.mem MemWr arrives; it is decoded, tested for admission and, if admitted, enters a DRAM write queue and is completed with Cmp. -/
  | memWr (port : Nat) (ld : Nat) (sid : Nat) (tag : Nat) (hpa : Nat) (data : List Byte) (psn : Bool)
  /-- MEM_WR_PTL (R89): A CXL.mem MemWrPtl arrives; its enabled bytes are written with poison-mark rules and it is admitted like a MemWr. -/
  | memWrPtl (port : Nat) (ld : Nat) (sid : Nat) (tag : Nat) (hpa : Nat) (data : List Byte) (be : Nat) (psn : Bool)
  /-- MEM_INV (R82): A MemInv or MemInvNT arrives and is answered with Cmp without touching data. -/
  | memInv (port : Nat) (ld : Nat) (sid : Nat) (tag : Nat) (hpa : Nat)
  /-- MEM_SPEC_RD (R82): A MemSpecRd arrives, is ignored, and its Req credit is returned at once. -/
  | memSpecRd (port : Nat)
  /-- HOLD_LIMIT_EXPIRY (R86): The oldest held store of a port exceeds the hold limit; HOLD_OVER is set, RwD credit return stops, HOLDX counts and an event is raised. -/
  | holdLimitExpiry (port : Nat)
  /-- RD_TMO_EXPIRY (R88): A read not completed within RD_TMO completes poisoned, is counted and raises a General Media Event. -/
  | rdTmoExpiry (port : Nat)
  /-- URGENCY_RECOMPUTE (R92): Every 4 ns the port recomputes each request's urgency from its age and class target. -/
  | urgencyRecompute (port : Nat)
  /-- CREDIT_RETURN_ACK (R347): The link layer acknowledges the flit carrying a credit return, closing the in-flight imbalance of the credit book. -/
  | creditReturnAck (port : Nat) (req : Nat) (rwd : Nat)
  /-- PERST_ASSERT (R87): PERST_x_N is asserted; the port holds its link down and discards every uncompleted request not already in a DRAM write queue. -/
  | perstAssert (port : Nat)
  /-- PERST_RELEASE (R87): PERST_x_N is released in service and the port enters link training within 20 ms. -/
  | perstRelease (port : Nat)
  /-- LINK_DOWN (R87): A port's link goes down and its uncompleted requests are handled as for a link reset. -/
  | linkDown (port : Nat)
  /-- LINK_L0 (R71): A port's link reaches L0, negotiates its protocol, and begins serving requests if CXL was negotiated. -/
  | linkL0 (port : Nat) (offer : Nat) (rate : Nat) (width : Nat) (flit : Bool)
  /-- RETRAIN (R69): A write of HPx_CTL.RETRAIN makes the port retrain its link. -/
  | retrain (path : Path) (port : Nat)
  /-- CXL_RESET (R87): A CXL Reset of one LD discards that LD's uncompleted requests and resets its decoders. -/
  | cxlReset (port : Nat) (ld : Nat)
  /-- GPF_PHASE1 (R96): GPF phase 1 arrives and is answered at once because the device holds no cache. -/
  | gpfPhase1 (port : Nat)
  /-- GPF_PHASE2 (R96): GPF phase 2 arrives and starts a save of code 3, joins a running save of code 3 or 4, or is answered at once before memory is ready. -/
  | gpfPhase2 (port : Nat)
  /-- GET_EVENT_RECORDS (R99): The mailbox command Get Event Records returns records from an LD's event log. -/
  | getEventRecords (port : Nat) (ld : Nat) (log : Nat)
  /-- CLEAR_EVENT_RECORDS (R99): The mailbox command Clear Event Records removes records from an LD's event log. -/
  | clearEventRecords (port : Nat) (ld : Nat) (log : Nat) (handles : List Nat)
  /-- GET_EVENT_INTERRUPT_POLICY (R99): The mailbox command Get Event Interrupt Policy returns the interrupt settings of the event logs. -/
  | getEventInterruptPolicy (port : Nat) (ld : Nat)
  /-- SET_EVENT_INTERRUPT_POLICY (R99): The mailbox command Set Event Interrupt Policy sets no-interrupt or MSI-X per log and rejects a firmware-interrupt request. -/
  | setEventInterruptPolicy (port : Nat) (ld : Nat) (policy : List Nat)
  /-- GET_FW_INFO (R485): The mailbox command Get FW Info reports the two firmware slots and online activation support. -/
  | getFwInfo (port : Nat) (ld : Nat)
  /-- TRANSFER_FW (R472): The mailbox command Transfer FW delivers image data or an End, Full or Abort action for a firmware download. -/
  | transferFw (port : Nat) (ld : Nat) (action : Nat) (slot : Nat) (off : Nat) (data : List Byte)
  /-- ACTIVATE_FW (R477): The mailbox command Activate FW acts as commit action 3 with the online option or commit action 2 with the offline option. -/
  | activateFw (port : Nat) (ld : Nat) (action : Nat) (slot : Nat)
  /-- GET_TIMESTAMP (R539): The mailbox command Get Timestamp returns the recorded host time plus the elapsed ticks, or 0 while no relation is held. -/
  | getTimestamp (port : Nat) (ld : Nat)
  /-- SET_TIMESTAMP (R539): The mailbox command Set Timestamp records the host time against the tick counter. -/
  | setTimestamp (port : Nat) (ld : Nat) (time : Nat)
  /-- GET_SUPPORTED_LOGS (R507): The mailbox command Get Supported Logs reports that only the Command Effects Log is available. -/
  | getSupportedLogs (port : Nat) (ld : Nat)
  /-- GET_LOG (R507): The mailbox command Get Log returns the Command Effects Log. -/
  | getLog (port : Nat) (ld : Nat) (cel : Bool) (off : Nat) (len : Nat)
  /-- IDENTIFY_MEMORY_DEVICE (R507): The mailbox command Identify Memory Device reports all capacity as persistent. -/
  | identifyMemoryDevice (port : Nat) (ld : Nat)
  /-- GET_HEALTH_INFO (R100): The mailbox command Get Health Info returns the health fields of Table 3-7. -/
  | getHealthInfo (port : Nat) (ld : Nat)
  /-- GET_ALERT_CONFIGURATION (R507): The mailbox command Get Alert Configuration returns the health alert settings. -/
  | getAlertConfiguration (port : Nat) (ld : Nat)
  /-- SET_ALERT_CONFIGURATION (R507): The mailbox command Set Alert Configuration changes the health alert settings. -/
  | setAlertConfiguration (port : Nat) (ld : Nat) (config : List Nat)
  /-- GET_SHUTDOWN_STATE (R507): The mailbox command Get Shutdown State returns the stored shutdown state. -/
  | getShutdownState (port : Nat) (ld : Nat)
  /-- SET_SHUTDOWN_STATE (R507): The mailbox command Set Shutdown State stores the state without affecting the dirty-shutdown count. -/
  | setShutdownState (port : Nat) (ld : Nat) (value : Nat)
  /-- GET_POISON_LIST (R508): The mailbox command Get Poison List returns the last 1,024 poisoned lines of the LD in DPA order. -/
  | getPoisonList (port : Nat) (ld : Nat) (dpa : Nat) (len : Nat)
  /-- INJECT_POISON (R508): The mailbox command Inject Poison writes one poisoned line, passing admission as a store. -/
  | injectPoison (port : Nat) (ld : Nat) (dpa : Nat)
  /-- CLEAR_POISON (R508): The mailbox command Clear Poison writes one line without poison, passing admission as a store. -/
  | clearPoison (port : Nat) (ld : Nat) (dpa : Nat) (data : List Byte)
  /-- SANITIZE (R509): The mailbox command Sanitize enters MEM_SANITIZE as a background command, or returns Invalid Input if a decoder is committed. -/
  | sanitize (port : Nat) (ld : Nat)
  /-- SECURE_ERASE (R509): The mailbox command Secure Erase enters MEM_SANITIZE as a background command, or returns Invalid Input if a decoder is committed. -/
  | secureErase (port : Nat) (ld : Nat)
  /-- GET_DC_CONFIG (R78): The mailbox command Get DC Config returns the LD's dynamic-capacity regions. -/
  | getDcConfig (port : Nat) (ld : Nat)
  /-- GET_DC_EXTENT_LIST (R78): The mailbox command Get DC Extent List returns the LD's extents. -/
  | getDcExtentList (port : Nat) (ld : Nat) (first : Nat) (count : Nat)
  /-- ADD_DC_RESPONSE (R151): The mailbox command Add DC Response accepts an extent, whose range is added once no discarding copy lies in it. -/
  | addDcResponse (port : Nat) (ld : Nat) (region : Nat) (start : Nat) (blocks : Nat)
  /-- DC_ADD_PROCEED (R151): No copy-table entry with DISCARD remains in an added range, so the add completes and the range reads zero. -/
  | dcAddProceed (port : Nat) (ld : Nat)
  /-- RELEASE_DC (R79): The mailbox command Release DC starts the release of an extent, which waits until no tracker entry addresses it. -/
  | releaseDc (port : Nat) (ld : Nat) (start : Nat) (blocks : Nat)
  /-- EXTENT_RELEASE_PROCEED (R79): No tracker entry addresses a released range, so its dirty bits and held pages are cleared in one step and the range is deallocated. -/
  | extentReleaseProceed (port : Nat) (ld : Nat)
  /-- GET_PERSISTENCE_STATUS (R102): The vendor mailbox command C000h returns the persistence status record assembled in one tracking pipeline step. -/
  | getPersistenceStatus (port : Nat) (ld : Nat)
  /-- GET_LOST_RANGES (R233): The vendor mailbox command C001h returns lost page ranges of the LD. -/
  | getLostRanges (port : Nat) (ld : Nat) (first : Nat) (count : Nat)
  /-- GET_RECORDER_RECORDS (R466): The vendor mailbox command C002h returns event recorder records in bulk. -/
  | getRecorderRecords (port : Nat) (ld : Nat) (area : Nat) (first : Nat) (count : Nat)
  /-- ISSUE_LONG_OPERATION (R511): The vendor mailbox command C003h issues a long operation on slot 3 and returns the LOQ_ISSn_RES word. -/
  | issueLongOperation (port : Nat) (ld : Nat) (op : Nat) (args : List Nat)
  /-- READ_COMPLETIONS (R514): The vendor mailbox command C004h returns ring 0 entries and advances the ring 0 head. -/
  | readCompletions (port : Nat) (ld : Nat) (count : Nat)
  /-- WRITE_LOAD_BUFFER (R513): The vendor mailbox command C005h writes data into the load buffer. -/
  | writeLoadBuffer (port : Nat) (ld : Nat) (off : Nat) (words : List Nat)
  /-- OVL_SWITCH (R59): The long operation OVL_SWITCH starts a change of the active dune overlay and writes the policy batch to every affected block. -/
  | ovlSwitch (slot : Nat) (index : Nat)
  /-- ERG_LOAD (R50): The long operation ERG_LOAD erases, programs, reads back and validates an image in the inactive Erg slot. -/
  | ergLoad (slot : Nat) (len : Nat)
  /-- CAL_WRITE (R66): The long operation CAL_WRITE replaces one calibration entry and marks it user when CAL_WPOL permits the path. -/
  | calWrite (slot : Nat) (key : Nat) (words : Nat)
  /-- CAL_FACTORY (R67): The long operation CAL_FACTORY applies a vendor-signed, unit-bound factory file to the CAL store. -/
  | calFactory (slot : Nat) (len : Nat)
  /-- RANK_MIGRATE (R136): The long operation RANK_MIGRATE starts retirement of a named rank onto a free healthy spare, or completes Not Started. -/
  | rankMigrate (slot : Nat) (chan : Nat) (rank : Nat)
  /-- CAP_AUDIT (R373): The long operation CAP_AUDIT requests a pack capacity audit, completing Not Started or Busy when it cannot run. -/
  | capAudit (slot : Nat)
  /-- BOOK_AUDIT (R349): The long operation BOOK_AUDIT samples the selected books, compares them with their identities and optionally reclaims leaked buffers. -/
  | bookAudit (slot : Nat) (arg : Nat)
  /-- FW_VERIFY (R475): The long operation FW_VERIFY runs verification steps 1 to 7 on a firmware slot. -/
  | fwVerify (slot : Nat) (fw : Nat)
  /-- FW_CONFIRM (R484): The long operation FW_CONFIRM confirms the trial image, lifts format protection, writes any boot block and may raise the SVN floor. -/
  | fwConfirm (slot : Nat) (arg : Nat)
  /-- CFL_MAINT_REERASE (R434): The long operation CFL_MAINT with argument 0 re-erases erase-interrupted sectors. -/
  | cflMaintReerase (slot : Nat)
  /-- CFL_MAINT_COMPACT (R423): The long operation CFL_MAINT with argument 1 compacts the learned-value area. -/
  | cflMaintCompact (slot : Nat)
  /-- MEM_SANITIZE (R509): The long operation MEM_SANITIZE deallocates the image, retires the loss record, clears tracking, zeroes host memory and erases image superblocks. -/
  | memSanitize (slot : Nat)
  /-- LOQ_COMPLETION_POST (R514): A long-operation completion is written to its ring once the ring has room, raising the ring's interrupt or alert. -/
  | loqCompletionPost (ring : Nat)
  /-- LOQ_REL (R512): A write of a handle to LOQ_REL frees a completed long-operation entry or is rejected. -/
  | loqRel (path : Path) (handle : Nat)
  /-- LOQ_RPTR_WRITE (R514): A write of a ring HEAD advances the consumer pointer, or is rejected if it passes the unconsumed entries. -/
  | loqRptrWrite (path : Path) (ring : Nat) (head : Nat)
  /-- LOQ_LBDATA (R513): A write of LOQ_LBDATA stores a word at the load-buffer offset and advances it, or is rejected while a reading operation runs. -/
  | loqLbdata (path : Path) (word : Nat)
  /-- PEAK_CLR (R17): A write of TRK_CLR.PEAK_CLR sets PEAK to the current held set. -/
  | peakClr (path : Path)
  /-- RECOMP (R186): A write of LDG_CTL.RECOMP starts a ledger recomputation. -/
  | recomp (path : Path)
  /-- GAP_CLR (R196): A write of LDG_CTL.GAP_CLR sets LDG_GAP to 0. -/
  | gapClr (path : Path)
  /-- EST_NOW (R365): A write of GAU_CTL.EST_NOW makes the gauge produce an estimate. -/
  | estNow (path : Path)
  /-- LRN_NOW (R378): A write of GAU_CTL.LRN_NOW writes the gauge's learned values to code flash. -/
  | lrnNow (path : Path)
  /-- OFF (R390): A write of SEQ_CTL.OFF is an off request that starts a down-sequence, or is refused while memory is ready. -/
  | off (path : Path)
  /-- FORCE (R390): A write of SEQ_CTL.OFF with FORCE starts a down-sequence even while memory is ready, writing no save. -/
  | force (path : Path)
  /-- SEQ_CTL_FLT_CLR (R396): A write of SEQ_CTL.FLT_CLR releases SEQ_FLT_N early. -/
  | seqCtlFltClr (path : Path)
  /-- TWI_CTL_FLT_CLR (R416): A write of TWIx_CTL.FLT_CLR takes a port out of Faulted and starts a fresh clear count. -/
  | twiCtlFltClr (path : Path) (port : Nat)
  /-- WARM (R452): A write of BST_CTL.WARM starts a warm reset: NVMe teardown, flash and code-flash quiesce, DRAM self-refresh, and reset of cores and W fields. -/
  | warm (path : Path)
  /-- CRC_CLAIM (R362): A write of CRC_GEn_OWN.CLAIM grants a free general check-value engine to the writer or is rejected. -/
  | crcClaim (path : Path) (eng : Nat)
  /-- CRC_RELEASE (R362): A write of CRC_GEn_OWN.RELEASE by the owner frees the engine. -/
  | crcRelease (path : Path) (eng : Nat)
  /-- INIT (R360): A write of CRC_GEn_CTL.INIT loads VAL with the polynomial's initial value and sets LEN to 0. -/
  | init (path : Path) (eng : Nat) (poly : Nat)
  /-- DIN_B (R358): A write of CRC_GEn_DIN_B feeds one byte into the engine. -/
  | dinB (path : Path) (eng : Nat) (data : Nat)
  /-- DIN_H (R358): A write of CRC_GEn_DIN_H feeds two bytes into the engine. -/
  | dinH (path : Path) (eng : Nat) (data : Nat)
  /-- DIN_W (R358): A write of CRC_GEn_DIN_W feeds four bytes into the engine. -/
  | dinW (path : Path) (eng : Nat) (data : Nat)
  /-- CFL_CLAIM (R424): A write of CFL_OWNn.CLAIM grants a free code-flash bank to the writer or is rejected. -/
  | cflClaim (path : Path) (bank : Nat)
  /-- CFL_RELEASE (R424): A write of CFL_OWNn.RELEASE by the owner frees the bank. -/
  | cflRelease (path : Path) (bank : Nat)
  /-- WP_LOCK (R435): A write of CFL_CTL.WP_LOCK by MC0 freezes every write-protect bit until the next C or W reset. -/
  | wpLock (path : Path)
  /-- PUSH (R427): A write of CFL_DQPUSH.PUSH enters the built descriptor into the code-flash queue or rejects it with a reason. -/
  | push (path : Path)
  /-- CFL_CRHEAD_WRITE (R429): A write of CFL_CRHEAD.HEAD consumes completion entries or is rejected if it passes the unconsumed entries. -/
  | cflCrheadWrite (path : Path) (head : Nat)
  /-- EVR_SEL_WRITE (R467): A write of EVR_SEL selects a record and starts its prefetch into the latch, or is rejected. -/
  | evrSelWrite (path : Path) (area : Nat) (index : Nat)
  /-- ADV (R468): A write of EVR_RD.ADV advances the readout index and starts a prefetch. -/
  | adv (path : Path)
  /-- FWU_ABORT (R473): A write of FWU_CTL.ABORT abandons the open firmware download. -/
  | fwuAbort (path : Path)
  /-- FWU_DDATA_WRITE (R472): A write of FWU_DDATA stores one image word at FWU_DOFF and advances the offset. -/
  | fwuDdataWrite (path : Path) (word : Nat)
  /-- MGMT_REGISTER_WRITE (R537): A write to a register without its own row is taken by each field under its access code, with rejection rules and CFG_REJ. -/
  | mgmtRegisterWrite (path : Path) (bytes : Nat) (addr : Nat) (value : Nat)
  /-- RWS_APPLY_BOUNDARY (R18): A block reaches its apply boundary and applies all pending RWS shadow values together. -/
  | rwsApplyBoundary (block : RwsBlock) (elem : Nat)
  /-- DRAM_COMMAND_SLOT (R119): In each command slot a subchannel issues the first eligible command under the seven ordering rules. -/
  | dramCommandSlot (way : Nat) (blocked : List Nat) (idleRows : List Nat)
  /-- REFRESH_DUE (R122): A refresh reaches its deadline and takes the command slot. -/
  | refreshDue (way : Nat) (ba : Nat) (postponed : Nat)
  /-- REFRESH_WINDOW_END (R124): At the end of each refresh window the row-group counters clear and activate limits held for RD_HOLD windows are released. -/
  | refreshWindowEnd (way : Nat)
  /-- DRAM_READ_DATA (R127): Data of a DRAM read returns and is decoded by the symbol code. -/
  | dramReadData (id : Nat) (err : EccResult)
  /-- MIGRATION_UNIT_DONE (R136): A 4 KiB unit of a rank migration finishes copying and the watermark advances, ending the migration at the last unit. -/
  | migrationUnitDone (chan : Nat) (unit : Nat)
  /-- POWER_DOWN_ENTRY (R121): A subchannel with no eligible command for PD_IDLE enters DDR5 power-down. -/
  | powerDownEntry (way : Nat)
  /-- SPD_THERMAL_READ (R122): Every 1,024 ticks the SPD hub sensors are read and tREFI is halved above 85 °C. -/
  | spdThermalRead (hot : List Nat)
  /-- DQS_INTERVAL (R133): Every DQS_INT a rank runs its DQS oscillator and moves its write DQS delay when drift exceeds DQS_TOL. -/
  | dqsInterval (chan : Nat) (rank : Nat) (drift : Nat)
  /-- ZQ_CALIBRATION (R133): Every 128 ms a rank runs ZQ calibration in a refresh slot. -/
  | zqCalibration (chan : Nat) (rank : Nat)
  /-- READ_CENTERING (R133): Every 1 s a rank runs read centering, and three failures in a row count as a command/address error. -/
  | readCentering (chan : Nat) (rank : Nat) (good : Bool)
  /-- DRIFT_READ_DONE (R159): The DRAM read of a Drift copy completes, the slot descriptor is built and the slot is encoded and programmed. -/
  | driftReadDone (page : Nat)
  /-- CONFIRMATION (R150): A Drift copy's program passes and the fine map points at its slot, so the page leaves the held set or stays held if redirtied. -/
  | confirmation (page : Nat)
  /-- COPY_PROGRAM_FAILURE (R160): A Drift copy's program fails; the page returns to Dirty and the failed location goes to the FTL. -/
  | copyProgramFailure (page : Nat)
  /-- SAVE_PROGRAM_DONE (R220): A save program ends; a failure is reissued once to another die, and a page is confirmed out of the held set. -/
  | saveProgramDone (slot : Nat) (pass : Bool)
  /-- BULK_RESTORE_READ_DONE (R230): A bulk restore read completes and the page is written into DRAM and marked restored. -/
  | bulkRestoreReadDone (page : Nat) (good : Bool)
  /-- ON_TOUCH_FETCH_DONE (R232): An on-touch fetch places the page in DRAM and the waiting requests to it are served. -/
  | onTouchFetchDone (page : Nat) (zero : Bool) (lost : Bool)
  /-- DIE_DISPATCH (R248): A ready die receives the queued operation of the lowest service class, oldest first, with the stated exceptions. -/
  | dieDispatch (chan : Nat) (die : Nat) (id : Nat) (busy : List Nat)
  /-- FLASH_READ_DONE (R253): A flash array read completes and its codewords go to decode. -/
  | flashReadDone (id : Nat)
  /-- DECODE_DONE (R253): A decode step completes and the read succeeds or moves to soft decode, retry or an uncorrectable report. -/
  | decodeDone (id : Nat) (ok : Bool) (erased : Bool) (bits : Nat) (iters : Nat) (rebuild : Bool) (desc : Bool)
  /-- FLASH_PROGRAM_DONE (R260): A flash program ends with pass or fail and its result is returned to its requester. -/
  | flashProgramDone (id : Nat) (pass : Bool) (time : Nat)
  /-- FLASH_ERASE_DONE (R260): A flash erase ends with pass or fail. -/
  | flashEraseDone (id : Nat) (pass : Bool) (time : Nat)
  /-- SUSPEND (R250): A class 1 or 2 read suspends a program or erase once the minimum run has elapsed and the count allows. -/
  | suspend (chan : Nat) (die : Nat) (id : Nat) (ran : Nat)
  /-- RESUME (R251): After up to SUS_RD_MAX reads the channel resumes the suspended operation. -/
  | resume (chan : Nat) (die : Nat)
  /-- DIE_TIMEOUT (R261): A die stays busy longer than twice its declared time; the unit is reset, the operation fails and the die may be fenced. -/
  | dieTimeout (chan : Nat) (die : Nat) (answered : Bool)
  /-- PROBE_DUE (R258): A block group becomes due for a reference probe by mean corrected bits or by PROBE_PER. -/
  | probeDue (chan : Nat) (die : Nat) (group : Nat)
  /-- PROBE_DONE (R259): The three probe reads are decoded and the reference moves one step toward the lower error count or stays. -/
  | probeDone (chan : Nat) (die : Nat) (group : Nat) (ok : Bool) (c0 : Nat) (cm : Nat) (cp : Nat)
  /-- EYE_CHECK (R240): A channel in extended timing checks its read eye, retraining or stepping down on failure. -/
  | eyeCheck (chan : Nat) (eye : EyeResult) (moved : Bool)
  /-- GROUP_POWER_DOWN (R265): A flash channel group idle for GRP_IDLE switches its PHYs, sequencers and clocks off. -/
  | groupPowerDown (grp : Nat)
  /-- GROUP_WAKE (R265): An operation for a powered-down group wakes it and runs after the wake completes. -/
  | groupWake (grp : Nat)
  /-- RELOCATION_MOVE (R284): A relocated slot is programmed and its map entry moves by compare-and-swap, with a journal record. -/
  | relocationMove (src : Nat)
  /-- BLOCK_GROUP_AGE (R289): A superblock's time since close passes a boundary and it moves to an older block group. -/
  | blockGroupAge (sb : Nat)
  /-- FOLD_SWAP (R275): A fold's copy completes and the group is replaced by a whole entry in one compare-and-swap, or the fold is abandoned. -/
  | foldSwap (unit : Nat)
  /-- DESTAGE_CONFIRM (R276): A destage program is confirmed; the map takes the slot and the staging page leaves the held set. -/
  | destageConfirm (stg : Nat)
  /-- SQ_DOORBELL (R305): A host writes a submission queue doorbell, making its function eligible for fetch arbitration. -/
  | sqDoorbell (fn : Nat) (sq : Nat) (tail : Nat)
  /-- COMMAND_FETCH (R304): The engine fetches a command under arbitration and assigns it a tag. -/
  | commandFetch (opc : Nat) (cid : Nat) (nsid : Nat) (slba : Nat) (nlb : Nat)
  /-- DELETE_IO_SUBMISSION_QUEUE (R333): The admin command deletes an I/O submission queue, aborting its waiting and running commands. -/
  | deleteIoSubmissionQueue (tag : Nat) (qid : Nat)
  /-- CREATE_IO_SUBMISSION_QUEUE (R303): The admin command creates an I/O submission queue within the allotment. -/
  | createIoSubmissionQueue (tag : Nat) (qid : Nat) (size : Nat) (cqid : Nat) (prio : Nat) (pc : Bool)
  /-- DELETE_IO_COMPLETION_QUEUE (R303): The admin command deletes an I/O completion queue. -/
  | deleteIoCompletionQueue (tag : Nat) (qid : Nat)
  /-- CREATE_IO_COMPLETION_QUEUE (R303): The admin command creates an I/O completion queue. -/
  | createIoCompletionQueue (tag : Nat) (qid : Nat) (size : Nat) (vec : Nat) (ien : Bool) (pc : Bool)
  /-- GET_LOG_PAGE (R309): The admin command returns a supported log page or Invalid Log Page. -/
  | getLogPage (tag : Nat) (lid : Nat)
  /-- IDENTIFY (R308): The admin command returns identify data for a supported CNS. -/
  | identify (tag : Nat) (cns : Nat)
  /-- ABORT (R330): The admin command looks up a fetched command by SQID and CID and aborts it if caught before execution. -/
  | abort (tag : Nat) (sq : Nat) (cid : Nat)
  /-- SET_FEATURES (R308): The admin command sets a supported feature without its own row, or fails with Invalid Field in Command. -/
  | setFeatures (tag : Nat) (fid : Nat) (value : Nat) (save : Bool)
  /-- POWER_MANAGEMENT (R332): Set Features Power Management changes the power state, beginning PS3 entry at once when PS3 is requested. -/
  | powerManagement (tag : Nat) (ps : Nat)
  /-- CONFIGURED_WRITE_MODE (R316): Set Features C0h changes a namespace's configured write mode. -/
  | configuredWriteMode (tag : Nat) (value : Nat)
  /-- LOSS_ACKNOWLEDGE (R327): Set Features C2h clears a namespace's loss flags. -/
  | lossAcknowledge (tag : Nat)
  /-- GET_FEATURES (R308): The admin command returns a supported feature. -/
  | getFeatures (tag : Nat) (fid : Nat)
  /-- ASYNCHRONOUS_EVENT_REQUEST (R308): The admin command posts an outstanding event request, up to four. -/
  | asynchronousEventRequest (tag : Nat)
  /-- AEN_COALESCE_END (R321): The 1,024-tick coalescing window of write-mode events ends and one pending event is posted to a controller. -/
  | aenCoalesceEnd (fn : Nat)
  /-- NAMESPACE_MANAGEMENT (R310): The admin command creates or deletes a namespace on a physical function. -/
  | namespaceManagement (tag : Nat) (del : Bool) (size : Nat) (lbaf : Nat) (ext : Bool) (pit : Nat) (pil : Bool)
  /-- NAMESPACE_ATTACHMENT (R311): The admin command attaches or detaches a namespace and raises attribute notices. -/
  | namespaceAttachment (tag : Nat) (detach : Bool) (ctrls : List Nat)
  /-- FIRMWARE_COMMIT (R477): The admin command verifies a firmware slot and commits or activates it by commit action. -/
  | firmwareCommit (tag : Nat) (action : Nat) (slot : Nat)
  /-- FIRMWARE_IMAGE_DOWNLOAD (R472): The admin command delivers image data to the inactive firmware slot. -/
  | firmwareImageDownload (tag : Nat) (off : Nat) (data : List Byte)
  /-- FORMAT_NVM (R314): The admin command waits for the namespace's commands, deallocates it, applies the format and optionally erases. -/
  | formatNvm (tag : Nat) (lbaf : Nat) (ext : Bool) (pit : Nat) (pil : Bool) (ses : Nat)
  /-- SANITIZE_BLOCK_ERASE (R315): The NVMe Sanitize with Block Erase deallocates every namespace and erases every superblock that held namespace data. -/
  | sanitizeBlockErase (tag : Nat) (action : Nat)
  /-- FLUSH (R320): The NVM command completes once earlier write-class commands of its namespace have posted completions. -/
  | flush (tag : Nat)
  /-- WRITE (R317): The NVM command takes range locks, reserves staging in its effective mode, transfers and checks data, and completes. -/
  | write (tag : Nat) (data : List Byte) (md : List Byte) (prot : List Nat) (dtErr : Bool)
  /-- READ (R325): The NVM command reads each slot from staging or flash, deallocated LBAs reading zero. -/
  | read (tag : Nat) (prot : List Nat)
  /-- WRITE_UNCORRECTABLE (R326): The NVM command sets the fine entries of its LBAs to Unrecovered. -/
  | writeUncorrectable (tag : Nat)
  /-- COMPARE (R307): The NVM command compares host data with the stored LBAs. -/
  | compare (tag : Nat) (data : List Byte) (md : List Byte) (prot : List Nat)
  /-- WRITE_ZEROES (R326): The NVM command deallocates its LBAs. -/
  | writeZeroes (tag : Nat)
  /-- DATASET_MANAGEMENT (R326): The NVM command with Deallocate deallocates up to 256 ranges. -/
  | datasetManagement (tag : Nat) (dealloc : Bool) (ranges : List Nat)
  /-- VERIFY (R307): The NVM command reads and checks its LBAs without transferring data. -/
  | verify (tag : Nat) (prot : List Nat)
  /-- CONTROLLER_RESET (R335): CC.EN is cleared; the function's commands are torn down and CSTS.RDY reads 0 within 50 ms. -/
  | controllerReset (fn : Nat)
  /-- SHUTDOWN (R335): A normal shutdown through CC.SHN completes fetched commands and reports shutdown complete. -/
  | shutdown (fn : Nat)
  /-- FLR (R335): A function level reset tears down the function's commands and resets its F fields. -/
  | flr (port : Nat) (ld : Nat) (fn : Nat)
  /-- PS3_ENTRY_DONE (R332): The function holds no command, so PS3 entry completes and the Set Features completion is posted. -/
  | ps3EntryDone (fn : Nat)
  /-- PS3_ENTRY_TIMEOUT (R332): PS3 entry has not completed in 1 s, so the completion is posted in the operational state. -/
  | ps3EntryTimeout (fn : Nat)
  /-- BUFFER_REQUEST (R342): A consumer requests a datapath buffer and is granted one under its floor and cap or waits. -/
  | bufferRequest (who : Nat) (op : Nat)
  /-- BUFFER_FREE (R344): A free names a buffer and owner; it is freed, or ignored as a double free, or rejected as a foreign free, and goes to the oldest waiter. -/
  | bufferFree (buf : Nat) (who : Nat) (op : Nat)
  /-- HAND_OFF (R343): A buffer passes from FTL relocation to the NVMe engine without being freed. -/
  | handOff (buf : Nat) (op : Nat) (new : Nat)
  /-- SEMAPHORE_ACQUIRE (R351): A core acquires a hardware semaphore, granted if free with rotation among simultaneous requests. -/
  | semaphoreAcquire (sem : Nat) (cores : List Nat)
  /-- SEMAPHORE_RELEASE (R351): A core releases a semaphore it holds, or a foreign release is ignored and counted as a book fault. -/
  | semaphoreRelease (sem : Nat) (core : Nat)
  /-- GAUGE_SAMPLE (R364): The island converter samples pack voltage, temperature and ID and applies the state-of-charge and pack-state rules. -/
  | gaugeSample (v : Nat) (t : Nat) (id : Nat) (ser : Nat) (serOk : Bool) (ntcBad : Bool)
  /-- AUDIT_LOAD_SAMPLE (R374): 64 ticks after the load connects the gauge samples v1 and computes the measured resistance and new RFAC. -/
  | auditLoadSample (v : Nat)
  /-- HIBERNATION_SAMPLE (R379): In hibernation the gauge samples every HIB_INT and applies the idle and state rules without estimating. -/
  | hibernationSample (v : Nat) (t : Nat) (id : Nat) (ser : Nat) (serOk : Bool) (ntcBad : Bool)
  /-- ISNS_WAKE (R379): The current comparator crosses ISNS_TH, waking the gauge for one sample and possibly recording a pack-drain event. -/
  | isnsWake (v : Nat) (t : Nat) (id : Nat) (ser : Nat) (serOk : Bool) (ntcBad : Bool)
  /-- RAIL_ENABLE (R385): A rail's phase runs, its ON_DLY has elapsed and its dependencies are good, so it is enabled. -/
  | railEnable (rail : Nat)
  /-- PG_TIMEOUT (R386): A rail not good within PG_TMO fails, its dependants are turned off and the failure is logged. -/
  | pgTimeout (rail : Nat)
  /-- RAIL_DISABLE (R387): In a down-sequence a rail's OFF_DLY has elapsed and its dependants are below OFF_TH, so it is disabled. -/
  | railDisable (rail : Nat)
  /-- OFF_WAIT_EXPIRY (R387): A rail waits OFF_WAIT for its dependants, is disabled anyway and an off-order fault is logged. -/
  | offWaitExpiry (rail : Nat)
  /-- FAULT_SCAN (R393): Every 32 µs the converter scans every enabled rail and checks the shared fault line. -/
  | faultScan (readings : List Nat) (pg : Nat) (fltLow : Bool)
  /-- TELEMETRY_AVERAGE (R393): Every 512 µs telemetry conversions are averaged into SEQ_RDGn.AVG. -/
  | telemetryAverage (avgs : List Nat)
  /-- ALERT_ACK (R412): TWI0 command code 0x02 clears the alert cause bits written. -/
  | alertAck (mask : Nat) (pec : Bool)
  /-- REC_SEL (R466): TWI0 command code 0x08 selects a recorder area and index and starts a prefetch. -/
  | recSel (area : Nat) (index : Nat) (pec : Bool)
  /-- MCTP (R413): TWI0 command code 0x0F carries one MCTP packet into message assembly. -/
  | mctp (src : Nat) (tag : Nat) (som : Bool) (eom : Bool) (data : List Byte) (pec : Bool)
  /-- ALERT_RESPONSE (R412): A read of the Alert Response Address 0x0C returns A0 while alerting, with arbitration among alerting devices. -/
  | alertResponse (won : Bool)
  /-- MCTP_ASSEMBLY_TIMEOUT (R413): A message's next packet does not arrive within 100 ms, so the message is discarded and counted. -/
  | mctpAssemblyTimeout (src : Nat) (tag : Nat)
  /-- SET_ENDPOINT_ID (R413): The MCTP control command sets the endpoint ID. -/
  | setEndpointId (eid : Nat)
  /-- GET_MCTP_VERSION_SUPPORT (R413): The MCTP control command returns supported versions. -/
  | getMctpVersionSupport (mtype : Nat)
  /-- GET_VENDOR_DEFINED_MESSAGE_SUPPORT (R413): The MCTP control command returns vendor-defined message support. -/
  | getVendorDefinedMessageSupport (set : Nat)
  /-- READ_NVME_MI_DATA_STRUCTURE (R414): The NVMe-MI command returns a management data structure. -/
  | readNvmeMiDataStructure (dtype : Nat) (port : Nat) (ctrl : Nat)
  /-- NVM_SUBSYSTEM_HEALTH_STATUS_POLL (R414): The NVMe-MI command returns subsystem health status. -/
  | nvmSubsystemHealthStatusPoll (clear : Bool)
  /-- CONTROLLER_HEALTH_STATUS_POLL (R414): The NVMe-MI command returns controller health status. -/
  | controllerHealthStatusPoll (ctrl : Nat) (count : Nat)
  /-- CONFIGURATION_SET (R414): The NVMe-MI command sets a management configuration. -/
  | configurationSet (id : Nat) (value : Nat)
  /-- CONFIGURATION_GET (R414): The NVMe-MI command returns a management configuration. -/
  | configurationGet (id : Nat)
  /-- NVME_ADMIN_TUNNEL (R414): A tunnelled NVMe Admin command runs Identify, the permitted Get Log Page or Get Features, or returns Invalid Command Opcode. -/
  | nvmeAdminTunnel (ctrl : Nat) (opc : Nat) (nsid : Nat) (arg : Nat)
  /-- REGISTER_READ (R506): Vendor opcode 0x01 reads 1 to 16 register words within one block range. -/
  | registerRead (addr : Nat) (count : Nat)
  /-- REGISTER_WRITE (R505): Vendor opcode 0x02 writes one register word where the TWI0 path is permitted, else returns Denied. -/
  | registerWrite (addr : Nat) (value : Nat)
  /-- LONG_OPERATION_ISSUE (R511): Vendor opcode 0x03 issues a long operation on slot 1 and returns the result word. -/
  | longOperationIssue (op : Nat) (args : List Nat)
  /-- COMPLETION_RING_READ (R514): Vendor opcode 0x04 returns ring 1 entries and advances its head. -/
  | completionRingRead (count : Nat)
  /-- TWI1_TRANSFER (R409): A controller transfer starts on a port, selecting a multiplexer segment if needed. -/
  | twi1Transfer (port : Nat) (addr : Nat) (seg : Nat) (outcome : Nat) (losses : Nat) (muxNack : Bool)
  /-- ADDRESS_RETRY (R409): After an address NACK the port retries at RETRY_INT until RETRY_N attempts end in No-Responder. -/
  | addressRetry (port : Nat) (acked : Bool)
  /-- TARGET_STRETCH_TIMEOUT (R406): A target stretches SCL more than 25 ms in one message and the transfer ends with Timeout. -/
  | targetStretchTimeout (port : Nat)
  /-- TARGET_SCL_TIMEOUT (R407): As target, a port sees SCL low 30 ms in a transaction addressed to it and resets its target logic. -/
  | targetSclTimeout (port : Nat)
  /-- BUS_CLEAR_ATTEMPT (R416): A stuck bus starts Clearing with up to nine pulses and a STOP, succeeding or entering Wait or Faulted. -/
  | busClearAttempt (port : Nat) (freed : Bool)
  /-- CLEAR_WAIT_EXPIRY (R416): The 35 ms Wait after a failed clear ends and the next attempt begins. -/
  | clearWaitExpiry (port : Nat)
  /-- PROGRAM (R430): A code-flash PROGRAM descriptor starts, programming pages with pulses and verifies or ending with a failure status. -/
  | program (bank : Nat) (data : List Byte)
  /-- CFL_PROGRAM_DONE (R430): A code-flash program ends and its completion is posted, resuming a suspended erase when no SUS program remains. -/
  | cflProgramDone (bank : Nat) (pulses : Nat) (fail : Nat)
  /-- ERASE (R430): A code-flash ERASE descriptor starts, setting the unfinished-erase flag and incrementing the sector's counter. -/
  | erase (bank : Nat)
  /-- CFL_ERASE_DONE (R430): A code-flash erase ends OK or with Erase Fail and its completion is posted. -/
  | cflEraseDone (bank : Nat) (pulses : Nat) (pass : Bool)
  /-- BANK_READ (R426): A core read of a busy bank or a suspended sector is a bus fault and is counted. -/
  | bankRead (core : Nat) (addr : Nat)
  /-- COLD_RESET_RELEASE (R442): Cold reset is released and boot begins with the unfinished-erase flag scan and the recorder scan. -/
  | coldResetRelease (pins : Nat)
  /-- SLICE_DONE (R438): A self-test slice ends and passes, is queued for rerun, or is fenced after a second failure. -/
  | sliceDone (slice : Nat) (pass : Bool) (sig : Nat) (us : Nat) (pats : Nat)
  /-- SLICE_BUDGET_EXPIRY (R439): A slice has not ended after BUD and is stopped and counted as failed. -/
  | sliceBudgetExpiry (slice : Nat) (sig : Nat) (pats : Nat)
  /-- CORE_CHECK_DONE (R440): A management core's check ends; a failing core is fenced and its role reassigned. -/
  | coreCheckDone (core : Nat) (pass : Bool)
  /-- BOOT_AREA_VERIFY (R442): Boot ROM verifies the selected boot area, falling back to the other or serving SL0. -/
  | bootAreaVerify (ok0 : Bool) (ok1 : Bool)
  /-- HARDWARE_INIT_DONE (R442): DRAM training, NAND discovery and training and host-port readiness complete at stage 8. -/
  | hardwareInitDone (found : HwFound)
  /-- HOST_PORT_READY (R444): A host port becomes ready to train and enters link training once PERST_x_N is released. -/
  | hostPortReady (port : Nat)
  /-- WATCHDOG_EXPIRY (R454): A core's watchdog expires, resetting the core, releasing its locks, and fencing it after WDT_LIM resets in an hour. -/
  | watchdogExpiry (core : Nat)
  /-- CORE_RESTART (R454): A reset core restarts from the verified Odber image and resumes its duties. -/
  | coreRestart (core : Nat)
  /-- RECORD_COMMIT (R463): The committer takes the next record in order and programs it into the next slot, rotating the window when a sector fills. -/
  | recordCommit (good : Bool)
  /-- PREFETCH_DONE (R467): A record prefetch completes into the latch and READY is set. -/
  | prefetchDone (twi : Bool)
  /-- FIRMWARE_BLOCK_RECEIVED (R474): All bytes of a firmware block arrive; it is CRC-checked and programmed, discarded, or abandons the download. -/
  | firmwareBlockReceived (block : Nat)
  /-- AVS_LOOP_RUN (R495): Every AVS_PER the voltage loop reads monitor slack and requests 5 mV more, less or no change. -/
  | avsLoopRun (slack : Nat)
  /-- AVS_TRANSACTION_DONE (R494): An AVSBus transaction ends, retried on a bad check or alert and setting AVS_FLT after the fourth failure. -/
  | avsTransactionDone (good : Bool) (volts : Nat)
  /-- CPM_EMERGENCY (R496): A monitor's slack falls below SLACK_EMG and the clock stretcher lengthens every core-rail cycle. -/
  | cpmEmergency (slack : Nat)
  /-- STRETCH_END (R496): Every monitor reads at least SLACK_LO and the clock stretch ends. -/
  | stretchEnd (slack : Nat)
  /-- FS_WINDOW_END (R492): At the end of a frequency-scaling window a core steps its level down or up by its busy share. -/
  | fsWindowEnd (core : Nat) (busy : Nat)
  /-- THERMAL_READ (R498): Every 32 ticks the junction sensors are read and the thermal stage is entered or left. -/
  | thermalRead (temps : List Nat)
  /-- EQ_MEASUREMENT (R502): Every 1 s the port measures lane margins and repeats equalization after three low results. -/
  | eqMeasurement (port : Nat) (marg : Nat) (rate : Nat) (width : Nat)
  /-- DOMAIN_IDLE (R489): A switched domain idle for its idle time switches off. -/
  | domainIdle (pd : Nat)
  /-- DOMAIN_WAKE (R489): A request for a switched-off domain wakes it within its wake limit. -/
  | domainWake (pd : Nat)
  /-- HDM_DECODER_COMMIT (R77): A host commits (or uncommits) an HDM decoder of an LD, which changes which host addresses decode and whether Sanitize and MEM_SANITIZE are accepted. -/
  | hdmDecoderCommit (port : Nat) (ld : Nat) (dec : Nat) (commit : Bool) (base : Nat) (size : Nat) (ways : Nat) (gran : Nat) (skip : Nat) (lock : Bool)
  /-- CA_PARITY_ERROR (R135): A DIMM reports a command/address parity error on DCHn_ALERT_N, the command sequence is retried, and rank retirement starts if two retries do not clear it. -/
  | caParityError (chan : Nat) (rank : Nat) (cleared : Bool)
  /-- QOS_TOKEN_REFILL (R93): The REQ_CAP token bucket of a QoS entry gains tokens over time, and a request waiting for a token proceeds and THROT may clear. -/
  | qosTokenRefill (ent : Nat) (ns : Nat)
  /-- ASPM_L1_ENTRY (R74): A port's link enters ASPM L1 when the host has enabled it and L1_EN permits it, and HPx_STAT.LINK reads L1. -/
  | aspmL1Entry (port : Nat) (enabled : Bool)
  /-- CONFIGURATION_REQUEST (R444): A configuration request reaches a function of a port and is answered, or answered with Configuration Request Retry Status until the function is ready, for at most 1 s. -/
  | configurationRequest (port : Nat) (fn : Nat)
  /-- CONTROLLER_ENABLE (R306): A host sets CC.EN on an NVMe function, and the controller becomes ready (CSTS.RDY 1) when the device serves SL4, or reports CFS otherwise. -/
  | controllerEnable (fn : Nat) (ams : Bool)
  /-- CQ_HEAD_DOORBELL (R347): A host writes a completion queue head doorbell, freeing completion entries in the queue-slot book and, in PS3, returning the function to its operational state. -/
  | cqHeadDoorbell (fn : Nat) (cq : Nat) (head : Nat)
  /-- HELD_STORE_ADMIT (R84): When the held set falls below G, the gate admits the oldest held store together with the other held stores to its page. -/
  | heldStoreAdmit
  /-- TELEMETRY_WINDOW_END (R91): At the end of each QoS telemetry window the per-entry counts are latched and idle unpinned entries are evicted. -/
  | telemetryWindowEnd
  /-- OVL_SWITCH_APPLIED (R59): Every block has applied the batch, so the overlay index is recorded, ACT_OVL and ACT_MODE update and the switch completes. -/
  | ovlSwitchApplied
  /-- VOLATILE_LEAVE_READY (R64): A switch out of a volatile overlay finds the held set no more than G, re-enables admission and DevLoad and publishes G. -/
  | volatileLeaveReady
  /-- WARM_RESET_COMPLETE (R452): Boot stages 4 to 6 end after a warm reset, DRAM leaves self-refresh, Drift resumes and the ports serve waiting requests. -/
  | warmResetComplete
  /-- SCRUB_PERIOD_END (R131): A patrol scrub pass exceeds its period, setting DRM_SCRUBST.LATE. -/
  | scrubPeriodEnd
  /-- DRIFT_TAKE (R159): Drift takes an eligible dirty page into the copy table with a new generation and issues its DRAM read. -/
  | driftTake
  /-- EPOCH_BOUNDARY (R154): At each epoch boundary the summaries are walked and regions that reached the minimum dirty age are marked AGED. -/
  | epochBoundary
  /-- SEGMENT_TIMEOUT (R161): An image segment idle for SEG_TMO is filled with pad slots and closed so its parity is written. -/
  | segmentTimeout
  /-- RSAVE_RECOMPUTE (R167): R_save is recomputed every 1,024 ticks, or at once when a die or channel rate changes, and handed to the ledger. -/
  | rsaveRecompute
  /-- PACING_TICK (R170): Once per tick the pacing loop computes Drift's share, floor share and integral and refills the rate limiter. -/
  | pacingTick
  /-- SNAPSHOT_COMPLETE (R176): All parts of a snapshot are confirmed, it becomes the newest complete snapshot and the reference post-snapshot vector. -/
  | snapshotComplete
  /-- LEDGER_PERIODIC_RECOMPUTE (R186): At every tick whose count modulo 1,024 is 0 the ledger starts a periodic recomputation. -/
  | ledgerPeriodicRecompute
  /-- LEDGER_RECOMPUTE_DONE (R187): A recomputation completes and installs c, G, thresholds, energy in use and the status record in one step. -/
  | ledgerRecomputeDone
  /-- COUNTDOWN_TICK (R200): During a power-fail save, each tick subtracts save energy from LDG_CDN and updates LDG_CDNP. -/
  | countdownTick
  /-- PWR_FAIL_N_LOW (R203): PWR_FAIL_N is low for two samples, starting a save of code 1: admission stops, requests are completed or abandoned and GEN0 is latched. -/
  | pwrFailNLow
  /-- INPUT_RAIL_COLLAPSE (R395): The INPUT rail comparator reads below UV_TH for two samples, starting a save of code 2. -/
  | inputRailCollapse
  /-- MANIFEST_ISSUED (R221): All manifest parts of a save have been issued and the save moves to its Pages state. -/
  | manifestIssued
  /-- SAVE_PAGE_ISSUE (R216): Caravan decides whether to issue the next held or staged page, or stops and proceeds to the checkpoint and record. -/
  | savePageIssue
  /-- SAVE_RECORD_CONFIRMED (R218): The save record slot is confirmed and the valid mark is issued to a different die. -/
  | saveRecordConfirmed
  /-- VALID_MARK_CONFIRMED (R221): The valid mark is confirmed; a save of code 3 or 4 resumes service and a save of code 1 or 2 writes trailing pages. -/
  | validMarkConfirmed
  /-- TRAILING_DONE (R219): Every held page has been issued and every program has ended, so the sequencer powers down. -/
  | trailingDone
  /-- ENERGY_EXHAUSTED (R221): Backup energy runs out during a save and the device goes Off; the power-on reset follows later. -/
  | energyExhausted
  /-- RESTORE_MAP_LOAD_DONE (R228): The image fine map is loaded from the save checkpoint or by replay, and restore goes on to compute the lost set. -/
  | restoreMapLoadDone
  /-- LOSS_COMPUTATION_DONE (R225): Restore has selected its reference case and computed the lost set, writes any loss record and then the empty snapshot. -/
  | lossComputationDone
  /-- MEMORY_READY (R232): Memory becomes ready, tracking and admission start, waiting CXL.mem requests are served and the level rises to SL3. -/
  | memoryReady
  /-- BULK_RESTORE_COMPLETE (R228): The bulk restore ends; loss events are raised and the dirty-shutdown count is updated. -/
  | bulkRestoreComplete
  /-- LOSS_RECORD_REWRITE (R226): After bulk restore the persistence engine rewrites a lost page as a poisoned slot, retiring the record when all are rewritten. -/
  | lossRecordRewrite
  /-- PERSISTENCE_RETURN (R300): The pool regains GC_ST superblocks of margin and the held set falls to G, so persistence returns. -/
  | persistenceReturn
  /-- CHECKPOINT_START (R292): CP_GIB of programming or CP_TICKS with a map change starts a checkpoint that writes changed chunks, directory and root. -/
  | checkpointStart
  /-- CHECKPOINT_COMPLETE (R292): The checkpoint's anchor record is confirmed and the checkpoint is complete. -/
  | checkpointComplete
  /-- GC_START (R282): Free superblocks fall below GC_ST and garbage collection starts taking victims. -/
  | gcStart
  /-- WEAR_LEVELLING_START (R286): The wear spread exceeds WL_SPREAD and static wear levelling relocates the least-worn closed superblock. -/
  | wearLevellingStart
  /-- MEDIA_SCAN (R288): Once per SCAN_PER a media scan reads one codeword of each stripe of every closed superblock. -/
  | mediaScan
  /-- FOLD_START (R275): Fine groups in use exceed FOLD_HI and the FTL starts folding the oldest split unit. -/
  | foldStart
  /-- HEALTH_RECORD (R301): Every 24 h the FTL writes a health record of lifetime die counters. -/
  | healthRecord
  /-- RANGE_LOCK_GRANT (R324): Freed range-lock entries or a completed overlapping command let a stalled command take its entries and proceed. -/
  | rangeLockGrant
  /-- STAGING_PAGE_GRANT (R318): Destages free staging pages and a waiting write proceeds. -/
  | stagingPageGrant
  /-- ACTIVATION_WAIT_EXPIRY (R336): Commands or operations remain after the 1 s activation wait, so the activation is refused and fetch resumes. -/
  | activationWaitExpiry
  /-- CXL_HOLD_END (R479): The CXL.mem hold of a class 1 activation ends and waiting requests are served in order. -/
  | cxlHoldEnd
  /-- ESTIMATE (R368): The gauge computes deliverable energy e_g at the periodic phase or on a trigger, and hands it to the ledger. -/
  | estimate
  /-- FAULT_CAUSE_CLEARED (R370): A fault cause has been absent for 1 s and the pack is treated as newly arrived. -/
  | faultCauseCleared
  /-- SOC_REP_STEP (R372): Every 30 s the reported state of charge moves one point toward soc. -/
  | socRepStep
  /-- AUDIT_START (R373): A due or requested audit starts when all conditions hold, or is retried every EST_INT. -/
  | auditStart
  /-- AUDIT_REST_REACHED (R374): The pack reaches rest during an audit, fixing soc0 and driving the test load, or fixing soc1 and learning Q_L and RFAC. -/
  | auditRestReached
  /-- LEARNED_VALUE_WRITE (R378): The gauge's learned values are written to code flash on a 24 h timer or a listed event. -/
  | learnedValueWrite
  /-- MAIN_POWER_ON (R388): Main power returns with PWR_FAIL_N high, starting phase 1 once T_MIN_OFF has passed and SEQ_FLT_N is high. -/
  | mainPowerOn
  /-- MAIN_POWER_LOSS (R526): VSTBY falls below 1.60 V and the island switches to VBAT_AON without losing state. -/
  | mainPowerLoss
  /-- ALWAYS_ON_RESET (R450): Loss of both main power and VBAT_AON clears the island state. -/
  | alwaysOnReset
  /-- PHASE_END (R385): Every rail of a phase is good or failed; phase 1 releases cold reset or phase 2 brings the sequencer On. -/
  | phaseEnd
  /-- DOWN_SEQUENCE_END (R388): Every rail reads below OFF_TH or has waited OFF_WAIT, so the sequencer records the end tick and goes Off. -/
  | downSequenceEnd
  /-- T_MIN_OFF_EXPIRY (R389): T_MIN_OFF passes after a down-sequence and a latched on request is acted on. -/
  | tMinOffExpiry
  /-- FLT_HOLD_EXPIRY (R396): FLT_HOLD ticks after a TRIP 3 down-sequence ends the device releases SEQ_FLT_N. -/
  | fltHoldExpiry
  /-- SEQUENCER_SUPPLY_COLLAPSE (R395): The SEQ_EN driver supply falls below its hold level, every output is released and a collapse record may be written. -/
  | sequencerSupplyCollapse
  /-- CHIP_RST_N_ASSERT (R451): CHIP_RST_N is sampled low at two ticks, causing a cold reset and on request, or being ignored or latched during a save. -/
  | chipRstNAssert
  /-- IDENT (R410): TWI0 command code 0x00 returns the 24 B identity block. -/
  | ident
  /-- STATUS (R410): TWI0 command code 0x01 returns the 8 B status block. -/
  | status
  /-- REC_READ (R467): TWI0 command code 0x09 returns one record or count 0 and advances the index. -/
  | recRead
  /-- GET_ENDPOINT_ID (R413): The MCTP control command returns the endpoint ID. -/
  | getEndpointId
  /-- GET_ENDPOINT_UUID (R413): The MCTP control command returns the endpoint UUID. -/
  | getEndpointUuid
  /-- GET_MESSAGE_TYPE_SUPPORT (R413): The MCTP control command returns the supported message types. -/
  | getMessageTypeSupport
  /-- STRETCH_LIMIT (R405): TWI0 as target has stretched 10 ms in one message and releases SCL. -/
  | stretchLimit
  /-- FAST_PATH_WAKE (R408): An address arrives while the TWI0 fast path sleeps, waking it with stretch or a refused first address. -/
  | fastPathWake
  /-- SELECT (R437): A SELECT descriptor writes the next boot selection word and erases a full row if needed. -/
  | select
  /-- ODBER_LOAD (R482): The boot block chooses and verifies a firmware slot under the trial rules and loads Odber, reaching SL1. -/
  | odberLoad
  /-- ERG_VALIDATION (R52): At stage 6 the named Erg slot is validated and loss-checked, with fall-back, and phase 2 of the sequencer starts. -/
  | ergValidation
  /-- PACK_WAIT_END (R448): A valid pack and G above 0 end the stage 9 wait and restore begins. -/
  | packWaitEnd
  /-- PACK_WAIT_EXPIRY (R448): The pack wait expires, CAP becomes SL2 and host memory is zeroed. -/
  | packWaitExpiry
  /-- BOOT_END (R445): CUR reaches CAP, boot ends, and the boot-ended record is raised. -/
  | bootEnd
  /-- EVENT_RAISE (R462): An event becomes a record that enters the commit queue or retention buffer, subject to suppression and overflow. -/
  | eventRaise
  /-- RATE_WINDOW_END (R461): At the end of a 1 s window, one suppression record is raised per suppressed type. -/
  | rateWindowEnd
  /-- DOWNLOAD_IDLE_TIMEOUT (R473): A download receives no data for 60 s and is abandoned. -/
  | downloadIdleTimeout
  /-- CRYSTAL_STABLE (R486): The crystal has run stable for 4,096 periods and the tick counter switches to it from the RC oscillator. -/
  | crystalStable
  /-- CRYSTAL_STOP (R487): The crystal stops for 4 RC periods and the counter continues from the RC oscillator. -/
  | crystalStop
  /-- PWR_FAIL_N_RELEASE (R542): PWR_FAIL_N returns high while main power is present and T_MIN_OFF has passed, so the sequencer in Off starts phase 1. -/
  | pwrFailNRelease
  /-- SEQ_FLT_N_RELEASE (R396): Another sequencer on the shared line releases SEQ_FLT_N, which lets an up-sequence of a sequencer in Off start. -/
  | seqFltNRelease
  /-- VBAT_AON_RETURN (R486): VBAT_AON is applied after an always-on reset with no main power, and the island starts at SL0 with the tick counter running from the RC oscillator. -/
  | vbatAonReturn
  deriving DecidableEq, Repr

end Sys2Proof
end

