-- ==== Sys2Proof/Decode.lean ====
section
/-!
DEFINITION. Commands as words. The manual's commands are requests, register writes, messages, ends of operations and events on
pins; the opcode table gives none of them bits, so no word spells a command.
-/
namespace Sys2Proof

/-- The command that a word spells by the bits of the opcode table: no row has bits, so no word spells one.
[DESIGN CHOICE, safe: log 2] -/
def decodeTableWord (_nbits _w : Nat) : Option Instr := none

end Sys2Proof
end

