-- ==== Sys2Proof/Config.lean ====
section
/-!
DEFINITION. The values that the manual leaves open: each is an opaque function without a body, so that nothing in
Lean can see a value of it and a statement holds whatever it is. Most take a number that the step draws from the
state's counter `freeCtr`, so that two draws are unrelated; the assumption log names each.
-/
namespace Sys2Proof.Config

/-- The low TYPE byte that Odber gives its own event `k` (R460 gives none). -/
opaque evCode : Nat → Nat

/-- The severity, 0 to 4, that Odber gives its own event `k` (R460 gives none). -/
opaque evSev : Nat → Nat

/-- A value that the manual does not state, drawn fresh for each use. [DESIGN CHOICE, safe: log 7] -/
opaque freeNat : Nat → Nat

/-- Whether an ECDSA P-384 signature verifies over a list of words under the key it carries (R46 step 5, R475).
[DESIGN CHOICE, safe: log 9] -/
opaque ecdsaOk : List Nat → Bool

/-- Whether an ML-DSA-65 signature verifies (R46 step 6, R475). -/
opaque mldsaOk : List Nat → Bool

/-- Whether the public keys match a vendor key of boot ROM, or the fused owner key hash (R46 step 7). -/
opaque vendorKey : List Nat → Bool
opaque ownerKeyHash : List Nat → Bool

/-- The SHA-384 digest of a list of words (R65, R475), as a number. -/
opaque sha384 : List Nat → Nat

/-- VBOOT of the CAL store, mV (R495): the factory's value, which the manual does not give. -/
opaque vboot : Nat

/-- The AVS ceiling of the CAL store (R495, PWR_AVS): the factory's value, which the manual does not give. -/
opaque vmaxCal : Nat

/-- Contents that an outside standard or the factory fixes, by a name of the model and an index: the CXL identify and
effects-log bytes, NVMe identify fields, NVMe-MI data structures, the MCTP endpoint UUID. [DESIGN CHOICE, safe: log 8] -/
opaque standardByte : Nat → Nat → Nat

/-- The initial and the maximum management threshold that the DIMMs of a channel declare (R123). -/
opaque raaInitial : Nat → Nat
opaque raaMaximum : Nat → Nat

/-- Refreshes that JESD79-5 lets a device postpone: in same-bank refresh or not, at the halved interval or not (R122). -/
opaque refPostponeMax : Bool → Bool → Nat

/-- A factory calibration file, whose layout the manual does not give: whether its signature verifies under the vendor key,
the words of the unit ID it is bound to, and its entries as (key, words) (R67). -/
opaque calFileSigned : List Nat → Bool
opaque calFileUid : List Nat → List Nat
opaque calFileEntries : List Nat → List (Nat × List Nat)

/-- Byte `k` of the scrambling sequence of a codeword, from its block, flash page and codeword index: the manual gives neither the
polynomial nor how the seed is formed (R245). -/
opaque scramble : Nat → Nat → Nat → Nat → Nat

/-- Byte `k` of the 512 B of LDPC parity over payload and descriptor: the manual gives no code (R244). -/
opaque ldpcParity : List Nat → Nat → Nat

/-- The highest rate in MT/s that ONFI 5.1 or JESD230 defines for a standard interface mode of Table 8-1 (R238). -/
opaque modeRate : Nat → Nat

/-- Byte `i` of what an Unrecovered slot `k` of a namespace holds, data and then metadata, when the write of sequence `w` replaces a part
of it: the manual gives a partial write of such a slot no contents for the rest (R319, R326). -/
opaque lostByte : (w k i : Nat) → Nat

end Sys2Proof.Config
end

