-- ==== Sys2Proof/Machine/SMap.lean ====
section
/-!
DEFINITION. Sparse data by number: a list of (key, value) pairs in ONE canonical form, keys strictly rising
and no value equal to what an unlisted key reads as. Registers, host memory, tracking bits, flash slots and
every other store that the manual lays out over an address range are held this way.
-/
namespace Sys2Proof.Machine

/-- The value at key `k`; an unlisted key reads `d`. -/
def smGet {α : Type} (d : α) : List (Nat × α) → Nat → α
  | [], _ => d
  | (k', v) :: m, k => if k = k' then v else smGet d m k

/-- Remove every key that `p` selects: those keys then read `d`. -/
def smErase {α : Type} (p : Nat → Bool) (m : List (Nat × α)) : List (Nat × α) :=
  m.filter (fun e => !p e.1)

/-- Write `v` at key `k`, keeping the canonical form: writing `d` removes the entry. -/
def smSet {α : Type} [DecidableEq α] (d : α) (k : Nat) (v : α) : List (Nat × α) → List (Nat × α)
  | [] => if v = d then [] else [(k, v)]
  | (k', v') :: m =>
    if k < k' then (if v = d then (k', v') :: smErase (fun x => decide (x = k)) m else (k, v) :: (k', v') :: m)
    else if k = k' then (if v = d then smErase (fun x => decide (x = k)) m else (k, v) :: m)
    else (k', v') :: smSet d k v m

/-- Every key of the list lies above `k`. -/
def smAbove {α : Type} (k : Nat) (m : List (Nat × α)) : Bool :=
  m.all (fun e => decide (k < e.1))

/-- The canonical form: keys strictly rising and no entry equal to `d`. -/
def smWf {α : Type} [DecidableEq α] (d : α) : List (Nat × α) → Bool
  | [] => true
  | (k, v) :: m => decide (v ≠ d) && smAbove k m && smWf d m

/-- Apply `f` to the value at key `k`. -/
def smUpd {α : Type} [DecidableEq α] (d : α) (k : Nat) (f : α → α) (m : List (Nat × α)) : List (Nat × α) :=
  smSet d k (f (smGet d m k)) m

/-- Write `v` at each of `n` consecutive keys from `k`. -/
def smFill {α : Type} [DecidableEq α] (d : α) (k : Nat) (v : α) : Nat → List (Nat × α) → List (Nat × α)
  | 0, m => m
  | n + 1, m => smFill d (k + 1) v n (smSet d k v m)

/-- The number of entries whose key lies in `[lo, lo + n)` and whose value satisfies `p`. -/
def smCount {α : Type} (lo n : Nat) (p : α → Bool) (m : List (Nat × α)) : Nat :=
  (m.filter (fun e => decide (lo ≤ e.1) && decide (e.1 < lo + n) && p e.2)).length

/-- A set of numbers held as a sorted list without repeats: insertion. -/
def setIns (k : Nat) : List Nat → List Nat
  | [] => [k]
  | x :: m => if k < x then k :: x :: m else if k = x then x :: m else x :: setIns k m

/-- A set of numbers held as a sorted list without repeats: removal. -/
def setDel (k : Nat) (m : List Nat) : List Nat := m.filter (fun x => decide (x ≠ k))

/-! ### Ranges: a set of numbers as disjoint ranges (first, count), rising, with no two adjacent -/

/-- Add the `n` numbers from `lo`, merging the ranges they overlap or touch. -/
def rngAdd (lo n : Nat) : List (Nat × Nat) → List (Nat × Nat)
  | [] => if n = 0 then [] else [(lo, n)]
  | (a, k) :: m =>
    if n = 0 then (a, k) :: m
    else if lo + n < a then (lo, n) :: (a, k) :: m
    else if a + k < lo then (a, k) :: rngAdd lo n m
    else rngAdd (min a lo) (max (a + k) (lo + n) - min a lo) m

/-- Remove one number. -/
def rngDel (p : Nat) : List (Nat × Nat) → List (Nat × Nat)
  | [] => []
  | (a, k) :: m =>
    if a ≤ p ∧ p < a + k then
      (if a < p then [(a, p - a)] else []) ++ (if p + 1 < a + k then [(p + 1, a + k - p - 1)] else []) ++ m
    else (a, k) :: rngDel p m

/-- Whether a number is in the set. -/
def rngHas (p : Nat) (m : List (Nat × Nat)) : Bool := m.any (fun e => decide (e.1 ≤ p) && decide (p < e.1 + e.2))

/-- How many numbers the set holds. -/
def rngSize (m : List (Nat × Nat)) : Nat := (m.map (·.2)).sum

/-- The part of the set inside `[lo, lo + n)`. -/
def rngClip (lo n : Nat) (m : List (Nat × Nat)) : List (Nat × Nat) :=
  m.filterMap (fun e =>
    let a := max e.1 lo
    let b := min (e.1 + e.2) (lo + n)
    if a < b then some (a, b - a) else none)

/-- Replace element `i` of a list; a list shorter than `i` stays as it is. -/
def listSet {α : Type} (m : List α) (i : Nat) (v : α) : List α := m.set i v

end Sys2Proof.Machine
end

