-- ==== Sys2Proof/Machine/Regs.lean ====
section
/-!
DEFINITION. The register maps of the management space (R15 to R20, R503): one descriptor per field of every
field table of the manual, with its offset, stride, width, access code (Table 0-3), reset letter (Table 0-4),
reset value (R536) and legal range (R20). The descriptors are the manual's tables; what a read, a write or a
reset does with them is in Ops.lean.
-/
namespace Sys2Proof.Machine

/-- Field access codes of Table 0-3 (R17). RSV bits have no descriptor: they read 0 and ignore writes. -/
inductive Acc where
  | ro | rw | rw1c | w1s | wo | rws | rwl
  deriving DecidableEq, Repr

/-- Reset letters of Table 0-4 (R19). `n` is the table's dash: no reset restores the field. -/
inductive RstL where
  | a | c | w | f | l | s | n
  deriving DecidableEq, Repr

/-- One field of a field table. A field of an array has `n` elements `st` bytes apart, and inside one register
`n2` copies `st2` bits apart. A field wider than 32 bits is a value that spans registers (R16). -/
structure Fld where
  /-- Byte offset of element 0 in the management space. -/
  base : Nat
  /-- Lowest bit inside the register. -/
  lo   : Nat
  /-- Width in bits. -/
  wd   : Nat
  acc  : Acc
  rst  : RstL
  /-- Elements and their stride in bytes. -/
  n    : Nat := 1
  st   : Nat := 0
  /-- Copies inside one element and their stride in bits. -/
  n2   : Nat := 1
  st2  : Nat := 0
  /-- Reset value (R536). -/
  dflt : Nat := 0
  /-- Reset values by element, where the table gives them by element. -/
  dfl  : List Nat := []
  /-- Least and greatest legal value of a write (R20); `mx = 0` means that every value of the width is legal. -/
  mn   : Nat := 0
  mx   : Nat := 0
  deriving DecidableEq, Repr

/-- The bit address of a field instance in the management space: eight times its byte offset plus its lowest bit. -/
def Fld.key (f : Fld) (i : Nat := 0) (j : Nat := 0) : Nat := 8 * (f.base + i * f.st) + f.lo + j * f.st2

/-- The element and copy that a bit address names, if it is one of this field's instances. -/
def Fld.find (f : Fld) (k : Nat) : Option (Nat × Nat) :=
  let k0 := 8 * f.base + f.lo
  if k < k0 then none
  else
    let o := k - k0
    let i := if f.st = 0 then 0 else o / (8 * f.st)
    let r := if f.st = 0 then o else o % (8 * f.st)
    let j := if f.st2 = 0 then 0 else r / f.st2
    if i < f.n ∧ j < f.n2 ∧ f.key i j = k then some (i, j) else none

/-- The reset value of element `i` (R536). -/
def Fld.reset (f : Fld) (i : Nat) : Nat := f.dfl.getD i f.dflt

/-- A value that a write may give the field (R20). -/
def Fld.legal (f : Fld) (v : Nat) : Bool := decide (f.mn ≤ v) && (decide (f.mx = 0) || decide (v ≤ f.mx))

namespace R

/-- TOP_ID.HW_TYPE (Device identity): as CAL_HWTYPE -/
def TOP_ID_HW_TYPE : Fld := { base := 0x000000, lo := 0, wd := 16, acc := .ro, rst := .a }
/-- TOP_ID.STEP (Device identity): 0xB0 -/
def TOP_ID_STEP : Fld := { base := 0x000000, lo := 16, wd := 8, acc := .ro, rst := .a, dflt := 176 }
/-- TOP_ID.PART (Device identity): 0: EB7432; 1: EB7416 -/
def TOP_ID_PART : Fld := { base := 0x000000, lo := 24, wd := 1, acc := .ro, rst := .a }
/-- TOP_ID.GRADE (Device identity): 0: -C; 1: -E -/
def TOP_ID_GRADE : Fld := { base := 0x000000, lo := 25, wd := 1, acc := .ro, rst := .a }
/-- TOP_VER.MINOR (Odber release): 2 -/
def TOP_VER_MINOR : Fld := { base := 0x000004, lo := 0, wd := 8, acc := .ro, rst := .w, dflt := 2 }
/-- TOP_VER.MAJOR (Odber release): 3 -/
def TOP_VER_MAJOR : Fld := { base := 0x000004, lo := 8, wd := 8, acc := .ro, rst := .w, dflt := 3 }
/-- TOP_ROLE.CORE (Core roles): for role k (0 platform, 1 host, 2 media, 3 memory), the core carrying it (R27) -/
def TOP_ROLE_CORE : Fld := { base := 0x000008, lo := 0, wd := 2, acc := .ro, rst := .w, n2 := 4, st2 := 4 }
/-- TOP_ROLE.MOVED (Core roles): 1: the role moved from its own core -/
def TOP_ROLE_MOVED : Fld := { base := 0x000008, lo := 3, wd := 1, acc := .ro, rst := .w, n2 := 4, st2 := 4 }
/-- TOP_DENY.HOST (Denied writes): host writes denied under R505, saturating -/
def TOP_DENY_HOST : Fld := { base := 0x00000C, lo := 0, wd := 16, acc := .ro, rst := .w }
/-- TOP_DENY.TWI (Denied writes): TWI0 writes denied, saturating -/
def TOP_DENY_TWI : Fld := { base := 0x00000C, lo := 16, wd := 16, acc := .ro, rst := .w }
/-- MBX_STAT.BUSY (Mailbox status): mailboxes running a command, 0–32 -/
def MBX_STAT_BUSY : Fld := { base := 0x010000, lo := 0, wd := 6, acc := .ro, rst := .w }
/-- MBX_STAT.BG (Mailbox status): mailboxes running a background command -/
def MBX_STAT_BG : Fld := { base := 0x010000, lo := 6, wd := 6, acc := .ro, rst := .w }
/-- MBX_STAT.DEVWIDE (Mailbox status): 1: a device-wide command runs (R507) -/
def MBX_STAT_DEVWIDE : Fld := { base := 0x010000, lo := 12, wd := 1, acc := .ro, rst := .w }
/-- MBX_CNT.DONE (Commands): commands completed, saturating -/
def MBX_CNT_DONE : Fld := { base := 0x010004, lo := 0, wd := 32, acc := .ro, rst := .w }
/-- MBX_LAST.OPCODE (Last error): opcode of the last command not returning Success -/
def MBX_LAST_OPCODE : Fld := { base := 0x010008, lo := 0, wd := 16, acc := .ro, rst := .w }
/-- MBX_LAST.RC (Last error): its return code -/
def MBX_LAST_RC : Fld := { base := 0x010008, lo := 16, wd := 8, acc := .ro, rst := .w }
/-- MBX_LAST.LD (Last error): its LD -/
def MBX_LAST_LD : Fld := { base := 0x010008, lo := 24, wd := 4, acc := .ro, rst := .w }
/-- MBX_LAST.PORT (Last error): 0: A; 1: B -/
def MBX_LAST_PORT : Fld := { base := 0x010008, lo := 28, wd := 1, acc := .ro, rst := .w }
/-- LOQ_STAT.USED (Queue status): entries in use, 0–256; kept across a warm reset (R516) -/
def LOQ_STAT_USED : Fld := { base := 0x020000, lo := 0, wd := 9, acc := .ro, rst := .c }
/-- LOQ_STAT.CFG_REJ (Queue status): 1: a write to a LOQ register was rejected -/
def LOQ_STAT_CFG_REJ : Fld := { base := 0x020000, lo := 9, wd := 1, acc := .rw1c, rst := .w }
/-- LOQ_CTL.HPORT (Routing): 0: port A; 1: port B; forced to the present port in PORT_MODE 0 -/
def LOQ_CTL_HPORT : Fld := { base := 0x020004, lo := 0, wd := 1, acc := .rw, rst := .w }
/-- LOQ_REL.HANDLE (Release): frees a completed entry; a handle not completed or not in use is rejected and CFG_REJ is set -/
def LOQ_REL_HANDLE : Fld := { base := 0x020008, lo := 0, wd := 16, acc := .wo, rst := .n }
/-- LOQ_LBOFF.OFF (Load buffer offset): word offset -/
def LOQ_LBOFF_OFF : Fld := { base := 0x02000C, lo := 2, wd := 16, acc := .rw, rst := .w }
/-- LOQ_LBDATA.DATA (Load buffer data): word at OFF; OFF then advances by 1 (R513) -/
def LOQ_LBDATA_DATA : Fld := { base := 0x020010, lo := 0, wd := 32, acc := .wo, rst := .n }
/-- LOQ_RPTR.HEAD (Ring pointers): next entry the consumer reads; kept across a warm reset (R516); a write past the unconsumed entries is rejected (R514) -/
def LOQ_RPTR_HEAD : Fld := { base := 0x020014, lo := 0, wd := 6, acc := .rw, rst := .c, n := 2, st := 0x4 }
/-- LOQ_RPTR.TAIL (Ring pointers): next entry the device writes; kept across a warm reset (R516) -/
def LOQ_RPTR_TAIL : Fld := { base := 0x020014, lo := 8, wd := 6, acc := .ro, rst := .c, n := 2, st := 0x4 }
/-- LOQ_RSEL.HANDLE (Handle select): entry shown in LOQ_RINFO and LOQ_RDATA -/
def LOQ_RSEL_HANDLE : Fld := { base := 0x02001C, lo := 0, wd := 16, acc := .rw, rst := .w }
/-- LOQ_RINFO.LIVE (Selected entry): 1: the handle names an entry in use -/
def LOQ_RINFO_LIVE : Fld := { base := 0x020020, lo := 0, wd := 1, acc := .ro, rst := .c }
/-- LOQ_RINFO.DONE (Selected entry): 1: completion posted -/
def LOQ_RINFO_DONE : Fld := { base := 0x020020, lo := 1, wd := 1, acc := .ro, rst := .c }
/-- LOQ_RINFO.STATUS (Selected entry): Table 21-6 -/
def LOQ_RINFO_STATUS : Fld := { base := 0x020020, lo := 2, wd := 8, acc := .ro, rst := .c }
/-- LOQ_RINFO.RLEN (Selected entry): result record words, 0–32 -/
def LOQ_RINFO_RLEN : Fld := { base := 0x020020, lo := 10, wd := 7, acc := .ro, rst := .c }
/-- LOQ_ISS_ARG.ARG (Issue arguments): argument, Table 21-5 -/
def LOQ_ISS_ARG_ARG : Fld := { base := 0x020100, lo := 0, wd := 32, acc := .rw, rst := .w, n := 4, st := 0x40, n2 := 6, st2 := 32 }
/-- LOQ_ISS_CMD.OP (Issue): operation, Table 21-5; a write issues (R511) -/
def LOQ_ISS_CMD_OP : Fld := { base := 0x020118, lo := 0, wd := 8, acc := .wo, rst := .n, n := 4, st := 0x40 }
/-- LOQ_ISS_RES.HANDLE (Issue result): handle, or 0 -/
def LOQ_ISS_RES_HANDLE : Fld := { base := 0x02011C, lo := 0, wd := 16, acc := .ro, rst := .w, n := 4, st := 0x40 }
/-- LOQ_ISS_RES.REFUSED (Issue result): 1: no entry free -/
def LOQ_ISS_RES_REFUSED : Fld := { base := 0x02011C, lo := 16, wd := 1, acc := .ro, rst := .w, n := 4, st := 0x40 }
/-- LOQ_RING.ENTRY (Completion rings): elements 4i to 4i + 3: bytes of ring entry i, Table 21-7; kept across a warm reset (R516) -/
def LOQ_RING_ENTRY : Fld := { base := 0x020400, lo := 0, wd := 32, acc := .ro, rst := .c, n := 2, st := 0x400, n2 := 256, st2 := 32 }
/-- LOQ_RDATA.WORD (Result record): word n of the selected entry's result record; 0x0000_0000 beyond RLEN; records kept across a warm reset (R516) -/
def LOQ_RDATA_WORD : Fld := { base := 0x020C00, lo := 0, wd := 32, acc := .ro, rst := .c, n := 32, st := 0x4 }
/-- HP_STAT.LINK (Port status): 0: down; 1: training; 2: L0; 3: L1; 4: recovery -/
def HP_STAT_LINK : Fld := { base := 0x100000, lo := 0, wd := 3, acc := .ro, rst := .l, n := 2, st := 0x40000 }
/-- HP_STAT.RATE (Port status): 1: 2.5; 2: 5.0; 3: 8.0; 4: 16; 5: 32; 6: 64 GT/s -/
def HP_STAT_RATE : Fld := { base := 0x100000, lo := 3, wd := 4, acc := .ro, rst := .l, n := 2, st := 0x40000 }
/-- HP_STAT.WIDTH (Port status): trained lanes: 1, 2, 4, 8 or 16 -/
def HP_STAT_WIDTH : Fld := { base := 0x100000, lo := 7, wd := 5, acc := .ro, rst := .l, n := 2, st := 0x40000 }
/-- HP_STAT.PROTO (Port status): 0: PCIe only; 1: CXL 1.1; 2: CXL 2.0; 3: CXL 3.1 -/
def HP_STAT_PROTO : Fld := { base := 0x100000, lo := 12, wd := 3, acc := .ro, rst := .l, n := 2, st := 0x40000 }
/-- HP_STAT.FLIT (Port status): 1: flit mode -/
def HP_STAT_FLIT : Fld := { base := 0x100000, lo := 15, wd := 1, acc := .ro, rst := .l, n := 2, st := 0x40000 }
/-- HP_STAT.ACTIVE (Port status): 1: the port exists in PORT_MODE -/
def HP_STAT_ACTIVE : Fld := { base := 0x100000, lo := 16, wd := 1, acc := .ro, rst := .c, n := 2, st := 0x40000 }
/-- HP_STAT.HOLD_OVER (Port status): 1: RwD credit return withheld (R86) -/
def HP_STAT_HOLD_OVER : Fld := { base := 0x100000, lo := 17, wd := 1, acc := .ro, rst := .l, n := 2, st := 0x40000 }
/-- HP_STAT.CFG_REJ (Port status): 1: a write to an HPx register was rejected -/
def HP_STAT_CFG_REJ : Fld := { base := 0x100000, lo := 18, wd := 1, acc := .rw1c, rst := .w, n := 2, st := 0x40000 }
/-- HP_STAT.FLIT256 (Port status): 1: 256 B CXL flits; 0: 68 B CXL flits, or PCIe flits or no flit mode as FLIT shows -/
def HP_STAT_FLIT256 : Fld := { base := 0x100000, lo := 19, wd := 1, acc := .ro, rst := .l, n := 2, st := 0x40000 }
/-- HP_CTL.RETRAIN (Port control): 1: retrain the link -/
def HP_CTL_RETRAIN : Fld := { base := 0x100004, lo := 0, wd := 1, acc := .w1s, rst := .n, n := 2, st := 0x40000 }
/-- HP_CTL.L1_EN (Port control): 1: ASPM L1 permitted when the host enables it -/
def HP_CTL_L1_EN : Fld := { base := 0x100004, lo := 1, wd := 1, acc := .rw, rst := .w, n := 2, st := 0x40000 }
/-- HP_CTL.MAX_RATE (Port control): rate cap, encoded as RATE; Idle is LINK 0; default 6 -/
def HP_CTL_MAX_RATE : Fld := { base := 0x100004, lo := 2, wd := 3, acc := .rwl, rst := .c, n := 2, st := 0x40000, dflt := 6, mn := 1, mx := 6 }
/-- HP_HOLD.HOLD_LIM (Hold limit): hold limit in µs, 1–10,000; 0 reserved; from Erg section 0x13, default 50. Apply boundary: the first moment no store of the port is held -/
def HP_HOLD_HOLD_LIM : Fld := { base := 0x100008, lo := 0, wd := 14, acc := .rws, rst := .w, n := 2, st := 0x40000, dflt := 50, mn := 1, mx := 10000 }
/-- HP_HOLD.HOLD_ACT (Hold limit): hold limit in force, µs -/
def HP_HOLD_HOLD_ACT : Fld := { base := 0x100008, lo := 16, wd := 14, acc := .ro, rst := .w, n := 2, st := 0x40000, dflt := 50 }
/-- HP_TRK.TRK_USED (Tracker occupancy): tracker entries in use, 0–1,024 -/
def HP_TRK_TRK_USED : Fld := { base := 0x10000C, lo := 0, wd := 11, acc := .ro, rst := .l, n := 2, st := 0x40000 }
/-- HP_TRK.HELD_NOW (Tracker occupancy): held stores of the port, 0–384 -/
def HP_TRK_HELD_NOW : Fld := { base := 0x10000C, lo := 16, wd := 11, acc := .ro, rst := .l, n := 2, st := 0x40000 }
/-- HP_HOLDS.HOLD_TOTAL (Stores held): stores held since reset, saturating -/
def HP_HOLDS_HOLD_TOTAL : Fld := { base := 0x100010, lo := 0, wd := 32, acc := .ro, rst := .w, n := 2, st := 0x40000 }
/-- HP_HOLDX.HOLD_EXPIRED (Hold-limit expiries): held stores whose wait exceeded HOLD_ACT, saturating -/
def HP_HOLDX_HOLD_EXPIRED : Fld := { base := 0x100014, lo := 0, wd := 32, acc := .ro, rst := .w, n := 2, st := 0x40000 }
/-- HP_DLTH.CONG_OPT (DevLoad congestion thresholds): percent, 1–100; default 25 -/
def HP_DLTH_CONG_OPT : Fld := { base := 0x100018, lo := 0, wd := 7, acc := .rw, rst := .w, n := 2, st := 0x40000, dflt := 25, mn := 1, mx := 100 }
/-- HP_DLTH.CONG_MOD (DevLoad congestion thresholds): percent, 1–100; default 75 -/
def HP_DLTH_CONG_MOD : Fld := { base := 0x100018, lo := 8, wd := 7, acc := .rw, rst := .w, n := 2, st := 0x40000, dflt := 75, mn := 1, mx := 100 }
/-- HP_DLTH.CONG_SEV (DevLoad congestion thresholds): percent, 1–100; default 90. A write that leaves CONG_OPT < CONG_MOD < CONG_SEV false is rejected and CFG_REJ is set -/
def HP_DLTH_CONG_SEV : Fld := { base := 0x100018, lo := 16, wd := 7, acc := .rw, rst := .w, n := 2, st := 0x40000, dflt := 90, mn := 1, mx := 100 }
/-- HP_DLCUR.DL_LEDGER (DevLoad levels): ledger level, encoded as in R94 -/
def HP_DLCUR_DL_LEDGER : Fld := { base := 0x10001C, lo := 0, wd := 2, acc := .ro, rst := .w, n := 2, st := 0x40000, dflt := 3 }
/-- HP_DLCUR.DL_CONG (DevLoad levels): congestion level, encoded as in R94 -/
def HP_DLCUR_DL_CONG : Fld := { base := 0x10001C, lo := 2, wd := 2, acc := .ro, rst := .l, n := 2, st := 0x40000 }
/-- HP_DLCUR.THROT_CNT (DevLoad levels): entries of this port with THROT set, 0–4,096 -/
def HP_DLCUR_THROT_CNT : Fld := { base := 0x10001C, lo := 4, wd := 13, acc := .ro, rst := .w, n := 2, st := 0x40000 }
/-- HP_TMO.RD_TMO (Read timeout): µs, 200–65,535; default 2,000; a value below 200 is rejected and CFG_REJ is set -/
def HP_TMO_RD_TMO : Fld := { base := 0x100020, lo := 0, wd := 16, acc := .rw, rst := .w, n := 2, st := 0x40000, dflt := 2000, mn := 200 }
/-- HP_ERR.UNMAP (Error counts): requests under R77, saturating -/
def HP_ERR_UNMAP : Fld := { base := 0x100024, lo := 0, wd := 12, acc := .ro, rst := .w, n := 2, st := 0x40000 }
/-- HP_ERR.RD_TMO_CNT (Error counts): reads under R88, saturating -/
def HP_ERR_RD_TMO_CNT : Fld := { base := 0x100024, lo := 12, wd := 12, acc := .ro, rst := .w, n := 2, st := 0x40000 }
/-- HP_ERR.MGMT_DENY (Error counts): management writes refused under R72, saturating -/
def HP_ERR_MGMT_DENY : Fld := { base := 0x100024, lo := 24, wd := 8, acc := .ro, rst := .w, n := 2, st := 0x40000 }
/-- HP_ABND.ABANDONED (Abandoned requests): requests abandoned under R37 or R96, saturating -/
def HP_ABND_ABANDONED : Fld := { base := 0x100028, lo := 0, wd := 32, acc := .ro, rst := .w, n := 2, st := 0x40000 }
/-- HP_CRED.REQ_CRED (Advertised credits): M2S Req credits advertised: 640 -/
def HP_CRED_REQ_CRED : Fld := { base := 0x10002C, lo := 0, wd := 12, acc := .ro, rst := .c, n := 2, st := 0x40000, dflt := 640 }
/-- HP_CRED.RWD_CRED (Advertised credits): M2S RwD credits advertised: 384 -/
def HP_CRED_RWD_CRED : Fld := { base := 0x10002C, lo := 16, wd := 12, acc := .ro, rst := .c, n := 2, st := 0x40000, dflt := 384 }
/-- QOS_KEY.SID (Entry key and class): source ID (R90) -/
def QOS_KEY_SID : Fld := { base := 0x180000, lo := 0, wd := 12, acc := .rw, rst := .c, n := 4096, st := 0x10 }
/-- QOS_KEY.LD (Entry key and class): logical device -/
def QOS_KEY_LD : Fld := { base := 0x180000, lo := 12, wd := 4, acc := .rw, rst := .c, n := 4096, st := 0x10 }
/-- QOS_KEY.PORT (Entry key and class): 0: A; 1: B -/
def QOS_KEY_PORT : Fld := { base := 0x180000, lo := 16, wd := 1, acc := .rw, rst := .c, n := 4096, st := 0x10 }
/-- QOS_KEY.VALID (Entry key and class): 1: entry in use. SID, LD and PORT accept writes only while VALID is 0; otherwise the write is rejected and QOS_CTL.CFG_REJ is set -/
def QOS_KEY_VALID : Fld := { base := 0x180000, lo := 17, wd := 1, acc := .rw, rst := .c, n := 4096, st := 0x10 }
/-- QOS_KEY.PINNED (Entry key and class): 1: exempt from eviction -/
def QOS_KEY_PINNED : Fld := { base := 0x180000, lo := 18, wd := 1, acc := .rw, rst := .c, n := 4096, st := 0x10 }
/-- QOS_KEY.CLASS (Entry key and class): latency class 0–7 -/
def QOS_KEY_CLASS : Fld := { base := 0x180000, lo := 19, wd := 3, acc := .rw, rst := .c, n := 4096, st := 0x10 }
/-- QOS_KEY.THROT (Entry key and class): 1: a request of this entry waits on a rate limit -/
def QOS_KEY_THROT : Fld := { base := 0x180000, lo := 22, wd := 1, acc := .ro, rst := .w, n := 4096, st := 0x10 }
/-- QOS_KEY.ACT_HELD (Entry key and class): 1: ACT_THR is nonzero -/
def QOS_KEY_ACT_HELD : Fld := { base := 0x180000, lo := 23, wd := 1, acc := .ro, rst := .w, n := 4096, st := 0x10 }
/-- QOS_CAP.REQ_CAP (Entry rate caps): requests per second in units of 100,000; 0: no cap -/
def QOS_CAP_REQ_CAP : Fld := { base := 0x180004, lo := 0, wd := 16, acc := .rw, rst := .c, n := 4096, st := 0x10 }
/-- QOS_CAP.ACT_CAP (Entry rate caps): activates per second in units of 1,000; 0: no cap -/
def QOS_CAP_ACT_CAP : Fld := { base := 0x180004, lo := 16, wd := 16, acc := .rw, rst := .c, n := 4096, st := 0x10 }
/-- QOS_THR.ACT_THR (Entry throttle and count): activate limit set by the DRAM controller, units of 1,000/s; 0: none -/
def QOS_THR_ACT_THR : Fld := { base := 0x180008, lo := 0, wd := 16, acc := .ro, rst := .w, n := 4096, st := 0x10 }
/-- QOS_THR.REQ_CNT (Entry throttle and count): requests in the last completed window, units of 1,024, saturating -/
def QOS_THR_REQ_CNT : Fld := { base := 0x180008, lo := 16, wd := 16, acc := .ro, rst := .w, n := 4096, st := 0x10 }
/-- QOS_LAT.LAT_MAX (Entry latency telemetry): longest completion in the last completed window, units of 16 ns, saturating -/
def QOS_LAT_LAT_MAX : Fld := { base := 0x18000C, lo := 0, wd := 16, acc := .ro, rst := .w, n := 4096, st := 0x10 }
/-- QOS_LAT.OVER_CNT (Entry latency telemetry): requests completed after their class TARGET in that window, saturating -/
def QOS_LAT_OVER_CNT : Fld := { base := 0x18000C, lo := 16, wd := 16, acc := .ro, rst := .w, n := 4096, st := 0x10 }
/-- QOS_CLASS.TARGET (Class targets): ns, 64–65,535; defaults in Table 3-4; a value below 64 is rejected and QOS_CTL.CFG_REJ is set -/
def QOS_CLASS_TARGET : Fld := { base := 0x190000, lo := 0, wd := 16, acc := .rw, rst := .w, n := 8, st := 0x4, dfl := [250, 400, 600, 1000, 2000, 4000, 10000, 50000], mn := 64 }
/-- QOS_CTL.WIN (Table control): telemetry window in ticks, 32–65,535; default 1,024 (31.25 ms) -/
def QOS_CTL_WIN : Fld := { base := 0x190020, lo := 0, wd := 16, acc := .rw, rst := .w, dflt := 1024, mn := 32 }
/-- QOS_CTL.FULL (Table control): 1: an allocation found no free entry since reset -/
def QOS_CTL_FULL : Fld := { base := 0x190020, lo := 16, wd := 1, acc := .ro, rst := .w }
/-- QOS_CTL.CFG_REJ (Table control): 1: a write to a QOS register was rejected -/
def QOS_CTL_CFG_REJ : Fld := { base := 0x190020, lo := 17, wd := 1, acc := .rw1c, rst := .w }
/-- QOS_OVF.OVF (Requests without entry): requests served without an entry, saturating -/
def QOS_OVF_OVF : Fld := { base := 0x190024, lo := 0, wd := 32, acc := .ro, rst := .w }
/-- QOS_IDLE.EVICT_WIN (Eviction): idle windows before eviction; default 8; 0: no eviction -/
def QOS_IDLE_EVICT_WIN : Fld := { base := 0x190028, lo := 0, wd := 8, acc := .rw, rst := .w, dflt := 8 }
/-- QOS_LDCLS.CLASS (Default class per LD): for k from 0 to 7, the default class of LD (e mod 2) × 8 + k on port e ÷ 2, where e is the element number and the division is rounded down; from … -/
def QOS_LDCLS_CLASS : Fld := { base := 0x190040, lo := 0, wd := 3, acc := .rw, rst := .w, n := 4, st := 0x4, n2 := 8, st2 := 4, dflt := 3 }
/-- DRM_STAT.CH_POP (DRAM status): bit n: channel n populated -/
def DRM_STAT_CH_POP : Fld := { base := 0x200000, lo := 0, wd := 8, acc := .ro, rst := .c }
/-- DRM_STAT.CH_FENCE (DRAM status): bit n: channel n fenced -/
def DRM_STAT_CH_FENCE : Fld := { base := 0x200000, lo := 8, wd := 8, acc := .ro, rst := .c }
/-- DRM_STAT.WAYS (DRAM status): log2 of ways in use, 1–4 -/
def DRM_STAT_WAYS : Fld := { base := 0x200000, lo := 16, wd := 3, acc := .ro, rst := .c }
/-- DRM_STAT.DEGRADED (DRAM status): 1: serving under R143 -/
def DRM_STAT_DEGRADED : Fld := { base := 0x200000, lo := 19, wd := 1, acc := .ro, rst := .c }
/-- DRM_STAT.GRP_BASE (DRAM status): first channel of the group in use -/
def DRM_STAT_GRP_BASE : Fld := { base := 0x200000, lo := 20, wd := 3, acc := .ro, rst := .c }
/-- DRM_STAT.CFG_REJ (DRAM status): 1: a write to a DRM register was rejected -/
def DRM_STAT_CFG_REJ : Fld := { base := 0x200000, lo := 23, wd := 1, acc := .rw1c, rst := .w }
/-- DRM_ITGT.STG_TGT (Internal traffic targets): staging target in ns, 64–65,535; default 2,000 -/
def DRM_ITGT_STG_TGT : Fld := { base := 0x200004, lo := 0, wd := 16, acc := .rw, rst := .w, dflt := 2000, mn := 64 }
/-- DRM_ITGT.MAP_TGT (Internal traffic targets): map-traffic target in ns, 64–65,535; default 1,000 -/
def DRM_ITGT_MAP_TGT : Fld := { base := 0x200004, lo := 16, wd := 16, acc := .rw, rst := .w, dflt := 1000, mn := 64 }
/-- DRM_RDD.RD_THR (Row-disturb limits): activates per row group per refresh window, 64–65,535; default 1,024 -/
def DRM_RDD_RD_THR : Fld := { base := 0x200008, lo := 0, wd := 16, acc := .rw, rst := .w, dflt := 1024, mn := 64 }
/-- DRM_RDD.RD_RATE (Row-disturb limits): activate limit set on crossing, units of 1,000/s, 1–4,095; default 50 -/
def DRM_RDD_RD_RATE : Fld := { base := 0x200008, lo := 16, wd := 12, acc := .rw, rst := .w, dflt := 50, mn := 1 }
/-- DRM_RDD.RD_HOLD (Row-disturb limits): refresh windows without crossing before release, 1–15; default 4 -/
def DRM_RDD_RD_HOLD : Fld := { base := 0x200008, lo := 28, wd := 4, acc := .rw, rst := .w, dflt := 4, mn := 1 }
/-- DRM_RDOVF.OVF_RATE (Entry-less activate limit): shared activate limit, units of 1,000/s; default 50 -/
def DRM_RDOVF_OVF_RATE : Fld := { base := 0x20000C, lo := 0, wd := 12, acc := .rw, rst := .w, dflt := 50 }
/-- DRM_RDOVF.OVF_ACT (Entry-less activate limit): 1: limit in force -/
def DRM_RDOVF_OVF_ACT : Fld := { base := 0x20000C, lo := 12, wd := 1, acc := .ro, rst := .w }
/-- DRM_SCRUB.PER (Patrol scrub control): pass period in hours, 1–255; default 24. Apply boundary: start of the next pass -/
def DRM_SCRUB_PER : Fld := { base := 0x200010, lo := 0, wd := 8, acc := .rws, rst := .w, dflt := 24, mn := 1 }
/-- DRM_SCRUB.EN (Patrol scrub control): 1: scrub enabled; default 1 -/
def DRM_SCRUB_EN : Fld := { base := 0x200010, lo := 8, wd := 1, acc := .rw, rst := .w, dflt := 1 }
/-- DRM_SCRUBST.PASSES (Patrol scrub status): passes completed, saturating -/
def DRM_SCRUBST_PASSES : Fld := { base := 0x200014, lo := 0, wd := 16, acc := .ro, rst := .w }
/-- DRM_SCRUBST.LATE (Patrol scrub status): 1: a pass exceeded PER -/
def DRM_SCRUBST_LATE : Fld := { base := 0x200014, lo := 16, wd := 1, acc := .rw1c, rst := .w }
/-- DRM_CETHR.CE_EVT (Corrected-error thresholds): corrected errors per rank per 24 h for a DRAM Event; default 1,024 -/
def DRM_CETHR_CE_EVT : Fld := { base := 0x200018, lo := 0, wd := 16, acc := .rw, rst := .w, dflt := 1024 }
/-- DRM_CETHR.CE_MIG (Corrected-error thresholds): corrected errors per rank per 24 h for retirement; 0: disabled; default 0 -/
def DRM_CETHR_CE_MIG : Fld := { base := 0x200018, lo := 16, wd := 16, acc := .rw, rst := .w }
/-- DRM_HOSTSZ.HOST_SZ (Host memory): host memory served, units of 256 MiB -/
def DRM_HOSTSZ_HOST_SZ : Fld := { base := 0x20001C, lo := 0, wd := 16, acc := .ro, rst := .c }
/-- DRM_CHM_LO.MASK_LO (Channel mask, low word): mask bits 31:6 of the device physical address, from Erg section 0x03 -/
def DRM_CHM_LO_MASK_LO : Fld := { base := 0x200020, lo := 6, wd := 26, acc := .ro, rst := .c, n := 4, st := 0x8 }
/-- DRM_CHM_HI.MASK_HI (Channel mask, high word): mask bits 47:32 -/
def DRM_CHM_HI_MASK_HI : Fld := { base := 0x200024, lo := 0, wd := 16, acc := .ro, rst := .c, n := 4, st := 0x8 }
/-- DRM_CHM_HI.PIVOT (Channel mask, high word): pivot bit, 6–20 -/
def DRM_CHM_HI_PIVOT : Fld := { base := 0x200024, lo := 16, wd := 5, acc := .ro, rst := .c, n := 4, st := 0x8 }
/-- DRM_CHM_HI.EN (Channel mask, high word): 1: mask enabled -/
def DRM_CHM_HI_EN : Fld := { base := 0x200024, lo := 31, wd := 1, acc := .ro, rst := .c, n := 4, st := 0x8 }
/-- DRM_BKM_LO.MASK_LO (Bank mask, low word): mask bits 31:6 of the subchannel address; element k: BA0, BA1, BG0, BG1, BG2, CID0, CID1, CID2 -/
def DRM_BKM_LO_MASK_LO : Fld := { base := 0x200040, lo := 6, wd := 26, acc := .ro, rst := .c, n := 8, st := 0x8 }
/-- DRM_BKM_HI.MASK_HI (Bank mask, high word): mask bits 37:32 -/
def DRM_BKM_HI_MASK_HI : Fld := { base := 0x200044, lo := 0, wd := 6, acc := .ro, rst := .c, n := 8, st := 0x8 }
/-- DRM_BKM_HI.EN (Bank mask, high word): 1: mask enabled; 0: raw field bit used -/
def DRM_BKM_HI_EN : Fld := { base := 0x200044, lo := 31, wd := 1, acc := .ro, rst := .c, n := 8, st := 0x8 }
/-- DCH_STAT.STATE (Channel status): 0: absent; 1: fenced; 2: in service; 3: training -/
def DCH_STAT_STATE : Fld := { base := 0x210000, lo := 0, wd := 2, acc := .ro, rst := .c, n := 8, st := 0x1000 }
/-- DCH_STAT.SPARE_FREE (Channel status): 1: spare rank present and unused -/
def DCH_STAT_SPARE_FREE : Fld := { base := 0x210000, lo := 2, wd := 1, acc := .ro, rst := .c, n := 8, st := 0x1000 }
/-- DCH_STAT.DRAIN0 (Channel status): 1: subchannel 0 in drain mode -/
def DCH_STAT_DRAIN0 : Fld := { base := 0x210000, lo := 3, wd := 1, acc := .ro, rst := .w, n := 8, st := 0x1000 }
/-- DCH_STAT.DRAIN1 (Channel status): 1: subchannel 1 in drain mode -/
def DCH_STAT_DRAIN1 : Fld := { base := 0x210000, lo := 4, wd := 1, acc := .ro, rst := .w, n := 8, st := 0x1000 }
/-- DCH_STAT.REF2X (Channel status): 1: tREFI halved under R122 -/
def DCH_STAT_REF2X : Fld := { base := 0x210000, lo := 5, wd := 1, acc := .ro, rst := .w, n := 8, st := 0x1000 }
/-- DCH_STAT.CFG_REJ (Channel status): 1: a write to a DCHn register was rejected -/
def DCH_STAT_CFG_REJ : Fld := { base := 0x210000, lo := 6, wd := 1, acc := .rw1c, rst := .w, n := 8, st := 0x1000 }
/-- DCH_GEO.RANKW (Geometry): rank bits in S, 0–2 -/
def DCH_GEO_RANKW : Fld := { base := 0x210004, lo := 0, wd := 2, acc := .ro, rst := .c, n := 8, st := 0x1000 }
/-- DCH_GEO.DPC2 (Geometry): 1: two DIMMs per channel -/
def DCH_GEO_DPC2 : Fld := { base := 0x210004, lo := 2, wd := 1, acc := .ro, rst := .c, n := 8, st := 0x1000 }
/-- DCH_GEO.TYPE (Geometry): 0: RDIMM; 1: MRDIMM; 2: soldered -/
def DCH_GEO_TYPE : Fld := { base := 0x210004, lo := 3, wd := 2, acc := .ro, rst := .c, n := 8, st := 0x1000 }
/-- DCH_GEO.RATE (Geometry): data rate, units of 100 MT/s -/
def DCH_GEO_RATE : Fld := { base := 0x210004, lo := 5, wd := 7, acc := .ro, rst := .c, n := 8, st := 0x1000 }
/-- DCH_GEO.COLW (Geometry): burst-column bits -/
def DCH_GEO_COLW : Fld := { base := 0x210004, lo := 12, wd := 4, acc := .ro, rst := .c, n := 8, st := 0x1000 }
/-- DCH_GEO.CIDW (Geometry): chip-ID bits, 0–3 -/
def DCH_GEO_CIDW : Fld := { base := 0x210004, lo := 16, wd := 2, acc := .ro, rst := .c, n := 8, st := 0x1000 }
/-- DCH_GEO.ROWW (Geometry): row bits -/
def DCH_GEO_ROWW : Fld := { base := 0x210004, lo := 18, wd := 5, acc := .ro, rst := .c, n := 8, st := 0x1000 }
/-- DCH_GEO.RANK_GIB (Geometry): rank capacity in GiB -/
def DCH_GEO_RANK_GIB : Fld := { base := 0x210004, lo := 23, wd := 9, acc := .ro, rst := .c, n := 8, st := 0x1000 }
/-- DCH_CARVE0.CV_MAP (Map carve-outs): coarse-map slice, units of 128 MiB -/
def DCH_CARVE0_CV_MAP : Fld := { base := 0x210008, lo := 0, wd := 13, acc := .ro, rst := .c, n := 8, st := 0x1000 }
/-- DCH_CARVE0.CV_FMAP (Map carve-outs): fine-map slice, units of 128 MiB -/
def DCH_CARVE0_CV_FMAP : Fld := { base := 0x210008, lo := 16, wd := 13, acc := .ro, rst := .c, n := 8, st := 0x1000 }
/-- DCH_CARVE1.CV_TRK (Tracking and staging carve-outs): tracking slice, units of 128 MiB -/
def DCH_CARVE1_CV_TRK : Fld := { base := 0x21000C, lo := 0, wd := 13, acc := .ro, rst := .c, n := 8, st := 0x1000 }
/-- DCH_CARVE1.CV_STG (Tracking and staging carve-outs): staging slice, units of 128 MiB -/
def DCH_CARVE1_CV_STG : Fld := { base := 0x21000C, lo := 16, wd := 13, acc := .ro, rst := .c, n := 8, st := 0x1000 }
/-- DCH_HOST.H (Channel host memory): host memory of the channel, units of 128 MiB -/
def DCH_HOST_H : Fld := { base := 0x210010, lo := 0, wd := 13, acc := .ro, rst := .c, n := 8, st := 0x1000 }
/-- DCH_HOST.SPARE (Channel host memory): SPARE from Erg section 0x03 -/
def DCH_HOST_SPARE : Fld := { base := 0x210010, lo := 13, wd := 1, acc := .ro, rst := .c, n := 8, st := 0x1000 }
/-- DCH_CTL.WR_HI (Scheduler control): drain entry, writes per subchannel, 2–511; default 256. Apply boundary: the channel's next all-bank refresh -/
def DCH_CTL_WR_HI : Fld := { base := 0x210014, lo := 0, wd := 9, acc := .rws, rst := .w, n := 8, st := 0x1000, dflt := 256, mn := 2 }
/-- DCH_CTL.WR_LO (Scheduler control): drain exit, 1–510; default 96; a pending pair with WR_LO ≥ WR_HI is rejected and CFG_REJ is set -/
def DCH_CTL_WR_LO : Fld := { base := 0x210014, lo := 9, wd := 9, acc := .rws, rst := .w, n := 8, st := 0x1000, dflt := 96, mn := 1, mx := 510 }
/-- DCH_CTL.HIT_CAP (Scheduler control): consecutive row hits, 1–31; default 16 -/
def DCH_CTL_HIT_CAP : Fld := { base := 0x210014, lo := 18, wd := 5, acc := .rw, rst := .w, n := 8, st := 0x1000, dflt := 16, mn := 1 }
/-- DCH_CTL.PRE_IDLE (Scheduler control): idle row close, units of 25 ns, 1–31; default 8 (200 ns) -/
def DCH_CTL_PRE_IDLE : Fld := { base := 0x210014, lo := 23, wd := 5, acc := .rw, rst := .w, n := 8, st := 0x1000, dflt := 8, mn := 1 }
/-- DCH_CTL.PD_IDLE (Scheduler control): power-down entry, units of 250 ns, 1–15; 0: disabled; default 4 (1 µs) -/
def DCH_CTL_PD_IDLE : Fld := { base := 0x210014, lo := 28, wd := 4, acc := .rw, rst := .w, n := 8, st := 0x1000, dflt := 4 }
/-- DCH_REF.REF_SB_EN (Refresh): 1: same-bank refresh where supported; default 1. Apply boundary: the next refresh window -/
def DCH_REF_REF_SB_EN : Fld := { base := 0x210018, lo := 0, wd := 1, acc := .rws, rst := .w, n := 8, st := 0x1000, dflt := 1 }
/-- DCH_REF.RFM_REQ (Refresh): 1: a DIMM declares refresh management required -/
def DCH_REF_RFM_REQ : Fld := { base := 0x210018, lo := 1, wd := 1, acc := .ro, rst := .c, n := 8, st := 0x1000 }
/-- DCH_REF.POSTPONED (Refresh): refreshes currently postponed, worst rank -/
def DCH_REF_POSTPONED : Fld := { base := 0x210018, lo := 2, wd := 4, acc := .ro, rst := .w, n := 8, st := 0x1000 }
/-- DCH_RDC.HOST_CNT (Row-disturb counts): crossings charged to QoS entries or to the shared limit, saturating -/
def DCH_RDC_HOST_CNT : Fld := { base := 0x21001C, lo := 0, wd := 16, acc := .ro, rst := .w, n := 8, st := 0x1000 }
/-- DCH_RDC.INT_CNT (Row-disturb counts): crossings by internal traffic, saturating -/
def DCH_RDC_INT_CNT : Fld := { base := 0x21001C, lo := 16, wd := 16, acc := .ro, rst := .w, n := 8, st := 0x1000 }
/-- DCH_TRN.DQS_INT (Retraining control): oscillator interval in µs, 100–65,535; default 1,000 -/
def DCH_TRN_DQS_INT : Fld := { base := 0x210020, lo := 0, wd := 16, acc := .rw, rst := .w, n := 8, st := 0x1000, dflt := 1000, mn := 100 }
/-- DCH_TRN.DQS_TOL (Retraining control): drift before adjustment, delay steps, 1–15; default 2 -/
def DCH_TRN_DQS_TOL : Fld := { base := 0x210020, lo := 16, wd := 4, acc := .rw, rst := .w, n := 8, st := 0x1000, dflt := 2, mn := 1 }
/-- DCH_TRN.DQS_EN (Retraining control): 1: DQS tracking on; from Erg section 0x16 -/
def DCH_TRN_DQS_EN : Fld := { base := 0x210020, lo := 20, wd := 1, acc := .rw, rst := .w, n := 8, st := 0x1000 }
/-- DCH_TRNST.ADJ_CNT (Retraining status): DQS adjustments made, saturating -/
def DCH_TRNST_ADJ_CNT : Fld := { base := 0x210024, lo := 0, wd := 16, acc := .ro, rst := .w, n := 8, st := 0x1000 }
/-- DCH_TRNST.MAX_DRIFT (Retraining status): largest drift seen in the last second, delay steps -/
def DCH_TRNST_MAX_DRIFT : Fld := { base := 0x210024, lo := 16, wd := 8, acc := .ro, rst := .w, n := 8, st := 0x1000 }
/-- DCH_TRNST.CTR_FAIL (Retraining status): bit r: rank r's last read centering failed -/
def DCH_TRNST_CTR_FAIL : Fld := { base := 0x210024, lo := 24, wd := 4, acc := .ro, rst := .w, n := 8, st := 0x1000 }
/-- DCH_MIG.BUSY (Migration): 1: migration running -/
def DCH_MIG_BUSY : Fld := { base := 0x210028, lo := 0, wd := 1, acc := .ro, rst := .w, n := 8, st := 0x1000 }
/-- DCH_MIG.SRC (Migration): rank being migrated -/
def DCH_MIG_SRC : Fld := { base := 0x210028, lo := 1, wd := 2, acc := .ro, rst := .w, n := 8, st := 0x1000 }
/-- DCH_MIG.MIG_SHARE (Migration): percent of command slots, 1–100; default 25 -/
def DCH_MIG_MIG_SHARE : Fld := { base := 0x210028, lo := 3, wd := 7, acc := .rw, rst := .w, n := 8, st := 0x1000, dflt := 25, mn := 1, mx := 100 }
/-- DCH_MIG.MIG_POISON (Migration): lines written poisoned during migration, saturating -/
def DCH_MIG_MIG_POISON : Fld := { base := 0x210028, lo := 10, wd := 22, acc := .ro, rst := .w, n := 8, st := 0x1000 }
/-- DCH_MIGW.W (Migration watermark): units of 4 KiB of S copied -/
def DCH_MIGW_W : Fld := { base := 0x21002C, lo := 0, wd := 27, acc := .ro, rst := .w, n := 8, st := 0x1000 }
/-- DCH_UEADDR.ADDR (Last uncorrectable address): device physical address of the last confirmed uncorrectable line; 0 if none -/
def DCH_UEADDR_ADDR : Fld := { base := 0x210030, lo := 6, wd := 58, acc := .ro, rst := .s, n := 8, st := 0x1000 }
/-- DCH_RANK.STATE (Rank states): for r from 0 to 3. 0: in service or absent; 1: retiring; 2: Retired, replaced by the spare; 3: Offline -/
def DCH_RANK_STATE : Fld := { base := 0x210038, lo := 0, wd := 2, acc := .ro, rst := .c, n := 8, st := 0x1000, n2 := 4, st2 := 2 }
/-- DCH_ERR.CE_CNT (Rank error counts): corrected errors of rank r since reset, saturating -/
def DCH_ERR_CE_CNT : Fld := { base := 0x210040, lo := 0, wd := 24, acc := .ro, rst := .w, n := 8, st := 0x1000, n2 := 4, st2 := 32 }
/-- DCH_ERR.UE_CNT (Rank error counts): confirmed uncorrectable errors of rank r, saturating -/
def DCH_ERR_UE_CNT : Fld := { base := 0x210040, lo := 24, wd := 8, acc := .ro, rst := .w, n := 8, st := 0x1000, n2 := 4, st2 := 32 }
/-- TRK_STAT.RUN (Tracking status): 1: tracking keeps a held set; 0: below SL3 (R153) -/
def TRK_STAT_RUN : Fld := { base := 0x300000, lo := 0, wd := 1, acc := .ro, rst := .c }
/-- TRK_STAT.CFG_REJ (Tracking status): 1: a write to a TRK register was rejected -/
def TRK_STAT_CFG_REJ : Fld := { base := 0x300000, lo := 1, wd := 1, acc := .rw1c, rst := .w }
/-- TRK_STAT.AUD_DIFF (Tracking status): 1: an audit found a nonzero difference -/
def TRK_STAT_AUD_DIFF : Fld := { base := 0x300000, lo := 2, wd := 1, acc := .rw1c, rst := .c }
/-- TRK_STAT.EPOCH_NOW (Tracking status): current epoch number modulo 8 -/
def TRK_STAT_EPOCH_NOW : Fld := { base := 0x300000, lo := 3, wd := 3, acc := .ro, rst := .c }
/-- TRK_HELD.HELD (Held set): H = HELD_MEM + HELD_STG, pages -/
def TRK_HELD_HELD : Fld := { base := 0x300004, lo := 0, wd := 32, acc := .ro, rst := .c }
/-- TRK_HMEM.HELD_MEM (Held memory pages): pages (R149) -/
def TRK_HMEM_HELD_MEM : Fld := { base := 0x300008, lo := 0, wd := 32, acc := .ro, rst := .c }
/-- TRK_HSTG.HELD_STG (Held staging pages): pages (R149) -/
def TRK_HSTG_HELD_STG : Fld := { base := 0x30000C, lo := 0, wd := 32, acc := .ro, rst := .c }
/-- TRK_DIRTY.DIRTY (Dirty pages): dirty bits set; the sum of all DCNT -/
def TRK_DIRTY_DIRTY : Fld := { base := 0x300010, lo := 0, wd := 32, acc := .ro, rst := .c }
/-- TRK_INFL.INFL (Copies in flight): copy-table entries in use, 0–65,536 -/
def TRK_INFL_INFL : Fld := { base := 0x300014, lo := 0, wd := 17, acc := .ro, rst := .c }
/-- TRK_PEAK.PEAK (Peak held set): highest HELD since cold boot or PEAK_CLR -/
def TRK_PEAK_PEAK : Fld := { base := 0x300018, lo := 0, wd := 32, acc := .ro, rst := .c }
/-- TRK_CLR.PEAK_CLR (Clear): 1: set PEAK to the current HELD -/
def TRK_CLR_PEAK_CLR : Fld := { base := 0x30001C, lo := 0, wd := 1, acc := .w1s, rst := .n }
/-- TRK_RSEL.REGION (Region select): region shown in TRK_RVAL, from 0 to the number of regions of host memory minus 1, the last region included; a greater value is rejected and … -/
def TRK_RSEL_REGION : Fld := { base := 0x300020, lo := 0, wd := 19, acc := .rw, rst := .w }
/-- TRK_RVAL.SUMMARY (Region summary): summary word of the selected region, Table 5-1 -/
def TRK_RVAL_SUMMARY : Fld := { base := 0x300024, lo := 0, wd := 16, acc := .ro, rst := .c }
/-- TRK_PSEL.PAGE (Page select): page number shown in TRK_PVAL; a value at or beyond host memory is rejected and CFG_REJ is set -/
def TRK_PSEL_PAGE : Fld := { base := 0x300028, lo := 0, wd := 30, acc := .rw, rst := .w }
/-- TRK_PVAL.DIRTY (Page state): dirty bit -/
def TRK_PVAL_DIRTY : Fld := { base := 0x30002C, lo := 0, wd := 1, acc := .ro, rst := .c }
/-- TRK_PVAL.COPYING (Page state): 1: copy-table entry present -/
def TRK_PVAL_COPYING : Fld := { base := 0x30002C, lo := 1, wd := 1, acc := .ro, rst := .c }
/-- TRK_PVAL.DISCARD (Page state): 1: entry has DISCARD -/
def TRK_PVAL_DISCARD : Fld := { base := 0x30002C, lo := 2, wd := 1, acc := .ro, rst := .c }
/-- TRK_PVAL.PROMISED (Page state): promised bit (R62) -/
def TRK_PVAL_PROMISED : Fld := { base := 0x30002C, lo := 3, wd := 1, acc := .ro, rst := .c }
/-- TRK_PVAL.HELD (Page state): 1: counted in HELD_MEM -/
def TRK_PVAL_HELD : Fld := { base := 0x30002C, lo := 4, wd := 1, acc := .ro, rst := .c }
/-- TRK_AUD.AUD_DIFFS (Audit count): audits with a nonzero difference, saturating -/
def TRK_AUD_AUD_DIFFS : Fld := { base := 0x300030, lo := 0, wd := 32, acc := .ro, rst := .c }
/-- TRK_AUDV.AUDV (Audit difference): signed sum of recount minus counter over all audits since cold boot, saturating -/
def TRK_AUDV_AUDV : Fld := { base := 0x300034, lo := 0, wd := 32, acc := .ro, rst := .c }
/-- DFT_STAT.STATE (Drift status): 0: Off; 1: Idle; 2: Copying; 3: Stopped -/
def DFT_STAT_STATE : Fld := { base := 0x310000, lo := 0, wd := 2, acc := .ro, rst := .c }
/-- DFT_STAT.AGE_BYPASS (Drift status): 1: age rule bypassed (R156) -/
def DFT_STAT_AGE_BYPASS : Fld := { base := 0x310000, lo := 2, wd := 1, acc := .ro, rst := .c, dflt := 1 }
/-- DFT_STAT.AT_MAX (Drift status): 1: u is 65,536 -/
def DFT_STAT_AT_MAX : Fld := { base := 0x310000, lo := 3, wd := 1, acc := .ro, rst := .c }
/-- DFT_STAT.MEASURED (Drift status): 1: every usable die has a measured TP -/
def DFT_STAT_MEASURED : Fld := { base := 0x310000, lo := 4, wd := 1, acc := .ro, rst := .c }
/-- DFT_STAT.CFG_REJ (Drift status): 1: a write to a DFT register was rejected -/
def DFT_STAT_CFG_REJ : Fld := { base := 0x310000, lo := 5, wd := 1, acc := .rw1c, rst := .w }
/-- DFT_PACE.SETPT (Pacing targets): setpoint, percent of G, 1–99; default 50; from Erg section 0x15 -/
def DFT_PACE_SETPT : Fld := { base := 0x310004, lo := 0, wd := 7, acc := .rw, rst := .w, dflt := 50, mn := 1, mx := 99 }
/-- DFT_PACE.FS (Pacing targets): floor start, percent of G, 0–99; default 50; from Erg section 0x15 -/
def DFT_PACE_FS : Fld := { base := 0x310004, lo := 8, wd := 7, acc := .rw, rst := .w, dflt := 50, mx := 99 }
/-- DFT_PACE.AGE_BYP (Pacing targets): age bypass, percent of G, 1–100; default 90; from Erg section 0x15 -/
def DFT_PACE_AGE_BYP : Fld := { base := 0x310004, lo := 16, wd := 7, acc := .rw, rst := .w, dflt := 90, mn := 1, mx := 100 }
/-- DFT_PACE.CAP (Pacing targets): Drift ceiling, units of 1/256 of R_save, 1–255; default 235; from Erg section 0x15 -/
def DFT_PACE_CAP : Fld := { base := 0x310004, lo := 24, wd := 8, acc := .rw, rst := .w, dflt := 235, mn := 1 }
/-- DFT_GAIN.KP (Loop gains): proportional gain, Q8.8, 1–65,535; default 0x0400; from Erg section 0x15 -/
def DFT_GAIN_KP : Fld := { base := 0x310008, lo := 0, wd := 16, acc := .rw, rst := .w, dflt := 1024, mn := 1 }
/-- DFT_GAIN.KI (Loop gains): integral gain, 0–65,535; default 16; from Erg section 0x15 -/
def DFT_GAIN_KI : Fld := { base := 0x310008, lo := 16, wd := 16, acc := .rw, rst := .w, dflt := 16 }
/-- DFT_AGE.EPOCH (Dirty age): epoch length in ticks, 32–65,535; default 1,024 (31.25 ms); from Erg section 0x15. Apply boundary: the next epoch boundary -/
def DFT_AGE_EPOCH : Fld := { base := 0x31000C, lo := 0, wd := 16, acc := .rws, rst := .w, dflt := 1024, mn := 32 }
/-- DFT_AGE.MIN_AGE (Dirty age): epochs, 1–7; default 3; from Erg section 0x15 -/
def DFT_AGE_MIN_AGE : Fld := { base := 0x31000C, lo := 16, wd := 3, acc := .rw, rst := .w, dflt := 3, mn := 1 }
/-- DFT_SEG.SEG_TMO (Segment close): ticks, 1–255; default 32 (about 0.98 ms) -/
def DFT_SEG_SEG_TMO : Fld := { base := 0x310010, lo := 0, wd := 8, acc := .rw, rst := .w, dflt := 32, mn := 1 }
/-- DFT_SNAP.SNAP_MAX (Snapshot limit): units of 64 KiB, 3–4,095; default 256 (16 MiB) -/
def DFT_SNAP_SNAP_MAX : Fld := { base := 0x310014, lo := 0, wd := 12, acc := .rw, rst := .w, dflt := 256, mn := 3 }
/-- DFT_OUT.U (Share): u, 0–65,536 -/
def DFT_OUT_U : Fld := { base := 0x310018, lo := 0, wd := 17, acc := .ro, rst := .c }
/-- DFT_FLR.F (Floor share): f, 0–65,536 -/
def DFT_FLR_F : Fld := { base := 0x31001C, lo := 0, wd := 17, acc := .ro, rst := .c }
/-- DFT_INT.I (Integral): i, 0–65,536 -/
def DFT_INT_I : Fld := { base := 0x310020, lo := 0, wd := 17, acc := .ro, rst := .c }
/-- DFT_ERR.EN (Normalized error): en, signed, −65,536 to 65,536 -/
def DFT_ERR_EN : Fld := { base := 0x310024, lo := 0, wd := 18, acc := .ro, rst := .c }
/-- DFT_RSAVE.RSAVE (Save-capable throughput): R_save, units of 2⁻⁸ page per tick, rounded down (R167) -/
def DFT_RSAVE_RSAVE : Fld := { base := 0x310028, lo := 0, wd := 20, acc := .ro, rst := .c }
/-- DFT_DMAX.DMAX (Drift ceiling): units of 2⁻⁸ page per tick (R169) -/
def DFT_DMAX_DMAX : Fld := { base := 0x31002C, lo := 0, wd := 20, acc := .ro, rst := .c }
/-- DFT_POOL.DIES (Image pool): usable dies -/
def DFT_POOL_DIES : Fld := { base := 0x310030, lo := 0, wd := 13, acc := .ro, rst := .c }
/-- DFT_POOL.NCH (Image pool): channels in the image stripe, n -/
def DFT_POOL_NCH : Fld := { base := 0x310030, lo := 16, wd := 6, acc := .ro, rst := .c }
/-- DFT_POOL.SLOW_GRP (Image pool): channel group that set weighted in R167 -/
def DFT_POOL_SLOW_GRP : Fld := { base := 0x310030, lo := 24, wd := 3, acc := .ro, rst := .c }
/-- DFT_GEN.GEN (Generation counter): next generation to be drawn; word 0 low; loaded at cold boot under R164 -/
def DFT_GEN_GEN : Fld := { base := 0x310038, lo := 0, wd := 64, acc := .ro, rst := .c }
/-- DFT_CONF.CONF (Confirmations): copies confirmed since cold boot; word 0 low -/
def DFT_CONF_CONF : Fld := { base := 0x310040, lo := 0, wd := 64, acc := .ro, rst := .c }
/-- DFT_WCNT.CONF_WIN (Window confirmations): copies confirmed in the last completed window of 1,024 ticks -/
def DFT_WCNT_CONF_WIN : Fld := { base := 0x310048, lo := 0, wd := 20, acc := .ro, rst := .c }
/-- DFT_WRD.REDIRTY_WIN (Window redirtied confirmations): confirmations of redirtied pages in the last completed window -/
def DFT_WRD_REDIRTY_WIN : Fld := { base := 0x31004C, lo := 0, wd := 20, acc := .ro, rst := .c }
/-- DFT_PFAIL.PFAIL (Program failures): copies failed under R160, saturating -/
def DFT_PFAIL_PFAIL : Fld := { base := 0x310050, lo := 0, wd := 32, acc := .ro, rst := .c }
/-- DFT_SNAPST.SIZE (Snapshot status): size of the last complete snapshot, units of 64 KiB, rounded up -/
def DFT_SNAPST_SIZE : Fld := { base := 0x310054, lo := 0, wd := 12, acc := .ro, rst := .c }
/-- DFT_SNAPST.COARSE (Snapshot status): 1: the last complete snapshot has coarse regions -/
def DFT_SNAPST_COARSE : Fld := { base := 0x310054, lo := 12, wd := 1, acc := .ro, rst := .c }
/-- DFT_SNAPST.LATE (Snapshot status): snapshots begun late under R176, saturating -/
def DFT_SNAPST_LATE : Fld := { base := 0x310054, lo := 13, wd := 16, acc := .ro, rst := .c }
/-- DFT_SNAPT.TICK (Snapshot time): tick timestamp of the last complete snapshot; word 0 low; bits [31:16] of word 1 read 0 -/
def DFT_SNAPT_TICK : Fld := { base := 0x310058, lo := 0, wd := 48, acc := .ro, rst := .c }
/-- DFT_TPROG.TP (Die program time): pseudo-SLC program time, units of 0.1 µs, rounded up (R166) -/
def DFT_TPROG_TP : Fld := { base := 0x314000, lo := 0, wd := 16, acc := .ro, rst := .c, n := 4096, st := 0x4 }
/-- DFT_TPROG.USABLE (Die program time): 1: die counted in R_save -/
def DFT_TPROG_USABLE : Fld := { base := 0x314000, lo := 16, wd := 1, acc := .ro, rst := .c, n := 4096, st := 0x4 }
/-- DFT_TPROG.MEAS (Die program time): 1: TP measured; 0: declared maximum in use -/
def DFT_TPROG_MEAS : Fld := { base := 0x314000, lo := 17, wd := 1, acc := .ro, rst := .c, n := 4096, st := 0x4 }
/-- LDG_STAT.STATE (Ledger status): 0: persistent; 1: G below the held set; 2: volatile overlay; 3: persistence withdrawn; 4: not ready; 5: volatile service below SL3; as byte 20 of … -/
def LDG_STAT_STATE : Fld := { base := 0x320000, lo := 0, wd := 3, acc := .ro, rst := .c, dflt := 4 }
/-- LDG_STAT.CLOSED (Ledger status): 1: set under R192 -/
def LDG_STAT_CLOSED : Fld := { base := 0x320000, lo := 3, wd := 1, acc := .ro, rst := .c }
/-- LDG_STAT.STG_OFF (Ledger status): 1: staging reservations refused (R195) -/
def LDG_STAT_STG_OFF : Fld := { base := 0x320000, lo := 4, wd := 1, acc := .ro, rst := .c }
/-- LDG_STAT.LEVEL (Ledger status): ledger DevLoad level, encoded as in R94 -/
def LDG_STAT_LEVEL : Fld := { base := 0x320000, lo := 5, wd := 2, acc := .ro, rst := .c, dflt := 3 }
/-- LDG_STAT.CDN_ACT (Ledger status): 1: countdown running (R200) -/
def LDG_STAT_CDN_ACT : Fld := { base := 0x320000, lo := 7, wd := 1, acc := .ro, rst := .c }
/-- LDG_STAT.EMERG (Ledger status): 1: a ledger-emergency save has started since cold boot -/
def LDG_STAT_EMERG : Fld := { base := 0x320000, lo := 8, wd := 1, acc := .ro, rst := .c }
/-- LDG_STAT.RISE_LIM (Ledger status): 1: e_use is below the gauge estimate and rising under RISE -/
def LDG_STAT_RISE_LIM : Fld := { base := 0x320000, lo := 9, wd := 1, acc := .ro, rst := .c }
/-- LDG_STAT.CFG_REJ (Ledger status): 1: a write to an LDG register was rejected -/
def LDG_STAT_CFG_REJ : Fld := { base := 0x320000, lo := 10, wd := 1, acc := .rw1c, rst := .w }
/-- LDG_CTL.RECOMP (Ledger control): 1: recompute now -/
def LDG_CTL_RECOMP : Fld := { base := 0x320004, lo := 0, wd := 1, acc := .w1s, rst := .n }
/-- LDG_CTL.GAP_CLR (Ledger control): 1: set LDG_GAP to 0 -/
def LDG_CTL_GAP_CLR : Fld := { base := 0x320004, lo := 1, wd := 1, acc := .w1s, rst := .n }
/-- LDG_PSAVE.P_SAVE (Sled save power): mW, 1,000–16,777,215; from Erg section 0x11; a value below 1,000 is rejected and CFG_REJ is set -/
def LDG_PSAVE_P_SAVE : Fld := { base := 0x320008, lo := 0, wd := 24, acc := .rw, rst := .w, dflt := 1000, mn := 1000 }
/-- LDG_OASIS.OASIS (Oasis reserve): grains; from Erg section 0x11 -/
def LDG_OASIS_OASIS : Fld := { base := 0x32000C, lo := 0, wd := 32, acc := .rw, rst := .w }
/-- LDG_GUAR.G (Guarantee): G in force, pages, a multiple of 256; 0 until the first recomputation (R189) -/
def LDG_GUAR_G : Fld := { base := 0x320010, lo := 0, wd := 32, acc := .ro, rst := .c }
/-- LDG_GPUB.G_PUB (Published guarantee): pages; G, or 0 under R201 -/
def LDG_GPUB_G_PUB : Fld := { base := 0x320014, lo := 0, wd := 32, acc := .ro, rst := .c }
/-- LDG_TMOD.TMOD (Moderate threshold): floor(G × 3 ÷ 4), pages -/
def LDG_TMOD_TMOD : Fld := { base := 0x320018, lo := 0, wd := 32, acc := .ro, rst := .c }
/-- LDG_TSEV.TSEV (Severe threshold): floor(G × 9 ÷ 10), pages -/
def LDG_TSEV_TSEV : Fld := { base := 0x32001C, lo := 0, wd := 32, acc := .ro, rst := .c }
/-- LDG_COST.C (Page cost): units of 2⁻¹⁶ grain, rounded up; 0xFFFF_FFFF: no usable save throughput -/
def LDG_COST_C : Fld := { base := 0x320020, lo := 0, wd := 32, acc := .ro, rst := .c }
/-- LDG_EUSE.E_USE (Deliverable energy in use): grains (R188) -/
def LDG_EUSE_E_USE : Fld := { base := 0x320024, lo := 0, wd := 32, acc := .ro, rst := .c }
/-- LDG_EGAU.E_G (Gauge estimate): latest deliverable energy reported by the gauge, grains -/
def LDG_EGAU_E_G : Fld := { base := 0x320028, lo := 0, wd := 32, acc := .ro, rst := .c }
/-- LDG_EFIX.FIX (Fixed save energy): grains, rounded up -/
def LDG_EFIX_FIX : Fld := { base := 0x32002C, lo := 0, wd := 32, acc := .ro, rst := .c }
/-- LDG_PUSE.P (Save power in use): max(P_SAVE, P_MEAS), mW -/
def LDG_PUSE_P : Fld := { base := 0x320030, lo := 0, wd := 24, acc := .ro, rst := .c, dflt := 1000 }
/-- LDG_PMEAS.P_MEAS (Measured save power): mW, rounded up; 0: none (R183); loaded from the learned-value area at cold boot -/
def LDG_PMEAS_P_MEAS : Fld := { base := 0x320034, lo := 0, wd := 24, acc := .ro, rst := .c }
/-- LDG_RUSE.R (Save throughput in use): min(RSAVE, r_prev), units of 2⁻⁸ page per tick -/
def LDG_RUSE_R : Fld := { base := 0x320038, lo := 0, wd := 20, acc := .ro, rst := .c }
/-- LDG_LIM.T_FIX (Save time and emergency hold): ticks, 1–65,535; 0 is rejected and CFG_REJ is set; from Erg section 0x11 -/
def LDG_LIM_T_FIX : Fld := { base := 0x32003C, lo := 0, wd := 16, acc := .rw, rst := .w, dflt := 1, mn := 1 }
/-- LDG_LIM.EM_HOLD (Save time and emergency hold): periodic recomputations, 1–255; default 4; 0 is rejected and CFG_REJ is set; from Erg section 0x11 -/
def LDG_LIM_EM_HOLD : Fld := { base := 0x32003C, lo := 16, wd := 8, acc := .rw, rst := .w, dflt := 4, mn := 1 }
/-- LDG_RISE.RISE (Rise limit): grains per 1,024 ticks, 1–16,777,215; default 1,024; 0 is rejected and CFG_REJ is set; from Erg section 0x11 -/
def LDG_RISE_RISE : Fld := { base := 0x320040, lo := 0, wd := 24, acc := .rw, rst := .w, dflt := 1024, mn := 1 }
/-- LDG_GMAX.GMAX (Held-set ceiling): host memory pages plus staging pages, fixed at cold boot -/
def LDG_GMAX_GMAX : Fld := { base := 0x320044, lo := 0, wd := 32, acc := .ro, rst := .c }
/-- LDG_GAP.GAP (Largest exposure): largest H − G seen since cold boot or GAP_CLR, pages -/
def LDG_GAP_GAP : Fld := { base := 0x320048, lo := 0, wd := 32, acc := .ro, rst := .c }
/-- LDG_CLOSN.CLOSN (Closures): episodes under R196 since cold boot, saturating -/
def LDG_CLOSN_CLOSN : Fld := { base := 0x32004C, lo := 0, wd := 32, acc := .ro, rst := .c }
/-- LDG_TS.TICK (Recomputation time): tick timestamp of the last completed recomputation; word 0 low; bits [31:16] of word 1 read 0 -/
def LDG_TS_TICK : Fld := { base := 0x320050, lo := 0, wd := 48, acc := .ro, rst := .c }
/-- LDG_RCNT.RCNT (Recomputations): completed recomputations since cold boot, saturating -/
def LDG_RCNT_RCNT : Fld := { base := 0x320058, lo := 0, wd := 32, acc := .ro, rst := .c }
/-- LDG_CDN.CDN (Countdown energy): grains remaining under R200; 0 while CDN_ACT is 0 -/
def LDG_CDN_CDN : Fld := { base := 0x32005C, lo := 0, wd := 32, acc := .ro, rst := .c }
/-- LDG_CDNP.CDNP (Countdown pages): pages the remaining energy carries under R200, rounded down -/
def LDG_CDNP_CDNP : Fld := { base := 0x320060, lo := 0, wd := 32, acc := .ro, rst := .c }
/-- LDG_GRATED.G_R (Rated guarantee): rated guarantee, pages, a multiple of 256; computed at cold boot (R185) -/
def LDG_GRATED_G_R : Fld := { base := 0x320064, lo := 0, wd := 32, acc := .ro, rst := .c }
/-- CVN_STAT.SAVE_ST (Save and restore status): 0: Idle; 1: Manifest; 2: Pages; 3: Tail; 4: Trailing; 5: Off, entered as a save ends in power-down or energy exhaustion (Table 7-6), and readable … -/
def CVN_STAT_SAVE_ST : Fld := { base := 0x330000, lo := 0, wd := 3, acc := .ro, rst := .c }
/-- CVN_STAT.RST_ST (Save and restore status): 0: done; 1: map load; 2: loss computation; 3: bulk, memory ready; 4: bulk, memory not ready; 5: destage -/
def CVN_STAT_RST_ST : Fld := { base := 0x330000, lo := 3, wd := 3, acc := .ro, rst := .c }
/-- CVN_STAT.READY (Save and restore status): 1: memory ready (R232) -/
def CVN_STAT_READY : Fld := { base := 0x330000, lo := 6, wd := 1, acc := .ro, rst := .c }
/-- CVN_STAT.OT (Save and restore status): 1: on-touch mode in use (R227) -/
def CVN_STAT_OT : Fld := { base := 0x330000, lo := 7, wd := 1, acc := .ro, rst := .c }
/-- CVN_STAT.CASE (Save and restore status): 0: N; 1: A; 2: B; 3: C; 4: D -/
def CVN_STAT_CASE : Fld := { base := 0x330000, lo := 8, wd := 3, acc := .ro, rst := .c }
/-- CVN_STAT.TRIG (Save and restore status): trigger code of the last save, Table 7-1; 0: none -/
def CVN_STAT_TRIG : Fld := { base := 0x330000, lo := 11, wd := 3, acc := .ro, rst := .c }
/-- CVN_STAT.LREC (Save and restore status): 1: a loss record is active -/
def CVN_STAT_LREC : Fld := { base := 0x330000, lo := 14, wd := 1, acc := .ro, rst := .c }
/-- CVN_STAT.CONV (Save and restore status): 1: the last save was converted under R204 -/
def CVN_STAT_CONV : Fld := { base := 0x330000, lo := 15, wd := 1, acc := .ro, rst := .c }
/-- CVN_STAT.CFG_REJ (Save and restore status): 1: a write to a CVN register was rejected -/
def CVN_STAT_CFG_REJ : Fld := { base := 0x330000, lo := 16, wd := 1, acc := .rw1c, rst := .w }
/-- CVN_POL.OT_EN (Persistence policy): on-touch permitted; used at the next cold boot; from Erg section 0x10 -/
def CVN_POL_OT_EN : Fld := { base := 0x330004, lo := 0, wd := 1, acc := .rw, rst := .w }
/-- CVN_POL.EMERG_EN (Persistence policy): ledger-emergency save enabled; from Erg section 0x10 -/
def CVN_POL_EMERG_EN : Fld := { base := 0x330004, lo := 1, wd := 1, acc := .rw, rst := .w }
/-- CVN_POL.LRW_SHARE (Persistence policy): percent, 1–100; default 10; 0 or above 100 is rejected and CFG_REJ is set; from Erg section 0x10 -/
def CVN_POL_LRW_SHARE : Fld := { base := 0x330004, lo := 2, wd := 7, acc := .rw, rst := .w, dflt := 10, mn := 1, mx := 100 }
/-- CVN_TOL.HOST_TOL (Host tolerance): µs; used at the next cold boot; from Erg section 0x10 -/
def CVN_TOL_HOST_TOL : Fld := { base := 0x330008, lo := 0, wd := 16, acc := .rw, rst := .w }
/-- CVN_SSN.SSN (Save sequence number): sequence number of the last save; loaded from the system area at cold boot -/
def CVN_SSN_SSN : Fld := { base := 0x33000C, lo := 0, wd := 32, acc := .ro, rst := .c }
/-- CVN_GEN0.GEN0 (Save generation): GEN0 of the last save (R208); word 0 low -/
def CVN_GEN0_GEN0 : Fld := { base := 0x330010, lo := 0, wd := 64, acc := .ro, rst := .c }
/-- CVN_TTRIG.TICK (Trigger tick): trigger tick of the last save; word 0 low; bits [31:16] of word 1 read 0 -/
def CVN_TTRIG_TICK : Fld := { base := 0x330018, lo := 0, wd := 48, acc := .ro, rst := .c }
/-- CVN_MPG.MPG (Manifest memory pages): memory pages in the last manifest -/
def CVN_MPG_MPG : Fld := { base := 0x330020, lo := 0, wd := 32, acc := .ro, rst := .c }
/-- CVN_MSTG.MSTG (Manifest staged pages): staging-list entries in the last manifest -/
def CVN_MSTG_MSTG : Fld := { base := 0x330024, lo := 0, wd := 32, acc := .ro, rst := .c }
/-- CVN_WRT.WRT (Pages issued): memory and staged pages issued in step 5 -/
def CVN_WRT_WRT : Fld := { base := 0x330028, lo := 0, wd := 32, acc := .ro, rst := .c }
/-- CVN_TRL.TRL (Trailing pages): trailing pages found complete by restore (R219) -/
def CVN_TRL_TRL : Fld := { base := 0x33002C, lo := 0, wd := 32, acc := .ro, rst := .c }
/-- CVN_LOST.LOST (Lost memory pages): pages in L at the last restore -/
def CVN_LOST_LOST : Fld := { base := 0x330030, lo := 0, wd := 32, acc := .ro, rst := .c }
/-- CVN_LSTG.LSTG (Lost staged pages): staged pages lost at the last restore -/
def CVN_LSTG_LSTG : Fld := { base := 0x330034, lo := 0, wd := 32, acc := .ro, rst := .c }
/-- CVN_LRNGC.RANGES (Lost ranges): ranges of adjacent lost pages at the last restore -/
def CVN_LRNGC_RANGES : Fld := { base := 0x330038, lo := 0, wd := 32, acc := .ro, rst := .c }
/-- CVN_DSC.DSC (Dirty-shutdown count): count under R234, saturating; loaded from the system area at every cold boot and not restored by any reset -/
def CVN_DSC_DSC : Fld := { base := 0x33003C, lo := 0, wd := 32, acc := .ro, rst := .n }
/-- CVN_RWM.RWM (Bulk watermark): pages below this number are restored -/
def CVN_RWM_RWM : Fld := { base := 0x330040, lo := 0, wd := 30, acc := .ro, rst := .c }
/-- CVN_FETCH.FETCH (On-touch fetches): pages fetched under R232, saturating -/
def CVN_FETCH_FETCH : Fld := { base := 0x330044, lo := 0, wd := 32, acc := .ro, rst := .c }
/-- CVN_RTIM.READY_MS (Restore times): ms from release of cold reset to memory ready, saturating -/
def CVN_RTIM_READY_MS : Fld := { base := 0x330048, lo := 0, wd := 16, acc := .ro, rst := .c }
/-- CVN_RTIM.BULK_DS (Restore times): bulk restore duration, units of 0.1 s, saturating -/
def CVN_RTIM_BULK_DS : Fld := { base := 0x330048, lo := 16, wd := 16, acc := .ro, rst := .c }
/-- CVN_LRP.LRP (Loss record pending): pages of the active loss record not yet rewritten (R226) -/
def CVN_LRP_LRP : Fld := { base := 0x33004C, lo := 0, wd := 32, acc := .ro, rst := .c }
/-- CVN_LSEL.IDX (Lost range select): range shown in CVN_LRNG_S and CVN_LRNG_N; a value at or above RANGES is rejected and CFG_REJ is set -/
def CVN_LSEL_IDX : Fld := { base := 0x330050, lo := 0, wd := 32, acc := .rw, rst := .w }
/-- CVN_LRNG_S.START (Lost range start): first page number of the selected range, device physical address ÷ 4,096 -/
def CVN_LRNG_S_START : Fld := { base := 0x330054, lo := 0, wd := 30, acc := .ro, rst := .w }
/-- CVN_LRNG_N.COUNT (Lost range length): pages in the selected range -/
def CVN_LRNG_N_COUNT : Fld := { base := 0x330058, lo := 0, wd := 32, acc := .ro, rst := .w }
/-- FCC_STAT.GRP_ON (Flash common status): bit g: group g powered -/
def FCC_STAT_GRP_ON : Fld := { base := 0x400000, lo := 0, wd := 8, acc := .ro, rst := .c }
/-- FCC_STAT.CLS_FENCE (Flash common status): bit k: cluster k fenced (R237) -/
def FCC_STAT_CLS_FENCE : Fld := { base := 0x400000, lo := 8, wd := 4, acc := .ro, rst := .c }
/-- FCC_STAT.SAVE (Flash common status): 1: channels in save operation (R211) -/
def FCC_STAT_SAVE : Fld := { base := 0x400000, lo := 12, wd := 1, acc := .ro, rst := .c }
/-- FCC_STAT.CFG_REJ (Flash common status): 1: a write to an FCC or FCHn register was rejected -/
def FCC_STAT_CFG_REJ : Fld := { base := 0x400000, lo := 13, wd := 1, acc := .rw1c, rst := .w }
/-- FCC_CHPOP.POP (Channels populated): bit n: FCHn has a die in service -/
def FCC_CHPOP_POP : Fld := { base := 0x400004, lo := 0, wd := 32, acc := .ro, rst := .c }
/-- FCC_CHFENCE.FENCE (Channels fenced): bit n: FCHn fenced -/
def FCC_CHFENCE_FENCE : Fld := { base := 0x400008, lo := 0, wd := 32, acc := .ro, rst := .c }
/-- FCC_SUS.PSUS_EN (Suspend policy): 1: program suspend permitted; default 1; from Erg section 0x14 -/
def FCC_SUS_PSUS_EN : Fld := { base := 0x40000C, lo := 0, wd := 1, acc := .rw, rst := .w, dflt := 1 }
/-- FCC_SUS.ESUS_EN (Suspend policy): 1: erase suspend permitted; default 1; from Erg section 0x14 -/
def FCC_SUS_ESUS_EN : Fld := { base := 0x40000C, lo := 1, wd := 1, acc := .rw, rst := .w, dflt := 1 }
/-- FCC_SUS.PSUS_MAX (Suspend policy): suspends per program, 0–3; default 2; from Erg section 0x14 -/
def FCC_SUS_PSUS_MAX : Fld := { base := 0x40000C, lo := 2, wd := 2, acc := .rw, rst := .w, dflt := 2 }
/-- FCC_SUS.ESUS_MAX (Suspend policy): suspends per erase, 0–15; default 8; from Erg section 0x14 -/
def FCC_SUS_ESUS_MAX : Fld := { base := 0x40000C, lo := 4, wd := 4, acc := .rw, rst := .w, dflt := 8 }
/-- FCC_SUS.SUS_RD_MAX (Suspend policy): reads per suspension, 1–15; default 4; 0 is rejected and CFG_REJ is set -/
def FCC_SUS_SUS_RD_MAX : Fld := { base := 0x40000C, lo := 8, wd := 4, acc := .rw, rst := .w, dflt := 4, mn := 1 }
/-- FCC_SUST.SUS_MIN_P (Suspend minimum run): µs, 10–65,535; default 100; from Erg section 0x14 -/
def FCC_SUST_SUS_MIN_P : Fld := { base := 0x400010, lo := 0, wd := 16, acc := .rw, rst := .w, dflt := 100, mn := 10 }
/-- FCC_SUST.SUS_MIN_E (Suspend minimum run): µs, 10–65,535; default 500; from Erg section 0x14 -/
def FCC_SUST_SUS_MIN_E : Fld := { base := 0x400010, lo := 16, wd := 16, acc := .rw, rst := .w, dflt := 500, mn := 10 }
/-- FCC_DEC.ITER_MAX (Decode policy): hard-decode iterations, 4–63; default 20 -/
def FCC_DEC_ITER_MAX : Fld := { base := 0x400014, lo := 0, wd := 6, acc := .rw, rst := .w, dflt := 20, mn := 4 }
/-- FCC_DEC.SOFT_EN (Decode policy): 1: soft decode steps used; default 1 -/
def FCC_DEC_SOFT_EN : Fld := { base := 0x400014, lo := 6, wd := 1, acc := .rw, rst := .w, dflt := 1 }
/-- FCC_DEC.RETRY_MAX (Decode policy): retry entries tried, 0–15; default 8 -/
def FCC_DEC_RETRY_MAX : Fld := { base := 0x400014, lo := 7, wd := 4, acc := .rw, rst := .w, dflt := 8 }
/-- FCC_DEC.SOFT_STEP (Decode policy): read-offset steps between soft reads, 1–15; default 4 -/
def FCC_DEC_SOFT_STEP : Fld := { base := 0x400014, lo := 11, wd := 4, acc := .rw, rst := .w, dflt := 4, mn := 1 }
/-- FCC_RRT.TRK_EN (Reference tracking): 1: probes run; from Erg section 0x16 -/
def FCC_RRT_TRK_EN : Fld := { base := 0x400018, lo := 0, wd := 1, acc := .rw, rst := .w }
/-- FCC_RRT.OFF_MAX (Reference tracking): offset bound, steps, 1–127; default 48 -/
def FCC_RRT_OFF_MAX : Fld := { base := 0x400018, lo := 1, wd := 7, acc := .rw, rst := .w, dflt := 48, mn := 1 }
/-- FCC_RRT.HYST (Reference tracking): bits, 1–127; default 4 -/
def FCC_RRT_HYST : Fld := { base := 0x400018, lo := 8, wd := 7, acc := .rw, rst := .w, dflt := 4, mn := 1 }
/-- FCC_RRT.PROBE_TRIG (Reference tracking): mean corrected bits per codeword, 1–4,095; default 40 -/
def FCC_RRT_PROBE_TRIG : Fld := { base := 0x400018, lo := 15, wd := 12, acc := .rw, rst := .w, dflt := 40, mn := 1 }
/-- FCC_RRT2.PROBE_PER (Probe period): ticks, 1,024–4,294,967,295; default 1,048,576 (32 s) -/
def FCC_RRT2_PROBE_PER : Fld := { base := 0x40001C, lo := 0, wd := 32, acc := .rw, rst := .w, dflt := 1048576, mn := 1024 }
/-- FCC_XT.XT_MAX (Extended timing): highest extended rate permitted, MT/s; 0: extended timing not permitted; from Erg section 0x04 -/
def FCC_XT_XT_MAX : Fld := { base := 0x400020, lo := 0, wd := 13, acc := .ro, rst := .c }
/-- FCC_XT.XT_RETRAIN (Extended timing): eye-check period, ticks, 1,024–65,535; default 32,768 (1 s) -/
def FCC_XT_XT_RETRAIN : Fld := { base := 0x400020, lo := 16, wd := 16, acc := .rw, rst := .w, dflt := 32768, mn := 1024 }
/-- FCC_PWR.GRP_IDLE (Group power-down): µs, 10–65,535; default 500 -/
def FCC_PWR_GRP_IDLE : Fld := { base := 0x400024, lo := 0, wd := 16, acc := .rw, rst := .w, dflt := 500, mn := 10 }
/-- FCC_PWR.PD_EN (Group power-down): 1: groups power down when idle; default 1 -/
def FCC_PWR_PD_EN : Fld := { base := 0x400024, lo := 16, wd := 1, acc := .rw, rst := .w, dflt := 1 }
/-- FCC_LIM.DRIFT_WIN (Share window and timeout fence): µs, 100–65,535; default 1,000 (R249) -/
def FCC_LIM_DRIFT_WIN : Fld := { base := 0x400028, lo := 0, wd := 16, acc := .rw, rst := .w, dflt := 1000, mn := 100 }
/-- FCC_LIM.DTMO_FENCE (Share window and timeout fence): timeouts per boot before a die is fenced, 1–15; default 3 -/
def FCC_LIM_DTMO_FENCE : Fld := { base := 0x400028, lo := 16, wd := 4, acc := .rw, rst := .w, dflt := 3, mn := 1 }
/-- FCC_CLS.FENCED (Cluster status): 1: cluster fenced -/
def FCC_CLS_FENCED : Fld := { base := 0x400030, lo := 0, wd := 1, acc := .ro, rst := .c, n := 4, st := 0x4 }
/-- FCC_CLS.SHARED (Cluster status): 1: serving the channels of cluster k XOR 1 -/
def FCC_CLS_SHARED : Fld := { base := 0x400030, lo := 1, wd := 1, acc := .ro, rst := .c, n := 4, st := 0x4 }
/-- FCC_CLS.HARD_BUSY (Cluster status): hard-lane occupancy over the last 1,024 ticks, percent -/
def FCC_CLS_HARD_BUSY : Fld := { base := 0x400030, lo := 8, wd := 8, acc := .ro, rst := .w, n := 4, st := 0x4 }
/-- FCC_CLS.SOFT_BUSY (Cluster status): soft-lane occupancy over the last 1,024 ticks, percent -/
def FCC_CLS_SOFT_BUSY : Fld := { base := 0x400030, lo := 16, wd := 8, acc := .ro, rst := .w, n := 4, st := 0x4 }
/-- FCH_STAT.STATE (Channel status): 0: absent; 1: fenced; 2: in service; 3: training; 4: powered down -/
def FCH_STAT_STATE : Fld := { base := 0x410000, lo := 0, wd := 3, acc := .ro, rst := .c, n := 32, st := 0x800 }
/-- FCH_STAT.MODE (Channel status): mode code, Table 8-1 -/
def FCH_STAT_MODE : Fld := { base := 0x410000, lo := 3, wd := 3, acc := .ro, rst := .c, n := 32, st := 0x800 }
/-- FCH_STAT.RATE (Channel status): transfer rate, MT/s -/
def FCH_STAT_RATE : Fld := { base := 0x410000, lo := 6, wd := 13, acc := .ro, rst := .c, n := 32, st := 0x800 }
/-- FCH_STAT.SLOTS (Channel status): command slots in use, 0–1,024 -/
def FCH_STAT_SLOTS : Fld := { base := 0x410000, lo := 19, wd := 11, acc := .ro, rst := .w, n := 32, st := 0x800 }
/-- FCH_POP.VOLS (Population): bit v: volume v declared -/
def FCH_POP_VOLS : Fld := { base := 0x410004, lo := 0, wd := 16, acc := .ro, rst := .c, n := 32, st := 0x800 }
/-- FCH_POP.LUNS (Population): logical units per volume, 1–8 -/
def FCH_POP_LUNS : Fld := { base := 0x410004, lo := 16, wd := 4, acc := .ro, rst := .c, n := 32, st := 0x800 }
/-- FCH_POP.DIES (Population): dies in service, 0–128 -/
def FCH_POP_DIES : Fld := { base := 0x410004, lo := 20, wd := 8, acc := .ro, rst := .c, n := 32, st := 0x800 }
/-- FCH_GEO0.PAGE_KIB (Geometry): main area per flash page, KiB -/
def FCH_GEO0_PAGE_KIB : Fld := { base := 0x410008, lo := 0, wd := 6, acc := .ro, rst := .c, n := 32, st := 0x800 }
/-- FCH_GEO0.PLANES (Geometry): log2 of planes per die -/
def FCH_GEO0_PLANES : Fld := { base := 0x410008, lo := 6, wd := 3, acc := .ro, rst := .c, n := 32, st := 0x800 }
/-- FCH_GEO0.BPC (Geometry): native bits per cell. 0: SLC; 1: MLC; 2: TLC; 3: QLC -/
def FCH_GEO0_BPC : Fld := { base := 0x410008, lo := 9, wd := 2, acc := .ro, rst := .c, n := 32, st := 0x800 }
/-- FCH_GEO0.PSUS (Geometry): 1: program suspend declared -/
def FCH_GEO0_PSUS : Fld := { base := 0x410008, lo := 11, wd := 1, acc := .ro, rst := .c, n := 32, st := 0x800 }
/-- FCH_GEO0.ESUS (Geometry): 1: erase suspend declared -/
def FCH_GEO0_ESUS : Fld := { base := 0x410008, lo := 12, wd := 1, acc := .ro, rst := .c, n := 32, st := 0x800 }
/-- FCH_GEO0.SPARE_B (Geometry): spare area per flash page, bytes -/
def FCH_GEO0_SPARE_B : Fld := { base := 0x410008, lo := 13, wd := 16, acc := .ro, rst := .c, n := 32, st := 0x800 }
/-- FCH_GEO1.PAGES (Blocks and pages): flash pages per block, native mode -/
def FCH_GEO1_PAGES : Fld := { base := 0x41000C, lo := 0, wd := 12, acc := .ro, rst := .c, n := 32, st := 0x800 }
/-- FCH_GEO1.BLOCKS (Blocks and pages): blocks per plane -/
def FCH_GEO1_BLOCKS : Fld := { base := 0x41000C, lo := 12, wd := 20, acc := .ro, rst := .c, n := 32, st := 0x800 }
/-- FCH_TDECL0.TR (Declared read and pseudo-SLC times): native read time, maximum, µs -/
def FCH_TDECL0_TR : Fld := { base := 0x410010, lo := 0, wd := 16, acc := .ro, rst := .c, n := 32, st := 0x800 }
/-- FCH_TDECL0.TPROG_SLC (Declared read and pseudo-SLC times): pseudo-SLC program time, maximum, µs (R243) -/
def FCH_TDECL0_TPROG_SLC : Fld := { base := 0x410010, lo := 16, wd := 16, acc := .ro, rst := .c, n := 32, st := 0x800 }
/-- FCH_TDECL1.TPROG (Declared program and erase times): native program time, maximum, µs -/
def FCH_TDECL1_TPROG : Fld := { base := 0x410014, lo := 0, wd := 16, acc := .ro, rst := .c, n := 32, st := 0x800 }
/-- FCH_TDECL1.TBERS (Declared program and erase times): erase time, maximum, units of 10 µs -/
def FCH_TDECL1_TBERS : Fld := { base := 0x410014, lo := 16, wd := 16, acc := .ro, rst := .c, n := 32, st := 0x800 }
/-- FCH_XTST.XT_ON (Extended timing status): 1: channel in extended timing -/
def FCH_XTST_XT_ON : Fld := { base := 0x410018, lo := 0, wd := 1, acc := .ro, rst := .c, n := 32, st := 0x800 }
/-- FCH_XTST.STEPS (Extended timing status): steps down taken under R239 and R240 -/
def FCH_XTST_STEPS : Fld := { base := 0x410018, lo := 1, wd := 2, acc := .ro, rst := .c, n := 32, st := 0x800 }
/-- FCH_XTST.CHECKS (Extended timing status): eye checks run, saturating -/
def FCH_XTST_CHECKS : Fld := { base := 0x410018, lo := 3, wd := 16, acc := .ro, rst := .w, n := 32, st := 0x800 }
/-- FCH_XTST.RETRAINS (Extended timing status): full retrainings, saturating -/
def FCH_XTST_RETRAINS : Fld := { base := 0x410018, lo := 19, wd := 8, acc := .ro, rst := .w, n := 32, st := 0x800 }
/-- FCH_DFENCE.FENCE (Dies fenced): bit b of element e: die 32e + b fenced (R242, R261) -/
def FCH_DFENCE_FENCE : Fld := { base := 0x410020, lo := 0, wd := 32, acc := .ro, rst := .c, n := 32, st := 0x800, n2 := 4, st2 := 32 }
/-- FCH_DSEL.DIE (Die select): die shown in the per-die registers, 0–127 -/
def FCH_DSEL_DIE : Fld := { base := 0x410030, lo := 0, wd := 7, acc := .rw, rst := .w, n := 32, st := 0x800 }
/-- FCH_DINFO.STATE (Die state): 0: absent; 1: in service; 2: fenced; 3: idle, undeclared -/
def FCH_DINFO_STATE : Fld := { base := 0x410034, lo := 0, wd := 2, acc := .ro, rst := .c, n := 32, st := 0x800 }
/-- FCH_DINFO.TMO (Die state): timeouts this boot (R261) -/
def FCH_DINFO_TMO : Fld := { base := 0x410034, lo := 2, wd := 4, acc := .ro, rst := .c, n := 32, st := 0x800 }
/-- FCH_DINFO.SUSP (Die state): 0: none; 1: program suspended; 2: erase suspended -/
def FCH_DINFO_SUSP : Fld := { base := 0x410034, lo := 6, wd := 2, acc := .ro, rst := .w, n := 32, st := 0x800 }
/-- FCH_DRD.READS (Die reads): codewords read, saturating -/
def FCH_DRD_READS : Fld := { base := 0x410038, lo := 0, wd := 32, acc := .ro, rst := .c, n := 32, st := 0x800 }
/-- FCH_DPRG.PROGS (Die programs): program operations, saturating -/
def FCH_DPRG_PROGS : Fld := { base := 0x41003C, lo := 0, wd := 32, acc := .ro, rst := .c, n := 32, st := 0x800 }
/-- FCH_DERS.ERASES (Die erases): erase operations, saturating -/
def FCH_DERS_ERASES : Fld := { base := 0x410040, lo := 0, wd := 32, acc := .ro, rst := .c, n := 32, st := 0x800 }
/-- FCH_DITER.ITER_MEAN (Decode effort): mean hard-decode iterations over the last 65,536 decodes, unsigned Q8.8 -/
def FCH_DITER_ITER_MEAN : Fld := { base := 0x410044, lo := 0, wd := 16, acc := .ro, rst := .c, n := 32, st := 0x800 }
/-- FCH_DITER.BITS_MAX (Decode effort): most corrected bits in one codeword since cold boot -/
def FCH_DITER_BITS_MAX : Fld := { base := 0x410044, lo := 16, wd := 16, acc := .ro, rst := .c, n := 32, st := 0x800 }
/-- FCH_DSOFT.SOFT (Soft decodes): reads that reached step 2 of R253, saturating -/
def FCH_DSOFT_SOFT : Fld := { base := 0x410048, lo := 0, wd := 32, acc := .ro, rst := .c, n := 32, st := 0x800 }
/-- FCH_DRTY.RETRY (Read retries): reads that reached step 3 of R253, saturating -/
def FCH_DRTY_RETRY : Fld := { base := 0x41004C, lo := 0, wd := 32, acc := .ro, rst := .c, n := 32, st := 0x800 }
/-- FCH_DUNC.UNC (Uncorrectable reads): reads reported under step 4 of R253, saturating -/
def FCH_DUNC_UNC : Fld := { base := 0x410050, lo := 0, wd := 32, acc := .ro, rst := .c, n := 32, st := 0x800 }
/-- FCH_DFAIL.PFAIL (Program and erase failures): programs reported failed, saturating -/
def FCH_DFAIL_PFAIL : Fld := { base := 0x410054, lo := 0, wd := 16, acc := .ro, rst := .c, n := 32, st := 0x800 }
/-- FCH_DFAIL.EFAIL (Program and erase failures): erases reported failed, saturating -/
def FCH_DFAIL_EFAIL : Fld := { base := 0x410054, lo := 16, wd := 16, acc := .ro, rst := .c, n := 32, st := 0x800 }
/-- FCH_DSUS.PSUS_CNT (Suspends): program suspends, saturating -/
def FCH_DSUS_PSUS_CNT : Fld := { base := 0x410058, lo := 0, wd := 16, acc := .ro, rst := .c, n := 32, st := 0x800 }
/-- FCH_DSUS.ESUS_CNT (Suspends): erase suspends, saturating -/
def FCH_DSUS_ESUS_CNT : Fld := { base := 0x410058, lo := 16, wd := 16, acc := .ro, rst := .c, n := 32, st := 0x800 }
/-- FCH_DTIME.TPROG_MEAN (Measured times): mean native program time over the last 256 programs, µs, rounded up -/
def FCH_DTIME_TPROG_MEAN : Fld := { base := 0x41005C, lo := 0, wd := 16, acc := .ro, rst := .c, n := 32, st := 0x800 }
/-- FCH_DTIME.TBERS_MEAN (Measured times): mean erase time over the last 256 erases, units of 10 µs, rounded up -/
def FCH_DTIME_TBERS_MEAN : Fld := { base := 0x41005C, lo := 16, wd := 16, acc := .ro, rst := .c, n := 32, st := 0x800 }
/-- FCH_RSEL.GROUP (Reference select): block group, 0–15 -/
def FCH_RSEL_GROUP : Fld := { base := 0x410060, lo := 0, wd := 4, acc := .rw, rst := .w, n := 32, st := 0x800 }
/-- FCH_RSEL.REF (Reference select): reference, 0–14; a value at or beyond the group's reference count is rejected and FCC_STAT.CFG_REJ is set -/
def FCH_RSEL_REF : Fld := { base := 0x410060, lo := 4, wd := 4, acc := .rw, rst := .w, n := 32, st := 0x800, mx := 14 }
/-- FCH_ROFF.OFFSET (Tracked reference offset): signed offset in read-offset steps of the die in FCHn_DSEL, group and reference in FCHn_RSEL (R257) -/
def FCH_ROFF_OFFSET : Fld := { base := 0x410064, lo := 0, wd := 8, acc := .ro, rst := .c, n := 32, st := 0x800 }
/-- FCH_ROFF.MEAN (Tracked reference offset): running mean of R258, units of 1/16 bit, saturating at 255 -/
def FCH_ROFF_MEAN : Fld := { base := 0x410064, lo := 8, wd := 8, acc := .ro, rst := .c, n := 32, st := 0x800 }
/-- FCH_ROFF.PROBES (Tracked reference offset): probes run on the group, saturating -/
def FCH_ROFF_PROBES : Fld := { base := 0x410064, lo := 16, wd := 16, acc := .ro, rst := .c, n := 32, st := 0x800 }
/-- FTL_STAT.MAP_IMG (FTL status): 1: image map loaded -/
def FTL_STAT_MAP_IMG : Fld := { base := 0x500000, lo := 0, wd := 1, acc := .ro, rst := .c }
/-- FTL_STAT.MAP_NS (FTL status): 1: namespace maps loaded -/
def FTL_STAT_MAP_NS : Fld := { base := 0x500000, lo := 1, wd := 1, acc := .ro, rst := .c }
/-- FTL_STAT.GC_ACT (FTL status): 1: GC running -/
def FTL_STAT_GC_ACT : Fld := { base := 0x500000, lo := 2, wd := 1, acc := .ro, rst := .c }
/-- FTL_STAT.GC_URGENT (FTL status): 1: class 6 marked urgent (R282) -/
def FTL_STAT_GC_URGENT : Fld := { base := 0x500000, lo := 3, wd := 1, acc := .ro, rst := .c }
/-- FTL_STAT.WL_BUSY (FTL status): 1: static wear levelling running -/
def FTL_STAT_WL_BUSY : Fld := { base := 0x500000, lo := 4, wd := 1, acc := .ro, rst := .c }
/-- FTL_STAT.CP_BUSY (FTL status): 1: checkpoint running -/
def FTL_STAT_CP_BUSY : Fld := { base := 0x500000, lo := 5, wd := 1, acc := .ro, rst := .c }
/-- FTL_STAT.RSV_SHORT (FTL status): 1: reserve below N_rsv -/
def FTL_STAT_RSV_SHORT : Fld := { base := 0x500000, lo := 6, wd := 1, acc := .ro, rst := .c }
/-- FTL_STAT.SPARE_LOW (FTL status): 1: AVAIL below SPARE_WARN -/
def FTL_STAT_SPARE_LOW : Fld := { base := 0x500000, lo := 7, wd := 1, acc := .ro, rst := .c }
/-- FTL_STAT.NS_RO (FTL status): 1: namespaces read-only (R299) -/
def FTL_STAT_NS_RO : Fld := { base := 0x500000, lo := 8, wd := 1, acc := .ro, rst := .c }
/-- FTL_STAT.WITHDRAWN (FTL status): 1: persistence withdrawn (R300) -/
def FTL_STAT_WITHDRAWN : Fld := { base := 0x500000, lo := 9, wd := 1, acc := .ro, rst := .c }
/-- FTL_STAT.CFG_REJ (FTL status): 1: a write to an FTL register was rejected -/
def FTL_STAT_CFG_REJ : Fld := { base := 0x500000, lo := 10, wd := 1, acc := .rw1c, rst := .w }
/-- FTL_S.VAL (Pool terms): S, N_img, N_rsv and N_ns of R278, superblocks -/
def FTL_S_VAL : Fld := { base := 0x500004, lo := 0, wd := 32, acc := .ro, rst := .c }
/-- FTL_NIMG.VAL (Pool terms): S, N_img, N_rsv and N_ns of R278, superblocks -/
def FTL_NIMG_VAL : Fld := { base := 0x500008, lo := 0, wd := 32, acc := .ro, rst := .c }
/-- FTL_NRSV.VAL (Pool terms): S, N_img, N_rsv and N_ns of R278, superblocks -/
def FTL_NRSV_VAL : Fld := { base := 0x50000C, lo := 0, wd := 32, acc := .ro, rst := .c }
/-- FTL_NNS.VAL (Pool terms): S, N_img, N_rsv and N_ns of R278, superblocks -/
def FTL_NNS_VAL : Fld := { base := 0x500010, lo := 0, wd := 32, acc := .ro, rst := .c }
/-- FTL_SPARE.P (Spare): P of R278, signed, superblocks -/
def FTL_SPARE_P : Fld := { base := 0x500014, lo := 0, wd := 32, acc := .ro, rst := .c }
/-- FTL_SPARE0.P0 (Initial spare): P0 of R278, superblocks -/
def FTL_SPARE0_P0 : Fld := { base := 0x500018, lo := 0, wd := 32, acc := .ro, rst := .c }
/-- FTL_AVAIL.AVAIL (Available spare): percent, 0–100 -/
def FTL_AVAIL_AVAIL : Fld := { base := 0x50001C, lo := 0, wd := 8, acc := .ro, rst := .c }
/-- FTL_AVAIL.SPARE_WARN (Available spare): percent, 1–100; default 10; from Erg section 0x14 -/
def FTL_AVAIL_SPARE_WARN : Fld := { base := 0x50001C, lo := 8, wd := 7, acc := .rw, rst := .w, dflt := 10, mn := 1, mx := 100 }
/-- FTL_FREE.F (Free superblocks): erased superblocks outside the reserve -/
def FTL_FREE_F : Fld := { base := 0x500020, lo := 0, wd := 28, acc := .ro, rst := .c }
/-- FTL_FRSV.RSV_FREE (Reserve superblocks): erased superblocks held in the reserve -/
def FTL_FRSV_RSV_FREE : Fld := { base := 0x500024, lo := 0, wd := 28, acc := .ro, rst := .c }
/-- FTL_PEND.PEND (Pending erase): superblocks pending erase (R285) -/
def FTL_PEND_PEND : Fld := { base := 0x500028, lo := 0, wd := 28, acc := .ro, rst := .c }
/-- FTL_GCW.W_V (GC weights): 0–255; default 16; from Erg section 0x14 -/
def FTL_GCW_W_V : Fld := { base := 0x50002C, lo := 0, wd := 8, acc := .rw, rst := .w, dflt := 16 }
/-- FTL_GCW.W_A (GC weights): 0–255; default 1; from Erg section 0x14 -/
def FTL_GCW_W_A : Fld := { base := 0x50002C, lo := 8, wd := 8, acc := .rw, rst := .w, dflt := 1 }
/-- FTL_GCW.W_W (GC weights): 0–255; default 4; from Erg section 0x14 -/
def FTL_GCW_W_W : Fld := { base := 0x50002C, lo := 16, wd := 8, acc := .rw, rst := .w, dflt := 4 }
/-- FTL_GCTH.GC_ST (GC thresholds): superblocks; default 64; from Erg section 0x14 -/
def FTL_GCTH_GC_ST : Fld := { base := 0x500030, lo := 0, wd := 10, acc := .rw, rst := .w, dflt := 64 }
/-- FTL_GCTH.GC_URG (GC thresholds): superblocks; default 16; from Erg section 0x14 -/
def FTL_GCTH_GC_URG : Fld := { base := 0x500030, lo := 10, wd := 10, acc := .rw, rst := .w, dflt := 16 }
/-- FTL_GCTH.GC_STOP (GC thresholds): superblocks; default 96; a write that leaves GC_URG < GC_ST < GC_STOP false is rejected and CFG_REJ is set -/
def FTL_GCTH_GC_STOP : Fld := { base := 0x500030, lo := 20, wd := 10, acc := .rw, rst := .w, dflt := 96 }
/-- FTL_WL.WL_SPREAD (Wear levelling): equivalents, 16–65,535; default 400; from Erg section 0x14 -/
def FTL_WL_WL_SPREAD : Fld := { base := 0x500034, lo := 0, wd := 16, acc := .rw, rst := .w, dflt := 400, mn := 16 }
/-- FTL_WEAR.WMIN (Wear range): lowest wear among closed superblocks, saturating -/
def FTL_WEAR_WMIN : Fld := { base := 0x500038, lo := 0, wd := 16, acc := .ro, rst := .c }
/-- FTL_WEAR.WMAX (Wear range): highest wear in service, saturating -/
def FTL_WEAR_WMAX : Fld := { base := 0x500038, lo := 16, wd := 16, acc := .ro, rst := .c }
/-- FTL_RWR.CB_LIM (Rewrite threshold): corrected bits, 1–511; default 200; from Erg section 0x14 -/
def FTL_RWR_CB_LIM : Fld := { base := 0x50003C, lo := 0, wd := 9, acc := .rw, rst := .w, dflt := 200, mn := 1 }
/-- FTL_RDLIM.RL_SLC (Read limits): units of 1,024 reads; default 1,000; from Erg section 0x14 -/
def FTL_RDLIM_RL_SLC : Fld := { base := 0x500040, lo := 0, wd := 16, acc := .rw, rst := .w, dflt := 1000 }
/-- FTL_RDLIM.RL_NAT (Read limits): units of 1,024 reads; default 100; from Erg section 0x14 -/
def FTL_RDLIM_RL_NAT : Fld := { base := 0x500040, lo := 16, wd := 16, acc := .rw, rst := .w, dflt := 100 }
/-- FTL_CP.CP_GIB (Checkpoint and fold): GiB, 1–255; default 64; from Erg section 0x14 -/
def FTL_CP_CP_GIB : Fld := { base := 0x500044, lo := 0, wd := 8, acc := .rw, rst := .w, dflt := 64, mn := 1 }
/-- FTL_CP.FOLD_HI (Checkpoint and fold): percent, 2–100; default 90; from Erg section 0x14 -/
def FTL_CP_FOLD_HI : Fld := { base := 0x500044, lo := 8, wd := 7, acc := .rw, rst := .w, dflt := 90, mn := 2, mx := 100 }
/-- FTL_CP.FOLD_LO (Checkpoint and fold): percent; default 75; a value not below FOLD_HI is rejected and CFG_REJ is set -/
def FTL_CP_FOLD_LO : Fld := { base := 0x500044, lo := 15, wd := 7, acc := .rw, rst := .w, dflt := 75 }
/-- FTL_CPT.CP_TICKS (Checkpoint period): ticks, 32,768–4,294,967,295; default 983,040 (30 s); from Erg section 0x14 -/
def FTL_CPT_CP_TICKS : Fld := { base := 0x500048, lo := 0, wd := 32, acc := .rw, rst := .w, dflt := 983040, mn := 32768 }
/-- FTL_CSEQ.CSEQ (Checkpoint sequence): sequence of the last complete checkpoint -/
def FTL_CSEQ_CSEQ : Fld := { base := 0x50004C, lo := 0, wd := 32, acc := .ro, rst := .c }
/-- FTL_FGRP.GROUPS (Fine groups): element 0: groups in use; element 1: groups available (R275) -/
def FTL_FGRP_GROUPS : Fld := { base := 0x500050, lo := 0, wd := 32, acc := .ro, rst := .c, n := 2, st := 0x4 }
/-- FTL_LIFE.LIFE_IMG (Life figures): Life Used, percent (R301) -/
def FTL_LIFE_LIFE_IMG : Fld := { base := 0x500058, lo := 0, wd := 8, acc := .ro, rst := .c }
/-- FTL_LIFE.PCT_USED (Life figures): Percentage Used, percent, saturating at 255 -/
def FTL_LIFE_PCT_USED : Fld := { base := 0x500058, lo := 8, wd := 8, acc := .ro, rst := .c }
/-- FTL_RETB.RETB (Retired blocks): member blocks retired in service, factory marks excluded -/
def FTL_RETB_RETB : Fld := { base := 0x50005C, lo := 0, wd := 32, acc := .ro, rst := .c }
/-- FTL_DIES.DIES_RET (Dies and interrupted erases): dies retired (R297) -/
def FTL_DIES_DIES_RET : Fld := { base := 0x500060, lo := 0, wd := 13, acc := .ro, rst := .c }
/-- FTL_DIES.INTR (Dies and interrupted erases): interrupted erases found at this boot (R295) -/
def FTL_DIES_INTR : Fld := { base := 0x500060, lo := 16, wd := 16, acc := .ro, rst := .c }
/-- FTL_REBLD.REBUILT (Rebuilds): codewords rebuilt, saturating -/
def FTL_REBLD_REBUILT : Fld := { base := 0x500064, lo := 0, wd := 16, acc := .ro, rst := .c }
/-- FTL_REBLD.UNREC (Rebuilds): slots unrecovered, saturating -/
def FTL_REBLD_UNREC : Fld := { base := 0x500064, lo := 16, wd := 16, acc := .ro, rst := .c }
/-- FTL_RWS.RWS (Rewrites): superblocks scheduled under R287, saturating -/
def FTL_RWS_RWS : Fld := { base := 0x500068, lo := 0, wd := 32, acc := .ro, rst := .c }
/-- FTL_SCAN.SCAN_PER (Scan period): hours, 1–65,535; default 168; from Erg section 0x14 -/
def FTL_SCAN_SCAN_PER : Fld := { base := 0x50006C, lo := 0, wd := 16, acc := .rw, rst := .w, dflt := 168, mn := 1 }
/-- FTL_BSEL.DIE (Block select): die, as Table 9-1 DIE -/
def FTL_BSEL_DIE : Fld := { base := 0x500070, lo := 0, wd := 12, acc := .rw, rst := .w }
/-- FTL_BSEL.PBLK (Block select): plane-block; a value at or beyond BLOCKS is rejected and CFG_REJ is set -/
def FTL_BSEL_PBLK : Fld := { base := 0x500070, lo := 12, wd := 20, acc := .rw, rst := .w }
/-- FTL_BINFO.STATE (Block state): 0: free; 1: open; 2: closed; 3: pending erase; 4: retired; 5: die record or anchor; 6: parked -/
def FTL_BINFO_STATE : Fld := { base := 0x500074, lo := 0, wd := 3, acc := .ro, rst := .c }
/-- FTL_BINFO.MODE (Block state): 0: pseudo-SLC; 1: native -/
def FTL_BINFO_MODE : Fld := { base := 0x500074, lo := 3, wd := 1, acc := .ro, rst := .c }
/-- FTL_BINFO.TENANT (Block state): 0: image; 1: namespaces; 2: system; 3: none -/
def FTL_BINFO_TENANT : Fld := { base := 0x500074, lo := 4, wd := 2, acc := .ro, rst := .c }
/-- FTL_BINFO.GROUP (Block state): block group (R289) -/
def FTL_BINFO_GROUP : Fld := { base := 0x500074, lo := 6, wd := 4, acc := .ro, rst := .c }
/-- FTL_BINFO.RWSCHED (Block state): 1: scheduled for rewrite -/
def FTL_BINFO_RWSCHED : Fld := { base := 0x500074, lo := 10, wd := 1, acc := .ro, rst := .c }
/-- FTL_BWEAR.WEAR (Block wear): wear of the selected block, pseudo-SLC equivalents (R272) -/
def FTL_BWEAR_WEAR : Fld := { base := 0x500078, lo := 0, wd := 32, acc := .ro, rst := .c }
/-- FTL_BREAD.READS (Block reads): reads of the selected block's superblock since its erase, saturating -/
def FTL_BREAD_READS : Fld := { base := 0x50007C, lo := 0, wd := 32, acc := .ro, rst := .c }
/-- NVC_STAT.RUN (NVMe engine status): 1: NVMe engine in service (SL4) -/
def NVC_STAT_RUN : Fld := { base := 0x600000, lo := 0, wd := 1, acc := .ro, rst := .c }
/-- NVC_STAT.STG_OFF (NVMe engine status): copy of LDG_STAT.STG_OFF -/
def NVC_STAT_STG_OFF : Fld := { base := 0x600000, lo := 1, wd := 1, acc := .ro, rst := .c }
/-- NVC_STAT.PERS_ABS (NVMe engine status): 1: persistence reported absent; every namespace is WT -/
def NVC_STAT_PERS_ABS : Fld := { base := 0x600000, lo := 2, wd := 1, acc := .ro, rst := .c }
/-- NVC_STAT.ADMIN_PAUSE (NVMe engine status): 1: admin fetch paused for firmware activation -/
def NVC_STAT_ADMIN_PAUSE : Fld := { base := 0x600000, lo := 3, wd := 1, acc := .ro, rst := .c }
/-- NVC_STAT.CFG_REJ (NVMe engine status): 1: a write to an NVC register was rejected -/
def NVC_STAT_CFG_REJ : Fld := { base := 0x600000, lo := 4, wd := 1, acc := .rw1c, rst := .w }
/-- NVC_FCFG0.VF_A (Function allotment): from Erg section 0x02 -/
def NVC_FCFG0_VF_A : Fld := { base := 0x600004, lo := 0, wd := 7, acc := .ro, rst := .c }
/-- NVC_FCFG0.VF_B (Function allotment): from Erg section 0x02 -/
def NVC_FCFG0_VF_B : Fld := { base := 0x600004, lo := 7, wd := 7, acc := .ro, rst := .c }
/-- NVC_FCFG0.QP_PF (Function allotment): from Erg section 0x02 -/
def NVC_FCFG0_QP_PF : Fld := { base := 0x600004, lo := 14, wd := 11, acc := .ro, rst := .c }
/-- NVC_FCFG0.QP_VF (Function allotment): from Erg section 0x02 -/
def NVC_FCFG0_QP_VF : Fld := { base := 0x600004, lo := 25, wd := 7, acc := .ro, rst := .c }
/-- NVC_FCFG1.CMD_MAX_F (Command and queue limits): from Erg section 0x02 -/
def NVC_FCFG1_CMD_MAX_F : Fld := { base := 0x600008, lo := 0, wd := 15, acc := .ro, rst := .c }
/-- NVC_FCFG1.MQES (Command and queue limits): entries per I/O queue, from Erg section 0x02 -/
def NVC_FCFG1_MQES : Fld := { base := 0x600008, lo := 15, wd := 17, acc := .ro, rst := .c }
/-- NVC_FCFG2.VEC_PF (Vectors): from Erg section 0x02 -/
def NVC_FCFG2_VEC_PF : Fld := { base := 0x60000C, lo := 0, wd := 12, acc := .ro, rst := .c }
/-- NVC_FCFG2.VEC_VF (Vectors): from Erg section 0x02 -/
def NVC_FCFG2_VEC_VF : Fld := { base := 0x60000C, lo := 12, wd := 7, acc := .ro, rst := .c }
/-- NVC_CMD.INFL (Commands in flight): tags in use, 0–16,384 -/
def NVC_CMD_INFL : Fld := { base := 0x600010, lo := 0, wd := 15, acc := .ro, rst := .w }
/-- NVC_LOCK.LOCK_USED (Range locks): entries in use, 0–2,048 -/
def NVC_LOCK_LOCK_USED : Fld := { base := 0x600014, lo := 0, wd := 12, acc := .ro, rst := .w }
/-- NVC_LOCK.LOCK_WAIT (Range locks): commands stalled on an overlap (R323) -/
def NVC_LOCK_LOCK_WAIT : Fld := { base := 0x600014, lo := 12, wd := 12, acc := .ro, rst := .w }
/-- NVC_STALL.SQ_STALL (Stalled queues): submission queues stalled for entries (R324), 0–4,096 -/
def NVC_STALL_SQ_STALL : Fld := { base := 0x600018, lo := 0, wd := 13, acc := .ro, rst := .w }
/-- NVC_STG.STG_TOTAL (Staging capacity): staging pages, from the carve-out -/
def NVC_STG_STG_TOTAL : Fld := { base := 0x60001C, lo := 0, wd := 24, acc := .ro, rst := .c }
/-- NVC_STGU.STG_USED (Staging in use): staging pages in use, held and WT together -/
def NVC_STGU_STG_USED : Fld := { base := 0x600020, lo := 0, wd := 24, acc := .ro, rst := .c }
/-- NVC_STGW.STG_WAITS (Staging waits): writes that waited for staging pages (R318), saturating -/
def NVC_STGW_STG_WAITS : Fld := { base := 0x600024, lo := 0, wd := 32, acc := .ro, rst := .c }
/-- NVC_WTN.WT_NS (Write-through namespaces): namespaces whose effective mode is WT -/
def NVC_WTN_WT_NS : Fld := { base := 0x600028, lo := 0, wd := 11, acc := .ro, rst := .c }
/-- NVC_SWCNT.SWITCHES (Switches to write-through): namespace changes to WT since cold boot, saturating -/
def NVC_SWCNT_SWITCHES : Fld := { base := 0x60002C, lo := 0, wd := 32, acc := .ro, rst := .c }
/-- NVC_MERGE.MERGES (Partial-slot merges): merges under R319, saturating -/
def NVC_MERGE_MERGES : Fld := { base := 0x600030, lo := 0, wd := 32, acc := .ro, rst := .c }
/-- NVC_ABRT.ABRT_REQ (Aborts): Abort commands received, saturating -/
def NVC_ABRT_ABRT_REQ : Fld := { base := 0x600034, lo := 0, wd := 16, acc := .ro, rst := .w }
/-- NVC_ABRT.ABRT_HIT (Aborts): targets caught before execution, saturating -/
def NVC_ABRT_ABRT_HIT : Fld := { base := 0x600034, lo := 16, wd := 16, acc := .ro, rst := .w }
/-- NVC_LOSS.LOST_LBA (Restore losses): LBAs set Unrecovered under R327 at the last restore -/
def NVC_LOSS_LOST_LBA : Fld := { base := 0x600038, lo := 0, wd := 32, acc := .ro, rst := .c }
/-- NVC_LOSSNS.NS_STG (Namespaces with loss): namespaces with flag bit 0 set -/
def NVC_LOSSNS_NS_STG : Fld := { base := 0x60003C, lo := 0, wd := 11, acc := .ro, rst := .c }
/-- NVC_LOSSNS.NS_UNK (Namespaces with loss): namespaces with flag bit 1 set -/
def NVC_LOSSNS_NS_UNK : Fld := { base := 0x60003C, lo := 16, wd := 11, acc := .ro, rst := .c }
/-- NVC_FNSEL.FN (Function select): controller ID shown in NVC_FNINFO; a function absent from the allotment is rejected and CFG_REJ is set -/
def NVC_FNSEL_FN : Fld := { base := 0x600040, lo := 0, wd := 7, acc := .rw, rst := .w }
/-- NVC_FNINFO.EN (Function state): CC.EN -/
def NVC_FNINFO_EN : Fld := { base := 0x600044, lo := 0, wd := 1, acc := .ro, rst := .f }
/-- NVC_FNINFO.RDY (Function state): CSTS.RDY -/
def NVC_FNINFO_RDY : Fld := { base := 0x600044, lo := 1, wd := 1, acc := .ro, rst := .f }
/-- NVC_FNINFO.PS (Function state): power state in force -/
def NVC_FNINFO_PS : Fld := { base := 0x600044, lo := 2, wd := 2, acc := .ro, rst := .f }
/-- NVC_FNINFO.PS_ENTRY (Function state): 1: PS3 entry in progress (R332) -/
def NVC_FNINFO_PS_ENTRY : Fld := { base := 0x600044, lo := 4, wd := 1, acc := .ro, rst := .f }
/-- NVC_FNINFO.INFL (Function state): tags held by the function -/
def NVC_FNINFO_INFL : Fld := { base := 0x600044, lo := 5, wd := 15, acc := .ro, rst := .f }
/-- NVC_FNINFO.QP (Function state): I/O queue pairs allotted -/
def NVC_FNINFO_QP : Fld := { base := 0x600044, lo := 20, wd := 11, acc := .ro, rst := .c }
/-- NVC_NSSEL.NSID (Namespace select): namespace shown in NVC_NSINFO, 1–1,024; reset value 1; 0 or above 1,024 is rejected and CFG_REJ is set -/
def NVC_NSSEL_NSID : Fld := { base := 0x600048, lo := 0, wd := 11, acc := .rw, rst := .w, dflt := 1, mn := 1, mx := 1024 }
/-- NVC_NSINFO.PRESENT (Namespace state): 1: namespace exists -/
def NVC_NSINFO_PRESENT : Fld := { base := 0x60004C, lo := 0, wd := 1, acc := .ro, rst := .c }
/-- NVC_NSINFO.READY (Namespace state): 1: ready under R328 -/
def NVC_NSINFO_READY : Fld := { base := 0x60004C, lo := 1, wd := 1, acc := .ro, rst := .c }
/-- NVC_NSINFO.CFG_WT (Namespace state): configured mode. 0: WBP; 1: WT -/
def NVC_NSINFO_CFG_WT : Fld := { base := 0x60004C, lo := 2, wd := 1, acc := .ro, rst := .c }
/-- NVC_NSINFO.EFF_WT (Namespace state): effective mode. 0: WBP; 1: WT -/
def NVC_NSINFO_EFF_WT : Fld := { base := 0x60004C, lo := 3, wd := 1, acc := .ro, rst := .c }
/-- NVC_NSINFO.CAUSE (Namespace state): 0: none; 1: configured WT; 2: STG_OFF; 3: persistence absent -/
def NVC_NSINFO_CAUSE : Fld := { base := 0x60004C, lo := 4, wd := 2, acc := .ro, rst := .c }
/-- NVC_NSINFO.LOSS_STG (Namespace state): 1: lost staged LBAs (R327) -/
def NVC_NSINFO_LOSS_STG : Fld := { base := 0x60004C, lo := 6, wd := 1, acc := .ro, rst := .c }
/-- NVC_NSINFO.LOSS_UNK (Namespace state): 1: loss of unknown extent (R327) -/
def NVC_NSINFO_LOSS_UNK : Fld := { base := 0x60004C, lo := 7, wd := 1, acc := .ro, rst := .c }
/-- NVC_NSINFO.RO_NS (Namespace state): 1: read-only under R299 -/
def NVC_NSINFO_RO_NS : Fld := { base := 0x60004C, lo := 8, wd := 1, acc := .ro, rst := .c }
/-- NVC_NSINFO.LBAF (Namespace state): LBA format, Table 10-6 -/
def NVC_NSINFO_LBAF : Fld := { base := 0x60004C, lo := 9, wd := 3, acc := .ro, rst := .c }
/-- CRC_STAT.CLAIMED (Check-value status): bit n: GEn owned -/
def CRC_STAT_CLAIMED : Fld := { base := 0x700000, lo := 0, wd := 8, acc := .ro, rst := .w }
/-- CRC_STAT.CFG_REJ (Check-value status): 1: a write to a CRC register was rejected -/
def CRC_STAT_CFG_REJ : Fld := { base := 0x700000, lo := 8, wd := 1, acc := .rw1c, rst := .w }
/-- CRC_DPERR.PI_ERR (Data-path check failures): guard mismatches under R355, both ports, saturating -/
def CRC_DPERR_PI_ERR : Fld := { base := 0x700004, lo := 0, wd := 16, acc := .ro, rst := .c }
/-- CRC_DPERR.PG_ERR (Data-path check failures): descriptor mismatches under R356, all clusters, saturating -/
def CRC_DPERR_PG_ERR : Fld := { base := 0x700004, lo := 16, wd := 16, acc := .ro, rst := .c }
/-- CRC_GE_OWN.OWNER (Engine ownership): 0: free; 1–4: MC0–MC3; 5: host through BAR0; 6: TWI0 -/
def CRC_GE_OWN_OWNER : Fld := { base := 0x700100, lo := 0, wd := 3, acc := .ro, rst := .w, n := 8, st := 0x40 }
/-- CRC_GE_OWN.CLAIM (Engine ownership): 1: claim under R362 -/
def CRC_GE_OWN_CLAIM : Fld := { base := 0x700100, lo := 3, wd := 1, acc := .w1s, rst := .n, n := 8, st := 0x40 }
/-- CRC_GE_OWN.RELEASE (Engine ownership): 1: release; ignored unless written by the owner -/
def CRC_GE_OWN_RELEASE : Fld := { base := 0x700100, lo := 4, wd := 1, acc := .w1s, rst := .n, n := 8, st := 0x40 }
/-- CRC_GE_OWN.OWNER_RST (Engine ownership): 1: the previous owner was reset (R363) -/
def CRC_GE_OWN_OWNER_RST : Fld := { base := 0x700100, lo := 5, wd := 1, acc := .ro, rst := .w, n := 8, st := 0x40 }
/-- CRC_GE_CTL.POLY (Engine control): polynomial code, Table 12-1; Idle is LEN 0 -/
def CRC_GE_CTL_POLY : Fld := { base := 0x700104, lo := 0, wd := 2, acc := .rwl, rst := .w, n := 8, st := 0x40 }
/-- CRC_GE_CTL.INIT (Engine control): 1: VAL to the initial value, LEN to 0 -/
def CRC_GE_CTL_INIT : Fld := { base := 0x700104, lo := 2, wd := 1, acc := .w1s, rst := .n, n := 8, st := 0x40 }
/-- CRC_GE_DIN_B.DIN (Data input): element 0: bits [7:0] consumed; 1: bits [15:0]; 2: bits [31:0] (R358) -/
def CRC_GE_DIN_B_DIN : Fld := { base := 0x700108, lo := 0, wd := 32, acc := .wo, rst := .n, n := 8, st := 0x40 }
/-- CRC_GE_DIN_H.DIN (Data input): element 0: bits [7:0] consumed; 1: bits [15:0]; 2: bits [31:0] (R358) -/
def CRC_GE_DIN_H_DIN : Fld := { base := 0x70010C, lo := 0, wd := 32, acc := .wo, rst := .n, n := 8, st := 0x40 }
/-- CRC_GE_DIN_W.DIN (Data input): element 0: bits [7:0] consumed; 1: bits [15:0]; 2: bits [31:0] (R358) -/
def CRC_GE_DIN_W_DIN : Fld := { base := 0x700110, lo := 0, wd := 32, acc := .wo, rst := .n, n := 8, st := 0x40 }
/-- CRC_GEn_VAL.VAL (Running value): running value (R360); bits above the polynomial's width read 0 and ignore writes -/
def CRC_GE_VAL_VAL : Fld := { base := 0x700114, lo := 0, wd := 64, acc := .rw, rst := .w, n := 8, st := 0x40 }
/-- CRC_GEn_RES.RES (Result): finished result; bits above the polynomial's width read 0 -/
def CRC_GE_RES_RES : Fld := { base := 0x70011C, lo := 0, wd := 64, acc := .ro, rst := .w, n := 8, st := 0x40 }
/-- CRC_GE_LEN.LEN (Byte count): bytes consumed since INIT, wrapping at 2³² -/
def CRC_GE_LEN_LEN : Fld := { base := 0x700124, lo := 0, wd := 32, acc := .rw, rst := .w, n := 8, st := 0x40 }
/-- GAU_STAT.PSTATE (Gauge status): 0: Absent; 1: Unknown; 2: Known; 3: Fault -/
def GAU_STAT_PSTATE : Fld := { base := 0x800000, lo := 0, wd := 3, acc := .ro, rst := .a }
/-- GAU_STAT.FCAUSE (Gauge status): 0: none; 1: ID mismatch; 2: NTC open or shorted; 3: above T_HOT; 4: ID changed; 5: tables invalid (R366) -/
def GAU_STAT_FCAUSE : Fld := { base := 0x800000, lo := 3, wd := 3, acc := .ro, rst := .a }
/-- GAU_STAT.HIB (Gauge status): 1: hibernating (R379) -/
def GAU_STAT_HIB : Fld := { base := 0x800000, lo := 6, wd := 1, acc := .ro, rst := .a }
/-- GAU_STAT.REST (Gauge status): 1: pack at rest (R367) -/
def GAU_STAT_REST : Fld := { base := 0x800000, lo := 7, wd := 1, acc := .ro, rst := .a }
/-- GAU_STAT.AUD_BUSY (Gauge status): 1: audit running -/
def GAU_STAT_AUD_BUSY : Fld := { base := 0x800000, lo := 8, wd := 1, acc := .ro, rst := .a }
/-- GAU_STAT.COLD (Gauge status): 1: t below TEMP0; e_g is 0 -/
def GAU_STAT_COLD : Fld := { base := 0x800000, lo := 9, wd := 1, acc := .ro, rst := .a }
/-- GAU_STAT.CFG_REJ (Gauge status): 1: a write to a GAU register was rejected -/
def GAU_STAT_CFG_REJ : Fld := { base := 0x800000, lo := 10, wd := 1, acc := .rw1c, rst := .w }
/-- GAU_STAT.TBL_SRC (Gauge status): table source in use. 0: Erg section 0x12; 1: CAL store (R366) -/
def GAU_STAT_TBL_SRC : Fld := { base := 0x800000, lo := 11, wd := 1, acc := .ro, rst := .a }
/-- GAU_EG.E_G (Deliverable energy): latest estimate, grains, rounded down (R368) -/
def GAU_EG_E_G : Fld := { base := 0x800004, lo := 0, wd := 32, acc := .ro, rst := .a }
/-- GAU_SOC.SOC (State of charge): soc, units of 2⁻¹⁶, 0–65,536 -/
def GAU_SOC_SOC : Fld := { base := 0x800008, lo := 0, wd := 17, acc := .ro, rst := .a }
/-- GAU_SOC.SOC_REP (State of charge): reported percent (R372) -/
def GAU_SOC_SOC_REP : Fld := { base := 0x800008, lo := 17, wd := 7, acc := .ro, rst := .a }
/-- GAU_MEAS.V (Last sample): pack voltage, mV -/
def GAU_MEAS_V : Fld := { base := 0x80000C, lo := 0, wd := 16, acc := .ro, rst := .a }
/-- GAU_MEAS.T (Last sample): pack temperature, Q12.4 °C -/
def GAU_MEAS_T : Fld := { base := 0x80000C, lo := 16, wd := 16, acc := .ro, rst := .a }
/-- GAU_QL.Q_L (Learned capacity): mC, rounded down -/
def GAU_QL_Q_L : Fld := { base := 0x800010, lo := 0, wd := 32, acc := .ro, rst := .a }
/-- GAU_RF.RFAC (Resistance factor and derate): permille, rounded up -/
def GAU_RF_RFAC : Fld := { base := 0x800014, lo := 0, wd := 16, acc := .ro, rst := .a }
/-- GAU_RF.DERATE (Resistance factor and derate): permille. 500: Unknown; 1,000: Known -/
def GAU_RF_DERATE : Fld := { base := 0x800014, lo := 16, wd := 10, acc := .ro, rst := .a }
/-- GAU_ID.ID_CODE (Pack identity): PACK_ID code. 0: shorted; 15: open -/
def GAU_ID_ID_CODE : Fld := { base := 0x800018, lo := 0, wd := 4, acc := .ro, rst := .a }
/-- GAU_ID.SER_OK (Pack identity): 1: serial read -/
def GAU_ID_SER_OK : Fld := { base := 0x800018, lo := 4, wd := 1, acc := .ro, rst := .a }
/-- GAU_SER.SER (Pack serial): pack serial, word 0 low; 0 if SER_OK is 0 -/
def GAU_SER_SER : Fld := { base := 0x80001C, lo := 0, wd := 64, acc := .ro, rst := .a }
/-- GAU_SMP.SMP_INT (Sample and estimate intervals): ticks, 1–65,535; default 32; from Erg section 0x12 -/
def GAU_SMP_SMP_INT : Fld := { base := 0x800024, lo := 0, wd := 16, acc := .rw, rst := .w, dflt := 32, mn := 1 }
/-- GAU_SMP.EST_INT (Sample and estimate intervals): ticks, 32–65,535; default 1,024; a value below 32 is rejected and CFG_REJ is set; from Erg section 0x12 -/
def GAU_SMP_EST_INT : Fld := { base := 0x800024, lo := 16, wd := 16, acc := .rw, rst := .w, dflt := 1024, mn := 32 }
/-- GAU_HIB.HIB_INT (Hibernation interval): ticks, 32,768–4,294,967,295; default 1,966,080 (60 s); from Erg section 0x12 -/
def GAU_HIB_HIB_INT : Fld := { base := 0x800028, lo := 0, wd := 32, acc := .rw, rst := .w, dflt := 1966080, mn := 32768 }
/-- GAU_REST.REST_T (Rest time): ticks, 32–4,294,967,295; default by CHEM (Pack profile); from Erg section 0x12 -/
def GAU_REST_REST_T : Fld := { base := 0x80002C, lo := 0, wd := 32, acc := .rw, rst := .w, dflt := 19660800, mn := 32 }
/-- GAU_THR.REST_DV (Rest and fall thresholds): mV, 1–255; default 5; from Erg section 0x12 -/
def GAU_THR_REST_DV : Fld := { base := 0x800030, lo := 0, wd := 8, acc := .rw, rst := .w, dflt := 5, mn := 1 }
/-- GAU_THR.FALL_TRIG (Rest and fall thresholds): units of 2⁻¹⁶, 1–65,535; default 256; from Erg section 0x12 -/
def GAU_THR_FALL_TRIG : Fld := { base := 0x800030, lo := 8, wd := 16, acc := .rw, rst := .w, dflt := 256, mn := 1 }
/-- GAU_AUD.DEPTH (Audit control): percent, 5–50; default 20; apply boundary under R376; from Erg section 0x12 -/
def GAU_AUD_DEPTH : Fld := { base := 0x800034, lo := 0, wd := 7, acc := .rws, rst := .w, dflt := 20, mn := 5, mx := 50 }
/-- GAU_AUD.AUD_PER (Audit control): days, 1–511; default 30; from Erg section 0x12 -/
def GAU_AUD_AUD_PER : Fld := { base := 0x800034, lo := 7, wd := 9, acc := .rws, rst := .w, dflt := 30, mn := 1 }
/-- GAU_AUD.AUD_EN (Audit control): 1: audits permitted; default 1 -/
def GAU_AUD_AUD_EN : Fld := { base := 0x800034, lo := 16, wd := 1, acc := .rw, rst := .w, dflt := 1 }
/-- GAU_AUDST.LAST_PASS (Audit results): 1: the last audit passed -/
def GAU_AUDST_LAST_PASS : Fld := { base := 0x800038, lo := 0, wd := 1, acc := .ro, rst := .a }
/-- GAU_AUDST.LAST_CAUSE (Audit results): cause of the last disqualification, Table 13-3; 0 if it passed -/
def GAU_AUDST_LAST_CAUSE : Fld := { base := 0x800038, lo := 1, wd := 4, acc := .ro, rst := .a }
/-- GAU_AUDST.PASSES (Audit results): audits passed, saturating -/
def GAU_AUDST_PASSES : Fld := { base := 0x800038, lo := 8, wd := 8, acc := .ro, rst := .a }
/-- GAU_AUDST.DISQ (Audit results): audits disqualified, saturating -/
def GAU_AUDST_DISQ : Fld := { base := 0x800038, lo := 16, wd := 8, acc := .ro, rst := .a }
/-- GAU_AUDT.TICK (Last passing audit): tick timestamp, word 0 low; bits [31:16] of word 1 read 0 -/
def GAU_AUDT_TICK : Fld := { base := 0x80003C, lo := 0, wd := 48, acc := .ro, rst := .a }
/-- GAU_PSAV.P_PACK (Measured pack power): p_pack of the last qualifying save, mW (R377); 0: none -/
def GAU_PSAV_P_PACK : Fld := { base := 0x800044, lo := 0, wd := 24, acc := .ro, rst := .a }
/-- GAU_CTL.EST_NOW (Gauge control): 1: make an estimate -/
def GAU_CTL_EST_NOW : Fld := { base := 0x800048, lo := 0, wd := 1, acc := .w1s, rst := .n }
/-- GAU_CTL.LRN_NOW (Gauge control): 1: write the learned values (R378) -/
def GAU_CTL_LRN_NOW : Fld := { base := 0x800048, lo := 1, wd := 1, acc := .w1s, rst := .n }
/-- GAU_LRNT.TICK (Last learned-value write): tick timestamp, word 0 low; bits [31:16] of word 1 read 0 -/
def GAU_LRNT_TICK : Fld := { base := 0x80004C, lo := 0, wd := 48, acc := .ro, rst := .a }
/-- SEQ_STAT.STATE (Sequencer status): 0: Off; 1: Up, phase 1; 2: Up, phase 2; 3: On; 4: Down -/
def SEQ_STAT_STATE : Fld := { base := 0x810000, lo := 0, wd := 3, acc := .ro, rst := .a }
/-- SEQ_STAT.ON_LATCH (Sequencer status): 1: on request latched (R389) -/
def SEQ_STAT_ON_LATCH : Fld := { base := 0x810000, lo := 3, wd := 1, acc := .ro, rst := .a }
/-- SEQ_STAT.REFUSED (Sequencer status): 1: an off request was refused (R390) -/
def SEQ_STAT_REFUSED : Fld := { base := 0x810000, lo := 4, wd := 1, acc := .rw1c, rst := .a }
/-- SEQ_STAT.FLT_DRV (Sequencer status): 1: the device drives SEQ_FLT_N low -/
def SEQ_STAT_FLT_DRV : Fld := { base := 0x810000, lo := 5, wd := 1, acc := .ro, rst := .a }
/-- SEQ_STAT.EXT_FLT (Sequencer status): 1: an external fault was seen (R396) -/
def SEQ_STAT_EXT_FLT : Fld := { base := 0x810000, lo := 6, wd := 1, acc := .rw1c, rst := .a }
/-- SEQ_STAT.BOOTSTRAP (Sequencer status): 1: phase 1 used the bootstrap table (R384) -/
def SEQ_STAT_BOOTSTRAP : Fld := { base := 0x810000, lo := 7, wd := 1, acc := .ro, rst := .a }
/-- SEQ_STAT.CFG_REJ (Sequencer status): 1: a write to a SEQ register was rejected -/
def SEQ_STAT_CFG_REJ : Fld := { base := 0x810000, lo := 8, wd := 1, acc := .rw1c, rst := .w }
/-- SEQ_CTL.OFF (Sequencer control): 1: off request -/
def SEQ_CTL_OFF : Fld := { base := 0x810004, lo := 0, wd := 1, acc := .w1s, rst := .n }
/-- SEQ_CTL.FORCE (Sequencer control): 1 with OFF: accept while memory is ready (R390) -/
def SEQ_CTL_FORCE : Fld := { base := 0x810004, lo := 1, wd := 1, acc := .w1s, rst := .n }
/-- SEQ_CTL.FLT_CLR (Sequencer control): 1: release SEQ_FLT_N (R396) -/
def SEQ_CTL_FLT_CLR : Fld := { base := 0x810004, lo := 2, wd := 1, acc := .w1s, rst := .n }
/-- SEQ_GLB.PG_TMO (Global timing): ticks; from Erg section 0x05 -/
def SEQ_GLB_PG_TMO : Fld := { base := 0x810008, lo := 0, wd := 16, acc := .ro, rst := .a, dflt := 328 }
/-- SEQ_GLB.OFF_WAIT (Global timing): ticks; from Erg section 0x05 -/
def SEQ_GLB_OFF_WAIT : Fld := { base := 0x810008, lo := 16, wd := 16, acc := .ro, rst := .a, dflt := 3277 }
/-- SEQ_TIM.T_MIN_OFF (Off and hold times): ticks; default 3,277 (about 100 ms) -/
def SEQ_TIM_T_MIN_OFF : Fld := { base := 0x81000C, lo := 0, wd := 16, acc := .ro, rst := .a, dflt := 3277 }
/-- SEQ_TIM.FLT_HOLD (Off and hold times): ticks; default 3,277 -/
def SEQ_TIM_FLT_HOLD : Fld := { base := 0x81000C, lo := 16, wd := 16, acc := .ro, rst := .a, dflt := 3277 }
/-- SEQ_FLTC.FLT_IN (Fault-line policy): Table 14-1 -/
def SEQ_FLTC_FLT_IN : Fld := { base := 0x810010, lo := 0, wd := 2, acc := .ro, rst := .a, dflt := 1 }
/-- SEQ_FLTC.TRIP_N (Fault-line policy): scans, 1–15 -/
def SEQ_FLTC_TRIP_N : Fld := { base := 0x810010, lo := 2, wd := 4, acc := .ro, rst := .a, dflt := 3 }
/-- SEQ_FMASK.FLT_MASK (Fault-line rails): bit n: rail n disabled under FLT_IN 2 -/
def SEQ_FMASK_FLT_MASK : Fld := { base := 0x810014, lo := 0, wd := 32, acc := .ro, rst := .a }
/-- SEQ_ON.RAILS (Rail state): bit n. Element 0: SEQ_EN[n] driven; 1: rail n good; 2: rail n failed in the last up-sequence -/
def SEQ_ON_RAILS : Fld := { base := 0x810018, lo := 0, wd := 32, acc := .ro, rst := .a }
/-- SEQ_GOOD.RAILS (Rail state): bit n. Element 0: SEQ_EN[n] driven; 1: rail n good; 2: rail n failed in the last up-sequence -/
def SEQ_GOOD_RAILS : Fld := { base := 0x81001C, lo := 0, wd := 32, acc := .ro, rst := .a }
/-- SEQ_FAIL.RAILS (Rail state): bit n. Element 0: SEQ_EN[n] driven; 1: rail n good; 2: rail n failed in the last up-sequence -/
def SEQ_FAIL_RAILS : Fld := { base := 0x810020, lo := 0, wd := 32, acc := .ro, rst := .a }
/-- SEQ_FLOG.RAIL (Newest sequencing fault): rail -/
def SEQ_FLOG_RAIL : Fld := { base := 0x810024, lo := 0, wd := 5, acc := .ro, rst := .a }
/-- SEQ_FLOG.CAUSE (Newest sequencing fault): 0: none; 1: not good within PG_TMO; 2: good lost in phase; 3: off-order wait exceeded -/
def SEQ_FLOG_CAUSE : Fld := { base := 0x810024, lo := 5, wd := 2, acc := .ro, rst := .a }
/-- SEQ_FLOG.PHASE (Newest sequencing fault): 0: phase 1 or down-sequence; 1: phase 2 -/
def SEQ_FLOG_PHASE : Fld := { base := 0x810024, lo := 7, wd := 1, acc := .ro, rst := .a }
/-- SEQ_FLOG.MORE (Newest sequencing fault): further failures in that sequence, saturating -/
def SEQ_FLOG_MORE : Fld := { base := 0x810024, lo := 8, wd := 8, acc := .ro, rst := .a }
/-- SEQ_FLOGT.TICK (Fault time): tick of the newest sequencing fault; word 0 low; bits [31:16] of word 1 read 0 -/
def SEQ_FLOGT_TICK : Fld := { base := 0x810028, lo := 0, wd := 48, acc := .ro, rst := .a }
/-- SEQ_TRIPC.RAIL (Trips): rail of the last snapshot trip -/
def SEQ_TRIPC_RAIL : Fld := { base := 0x810030, lo := 0, wd := 5, acc := .ro, rst := .a }
/-- SEQ_TRIPC.CAUSE (Trips): 0: under UV_TH; 1: over OV_TH; 2: SEQ_PG low -/
def SEQ_TRIPC_CAUSE : Fld := { base := 0x810030, lo := 5, wd := 2, acc := .ro, rst := .a }
/-- SEQ_TRIPC.COUNT (Trips): trips since A reset, saturating -/
def SEQ_TRIPC_COUNT : Fld := { base := 0x810030, lo := 8, wd := 16, acc := .ro, rst := .a }
/-- SEQ_RDLY.ON_DLY (Rail delays): ticks -/
def SEQ_RDLY_ON_DLY : Fld := { base := 0x810100, lo := 0, wd := 16, acc := .ro, rst := .a, n := 32, st := 0x10 }
/-- SEQ_RDLY.OFF_DLY (Rail delays): ticks -/
def SEQ_RDLY_OFF_DLY : Fld := { base := 0x810100, lo := 16, wd := 16, acc := .ro, rst := .a, n := 32, st := 0x10 }
/-- SEQ_RDEP.DEP (Rail dependencies): bit d: rail d must be good first -/
def SEQ_RDEP_DEP : Fld := { base := 0x810104, lo := 0, wd := 32, acc := .ro, rst := .a, n := 32, st := 0x10 }
/-- SEQ_RTH.OFF_TH (Rail thresholds): mV -/
def SEQ_RTH_OFF_TH : Fld := { base := 0x810108, lo := 0, wd := 16, acc := .ro, rst := .a, n := 32, st := 0x10 }
/-- SEQ_RTH.UV_TH (Rail thresholds): mV -/
def SEQ_RTH_UV_TH : Fld := { base := 0x810108, lo := 16, wd := 16, acc := .ro, rst := .a, n := 32, st := 0x10 }
/-- SEQ_RFLG.OV_TH (Rail limit and flags): mV -/
def SEQ_RFLG_OV_TH : Fld := { base := 0x81010C, lo := 0, wd := 16, acc := .ro, rst := .a, n := 32, st := 0x10, dflt := 65535 }
/-- SEQ_RFLG.FLAGS (Rail limit and flags): bits 16–23 of index 4n + 3 of Table 14-1, in the same order -/
def SEQ_RFLG_FLAGS : Fld := { base := 0x81010C, lo := 16, wd := 8, acc := .ro, rst := .a, n := 32, st := 0x10 }
/-- SEQ_RDG.LAST (Rail readings): last fault-scan reading, mV -/
def SEQ_RDG_LAST : Fld := { base := 0x810300, lo := 0, wd := 16, acc := .ro, rst := .a, n := 32, st := 0x4 }
/-- SEQ_RDG.AVG (Rail readings): telemetry mean over 16 periods, mV (R393) -/
def SEQ_RDG_AVG : Fld := { base := 0x810300, lo := 16, wd := 16, acc := .ro, rst := .a, n := 32, st := 0x4 }
/-- SEQ_SNAP.MV (Trip snapshot): reading of rail n in the scan of the last snapshot trip, mV -/
def SEQ_SNAP_MV : Fld := { base := 0x810380, lo := 0, wd := 16, acc := .ro, rst := .a, n := 32, st := 0x4 }
/-- TWI_STAT.STATE (Port status): 0: Idle; 1: Controller; 2: Target; 3: Clearing; 4: Wait; 5: Faulted -/
def TWI_STAT_STATE : Fld := { base := 0x820000, lo := 0, wd := 3, acc := .ro, rst := .w, n := 2, st := 0x1000 }
/-- TWI_STAT.SLEEP (Port status): 1: fast path asleep (R408) -/
def TWI_STAT_SLEEP : Fld := { base := 0x820000, lo := 3, wd := 1, acc := .ro, rst := .c, n := 2, st := 0x1000 }
/-- TWI_STAT.RATE (Port status): as T0_RATE; from Erg section 0x06 -/
def TWI_STAT_RATE : Fld := { base := 0x820000, lo := 4, wd := 2, acc := .ro, rst := .c, n := 2, st := 0x1000, dfl := [0, 2] }
/-- TWI_STAT.STRETCH (Port status): T0_STRETCH; 0 on TWI1 -/
def TWI_STAT_STRETCH : Fld := { base := 0x820000, lo := 6, wd := 1, acc := .ro, rst := .c, n := 2, st := 0x1000, dfl := [1, 0] }
/-- TWI_STAT.OWN_ADDR (Port status): A0; 0 on TWI1 -/
def TWI_STAT_OWN_ADDR : Fld := { base := 0x820000, lo := 7, wd := 7, acc := .ro, rst := .a, n := 2, st := 0x1000 }
/-- TWI_STAT.CFG_REJ (Port status): 1: a write to a TWI register was rejected -/
def TWI_STAT_CFG_REJ : Fld := { base := 0x820000, lo := 14, wd := 1, acc := .rw1c, rst := .w, n := 2, st := 0x1000 }
/-- TWI_STAT.CLR_TRY (Port status): failed clear attempts in the current episode, 0–3 -/
def TWI_STAT_CLR_TRY : Fld := { base := 0x820000, lo := 15, wd := 2, acc := .ro, rst := .w, n := 2, st := 0x1000 }
/-- TWI_CTL.FLT_CLR (Port control): 1: leave Faulted (R416) -/
def TWI_CTL_FLT_CLR : Fld := { base := 0x820004, lo := 0, wd := 1, acc := .w1s, rst := .n, n := 2, st := 0x1000 }
/-- TWI_POL.RETRY_N (Retry policy): further attempts after an address NACK; default 3 -/
def TWI_POL_RETRY_N : Fld := { base := 0x820008, lo := 0, wd := 4, acc := .ro, rst := .c, n := 2, st := 0x1000, dflt := 3 }
/-- TWI_POL.RETRY_INT (Retry policy): units of 100 µs; default 10 (1 ms) -/
def TWI_POL_RETRY_INT : Fld := { base := 0x820008, lo := 8, wd := 8, acc := .ro, rst := .c, n := 2, st := 0x1000, dflt := 10 }
/-- TWI_POL.ARB_MAX (Retry policy): default 8 -/
def TWI_POL_ARB_MAX : Fld := { base := 0x820008, lo := 16, wd := 4, acc := .ro, rst := .c, n := 2, st := 0x1000, dflt := 8 }
/-- TWI_TIM0.SCL_LOW (Clock phases): units of 10 ns, 20–65,535; default Table 15-3; Idle is STATE 0 -/
def TWI_TIM0_SCL_LOW : Fld := { base := 0x82000C, lo := 0, wd := 16, acc := .rwl, rst := .c, n := 2, st := 0x1000, dfl := [500, 55], mn := 20 }
/-- TWI_TIM0.SCL_HIGH (Clock phases): units of 10 ns, 20–65,535; default Table 15-3 -/
def TWI_TIM0_SCL_HIGH : Fld := { base := 0x82000C, lo := 16, wd := 16, acc := .rwl, rst := .c, n := 2, st := 0x1000, dfl := [420, 30], mn := 20 }
/-- TWI_TIM1.SU_DAT (Data timing): units of 10 ns; default Table 15-3 -/
def TWI_TIM1_SU_DAT : Fld := { base := 0x820010, lo := 0, wd := 8, acc := .rwl, rst := .c, n := 2, st := 0x1000, dfl := [25, 5] }
/-- TWI_TIM1.HD_DAT (Data timing): units of 10 ns; default Table 15-3 -/
def TWI_TIM1_HD_DAT : Fld := { base := 0x820010, lo := 8, wd := 8, acc := .rwl, rst := .c, n := 2, st := 0x1000, dfl := [30, 12] }
/-- TWI_TIM1.RISE (Data timing): bus rise time, units of 10 ns; default Table 15-3 -/
def TWI_TIM1_RISE : Fld := { base := 0x820010, lo := 16, wd := 8, acc := .rwl, rst := .c, n := 2, st := 0x1000, dfl := [100, 12] }
/-- TWI_TIM2.SU_STA (Start and stop timing): units of 10 ns; default Table 15-3 -/
def TWI_TIM2_SU_STA : Fld := { base := 0x820014, lo := 0, wd := 10, acc := .rwl, rst := .c, n := 2, st := 0x1000, dfl := [470, 26] }
/-- TWI_TIM2.HD_STA (Start and stop timing): units of 10 ns; default Table 15-3 -/
def TWI_TIM2_HD_STA : Fld := { base := 0x820014, lo := 10, wd := 10, acc := .rwl, rst := .c, n := 2, st := 0x1000, dfl := [400, 26] }
/-- TWI_TIM2.SU_STO (Start and stop timing): units of 10 ns; default Table 15-3 -/
def TWI_TIM2_SU_STO : Fld := { base := 0x820014, lo := 20, wd := 10, acc := .rwl, rst := .c, n := 2, st := 0x1000, dfl := [400, 26] }
/-- TWI_TIM3.BUF (Bus free time): units of 10 ns; default Table 15-3 -/
def TWI_TIM3_BUF : Fld := { base := 0x820018, lo := 0, wd := 10, acc := .rwl, rst := .c, n := 2, st := 0x1000, dfl := [470, 50] }
/-- TWI_LAST.STATUS (Last controller transfer): Table 15-4 -/
def TWI_LAST_STATUS : Fld := { base := 0x82001C, lo := 0, wd := 3, acc := .ro, rst := .w, n := 2, st := 0x1000 }
/-- TWI_LAST.ADDR (Last controller transfer): target address -/
def TWI_LAST_ADDR : Fld := { base := 0x82001C, lo := 3, wd := 7, acc := .ro, rst := .w, n := 2, st := 0x1000 }
/-- TWI_LAST.TRIES (Last controller transfer): address attempts made -/
def TWI_LAST_TRIES : Fld := { base := 0x82001C, lo := 10, wd := 4, acc := .ro, rst := .w, n := 2, st := 0x1000 }
/-- TWI_CNT0.XFER_OK (Transfer counts): transfers ended OK, saturating -/
def TWI_CNT0_XFER_OK : Fld := { base := 0x820020, lo := 0, wd := 16, acc := .ro, rst := .c, n := 2, st := 0x1000 }
/-- TWI_CNT0.NORESP (Transfer counts): transfers ended No-Responder, saturating -/
def TWI_CNT0_NORESP : Fld := { base := 0x820020, lo := 16, wd := 16, acc := .ro, rst := .c, n := 2, st := 0x1000 }
/-- TWI_CNT1.ARB_LOST (Fault counts): arbitration losses, saturating -/
def TWI_CNT1_ARB_LOST : Fld := { base := 0x820024, lo := 0, wd := 8, acc := .ro, rst := .c, n := 2, st := 0x1000 }
/-- TWI_CNT1.PEC_ERR (Fault counts): PEC mismatches received, saturating -/
def TWI_CNT1_PEC_ERR : Fld := { base := 0x820024, lo := 8, wd := 8, acc := .ro, rst := .c, n := 2, st := 0x1000 }
/-- TWI_CNT1.TMO (Fault counts): R405, R406 and R407 events, saturating -/
def TWI_CNT1_TMO : Fld := { base := 0x820024, lo := 16, wd := 8, acc := .ro, rst := .c, n := 2, st := 0x1000 }
/-- TWI_CNT1.STUCK (Fault counts): failed clear attempts, saturating -/
def TWI_CNT1_STUCK : Fld := { base := 0x820024, lo := 24, wd := 8, acc := .ro, rst := .a, n := 2, st := 0x1000 }
/-- TWI_CNT2.CMD_NACK (Target counts): command codes refused (R408, R410, R418), saturating -/
def TWI_CNT2_CMD_NACK : Fld := { base := 0x820028, lo := 0, wd := 8, acc := .ro, rst := .c, n := 2, st := 0x1000 }
/-- TWI_CNT2.WAKE_NACK (Target counts): first addresses refused (R408), saturating -/
def TWI_CNT2_WAKE_NACK : Fld := { base := 0x820028, lo := 8, wd := 8, acc := .ro, rst := .c, n := 2, st := 0x1000 }
/-- TWI_CNT2.MCTP_DROP (Target counts): MCTP messages discarded (R413), saturating -/
def TWI_CNT2_MCTP_DROP : Fld := { base := 0x820028, lo := 16, wd := 16, acc := .ro, rst := .c, n := 2, st := 0x1000 }
/-- TWI0_ALERT.CAUSE (Alert causes): Table 15-6 -/
def TWI0_ALERT_CAUSE : Fld := { base := 0x820030, lo := 0, wd := 8, acc := .rw1c, rst := .a }
/-- TWI0_ALERT.MASK (Alert causes): bit n: cause n drives TWI_ALERT_N; default 0xFF -/
def TWI0_ALERT_MASK : Fld := { base := 0x820030, lo := 8, wd := 8, acc := .rw, rst := .c, dflt := 255 }
/-- TWI0_ALERT.ASSERTED (Alert causes): 1: TWI_ALERT_N driven low -/
def TWI0_ALERT_ASSERTED : Fld := { base := 0x820030, lo := 16, wd := 1, acc := .ro, rst := .a }
/-- CFL_STAT.B0_ST (Code-flash status): bank 0. 0: idle; 1: program; 2: erase; 3: erase suspended; 4: program in suspended erase; 5: selection write -/
def CFL_STAT_B0_ST : Fld := { base := 0x830000, lo := 0, wd := 3, acc := .ro, rst := .c }
/-- CFL_STAT.B1_ST (Code-flash status): bank 1, encoded as B0_ST -/
def CFL_STAT_B1_ST : Fld := { base := 0x830000, lo := 3, wd := 3, acc := .ro, rst := .c }
/-- CFL_STAT.FAIL_P (Code-flash status): 1: a program ended with Program Fail -/
def CFL_STAT_FAIL_P : Fld := { base := 0x830000, lo := 6, wd := 1, acc := .rw1c, rst := .w }
/-- CFL_STAT.FAIL_E (Code-flash status): 1: an erase ended with Erase Fail -/
def CFL_STAT_FAIL_E : Fld := { base := 0x830000, lo := 7, wd := 1, acc := .rw1c, rst := .w }
/-- CFL_STAT.WP_LOCK (Code-flash status): 1: write-protect bits frozen (R435) -/
def CFL_STAT_WP_LOCK : Fld := { base := 0x830000, lo := 8, wd := 1, acc := .ro, rst := .w }
/-- CFL_STAT.CFG_REJ (Code-flash status): 1: a write or push to a CFL register was rejected -/
def CFL_STAT_CFG_REJ : Fld := { base := 0x830000, lo := 9, wd := 1, acc := .rw1c, rst := .w }
/-- CFL_STAT.EINT_FOUND (Code-flash status): 1: an erase-interrupted sector was found at this reset (R433) -/
def CFL_STAT_EINT_FOUND : Fld := { base := 0x830000, lo := 10, wd := 1, acc := .ro, rst := .c }
/-- CFL_OWN.OWNER (Bank ownership): 0: free; 1–4: MC0–MC3; 5: recorder committer -/
def CFL_OWN_OWNER : Fld := { base := 0x830004, lo := 0, wd := 3, acc := .ro, rst := .w, n := 2, st := 0x4 }
/-- CFL_OWN.CLAIM (Bank ownership): 1: claim under R424 -/
def CFL_OWN_CLAIM : Fld := { base := 0x830004, lo := 3, wd := 1, acc := .w1s, rst := .n, n := 2, st := 0x4 }
/-- CFL_OWN.RELEASE (Bank ownership): 1: release; ignored unless written by the owner -/
def CFL_OWN_RELEASE : Fld := { base := 0x830004, lo := 4, wd := 1, acc := .w1s, rst := .n, n := 2, st := 0x4 }
/-- CFL_OWN.OWNER_RESET (Bank ownership): 1: the previous owner was reset (R425) -/
def CFL_OWN_OWNER_RESET : Fld := { base := 0x830004, lo := 5, wd := 1, acc := .ro, rst := .w, n := 2, st := 0x4 }
/-- CFL_CTL.WP_LOCK (Protection lock): 1: freeze CFL_WP until the next C or W reset; accepted from MC0 only -/
def CFL_CTL_WP_LOCK : Fld := { base := 0x83000C, lo := 0, wd := 1, acc := .w1s, rst := .n }
/-- CFL_DQ.WORD (Descriptor): word n of the descriptor being built, Table 16-2 -/
def CFL_DQ_WORD : Fld := { base := 0x830010, lo := 0, wd := 32, acc := .rw, rst := .w, n := 4, st := 0x4 }
/-- CFL_DQPUSH.PUSH (Queue push): 1: enter CFL_DQ0–CFL_DQ3 into the queue (R427) -/
def CFL_DQPUSH_PUSH : Fld := { base := 0x830020, lo := 0, wd := 1, acc := .w1s, rst := .n }
/-- CFL_DQST.USED (Queue status): descriptors queued or running, 0–64 -/
def CFL_DQST_USED : Fld := { base := 0x830024, lo := 0, wd := 7, acc := .ro, rst := .w }
/-- CFL_DQST.REJ_WHY (Queue status): last rejected push. 0: none; 1: queue full; 2: bank not owned by the pusher; 3: field outside Table 16-2; 4: COUNT crosses a sector -/
def CFL_DQST_REJ_WHY : Fld := { base := 0x830024, lo := 8, wd := 4, acc := .ro, rst := .w }
/-- CFL_CRHEAD.HEAD (Completion ring pointers): next entry the consumer will read; written by the consumer; a write past the unconsumed entries is rejected (R429) -/
def CFL_CRHEAD_HEAD : Fld := { base := 0x830028, lo := 0, wd := 6, acc := .rw, rst := .w }
/-- CFL_CRHEAD.TAIL (Completion ring pointers): next entry the device will write -/
def CFL_CRHEAD_TAIL : Fld := { base := 0x830028, lo := 8, wd := 6, acc := .ro, rst := .w }
/-- CFL_SEL.BA_ACT (Boot selection): boot area booted. 0: BA0; 1: BA1 -/
def CFL_SEL_BA_ACT : Fld := { base := 0x83002C, lo := 0, wd := 1, acc := .ro, rst := .c }
/-- CFL_SEL.BA_NEXT (Boot selection): area named by the current selection word (R436) -/
def CFL_SEL_BA_NEXT : Fld := { base := 0x83002C, lo := 1, wd := 1, acc := .ro, rst := .c }
/-- CFL_SEL.SEQ (Boot selection): SEQ of the current selection word -/
def CFL_SEL_SEQ : Fld := { base := 0x83002C, lo := 2, wd := 16, acc := .ro, rst := .c }
/-- CFL_BFLT.BFLT (Bus faults): reads faulted under R426, saturating -/
def CFL_BFLT_BFLT : Fld := { base := 0x830030, lo := 0, wd := 32, acc := .ro, rst := .c }
/-- CFL_WIN.NEWEST (Window state): pool sector being filled, 0–28, counted from sector 459 -/
def CFL_WIN_NEWEST : Fld := { base := 0x830034, lo := 0, wd := 5, acc := .ro, rst := .c }
/-- CFL_WIN.OLDEST (Window state): pool sector holding the oldest live record, 0–28 -/
def CFL_WIN_OLDEST : Fld := { base := 0x830034, lo := 5, wd := 5, acc := .ro, rst := .c }
/-- CFL_WIN.LV_ACT (Window state): active learned-value sector. 0: 457; 1: 458 -/
def CFL_WIN_LV_ACT : Fld := { base := 0x830034, lo := 10, wd := 1, acc := .ro, rst := .c }
/-- CFL_EINT.EINT (Erase-interrupted sectors): bit b of element e: sector 32e + b erase-interrupted (R433, R434) -/
def CFL_EINT_EINT : Fld := { base := 0x830040, lo := 0, wd := 32, acc := .ro, rst := .c, n := 16, st := 0x4 }
/-- CFL_WP.WP (Write protection): bit b of element e: sector 32e + b protected; reset value 0xFFFF_FFFF; writes rejected under R435 -/
def CFL_WP_WP : Fld := { base := 0x830080, lo := 0, wd := 32, acc := .rw, rst := .w, n := 16, st := 0x4, dflt := 4294967295 }
/-- CFL_CR.ENTRY (Completion ring): elements 2i and 2i + 1: words 0 and 1 of ring entry i, Table 16-3 -/
def CFL_CR_ENTRY : Fld := { base := 0x830400, lo := 0, wd := 32, acc := .ro, rst := .w, n := 128, st := 0x4 }
/-- CFL_ECNT.ECNT (Erase counters): erases started on sector n, held in the information row; never reset (R421) -/
def CFL_ECNT_ECNT : Fld := { base := 0x830800, lo := 0, wd := 32, acc := .ro, rst := .n, n := 512, st := 0x4 }
/-- BST_STAT.STAGE (Boot status): stage of Table 17-2, 1–11 -/
def BST_STAT_STAGE : Fld := { base := 0x840000, lo := 0, wd := 4, acc := .ro, rst := .c }
/-- BST_STAT.DONE (Boot status): 1: boot ended (R445) -/
def BST_STAT_DONE : Fld := { base := 0x840000, lo := 4, wd := 1, acc := .ro, rst := .c }
/-- BST_STAT.PACK_WAIT_EXP (Boot status): 1: the pack wait expired (R448) -/
def BST_STAT_PACK_WAIT_EXP : Fld := { base := 0x840000, lo := 5, wd := 1, acc := .ro, rst := .c }
/-- BST_STAT.CFG_REJ (Boot status): 1: a write to a BST register was rejected -/
def BST_STAT_CFG_REJ : Fld := { base := 0x840000, lo := 6, wd := 1, acc := .rw1c, rst := .w }
/-- BST_SL.CUR (Service level): level served, 0–4 -/
def BST_SL_CUR : Fld := { base := 0x840004, lo := 0, wd := 3, acc := .ro, rst := .c }
/-- BST_SL.CAP (Service level): highest level the healthy, unfenced units permit now; follows fences at once and may read below CUR in service (R446) -/
def BST_SL_CAP : Fld := { base := 0x840004, lo := 3, wd := 3, acc := .ro, rst := .c }
/-- BST_SL.LIMIT (Service level): first unit that holds CAP below SL4. 0: none; 1: slice 22; 2: no core; 3: boot area; 4: firmware; 5: Erg image; 6: host ports; 7: DRAM; 8: … -/
def BST_SL_LIMIT : Fld := { base := 0x840004, lo := 8, wd := 4, acc := .ro, rst := .c }
/-- BST_PASS.SLICES (Slice results): bit s. Element 0: slice s passed; 1: fenced; 2: absent; 3: passed only on rerun -/
def BST_PASS_SLICES : Fld := { base := 0x840008, lo := 0, wd := 24, acc := .ro, rst := .c }
/-- BST_FENCE.SLICES (Slice results): bit s. Element 0: slice s passed; 1: fenced; 2: absent; 3: passed only on rerun -/
def BST_FENCE_SLICES : Fld := { base := 0x84000C, lo := 0, wd := 24, acc := .ro, rst := .c }
/-- BST_ABS.SLICES (Slice results): bit s. Element 0: slice s passed; 1: fenced; 2: absent; 3: passed only on rerun -/
def BST_ABS_SLICES : Fld := { base := 0x840010, lo := 0, wd := 24, acc := .ro, rst := .c }
/-- BST_RERUN.SLICES (Slice results): bit s. Element 0: slice s passed; 1: fenced; 2: absent; 3: passed only on rerun -/
def BST_RERUN_SLICES : Fld := { base := 0x840014, lo := 0, wd := 24, acc := .ro, rst := .c }
/-- BST_CFG.BUD (Self-test configuration): budget per slice, ms, 1–24; default 8; other values rejected and CFG_REJ set; used at the next cold boot -/
def BST_CFG_BUD : Fld := { base := 0x840018, lo := 0, wd := 5, acc := .rw, rst := .s, dflt := 8, mn := 1, mx := 24 }
/-- BST_CFG.PAT (Self-test configuration): patterns per slice, 1–16,384; default 16,384; used at the next cold boot -/
def BST_CFG_PAT : Fld := { base := 0x840018, lo := 5, wd := 15, acc := .rw, rst := .s, dflt := 16384, mn := 1, mx := 16384 }
/-- BST_CFG.PACK_WAIT (Self-test configuration): s, 0–4,095; 0: no limit; default 60 (R448) -/
def BST_CFG_PACK_WAIT : Fld := { base := 0x840018, lo := 20, wd := 12, acc := .rw, rst := .s, dflt := 60 }
/-- BST_CORE.PASS (Core results): bit n: MCn passed its core check -/
def BST_CORE_PASS : Fld := { base := 0x84001C, lo := 0, wd := 4, acc := .ro, rst := .c }
/-- BST_CORE.FENCED (Core results): bit n: MCn fenced (R440, R454) -/
def BST_CORE_FENCED : Fld := { base := 0x84001C, lo := 4, wd := 4, acc := .ro, rst := .c }
/-- BST_WDT.WDT_PER (Watchdog policy): ticks, 1,024–65,535; default 32,768 (1 s) -/
def BST_WDT_WDT_PER : Fld := { base := 0x840020, lo := 0, wd := 16, acc := .rw, rst := .c, dflt := 32768, mn := 1024 }
/-- BST_WDT.WDT_LIM (Watchdog policy): core resets per hour before fencing, 1–15; default 3 -/
def BST_WDT_WDT_LIM : Fld := { base := 0x840020, lo := 16, wd := 4, acc := .rw, rst := .c, dflt := 3, mn := 1 }
/-- BST_WDTC.CNT (Watchdog resets): for n from 0 to 3, core resets of MCn since cold boot, saturating -/
def BST_WDTC_CNT : Fld := { base := 0x840024, lo := 0, wd := 8, acc := .ro, rst := .c, n2 := 4, st2 := 8 }
/-- BST_RST.TYPE (Last reset): 0: A; 1: C by main power-on; 2: C by CHIP_RST_N; 3: W -/
def BST_RST_TYPE : Fld := { base := 0x840028, lo := 0, wd := 3, acc := .ro, rst := .s }
/-- BST_RST.SRC (Last reset): for TYPE 3. 0: Odber; 1: host; 2: TWI0 -/
def BST_RST_SRC : Fld := { base := 0x840028, lo := 3, wd := 3, acc := .ro, rst := .s }
/-- BST_CTL.WARM (Reset request): 1: request a warm reset (R452) -/
def BST_CTL_WARM : Fld := { base := 0x84002C, lo := 0, wd := 1, acc := .w1s, rst := .n }
/-- BST_BOOTN.BOOT_CNT (Boot count): A, C and W resets counted under R453; after an A reset, reloaded from the recorder and incremented -/
def BST_BOOTN_BOOT_CNT : Fld := { base := 0x840030, lo := 0, wd := 32, acc := .ro, rst := .s }
/-- BST_BTIME.T_SL1 (Boot times): ms from release of cold reset to SL1, saturating -/
def BST_BTIME_T_SL1 : Fld := { base := 0x840034, lo := 0, wd := 16, acc := .ro, rst := .c }
/-- BST_BTIME.T_END (Boot times): units of 10 ms from release of cold reset to the end of boot, saturating -/
def BST_BTIME_T_END : Fld := { base := 0x840034, lo := 16, wd := 16, acc := .ro, rst := .c }
/-- BST_SIG.SIG_LO (Slice signature, low word): bits 31:0 of the signature of the last run of slice s; 64-bit with BST_SIG_HI under R16 -/
def BST_SIG_SIG : Fld := { base := 0x840040, lo := 0, wd := 64, acc := .ro, rst := .c, n := 24, st := 0x8 }
/-- BST_TIME.RUN_US (Slice run): duration of the last run, µs, saturating -/
def BST_TIME_RUN_US : Fld := { base := 0x840100, lo := 0, wd := 16, acc := .ro, rst := .c, n := 24, st := 0x4 }
/-- BST_TIME.PATS (Slice run): patterns applied in the last run -/
def BST_TIME_PATS : Fld := { base := 0x840100, lo := 16, wd := 15, acc := .ro, rst := .c, n := 24, st := 0x4 }
/-- BST_TIME.OVERRUN (Slice run): 1: the last run was stopped at BUD (R439) -/
def BST_TIME_OVERRUN : Fld := { base := 0x840100, lo := 31, wd := 1, acc := .ro, rst := .c, n := 24, st := 0x4 }
/-- EVR_STAT.RET_CNT (Recorder status): retention entries in use, 0–32 -/
def EVR_STAT_RET_CNT : Fld := { base := 0x850000, lo := 0, wd := 6, acc := .ro, rst := .a }
/-- EVR_STAT.COMMIT (Recorder status): 1: committer owns bank 1 -/
def EVR_STAT_COMMIT : Fld := { base := 0x850000, lo := 6, wd := 1, acc := .ro, rst := .c }
/-- EVR_STAT.PERM_FULL (Recorder status): 1: EVR_NEXT above 1,023 -/
def EVR_STAT_PERM_FULL : Fld := { base := 0x850000, lo := 7, wd := 1, acc := .ro, rst := .c }
/-- EVR_STAT.CFG_REJ (Recorder status): 1: a write to an EVR register was rejected -/
def EVR_STAT_CFG_REJ : Fld := { base := 0x850000, lo := 8, wd := 1, acc := .rw1c, rst := .w }
/-- EVR_STAT.QUSE (Recorder status): commit-queue entries in use, 0–1,024 -/
def EVR_STAT_QUSE : Fld := { base := 0x850000, lo := 9, wd := 11, acc := .ro, rst := .c }
/-- EVR_CFG.ALERT_SEV (Recorder policy): severity for CAUSE bit 1 (R465), 0–4; default 2; 5–7 rejected and CFG_REJ set -/
def EVR_CFG_ALERT_SEV : Fld := { base := 0x850004, lo := 0, wd := 3, acc := .rw, rst := .s, dflt := 2, mx := 4 }
/-- EVR_CFG.RATE_MAX (Recorder policy): records per type per 1 s (R461), 1–255; default 8; 0 rejected and CFG_REJ set -/
def EVR_CFG_RATE_MAX : Fld := { base := 0x850004, lo := 3, wd := 8, acc := .rw, rst := .s, dflt := 8, mn := 1 }
/-- EVR_NEXT.SEQ (Next sequence number): SEQ of the next slot (R464) -/
def EVR_NEXT_SEQ : Fld := { base := 0x850008, lo := 0, wd := 32, acc := .ro, rst := .c }
/-- EVR_OVF.OVF (Retention losses): records discarded under R462, saturating -/
def EVR_OVF_OVF : Fld := { base := 0x85000C, lo := 0, wd := 32, acc := .ro, rst := .a }
/-- EVR_SUPP.SUPP (Suppressed records): records suppressed under R461, saturating -/
def EVR_SUPP_SUPP : Fld := { base := 0x850010, lo := 0, wd := 32, acc := .ro, rst := .c }
/-- EVR_TORN.TORN (Torn slots): torn slots found by the scan of R464 since A reset, saturating -/
def EVR_TORN_TORN : Fld := { base := 0x850014, lo := 0, wd := 32, acc := .ro, rst := .c }
/-- EVR_SEL.AREA (Readout select): 0: retention; 1: permanent; 2: circular; 3 rejected and CFG_REJ set -/
def EVR_SEL_AREA : Fld := { base := 0x850020, lo := 0, wd := 2, acc := .rw, rst := .w, mx := 2 }
/-- EVR_SEL.INDEX (Readout select): index under R466; area 0 above 31 or area 1 above 1,023 rejected and CFG_REJ set; a write starts a prefetch -/
def EVR_SEL_INDEX : Fld := { base := 0x850020, lo := 16, wd := 16, acc := .rw, rst := .w }
/-- EVR_RD.READY (Readout status): 1: latch holds the prefetch of the selected index -/
def EVR_RD_READY : Fld := { base := 0x850024, lo := 0, wd := 1, acc := .ro, rst := .w }
/-- EVR_RD.RESULT (Readout status): 0: valid record; 1: never written or entry empty; 2: left the window; 3: torn -/
def EVR_RD_RESULT : Fld := { base := 0x850024, lo := 1, wd := 2, acc := .ro, rst := .w }
/-- EVR_RD.ADV (Readout status): 1: INDEX + 1, wrapping within the area; starts a prefetch -/
def EVR_RD_ADV : Fld := { base := 0x850024, lo := 3, wd := 1, acc := .w1s, rst := .n }
/-- EVR_DATA.WORD (Record latch): bytes 4n to 4n + 3 of the latched record, Table 18-1; 0x0000_0000 unless RESULT is 0 -/
def EVR_DATA_WORD : Fld := { base := 0x850040, lo := 0, wd := 32, acc := .ro, rst := .w, n := 16, st := 0x4 }
/-- FWU_STAT.STATE (Update status): 0: Idle; 1: Downloading; 2: Verifying; 3: Activating; 4: Hold -/
def FWU_STAT_STATE : Fld := { base := 0x860000, lo := 0, wd := 3, acc := .ro, rst := .w }
/-- FWU_STAT.OWNER (Update status): 0: none; 1: PF A; 2: PF B; 3: mailbox; 4: TWI0; 5: management core; 6: BAR0 window -/
def FWU_STAT_OWNER : Fld := { base := 0x860000, lo := 3, wd := 3, acc := .ro, rst := .w }
/-- FWU_STAT.FALLBACK (Update status): 1: this boot fell back under R482 -/
def FWU_STAT_FALLBACK : Fld := { base := 0x860000, lo := 6, wd := 1, acc := .ro, rst := .c }
/-- FWU_STAT.CFG_REJ (Update status): 1: a write to an FWU register was rejected -/
def FWU_STAT_CFG_REJ : Fld := { base := 0x860000, lo := 7, wd := 1, acc := .rw1c, rst := .w }
/-- FWU_CTL.ABORT (Update control): 1: abandon the open download (R473) -/
def FWU_CTL_ABORT : Fld := { base := 0x860004, lo := 0, wd := 1, acc := .w1s, rst := .n }
/-- FWU_DOFF.OFF (Window offset): word offset into the image; a value at or beyond 12 MiB is rejected and CFG_REJ is set -/
def FWU_DOFF_OFF : Fld := { base := 0x860008, lo := 2, wd := 22, acc := .rw, rst := .w }
/-- FWU_DDATA.DATA (Window data): image word at OFF; OFF then advances by 1 (R472) -/
def FWU_DDATA_DATA : Fld := { base := 0x86000C, lo := 0, wd := 32, acc := .wo, rst := .n }
/-- FWU_DLST.BLOCKS (Download status): blocks programmed in the open download, 0–3,072 -/
def FWU_DLST_BLOCKS : Fld := { base := 0x860010, lo := 0, wd := 12, acc := .ro, rst := .w }
/-- FWU_DLST.CRC_ERR (Download status): blocks discarded under R474, saturating -/
def FWU_DLST_CRC_ERR : Fld := { base := 0x860010, lo := 16, wd := 16, acc := .ro, rst := .c }
/-- FWU_SLOT.VALID (Slot status): 1: the last verification of the slot passed the steps it ran -/
def FWU_SLOT_VALID : Fld := { base := 0x860014, lo := 0, wd := 1, acc := .ro, rst := .c, n := 2, st := 0x4 }
/-- FWU_SLOT.ACT_CLASS (Slot status): header ACT_CLASS -/
def FWU_SLOT_ACT_CLASS : Fld := { base := 0x860014, lo := 1, wd := 2, acc := .ro, rst := .c, n := 2, st := 0x4 }
/-- FWU_SLOT.BOOT (Slot status): header BOOT -/
def FWU_SLOT_BOOT : Fld := { base := 0x860014, lo := 3, wd := 1, acc := .ro, rst := .c, n := 2, st := 0x4 }
/-- FWU_SLOT.SVN (Slot status): header SVN -/
def FWU_SLOT_SVN : Fld := { base := 0x860014, lo := 4, wd := 6, acc := .ro, rst := .c, n := 2, st := 0x4 }
/-- FWU_SLOT.VERR (Slot status): 0x00: valid; 0x01–0x0A: Table 19-2; 0x0D: erased, incomplete or never verified -/
def FWU_SLOT_VERR : Fld := { base := 0x860014, lo := 16, wd := 8, acc := .ro, rst := .c, n := 2, st := 0x4, dflt := 13 }
/-- FWU_REV.FR (Slot revisions): elements 0–1: FR of slot A, word 0 low; elements 2–3: FR of slot B; 0x0000_0000 if VERR is 0x0D -/
def FWU_REV_FR : Fld := { base := 0x860020, lo := 0, wd := 32, acc := .ro, rst := .c, n := 4, st := 0x4 }
/-- FWU_SEL.RUN (Firmware selection): running slot. 0: A; 1: B -/
def FWU_SEL_RUN : Fld := { base := 0x860030, lo := 0, wd := 1, acc := .ro, rst := .c }
/-- FWU_SEL.NEXT (Firmware selection): slot for the next boot (R482) -/
def FWU_SEL_NEXT : Fld := { base := 0x860030, lo := 1, wd := 1, acc := .ro, rst := .c }
/-- FWU_SEL.TRIAL (Firmware selection): 1: the image in NEXT is unconfirmed -/
def FWU_SEL_TRIAL : Fld := { base := 0x860030, lo := 2, wd := 1, acc := .ro, rst := .c }
/-- FWU_SEL.TRIES (Firmware selection): trial boots begun, 0–3 -/
def FWU_SEL_TRIES : Fld := { base := 0x860030, lo := 3, wd := 2, acc := .ro, rst := .c }
/-- FWU_SEL.PENDING (Firmware selection): 1: NEXT differs from RUN -/
def FWU_SEL_PENDING : Fld := { base := 0x860030, lo := 5, wd := 1, acc := .ro, rst := .c }
/-- FWU_SVN.FLOOR (Security version): blown fuses, 0–63 (R476) -/
def FWU_SVN_FLOOR : Fld := { base := 0x860034, lo := 0, wd := 6, acc := .ro, rst := .a }
/-- FWU_SVN.RUN_SVN (Security version): SVN of the running image -/
def FWU_SVN_RUN_SVN : Fld := { base := 0x860034, lo := 8, wd := 6, acc := .ro, rst := .c }
/-- FWU_FMT.LV_FMT (Stored formats): standing learned-value format -/
def FWU_FMT_LV_FMT : Fld := { base := 0x860038, lo := 0, wd := 16, acc := .ro, rst := .c }
/-- FWU_FMT.DUAL (Stored formats): 1: entries kept in two formats (R483) -/
def FWU_FMT_DUAL : Fld := { base := 0x860038, lo := 16, wd := 1, acc := .ro, rst := .c }
/-- FWU_FMT.ERG_PROT (Stored formats): 1: an Erg slot is protected under R483 -/
def FWU_FMT_ERG_PROT : Fld := { base := 0x860038, lo := 17, wd := 1, acc := .ro, rst := .c }
/-- FWU_ACTT.CLASS (Last activation): class of the last activation (R478) -/
def FWU_ACTT_CLASS : Fld := { base := 0x86003C, lo := 0, wd := 2, acc := .ro, rst := .c }
/-- FWU_ACTT.TOTAL_MS (Last activation): ms from Commit fetch to completion, saturating -/
def FWU_ACTT_TOTAL_MS : Fld := { base := 0x86003C, lo := 2, wd := 14, acc := .ro, rst := .c }
/-- FWU_ACTT.HOLD_MS (Last activation): CXL.mem hold in ms, 0–200 (R479) -/
def FWU_ACTT_HOLD_MS : Fld := { base := 0x86003C, lo := 16, wd := 8, acc := .ro, rst := .c }
/-- PWR_STAT.RC_ACT (Power status): 1: tick counter on the RC oscillator (R486, R487) -/
def PWR_STAT_RC_ACT : Fld := { base := 0x870000, lo := 0, wd := 1, acc := .ro, rst := .a, dflt := 1 }
/-- PWR_STAT.AVS_FLT (Power status): 1: AVSBus fault (R494) -/
def PWR_STAT_AVS_FLT : Fld := { base := 0x870000, lo := 1, wd := 1, acc := .ro, rst := .c }
/-- PWR_STAT.STAGE (Power status): thermal stage, 0–4 -/
def PWR_STAT_STAGE : Fld := { base := 0x870000, lo := 2, wd := 3, acc := .ro, rst := .c }
/-- PWR_STAT.CFG_REJ (Power status): 1: a write to a PWR register was rejected -/
def PWR_STAT_CFG_REJ : Fld := { base := 0x870000, lo := 5, wd := 1, acc := .rw1c, rst := .w }
/-- PWR_TICK.TICK (Tick counter): tick counter, word 0 low; bits [31:16] of word 1 read 0 -/
def PWR_TICK_TICK : Fld := { base := 0x870004, lo := 0, wd := 48, acc := .ro, rst := .a }
/-- PWR_DON.ON (Domains on): bit n of word 0: PDn powered; bits [7:0] of word 1: PD32–PD39; other bits read 0 -/
def PWR_DON_ON : Fld := { base := 0x87000C, lo := 0, wd := 32, acc := .ro, rst := .c, n := 2, st := 0x4 }
/-- PWR_LOOP.AVS_EN (Loop enables): from Erg section 0x16 -/
def PWR_LOOP_AVS_EN : Fld := { base := 0x870014, lo := 0, wd := 1, acc := .rw, rst := .w }
/-- PWR_LOOP.FS_EN (Loop enables): from Erg section 0x16 -/
def PWR_LOOP_FS_EN : Fld := { base := 0x870014, lo := 1, wd := 1, acc := .rw, rst := .w }
/-- PWR_LOOP.EQ_EN (Loop enables): from Erg section 0x16 -/
def PWR_LOOP_EQ_EN : Fld := { base := 0x870014, lo := 2, wd := 1, acc := .rw, rst := .w }
/-- PWR_AVS.VMAX (Voltage bounds and period): mV, 700–1,000; from Erg section 0x16, or the CAL value; a value above the CAL value is rejected and CFG_REJ is set -/
def PWR_AVS_VMAX : Fld := { base := 0x870018, lo := 0, wd := 10, acc := .rw, rst := .w, dflt := 700, mn := 700, mx := 1000 }
/-- PWR_AVS.AVS_PER (Voltage bounds and period): µs, 10–65,535; default 100 -/
def PWR_AVS_AVS_PER : Fld := { base := 0x870018, lo := 16, wd := 16, acc := .rw, rst := .w, dflt := 100, mn := 10 }
/-- PWR_AVSST.VSET (Voltage state): last voltage requested, mV -/
def PWR_AVSST_VSET : Fld := { base := 0x87001C, lo := 0, wd := 10, acc := .ro, rst := .c }
/-- PWR_AVSST.VREAD (Voltage state): last voltage read back, mV -/
def PWR_AVSST_VREAD : Fld := { base := 0x87001C, lo := 16, wd := 10, acc := .ro, rst := .c }
/-- PWR_CPM.SLACK_LO (Slack limits and stretch): monitor steps; default 6 -/
def PWR_CPM_SLACK_LO : Fld := { base := 0x870020, lo := 0, wd := 6, acc := .rw, rst := .w, dflt := 6 }
/-- PWR_CPM.SLACK_HI (Slack limits and stretch): default 12; a write that leaves SLACK_EMG < SLACK_LO < SLACK_HI false is rejected and CFG_REJ is set -/
def PWR_CPM_SLACK_HI : Fld := { base := 0x870020, lo := 6, wd := 6, acc := .rw, rst := .w, dflt := 12 }
/-- PWR_CPM.SLACK_EMG (Slack limits and stretch): default 2 -/
def PWR_CPM_SLACK_EMG : Fld := { base := 0x870020, lo := 12, wd := 4, acc := .rw, rst := .w, dflt := 2 }
/-- PWR_CPM.SLACK_MIN (Slack limits and stretch): lowest slack in the last loop run -/
def PWR_CPM_SLACK_MIN : Fld := { base := 0x870020, lo := 16, wd := 6, acc := .ro, rst := .c }
/-- PWR_CPM.STRETCH (Slack limits and stretch): stretch episodes under R496, saturating -/
def PWR_CPM_STRETCH : Fld := { base := 0x870020, lo := 22, wd := 10, acc := .ro, rst := .c }
/-- PWR_FS.LVL (Core levels): for n from 0 to 3, the level of MCn, 0–3 for F0–F3 -/
def PWR_FS_LVL : Fld := { base := 0x870024, lo := 0, wd := 2, acc := .ro, rst := .w, n2 := 4, st2 := 2 }
/-- PWR_FS.FS_WIN (Core levels): µs, 100–65,535; default 1,000 -/
def PWR_FS_FS_WIN : Fld := { base := 0x870024, lo := 8, wd := 16, acc := .rw, rst := .w, dflt := 1000, mn := 100 }
/-- PWR_THERM.TJ (Junction temperature): highest sensor reading, Q12.4 °C -/
def PWR_THERM_TJ : Fld := { base := 0x870028, lo := 0, wd := 16, acc := .ro, rst := .c }
/-- PWR_THERM.HOT (Junction temperature): sensor giving TJ -/
def PWR_THERM_HOT : Fld := { base := 0x870028, lo := 16, wd := 5, acc := .ro, rst := .c }
/-- PWR_TTH0.TJ_WARN (Thermal thresholds): Q12.4 °C; from Erg section 0x16 -/
def PWR_TTH0_TJ_WARN : Fld := { base := 0x87002C, lo := 0, wd := 16, acc := .rw, rst := .w, dflt := 1520 }
/-- PWR_TTH0.TJ_THROT (Thermal thresholds): Q12.4 °C; from Erg section 0x16 -/
def PWR_TTH0_TJ_THROT : Fld := { base := 0x87002C, lo := 16, wd := 16, acc := .rw, rst := .w, dflt := 1600 }
/-- PWR_TTH1.TJ_CRIT (Critical threshold and Drift cap): Q12.4 °C; from Erg section 0x16; a write that leaves the three thresholds not ascending, or leaves TJ_CRIT no more than 2.5 °C above TJ_THROT … -/
def PWR_TTH1_TJ_CRIT : Fld := { base := 0x870030, lo := 0, wd := 16, acc := .rw, rst := .w, dflt := 1680 }
/-- PWR_TTH1.THERM_U (Critical threshold and Drift cap): percent, 10–100; default 50; from Erg section 0x16 -/
def PWR_TTH1_THERM_U : Fld := { base := 0x870030, lo := 16, wd := 7, acc := .rw, rst := .w, dflt := 50, mn := 10, mx := 100 }
/-- PWR_EQ.EQ_MARG (Equalization status): percent UI, 1–50; default 15 -/
def PWR_EQ_EQ_MARG : Fld := { base := 0x870034, lo := 0, wd := 7, acc := .rw, rst := .w, n := 2, st := 0x4, dflt := 15, mn := 1, mx := 50 }
/-- PWR_EQ.MARG_MIN (Equalization status): lowest lane margin in the last measurement, percent UI -/
def PWR_EQ_MARG_MIN : Fld := { base := 0x870034, lo := 7, wd := 7, acc := .ro, rst := .l, n := 2, st := 0x4 }
/-- PWR_EQ.REDO (Equalization status): equalizations repeated under R502, saturating -/
def PWR_EQ_REDO : Fld := { base := 0x870034, lo := 14, wd := 8, acc := .ro, rst := .c, n := 2, st := 0x4 }
/-- PWR_IDLE.IDLE (Domain idle): idle time, units of 10 µs; 0: idle switching off; defaults in Table 20-2; RO for PD06–PD13 (R491) and for domains never switched -/
def PWR_IDLE_IDLE : Fld := { base := 0x870100, lo := 0, wd := 16, acc := .rws, rst := .w, n := 40, st := 0x4, dfl := [0, 0, 0, 0, 0, 0, 0, 0, 0, 0, 0, 0, 0, 0, 0, 0, 0, 0, 0, 100, 100, 0, 0, 0, 0, 0, 0, 0, 0, 50000, 1000, 10] }
/-- PWR_IDLE.WAKES (Domain idle): wakes since cold boot, saturating -/
def PWR_IDLE_WAKES : Fld := { base := 0x870100, lo := 16, wd := 16, acc := .ro, rst := .c, n := 40, st := 0x4 }
/-- PWR_TSNS.T (Junction sensors): last reading of sensor n, Q12.4 °C -/
def PWR_TSNS_T : Fld := { base := 0x870200, lo := 0, wd := 16, acc := .ro, rst := .c, n := 32, st := 0x4 }
/-- ERG_STAT.BOOT_SLOT (Erg status): slot booted. 0: A; 1: B -/
def ERG_STAT_BOOT_SLOT : Fld := { base := 0x880000, lo := 0, wd := 1, acc := .ro, rst := .c }
/-- ERG_STAT.FALLBACK (Erg status): 1: the slot named by NEXT_SLOT was refused at boot -/
def ERG_STAT_FALLBACK : Fld := { base := 0x880000, lo := 1, wd := 1, acc := .ro, rst := .c }
/-- ERG_STAT.SWITCH_BUSY (Erg status): 1: an OVL_SWITCH is running -/
def ERG_STAT_SWITCH_BUSY : Fld := { base := 0x880000, lo := 2, wd := 1, acc := .ro, rst := .w }
/-- ERG_STAT.VOLATILE (Erg status): 1: the active overlay carries tag 0x02, or the actions of R62 stay in force after a switch stopped under R61 or R538 -/
def ERG_STAT_VOLATILE : Fld := { base := 0x880000, lo := 3, wd := 1, acc := .ro, rst := .w }
/-- ERG_STAT.ACT_OVL (Erg status): active overlay 0–7; 0xF: none; loaded at boot per R65 -/
def ERG_STAT_ACT_OVL : Fld := { base := 0x880000, lo := 4, wd := 4, acc := .ro, rst := .c, dflt := 15 }
/-- ERG_STAT.ACT_MODE (Erg status): low four bits of the active overlay's tag; 0x0 with no overlay -/
def ERG_STAT_ACT_MODE : Fld := { base := 0x880000, lo := 8, wd := 4, acc := .ro, rst := .c }
/-- ERG_STAT.REFORM_LOSS (Erg status): loss mask applied at this boot -/
def ERG_STAT_REFORM_LOSS : Fld := { base := 0x880000, lo := 12, wd := 3, acc := .ro, rst := .c }
/-- ERG_STAT.REFORMED (Erg status): 1: this boot was a reformation -/
def ERG_STAT_REFORMED : Fld := { base := 0x880000, lo := 15, wd := 1, acc := .ro, rst := .c }
/-- ERG_STAT.CFG_REJ (Erg status): 1: a write to an ERG register was rejected -/
def ERG_STAT_CFG_REJ : Fld := { base := 0x880000, lo := 16, wd := 1, acc := .rw1c, rst := .w }
/-- ERG_STAT.PARTIAL (Erg status): 1: an OVL_SWITCH was stopped by a save of code 3 or 4 after step 3 had written a field or run R62, so that the policy fields or the mode in force … -/
def ERG_STAT_PARTIAL : Fld := { base := 0x880000, lo := 17, wd := 1, acc := .ro, rst := .c }
/-- ERG_SEL.NEXT_SLOT (Next boot slot): slot for the next cold boot. 0: A; 1: B -/
def ERG_SEL_NEXT_SLOT : Fld := { base := 0x880004, lo := 0, wd := 1, acc := .rw, rst := .s }
/-- ERG_SLOT.VALID (Slot status): 1: the last validation of the slot passed -/
def ERG_SLOT_VALID : Fld := { base := 0x880010, lo := 0, wd := 1, acc := .ro, rst := .c, n := 2, st := 0x4 }
/-- ERG_SLOT.KEY (Slot status): 0: vendor key; 1: owner key -/
def ERG_SLOT_KEY : Fld := { base := 0x880010, lo := 1, wd := 1, acc := .ro, rst := .c, n := 2, st := 0x4 }
/-- ERG_SLOT.UNIT_BOUND (Slot status): header UNIT_BOUND -/
def ERG_SLOT_UNIT_BOUND : Fld := { base := 0x880010, lo := 2, wd := 1, acc := .ro, rst := .c, n := 2, st := 0x4 }
/-- ERG_SLOT.OVL_CNT (Slot status): overlays present, 0–8 -/
def ERG_SLOT_OVL_CNT : Fld := { base := 0x880010, lo := 4, wd := 4, acc := .ro, rst := .c, n := 2, st := 0x4 }
/-- ERG_SLOT.VERR (Slot status): 0x00: valid; 0x01–0x0B: Table 2-3; 0x0C: loss not permitted; 0x0D: slot erased or never validated -/
def ERG_SLOT_VERR : Fld := { base := 0x880010, lo := 8, wd := 8, acc := .ro, rst := .c, n := 2, st := 0x4, dflt := 13 }
/-- ERG_SER.SERIAL (Slot serial): header SERIAL of the slot; 0x0000_0000 if VERR is 0x0D -/
def ERG_SER_SERIAL : Fld := { base := 0x880018, lo := 0, wd := 32, acc := .ro, rst := .c, n := 2, st := 0x4 }
/-- ERG_DIFF.SEC_DIFF (Structural difference): bit n set: section 0x01 + n differed from the recorded structure at this boot -/
def ERG_DIFF_SEC_DIFF : Fld := { base := 0x880020, lo := 0, wd := 6, acc := .ro, rst := .c }
/-- CAL_STAT.ENTRIES (Store status): entries present -/
def CAL_STAT_ENTRIES : Fld := { base := 0x890000, lo := 0, wd := 12, acc := .ro, rst := .c }
/-- CAL_STAT.USER_ENTRIES (Store status): entries with origin user -/
def CAL_STAT_USER_ENTRIES : Fld := { base := 0x890000, lo := 12, wd := 12, acc := .ro, rst := .c }
/-- CAL_STAT.COMPACT_BUSY (Store status): 1: compaction running -/
def CAL_STAT_COMPACT_BUSY : Fld := { base := 0x890000, lo := 24, wd := 1, acc := .ro, rst := .c }
/-- CAL_KEY.KEY (Entry select): key of the entry shown in CAL_INFO and CAL_DATA -/
def CAL_KEY_KEY : Fld := { base := 0x890004, lo := 0, wd := 16, acc := .rw, rst := .w }
/-- CAL_INFO.LEN (Selected entry): length in words; 0: key absent -/
def CAL_INFO_LEN : Fld := { base := 0x890008, lo := 0, wd := 7, acc := .ro, rst := .w }
/-- CAL_INFO.ORIGIN (Selected entry): 0: factory; 1: user -/
def CAL_INFO_ORIGIN : Fld := { base := 0x890008, lo := 7, wd := 1, acc := .ro, rst := .w }
/-- CAL_UID.UID (Unit ID): word n of the 128-bit unit ID, word 0 least significant -/
def CAL_UID_UID : Fld := { base := 0x890040, lo := 0, wd := 32, acc := .ro, rst := .a, n := 4, st := 0x4 }
/-- CAL_HWTYPE.HW_TYPE (Hardware type): 16-bit hardware type -/
def CAL_HWTYPE_HW_TYPE : Fld := { base := 0x890050, lo := 0, wd := 16, acc := .ro, rst := .a }
/-- CAL_DATA.DATA (Entry data window): word n of the selected entry; 0x0000_0000 beyond LEN -/
def CAL_DATA_DATA : Fld := { base := 0x890100, lo := 0, wd := 32, acc := .ro, rst := .w, n := 64, st := 0x4 }

end R

/-- The fields of the TOP_ register map. -/
def fldsTOP : List Fld :=
  [R.TOP_ID_HW_TYPE, R.TOP_ID_STEP, R.TOP_ID_PART, R.TOP_ID_GRADE, R.TOP_VER_MINOR, R.TOP_VER_MAJOR,
   R.TOP_ROLE_CORE, R.TOP_ROLE_MOVED, R.TOP_DENY_HOST, R.TOP_DENY_TWI]
/-- The fields of the MBX_ register map. -/
def fldsMBX : List Fld :=
  [R.MBX_STAT_BUSY, R.MBX_STAT_BG, R.MBX_STAT_DEVWIDE, R.MBX_CNT_DONE, R.MBX_LAST_OPCODE, R.MBX_LAST_RC,
   R.MBX_LAST_LD, R.MBX_LAST_PORT]
/-- The fields of the LOQ_ register map. -/
def fldsLOQ : List Fld :=
  [R.LOQ_STAT_USED, R.LOQ_STAT_CFG_REJ, R.LOQ_CTL_HPORT, R.LOQ_REL_HANDLE, R.LOQ_LBOFF_OFF,
   R.LOQ_LBDATA_DATA, R.LOQ_RPTR_HEAD, R.LOQ_RPTR_TAIL, R.LOQ_RSEL_HANDLE, R.LOQ_RINFO_LIVE,
   R.LOQ_RINFO_DONE, R.LOQ_RINFO_STATUS, R.LOQ_RINFO_RLEN, R.LOQ_ISS_ARG_ARG, R.LOQ_ISS_CMD_OP,
   R.LOQ_ISS_RES_HANDLE, R.LOQ_ISS_RES_REFUSED, R.LOQ_RING_ENTRY, R.LOQ_RDATA_WORD]
/-- The fields of the HP_ register map. -/
def fldsHP : List Fld :=
  [R.HP_STAT_LINK, R.HP_STAT_RATE, R.HP_STAT_WIDTH, R.HP_STAT_PROTO, R.HP_STAT_FLIT, R.HP_STAT_ACTIVE,
   R.HP_STAT_HOLD_OVER, R.HP_STAT_CFG_REJ, R.HP_STAT_FLIT256, R.HP_CTL_RETRAIN, R.HP_CTL_L1_EN,
   R.HP_CTL_MAX_RATE, R.HP_HOLD_HOLD_LIM, R.HP_HOLD_HOLD_ACT, R.HP_TRK_TRK_USED, R.HP_TRK_HELD_NOW,
   R.HP_HOLDS_HOLD_TOTAL, R.HP_HOLDX_HOLD_EXPIRED, R.HP_DLTH_CONG_OPT, R.HP_DLTH_CONG_MOD,
   R.HP_DLTH_CONG_SEV, R.HP_DLCUR_DL_LEDGER, R.HP_DLCUR_DL_CONG, R.HP_DLCUR_THROT_CNT, R.HP_TMO_RD_TMO,
   R.HP_ERR_UNMAP, R.HP_ERR_RD_TMO_CNT, R.HP_ERR_MGMT_DENY, R.HP_ABND_ABANDONED, R.HP_CRED_REQ_CRED,
   R.HP_CRED_RWD_CRED]
/-- The fields of the QOS_ register map. -/
def fldsQOS : List Fld :=
  [R.QOS_KEY_SID, R.QOS_KEY_LD, R.QOS_KEY_PORT, R.QOS_KEY_VALID, R.QOS_KEY_PINNED, R.QOS_KEY_CLASS,
   R.QOS_KEY_THROT, R.QOS_KEY_ACT_HELD, R.QOS_CAP_REQ_CAP, R.QOS_CAP_ACT_CAP, R.QOS_THR_ACT_THR,
   R.QOS_THR_REQ_CNT, R.QOS_LAT_LAT_MAX, R.QOS_LAT_OVER_CNT, R.QOS_CLASS_TARGET, R.QOS_CTL_WIN,
   R.QOS_CTL_FULL, R.QOS_CTL_CFG_REJ, R.QOS_OVF_OVF, R.QOS_IDLE_EVICT_WIN, R.QOS_LDCLS_CLASS]
/-- The fields of the DRM_ register map. -/
def fldsDRM : List Fld :=
  [R.DRM_STAT_CH_POP, R.DRM_STAT_CH_FENCE, R.DRM_STAT_WAYS, R.DRM_STAT_DEGRADED, R.DRM_STAT_GRP_BASE,
   R.DRM_STAT_CFG_REJ, R.DRM_ITGT_STG_TGT, R.DRM_ITGT_MAP_TGT, R.DRM_RDD_RD_THR, R.DRM_RDD_RD_RATE,
   R.DRM_RDD_RD_HOLD, R.DRM_RDOVF_OVF_RATE, R.DRM_RDOVF_OVF_ACT, R.DRM_SCRUB_PER, R.DRM_SCRUB_EN,
   R.DRM_SCRUBST_PASSES, R.DRM_SCRUBST_LATE, R.DRM_CETHR_CE_EVT, R.DRM_CETHR_CE_MIG, R.DRM_HOSTSZ_HOST_SZ,
   R.DRM_CHM_LO_MASK_LO, R.DRM_CHM_HI_MASK_HI, R.DRM_CHM_HI_PIVOT, R.DRM_CHM_HI_EN, R.DRM_BKM_LO_MASK_LO,
   R.DRM_BKM_HI_MASK_HI, R.DRM_BKM_HI_EN]
/-- The fields of the DCH_ register map, part 0. -/
def fldsDCH0 : List Fld :=
  [R.DCH_STAT_STATE, R.DCH_STAT_SPARE_FREE, R.DCH_STAT_DRAIN0, R.DCH_STAT_DRAIN1, R.DCH_STAT_REF2X,
   R.DCH_STAT_CFG_REJ, R.DCH_GEO_RANKW, R.DCH_GEO_DPC2, R.DCH_GEO_TYPE, R.DCH_GEO_RATE, R.DCH_GEO_COLW,
   R.DCH_GEO_CIDW, R.DCH_GEO_ROWW, R.DCH_GEO_RANK_GIB, R.DCH_CARVE0_CV_MAP, R.DCH_CARVE0_CV_FMAP,
   R.DCH_CARVE1_CV_TRK, R.DCH_CARVE1_CV_STG, R.DCH_HOST_H, R.DCH_HOST_SPARE, R.DCH_CTL_WR_HI,
   R.DCH_CTL_WR_LO, R.DCH_CTL_HIT_CAP, R.DCH_CTL_PRE_IDLE, R.DCH_CTL_PD_IDLE, R.DCH_REF_REF_SB_EN,
   R.DCH_REF_RFM_REQ, R.DCH_REF_POSTPONED, R.DCH_RDC_HOST_CNT, R.DCH_RDC_INT_CNT, R.DCH_TRN_DQS_INT,
   R.DCH_TRN_DQS_TOL, R.DCH_TRN_DQS_EN, R.DCH_TRNST_ADJ_CNT, R.DCH_TRNST_MAX_DRIFT, R.DCH_TRNST_CTR_FAIL,
   R.DCH_MIG_BUSY, R.DCH_MIG_SRC, R.DCH_MIG_MIG_SHARE, R.DCH_MIG_MIG_POISON]
/-- The fields of the DCH_ register map, part 1. -/
def fldsDCH1 : List Fld :=
  [R.DCH_MIGW_W, R.DCH_UEADDR_ADDR, R.DCH_RANK_STATE, R.DCH_ERR_CE_CNT, R.DCH_ERR_UE_CNT]
/-- The fields of the DCH_ register map. -/
def fldsDCH : List Fld := fldsDCH0 ++ fldsDCH1
/-- The fields of the TRK_ register map. -/
def fldsTRK : List Fld :=
  [R.TRK_STAT_RUN, R.TRK_STAT_CFG_REJ, R.TRK_STAT_AUD_DIFF, R.TRK_STAT_EPOCH_NOW, R.TRK_HELD_HELD,
   R.TRK_HMEM_HELD_MEM, R.TRK_HSTG_HELD_STG, R.TRK_DIRTY_DIRTY, R.TRK_INFL_INFL, R.TRK_PEAK_PEAK,
   R.TRK_CLR_PEAK_CLR, R.TRK_RSEL_REGION, R.TRK_RVAL_SUMMARY, R.TRK_PSEL_PAGE, R.TRK_PVAL_DIRTY,
   R.TRK_PVAL_COPYING, R.TRK_PVAL_DISCARD, R.TRK_PVAL_PROMISED, R.TRK_PVAL_HELD, R.TRK_AUD_AUD_DIFFS,
   R.TRK_AUDV_AUDV]
/-- The fields of the DFT_ register map. -/
def fldsDFT : List Fld :=
  [R.DFT_STAT_STATE, R.DFT_STAT_AGE_BYPASS, R.DFT_STAT_AT_MAX, R.DFT_STAT_MEASURED, R.DFT_STAT_CFG_REJ,
   R.DFT_PACE_SETPT, R.DFT_PACE_FS, R.DFT_PACE_AGE_BYP, R.DFT_PACE_CAP, R.DFT_GAIN_KP, R.DFT_GAIN_KI,
   R.DFT_AGE_EPOCH, R.DFT_AGE_MIN_AGE, R.DFT_SEG_SEG_TMO, R.DFT_SNAP_SNAP_MAX, R.DFT_OUT_U, R.DFT_FLR_F,
   R.DFT_INT_I, R.DFT_ERR_EN, R.DFT_RSAVE_RSAVE, R.DFT_DMAX_DMAX, R.DFT_POOL_DIES, R.DFT_POOL_NCH,
   R.DFT_POOL_SLOW_GRP, R.DFT_GEN_GEN, R.DFT_CONF_CONF, R.DFT_WCNT_CONF_WIN, R.DFT_WRD_REDIRTY_WIN,
   R.DFT_PFAIL_PFAIL, R.DFT_SNAPST_SIZE, R.DFT_SNAPST_COARSE, R.DFT_SNAPST_LATE, R.DFT_SNAPT_TICK,
   R.DFT_TPROG_TP, R.DFT_TPROG_USABLE, R.DFT_TPROG_MEAS]
/-- The fields of the LDG_ register map. -/
def fldsLDG : List Fld :=
  [R.LDG_STAT_STATE, R.LDG_STAT_CLOSED, R.LDG_STAT_STG_OFF, R.LDG_STAT_LEVEL, R.LDG_STAT_CDN_ACT,
   R.LDG_STAT_EMERG, R.LDG_STAT_RISE_LIM, R.LDG_STAT_CFG_REJ, R.LDG_CTL_RECOMP, R.LDG_CTL_GAP_CLR,
   R.LDG_PSAVE_P_SAVE, R.LDG_OASIS_OASIS, R.LDG_GUAR_G, R.LDG_GPUB_G_PUB, R.LDG_TMOD_TMOD, R.LDG_TSEV_TSEV,
   R.LDG_COST_C, R.LDG_EUSE_E_USE, R.LDG_EGAU_E_G, R.LDG_EFIX_FIX, R.LDG_PUSE_P, R.LDG_PMEAS_P_MEAS,
   R.LDG_RUSE_R, R.LDG_LIM_T_FIX, R.LDG_LIM_EM_HOLD, R.LDG_RISE_RISE, R.LDG_GMAX_GMAX, R.LDG_GAP_GAP,
   R.LDG_CLOSN_CLOSN, R.LDG_TS_TICK, R.LDG_RCNT_RCNT, R.LDG_CDN_CDN, R.LDG_CDNP_CDNP, R.LDG_GRATED_G_R]
/-- The fields of the CVN_ register map. -/
def fldsCVN : List Fld :=
  [R.CVN_STAT_SAVE_ST, R.CVN_STAT_RST_ST, R.CVN_STAT_READY, R.CVN_STAT_OT, R.CVN_STAT_CASE, R.CVN_STAT_TRIG,
   R.CVN_STAT_LREC, R.CVN_STAT_CONV, R.CVN_STAT_CFG_REJ, R.CVN_POL_OT_EN, R.CVN_POL_EMERG_EN,
   R.CVN_POL_LRW_SHARE, R.CVN_TOL_HOST_TOL, R.CVN_SSN_SSN, R.CVN_GEN0_GEN0, R.CVN_TTRIG_TICK, R.CVN_MPG_MPG,
   R.CVN_MSTG_MSTG, R.CVN_WRT_WRT, R.CVN_TRL_TRL, R.CVN_LOST_LOST, R.CVN_LSTG_LSTG, R.CVN_LRNGC_RANGES,
   R.CVN_DSC_DSC, R.CVN_RWM_RWM, R.CVN_FETCH_FETCH, R.CVN_RTIM_READY_MS, R.CVN_RTIM_BULK_DS, R.CVN_LRP_LRP,
   R.CVN_LSEL_IDX, R.CVN_LRNG_S_START, R.CVN_LRNG_N_COUNT]
/-- The fields of the FCC_ register map. -/
def fldsFCC : List Fld :=
  [R.FCC_STAT_GRP_ON, R.FCC_STAT_CLS_FENCE, R.FCC_STAT_SAVE, R.FCC_STAT_CFG_REJ, R.FCC_CHPOP_POP,
   R.FCC_CHFENCE_FENCE, R.FCC_SUS_PSUS_EN, R.FCC_SUS_ESUS_EN, R.FCC_SUS_PSUS_MAX, R.FCC_SUS_ESUS_MAX,
   R.FCC_SUS_SUS_RD_MAX, R.FCC_SUST_SUS_MIN_P, R.FCC_SUST_SUS_MIN_E, R.FCC_DEC_ITER_MAX, R.FCC_DEC_SOFT_EN,
   R.FCC_DEC_RETRY_MAX, R.FCC_DEC_SOFT_STEP, R.FCC_RRT_TRK_EN, R.FCC_RRT_OFF_MAX, R.FCC_RRT_HYST,
   R.FCC_RRT_PROBE_TRIG, R.FCC_RRT2_PROBE_PER, R.FCC_XT_XT_MAX, R.FCC_XT_XT_RETRAIN, R.FCC_PWR_GRP_IDLE,
   R.FCC_PWR_PD_EN, R.FCC_LIM_DRIFT_WIN, R.FCC_LIM_DTMO_FENCE, R.FCC_CLS_FENCED, R.FCC_CLS_SHARED,
   R.FCC_CLS_HARD_BUSY, R.FCC_CLS_SOFT_BUSY]
/-- The fields of the FCH_ register map, part 0. -/
def fldsFCH0 : List Fld :=
  [R.FCH_STAT_STATE, R.FCH_STAT_MODE, R.FCH_STAT_RATE, R.FCH_STAT_SLOTS, R.FCH_POP_VOLS, R.FCH_POP_LUNS,
   R.FCH_POP_DIES, R.FCH_GEO0_PAGE_KIB, R.FCH_GEO0_PLANES, R.FCH_GEO0_BPC, R.FCH_GEO0_PSUS, R.FCH_GEO0_ESUS,
   R.FCH_GEO0_SPARE_B, R.FCH_GEO1_PAGES, R.FCH_GEO1_BLOCKS, R.FCH_TDECL0_TR, R.FCH_TDECL0_TPROG_SLC,
   R.FCH_TDECL1_TPROG, R.FCH_TDECL1_TBERS, R.FCH_XTST_XT_ON, R.FCH_XTST_STEPS, R.FCH_XTST_CHECKS,
   R.FCH_XTST_RETRAINS, R.FCH_DFENCE_FENCE, R.FCH_DSEL_DIE, R.FCH_DINFO_STATE, R.FCH_DINFO_TMO,
   R.FCH_DINFO_SUSP, R.FCH_DRD_READS, R.FCH_DPRG_PROGS, R.FCH_DERS_ERASES, R.FCH_DITER_ITER_MEAN,
   R.FCH_DITER_BITS_MAX, R.FCH_DSOFT_SOFT, R.FCH_DRTY_RETRY, R.FCH_DUNC_UNC, R.FCH_DFAIL_PFAIL,
   R.FCH_DFAIL_EFAIL, R.FCH_DSUS_PSUS_CNT, R.FCH_DSUS_ESUS_CNT]
/-- The fields of the FCH_ register map, part 1. -/
def fldsFCH1 : List Fld :=
  [R.FCH_DTIME_TPROG_MEAN, R.FCH_DTIME_TBERS_MEAN, R.FCH_RSEL_GROUP, R.FCH_RSEL_REF, R.FCH_ROFF_OFFSET,
   R.FCH_ROFF_MEAN, R.FCH_ROFF_PROBES]
/-- The fields of the FCH_ register map. -/
def fldsFCH : List Fld := fldsFCH0 ++ fldsFCH1
/-- The fields of the FTL_ register map, part 0. -/
def fldsFTL0 : List Fld :=
  [R.FTL_STAT_MAP_IMG, R.FTL_STAT_MAP_NS, R.FTL_STAT_GC_ACT, R.FTL_STAT_GC_URGENT, R.FTL_STAT_WL_BUSY,
   R.FTL_STAT_CP_BUSY, R.FTL_STAT_RSV_SHORT, R.FTL_STAT_SPARE_LOW, R.FTL_STAT_NS_RO, R.FTL_STAT_WITHDRAWN,
   R.FTL_STAT_CFG_REJ, R.FTL_S_VAL, R.FTL_NIMG_VAL, R.FTL_NRSV_VAL, R.FTL_NNS_VAL, R.FTL_SPARE_P,
   R.FTL_SPARE0_P0, R.FTL_AVAIL_AVAIL, R.FTL_AVAIL_SPARE_WARN, R.FTL_FREE_F, R.FTL_FRSV_RSV_FREE,
   R.FTL_PEND_PEND, R.FTL_GCW_W_V, R.FTL_GCW_W_A, R.FTL_GCW_W_W, R.FTL_GCTH_GC_ST, R.FTL_GCTH_GC_URG,
   R.FTL_GCTH_GC_STOP, R.FTL_WL_WL_SPREAD, R.FTL_WEAR_WMIN, R.FTL_WEAR_WMAX, R.FTL_RWR_CB_LIM,
   R.FTL_RDLIM_RL_SLC, R.FTL_RDLIM_RL_NAT, R.FTL_CP_CP_GIB, R.FTL_CP_FOLD_HI, R.FTL_CP_FOLD_LO,
   R.FTL_CPT_CP_TICKS, R.FTL_CSEQ_CSEQ, R.FTL_FGRP_GROUPS]
/-- The fields of the FTL_ register map, part 1. -/
def fldsFTL1 : List Fld :=
  [R.FTL_LIFE_LIFE_IMG, R.FTL_LIFE_PCT_USED, R.FTL_RETB_RETB, R.FTL_DIES_DIES_RET, R.FTL_DIES_INTR,
   R.FTL_REBLD_REBUILT, R.FTL_REBLD_UNREC, R.FTL_RWS_RWS, R.FTL_SCAN_SCAN_PER, R.FTL_BSEL_DIE,
   R.FTL_BSEL_PBLK, R.FTL_BINFO_STATE, R.FTL_BINFO_MODE, R.FTL_BINFO_TENANT, R.FTL_BINFO_GROUP,
   R.FTL_BINFO_RWSCHED, R.FTL_BWEAR_WEAR, R.FTL_BREAD_READS]
/-- The fields of the FTL_ register map. -/
def fldsFTL : List Fld := fldsFTL0 ++ fldsFTL1
/-- The fields of the NVC_ register map, part 0. -/
def fldsNVC0 : List Fld :=
  [R.NVC_STAT_RUN, R.NVC_STAT_STG_OFF, R.NVC_STAT_PERS_ABS, R.NVC_STAT_ADMIN_PAUSE, R.NVC_STAT_CFG_REJ,
   R.NVC_FCFG0_VF_A, R.NVC_FCFG0_VF_B, R.NVC_FCFG0_QP_PF, R.NVC_FCFG0_QP_VF, R.NVC_FCFG1_CMD_MAX_F,
   R.NVC_FCFG1_MQES, R.NVC_FCFG2_VEC_PF, R.NVC_FCFG2_VEC_VF, R.NVC_CMD_INFL, R.NVC_LOCK_LOCK_USED,
   R.NVC_LOCK_LOCK_WAIT, R.NVC_STALL_SQ_STALL, R.NVC_STG_STG_TOTAL, R.NVC_STGU_STG_USED,
   R.NVC_STGW_STG_WAITS, R.NVC_WTN_WT_NS, R.NVC_SWCNT_SWITCHES, R.NVC_MERGE_MERGES, R.NVC_ABRT_ABRT_REQ,
   R.NVC_ABRT_ABRT_HIT, R.NVC_LOSS_LOST_LBA, R.NVC_LOSSNS_NS_STG, R.NVC_LOSSNS_NS_UNK, R.NVC_FNSEL_FN,
   R.NVC_FNINFO_EN, R.NVC_FNINFO_RDY, R.NVC_FNINFO_PS, R.NVC_FNINFO_PS_ENTRY, R.NVC_FNINFO_INFL,
   R.NVC_FNINFO_QP, R.NVC_NSSEL_NSID, R.NVC_NSINFO_PRESENT, R.NVC_NSINFO_READY, R.NVC_NSINFO_CFG_WT,
   R.NVC_NSINFO_EFF_WT]
/-- The fields of the NVC_ register map, part 1. -/
def fldsNVC1 : List Fld :=
  [R.NVC_NSINFO_CAUSE, R.NVC_NSINFO_LOSS_STG, R.NVC_NSINFO_LOSS_UNK, R.NVC_NSINFO_RO_NS, R.NVC_NSINFO_LBAF]
/-- The fields of the NVC_ register map. -/
def fldsNVC : List Fld := fldsNVC0 ++ fldsNVC1
/-- The fields of the CRC_ register map. -/
def fldsCRC : List Fld :=
  [R.CRC_STAT_CLAIMED, R.CRC_STAT_CFG_REJ, R.CRC_DPERR_PI_ERR, R.CRC_DPERR_PG_ERR, R.CRC_GE_OWN_OWNER,
   R.CRC_GE_OWN_CLAIM, R.CRC_GE_OWN_RELEASE, R.CRC_GE_OWN_OWNER_RST, R.CRC_GE_CTL_POLY, R.CRC_GE_CTL_INIT,
   R.CRC_GE_DIN_B_DIN, R.CRC_GE_DIN_H_DIN, R.CRC_GE_DIN_W_DIN, R.CRC_GE_VAL_VAL, R.CRC_GE_RES_RES,
   R.CRC_GE_LEN_LEN]
/-- The fields of the GAU_ register map. -/
def fldsGAU : List Fld :=
  [R.GAU_STAT_PSTATE, R.GAU_STAT_FCAUSE, R.GAU_STAT_HIB, R.GAU_STAT_REST, R.GAU_STAT_AUD_BUSY,
   R.GAU_STAT_COLD, R.GAU_STAT_CFG_REJ, R.GAU_STAT_TBL_SRC, R.GAU_EG_E_G, R.GAU_SOC_SOC, R.GAU_SOC_SOC_REP,
   R.GAU_MEAS_V, R.GAU_MEAS_T, R.GAU_QL_Q_L, R.GAU_RF_RFAC, R.GAU_RF_DERATE, R.GAU_ID_ID_CODE,
   R.GAU_ID_SER_OK, R.GAU_SER_SER, R.GAU_SMP_SMP_INT, R.GAU_SMP_EST_INT, R.GAU_HIB_HIB_INT,
   R.GAU_REST_REST_T, R.GAU_THR_REST_DV, R.GAU_THR_FALL_TRIG, R.GAU_AUD_DEPTH, R.GAU_AUD_AUD_PER,
   R.GAU_AUD_AUD_EN, R.GAU_AUDST_LAST_PASS, R.GAU_AUDST_LAST_CAUSE, R.GAU_AUDST_PASSES, R.GAU_AUDST_DISQ,
   R.GAU_AUDT_TICK, R.GAU_PSAV_P_PACK, R.GAU_CTL_EST_NOW, R.GAU_CTL_LRN_NOW, R.GAU_LRNT_TICK]
/-- The fields of the SEQ_ register map. -/
def fldsSEQ : List Fld :=
  [R.SEQ_STAT_STATE, R.SEQ_STAT_ON_LATCH, R.SEQ_STAT_REFUSED, R.SEQ_STAT_FLT_DRV, R.SEQ_STAT_EXT_FLT,
   R.SEQ_STAT_BOOTSTRAP, R.SEQ_STAT_CFG_REJ, R.SEQ_CTL_OFF, R.SEQ_CTL_FORCE, R.SEQ_CTL_FLT_CLR,
   R.SEQ_GLB_PG_TMO, R.SEQ_GLB_OFF_WAIT, R.SEQ_TIM_T_MIN_OFF, R.SEQ_TIM_FLT_HOLD, R.SEQ_FLTC_FLT_IN,
   R.SEQ_FLTC_TRIP_N, R.SEQ_FMASK_FLT_MASK, R.SEQ_ON_RAILS, R.SEQ_GOOD_RAILS, R.SEQ_FAIL_RAILS,
   R.SEQ_FLOG_RAIL, R.SEQ_FLOG_CAUSE, R.SEQ_FLOG_PHASE, R.SEQ_FLOG_MORE, R.SEQ_FLOGT_TICK, R.SEQ_TRIPC_RAIL,
   R.SEQ_TRIPC_CAUSE, R.SEQ_TRIPC_COUNT, R.SEQ_RDLY_ON_DLY, R.SEQ_RDLY_OFF_DLY, R.SEQ_RDEP_DEP,
   R.SEQ_RTH_OFF_TH, R.SEQ_RTH_UV_TH, R.SEQ_RFLG_OV_TH, R.SEQ_RFLG_FLAGS, R.SEQ_RDG_LAST, R.SEQ_RDG_AVG,
   R.SEQ_SNAP_MV]
/-- The fields of the TWI_ register map. -/
def fldsTWI : List Fld :=
  [R.TWI_STAT_STATE, R.TWI_STAT_SLEEP, R.TWI_STAT_RATE, R.TWI_STAT_STRETCH, R.TWI_STAT_OWN_ADDR,
   R.TWI_STAT_CFG_REJ, R.TWI_STAT_CLR_TRY, R.TWI_CTL_FLT_CLR, R.TWI_POL_RETRY_N, R.TWI_POL_RETRY_INT,
   R.TWI_POL_ARB_MAX, R.TWI_TIM0_SCL_LOW, R.TWI_TIM0_SCL_HIGH, R.TWI_TIM1_SU_DAT, R.TWI_TIM1_HD_DAT,
   R.TWI_TIM1_RISE, R.TWI_TIM2_SU_STA, R.TWI_TIM2_HD_STA, R.TWI_TIM2_SU_STO, R.TWI_TIM3_BUF,
   R.TWI_LAST_STATUS, R.TWI_LAST_ADDR, R.TWI_LAST_TRIES, R.TWI_CNT0_XFER_OK, R.TWI_CNT0_NORESP,
   R.TWI_CNT1_ARB_LOST, R.TWI_CNT1_PEC_ERR, R.TWI_CNT1_TMO, R.TWI_CNT1_STUCK, R.TWI_CNT2_CMD_NACK,
   R.TWI_CNT2_WAKE_NACK, R.TWI_CNT2_MCTP_DROP, R.TWI0_ALERT_CAUSE, R.TWI0_ALERT_MASK, R.TWI0_ALERT_ASSERTED]
/-- The fields of the CFL_ register map. -/
def fldsCFL : List Fld :=
  [R.CFL_STAT_B0_ST, R.CFL_STAT_B1_ST, R.CFL_STAT_FAIL_P, R.CFL_STAT_FAIL_E, R.CFL_STAT_WP_LOCK,
   R.CFL_STAT_CFG_REJ, R.CFL_STAT_EINT_FOUND, R.CFL_OWN_OWNER, R.CFL_OWN_CLAIM, R.CFL_OWN_RELEASE,
   R.CFL_OWN_OWNER_RESET, R.CFL_CTL_WP_LOCK, R.CFL_DQ_WORD, R.CFL_DQPUSH_PUSH, R.CFL_DQST_USED,
   R.CFL_DQST_REJ_WHY, R.CFL_CRHEAD_HEAD, R.CFL_CRHEAD_TAIL, R.CFL_SEL_BA_ACT, R.CFL_SEL_BA_NEXT,
   R.CFL_SEL_SEQ, R.CFL_BFLT_BFLT, R.CFL_WIN_NEWEST, R.CFL_WIN_OLDEST, R.CFL_WIN_LV_ACT, R.CFL_EINT_EINT,
   R.CFL_WP_WP, R.CFL_CR_ENTRY, R.CFL_ECNT_ECNT]
/-- The fields of the BST_ register map. -/
def fldsBST : List Fld :=
  [R.BST_STAT_STAGE, R.BST_STAT_DONE, R.BST_STAT_PACK_WAIT_EXP, R.BST_STAT_CFG_REJ, R.BST_SL_CUR,
   R.BST_SL_CAP, R.BST_SL_LIMIT, R.BST_PASS_SLICES, R.BST_FENCE_SLICES, R.BST_ABS_SLICES, R.BST_RERUN_SLICES,
   R.BST_CFG_BUD, R.BST_CFG_PAT, R.BST_CFG_PACK_WAIT, R.BST_CORE_PASS, R.BST_CORE_FENCED, R.BST_WDT_WDT_PER,
   R.BST_WDT_WDT_LIM, R.BST_WDTC_CNT, R.BST_RST_TYPE, R.BST_RST_SRC, R.BST_CTL_WARM, R.BST_BOOTN_BOOT_CNT,
   R.BST_BTIME_T_SL1, R.BST_BTIME_T_END, R.BST_SIG_SIG, R.BST_TIME_RUN_US, R.BST_TIME_PATS,
   R.BST_TIME_OVERRUN]
/-- The fields of the EVR_ register map. -/
def fldsEVR : List Fld :=
  [R.EVR_STAT_RET_CNT, R.EVR_STAT_COMMIT, R.EVR_STAT_PERM_FULL, R.EVR_STAT_CFG_REJ, R.EVR_STAT_QUSE,
   R.EVR_CFG_ALERT_SEV, R.EVR_CFG_RATE_MAX, R.EVR_NEXT_SEQ, R.EVR_OVF_OVF, R.EVR_SUPP_SUPP, R.EVR_TORN_TORN,
   R.EVR_SEL_AREA, R.EVR_SEL_INDEX, R.EVR_RD_READY, R.EVR_RD_RESULT, R.EVR_RD_ADV, R.EVR_DATA_WORD]
/-- The fields of the FWU_ register map. -/
def fldsFWU : List Fld :=
  [R.FWU_STAT_STATE, R.FWU_STAT_OWNER, R.FWU_STAT_FALLBACK, R.FWU_STAT_CFG_REJ, R.FWU_CTL_ABORT,
   R.FWU_DOFF_OFF, R.FWU_DDATA_DATA, R.FWU_DLST_BLOCKS, R.FWU_DLST_CRC_ERR, R.FWU_SLOT_VALID,
   R.FWU_SLOT_ACT_CLASS, R.FWU_SLOT_BOOT, R.FWU_SLOT_SVN, R.FWU_SLOT_VERR, R.FWU_REV_FR, R.FWU_SEL_RUN,
   R.FWU_SEL_NEXT, R.FWU_SEL_TRIAL, R.FWU_SEL_TRIES, R.FWU_SEL_PENDING, R.FWU_SVN_FLOOR, R.FWU_SVN_RUN_SVN,
   R.FWU_FMT_LV_FMT, R.FWU_FMT_DUAL, R.FWU_FMT_ERG_PROT, R.FWU_ACTT_CLASS, R.FWU_ACTT_TOTAL_MS,
   R.FWU_ACTT_HOLD_MS]
/-- The fields of the PWR_ register map. -/
def fldsPWR : List Fld :=
  [R.PWR_STAT_RC_ACT, R.PWR_STAT_AVS_FLT, R.PWR_STAT_STAGE, R.PWR_STAT_CFG_REJ, R.PWR_TICK_TICK,
   R.PWR_DON_ON, R.PWR_LOOP_AVS_EN, R.PWR_LOOP_FS_EN, R.PWR_LOOP_EQ_EN, R.PWR_AVS_VMAX, R.PWR_AVS_AVS_PER,
   R.PWR_AVSST_VSET, R.PWR_AVSST_VREAD, R.PWR_CPM_SLACK_LO, R.PWR_CPM_SLACK_HI, R.PWR_CPM_SLACK_EMG,
   R.PWR_CPM_SLACK_MIN, R.PWR_CPM_STRETCH, R.PWR_FS_LVL, R.PWR_FS_FS_WIN, R.PWR_THERM_TJ, R.PWR_THERM_HOT,
   R.PWR_TTH0_TJ_WARN, R.PWR_TTH0_TJ_THROT, R.PWR_TTH1_TJ_CRIT, R.PWR_TTH1_THERM_U, R.PWR_EQ_EQ_MARG,
   R.PWR_EQ_MARG_MIN, R.PWR_EQ_REDO, R.PWR_IDLE_IDLE, R.PWR_IDLE_WAKES, R.PWR_TSNS_T]
/-- The fields of the ERG_ register map. -/
def fldsERG : List Fld :=
  [R.ERG_STAT_BOOT_SLOT, R.ERG_STAT_FALLBACK, R.ERG_STAT_SWITCH_BUSY, R.ERG_STAT_VOLATILE,
   R.ERG_STAT_ACT_OVL, R.ERG_STAT_ACT_MODE, R.ERG_STAT_REFORM_LOSS, R.ERG_STAT_REFORMED, R.ERG_STAT_CFG_REJ,
   R.ERG_STAT_PARTIAL, R.ERG_SEL_NEXT_SLOT, R.ERG_SLOT_VALID, R.ERG_SLOT_KEY, R.ERG_SLOT_UNIT_BOUND,
   R.ERG_SLOT_OVL_CNT, R.ERG_SLOT_VERR, R.ERG_SER_SERIAL, R.ERG_DIFF_SEC_DIFF]
/-- The fields of the CAL_ register map. -/
def fldsCAL : List Fld :=
  [R.CAL_STAT_ENTRIES, R.CAL_STAT_USER_ENTRIES, R.CAL_STAT_COMPACT_BUSY, R.CAL_KEY_KEY, R.CAL_INFO_LEN,
   R.CAL_INFO_ORIGIN, R.CAL_UID_UID, R.CAL_HWTYPE_HW_TYPE, R.CAL_DATA_DATA]

/-- Every field of the management space, in the order of Table 21-1. -/
def allFlds : List Fld :=
  fldsTOP ++ fldsMBX ++ fldsLOQ ++ fldsHP ++ fldsQOS ++ fldsDRM ++ fldsDCH ++ fldsTRK ++ fldsDFT ++ fldsLDG ++ fldsCVN ++ fldsFCC ++ fldsFCH ++ fldsFTL ++ fldsNVC ++ fldsCRC ++ fldsGAU ++ fldsSEQ ++ fldsTWI ++ fldsCFL ++ fldsBST ++ fldsEVR ++ fldsFWU ++ fldsPWR ++ fldsERG ++ fldsCAL

end Sys2Proof.Machine
end

