-- ==== Sys2Proof/Machine/State.lean ====
section
/-!
DEFINITION. The state of the block, as plain data: the register fields of the management space, host memory, and for
each chapter of the manual the queues, tables, counters, pins and records that its registers do not hold. Every field
names the rule that gives it and its value at reset. `State.reset` is the device right after an A reset: nothing
runs, nothing is stored beyond what the factory and the manual's reset values leave.
-/
namespace Sys2Proof.Machine

/-- Why a step can stop with a fault. The manual gives every command of the table an effect in every state (an event
that a table does not list for a state has no effect, R21), so no meaning raises one. -/
inductive Fault where
  /-- Raised by no command: kept so that the interface has a fault to name. Safe: it never ends a run. -/
  | none
  deriving DecidableEq, Repr

/-- Why a step can refuse a command. -/
inductive Refusal where
  /-- A command whose meaning is not yet written, by its mnemonic. Safe: nothing is claimed of it. -/
  | notModelled (mnemonic : String)
  deriving DecidableEq, Repr

/-- The optional features of PCIe that a function implements (R74, Table 3-2). -/
inductive PcieCap where
  | tags10and14
  | aspmL1
  | powerStates
  | flr
  | sriov
  | msix
  | aer
  | ecrc
  | margining
  | doeCdat
  deriving DecidableEq, Repr

/-- What leaves the device in answer to a command: completions, messages, interrupts and pins. The list of them is
the model's own field; it holds what the last command emitted. [DESIGN CHOICE, safe: log 6] -/
inductive Output where
  /-- S2M DRS: read data, its poison mark and DevLoad (R82, R94). -/
  | memData (port tag : Nat) (data : List Byte) (psn : Bool) (devLoad : Nat)
  /-- S2M NDR: completion of a write or an invalidate, with DevLoad (R82, R94). -/
  | cmp (port tag devLoad : Nat)
  /-- Credits returned to the host (R81, R86). -/
  | credit (port req rwd : Nat)
  /-- A GPF phase response (R96). -/
  | gpf (port phase : Nat)
  /-- A mailbox completion: return code and payload words or bytes as the command's own text gives (R507). -/
  | mbx (port ld rc : Nat) (payload : List Nat)
  /-- An MSI-X vector of function 0 of a logical device (R515), or of an NVMe function. -/
  | msix (port fn vec : Nat)
  /-- An NVMe completion: function, queue, command identifier, status code type and code, and returned data. -/
  | cqe (fn sq cid sct sc : Nat) (data : List Nat)
  /-- Bytes answered on TWI0: a status or count and what follows. -/
  | twi (status : Nat) (data : List Nat)
  /-- A code refused or not acknowledged on TWI0. -/
  | twiNack
  /-- A configuration request answered, or answered with Configuration Request Retry Status (R444). -/
  | cfg (port fn : Nat) (retry : Bool)
  /-- What a function reports in configuration space: its class code, the BARs it implements and its capabilities (R72 to R74). -/
  | func (port fn cls : Nat) (bars : List Nat) (caps : List PcieCap)
  /-- What function 0 of a port reports: GPF phase 2 duration in ms and power in mW (R97), and the Media Status of each
  logical device's Memory Device Status (R98). -/
  | dev (port ms mw : Nat) (media : List Nat)
  /-- A bus fault to a management core (R426). -/
  | busFault (bank addr : Nat)
  /-- A word of the code flash read by a management core (R426). -/
  | coreData (core addr word : Nat)
  /-- A buffer or a semaphore granted. -/
  | granted (who what : Nat)
  /-- A command to flash, DRAM, TWI or a rail that leaves the chip, named by a kind and its numbers. -/
  | issue (kind : Nat) (what : List Nat)
  deriving DecidableEq, Repr

/-- Host port and CXL: where a request stands in its tracker entry (R81 to R88, R115, R137, R232, R541). -/
inductive TStage where
  /-- Waits until memory is ready (R541). -/
  | waitReady
  /-- Waits for a token of its QoS entry (R93). -/
  | waitToken
  /-- Waits behind an earlier write to the same line (R83). -/
  | waitLine
  /-- A store held by admission (R84). -/
  | held
  /-- Waits for an on-touch fetch of its page (R232). -/
  | waitFetch
  /-- An admitted write that has not entered a DRAM write queue, or a read whose bank queue is full (R115). -/
  | waitBank
  /-- A read in its bank queue. -/
  | readQ
  /-- A read whose DRAM read has issued. -/
  | readIssued
  deriving DecidableEq, Repr

/-- The opcodes that take a tracker entry (R82): reads, writes, partial writes and invalidates. -/
inductive ReqOp where
  | rd | wr | wrPtl | inv
  deriving DecidableEq, Repr

/-- One tracker entry (R81). `dpa` is the device physical address of the line (R76), `be` the byte enables,
`age` the time since arrival in ns (R92), `qent` the QoS entry the request runs under (R91). -/
structure Req where
  id : Nat
  port : Nat
  ld : Nat
  tag : Nat
  op : ReqOp
  dpa : Nat
  data : List Byte
  be : Nat
  psn : Bool
  age : Nat
  heldFor : Nat
  cls : Nat
  urg : Nat
  qent : Option Nat
  stage : TStage
  expired : Bool
  stalled : Bool
  deriving DecidableEq, Repr

/-- One HDM decoder of a logical device (R75, R77): committed base and size in host physical addresses, interleave
ways and granularity in bytes, and the DPA at which the decoder's range begins (DPA skip included). -/
structure Decoder where
  committed : Bool
  base : Nat
  size : Nat
  ways : Nat
  gran : Nat
  dpaBase : Nat
  locked : Bool
  deriving DecidableEq, Repr

/-- One CXL event record (R99, Table 3-6): `typ` is 0 General Media, 1 DRAM, 2 Memory Module, 3 Dynamic Capacity,
4 vendor; `sub` the event or vendor subtype; `time` the host timestamp of R539. -/
structure CxlRec where
  handle : Nat
  typ : Nat
  sub : Nat
  data : List Nat
  time : Nat
  deriving DecidableEq, Repr

/-- One event log of a logical device (R99): at most 256 records; `dropped` counts those that found it full, the first and the
last of them at the host times `overAt`. -/
structure EvLog where
  recs : List CxlRec
  dropped : Nat
  overAt : Nat × Nat
  next : Nat
  deriving DecidableEq, Repr

/-- What the device keeps for one logical device: its decoders (R77), its dynamic-capacity extents as (first block,
blocks) in units of 256 MiB of device physical address (R78), the region of each by its first block (R78), its adds and releases in progress (R79, R151), its event
logs (R99), interrupt policy (R99), poison list (R508), alert settings and shutdown state (R507). -/
structure Ld where
  decs : List Decoder
  extents : List (Nat × Nat)
  regions : List (Nat × Nat)
  adding : List (Nat × Nat)
  releasing : List (Nat × Nat)
  logs : List EvLog
  policy : List Nat
  poisoned : List Nat
  poisonOver : Bool
  alert : List Nat
  shutdown : Nat
  lastUnmap : Option Nat
  offline : Bool
  deriving DecidableEq, Repr

/-- Host ports, request tracker and QoS (chapter Host Ports). -/
structure HostSt where
  /-- Request tracker: entries of both ports, oldest arrival first, at most 1,024 a port (R81, 03_host_port; reset: empty) -/
  trk : List Req
  /-- Next tracker entry number, the model's own name for an entry (R81, 03_host_port; reset: 0) -/
  nextReq : Nat
  /-- M2S Req credits the host of each port has spent and not had returned, by port (R81, R347, 03_host_port; reset: 0) -/
  reqOut : List (Nat × Nat)
  /-- M2S RwD credits the host of each port has spent and not had returned, by port (R81, R347, 03_host_port; reset: 0) -/
  rwdOut : List (Nat × Nat)
  /-- Credit returns in flight: 2p Req and 2p+1 RwD returns of port p not yet acknowledged (R82, R347, 03_host_port; reset: 0) -/
  credFly : List (Nat × Nat)
  /-- RwD credits withheld by HOLD_OVER, by port (R86, 03_host_port; reset: 0) -/
  rwdKept : List (Nat × Nat)
  /-- Logical devices, 0 to 15 on port A and 16 to 31 on port B (R76, R103, 03_host_port; reset: no decoder, no extent, empty logs) -/
  lds : List (Nat × Ld)
  /-- Requests of each QoS entry in the current telemetry window (R91, 03_host_port; reset: 0) -/
  qosReq : List (Nat × Nat)
  /-- Longest completion of each QoS entry in the current window, ns (QOS_LAT, 03_host_port; reset: 0) -/
  qosLat : List (Nat × Nat)
  /-- Completions over target of each QoS entry in the current window (QOS_LAT, 03_host_port; reset: 0) -/
  qosOver : List (Nat × Nat)
  /-- Consecutive idle windows of each QoS entry (R91, 03_host_port; reset: 0) -/
  qosIdle : List (Nat × Nat)
  /-- Tokens spent from each QoS entry's bucket of 64, in units of 1/10,000 request (R93, 03_host_port; reset: 0, a full bucket) -/
  qosSpent : List (Nat × Nat)
  /-- HOLD_OVER seen in the telemetry window in progress, and in the last completed one (R100, 03_host_port; reset: no) -/
  holdSeen : Bool
  holdSeenPrev : Bool
  /-- Tick at which the telemetry window in progress began (R91, R100, QOS_CTL.WIN, 03_host_port; reset: 0) -/
  winAt : Nat
  /-- PERST asserted, bit p for port p (R70, R87, 03_host_port; reset: 3, both asserted) -/
  perst : Nat
  /-- Ports whose link uses port-based routing, bit p for port p (R90, 03_host_port; reset: 0) -/
  pbr : Nat
  /-- Tick of the last release of PERST of each port (R444, 17_boot_selftest_resets; reset: 0) -/
  perstAt : List (Nat × Nat)
  /-- Ports ready to train, bit p for port p (R444, 17_boot_selftest_resets; reset: 0) -/
  ready : Nat
  /-- Ports owed a GPF phase 2 response at the valid mark, bit p (R96, 03_host_port; reset: 0) -/
  gpfWait : Nat
  /-- GPF DVSEC phase 2 duration, ms, and power, mW, fixed at cold boot (R97, 03_host_port; reset: 0) -/
  gpfMs : Nat
  gpfMw : Nat
  /-- Relation of host time to the tick counter: host time and the tick it was set (R539, 03_host_port; reset: none) -/
  hostTime : Option (Nat × Nat)
  /-- Ranges of device physical pages marked offline, (first page, pages) (R140, 04_dram; reset: none) -/
  offline : List (Nat × Nat)
  /-- Last Media Status and Health Status reported in an event (Table 3-6, 03_host_port; reset: 1 Not Ready, 0) -/
  mediaLast : Nat
  healthLast : Nat
  lifeLast : Nat
  /-- Physical functions whose MSI-X table a reset cleared, and the vectors masked (R515, 21_register_space_and_mailbox; reset: empty) -/
  msixOff : List Nat
  /-- CXL.mem held for a firmware activation of class 1 (R479, 19_firmware_update; reset: no) -/
  cxlHold : Bool
  deriving DecidableEq, Repr

/-- Who waits for a DRAM request (R115, Table 4-4). -/
inductive DSrc where
  | host (req : Nat)
  | drift (page : Nat)
  /-- A staging page written for an NVMe command (R317), and read for its destage (R276). -/
  | staging (stg : Nat)
  | destage (stg : Nat)
  /-- A staging page read for a command, by tag and slot (R319, R325). -/
  | nvm (tag slot : Nat)
  /-- A line of the maps, by device address. -/
  | map (line : Nat)
  | fetch (page : Nat)
  | bulk (page : Nat)
  /-- A page that a save writes, by its slot (R215). -/
  | save (slot : Nat)
  /-- A page whose image slot is rewritten from DRAM (R226, R270). -/
  | image (page : Nat)
  | migrate
  | scrub
  | rewrite
  deriving DecidableEq, Repr

/-- One request in a bank queue (R115). `bank` is the hashed bank index 0 to 31, `drank` 8 × the physical rank + the chip
ID that the decode gives, `row` the row, `line` the device physical address of the 64 B line. -/
structure DReq where
  id : Nat
  way : Nat
  bank : Nat
  drank : Nat
  row : Nat
  line : Nat
  wr : Bool
  data : List Byte
  be : Nat
  psn : Bool
  src : DSrc
  urg : Nat
  qent : Option Nat
  deriving DecidableEq, Repr

/-- A page that a mover reads from DRAM or writes to it, line by line through the bank queues (R115, R159, R229): who moves
it, device physical address, urgency (Table 4-4) and age in ns, the lines not yet queued, those queued and not yet done, its bytes
with the metadata of a staging page, the lines that read as poisoned or that are written with a mark, and the datapath buffer that
holds it (R25; 0 none yet, else 1 + buffer + 8,192 × tag). -/
structure PageIo where
  src : DSrc
  wr : Bool
  base : Nat
  urg : Nat
  age : Nat
  wait : List Nat
  out : List Nat
  data : List Host.Cell
  md : List Host.Cell
  marks : List Nat
  buf : Nat
  deriving DecidableEq, Repr

/-- A rank migration in progress on a channel (R136): rank, the units of 4 KiB of S in the rank, its long operation; and of the
unit at the watermark whether its copy has begun, the lines whose read is not yet queued, the lines read and not yet queued for
the spare with whether they stay uncorrectable, and the lines queued and not yet done. -/
structure Migr where
  rank : Nat
  units : Nat
  loq : Option Nat
  begun : Bool
  todo : List Nat
  back : List (Nat × Bool)
  flying : List Nat
  deriving DecidableEq, Repr

/-- DRAM controllers (chapter DRAM Subsystem). A way is a subchannel: way w is channel w / 2, subchannel w mod 2. -/
structure DramSt where
  /-- Bank queues of every subchannel, oldest request first; a bank queue holds at most 16 (R115, 04_dram; reset: empty) -/
  q : List DReq
  /-- Next request number (R115, 04_dram; reset: 0) -/
  next : Nat
  /-- Reads whose column command has issued and whose data has not returned (R127, 04_dram; reset: empty) -/
  reading : List DReq
  /-- Open row of each bank, keyed 1,024 × way + 32 × rank + bank; the value is the row plus one (R119, 04_dram; reset: closed) -/
  openRow : List (Nat × Nat)
  /-- Consecutive column commands served by the open row of each bank (R119 rule 4, 04_dram; reset: 0) -/
  hits : List (Nat × Nat)
  /-- Bank that received the last activate of each subchannel, plus one (R119 rule 5, 04_dram; reset: 0) -/
  rot : List (Nat × Nat)
  /-- Refresh-management commands due at each bank, keyed as the open rows (R119 rule 1, R123, R125, 04_dram; reset: 0) -/
  rfmDue : List (Nat × Nat)
  /-- Rolling activate count (RAA) of each bank, keyed as the open rows (R123, 04_dram; reset: 0) -/
  raa : List (Nat × Nat)
  /-- Training or ZQ steps due on each subchannel (R119 rule 2, R133, 04_dram; reset: 0) -/
  trnDue : List (Nat × Nat)
  /-- Row-group counters: 16 per bank as (group, count), keyed as the open rows (R124, 04_dram; reset: empty) -/
  groups : List (Nat × List (Nat × Nat))
  /-- Last crossing of each QoS entry: 1 + 16 × (windows ended since) + its subchannel (R126, 04_dram; reset: 0, none) -/
  quiet : List (Nat × Nat)
  /-- The same for traffic without an entry (R126, 04_dram; reset: 0, none) -/
  ovfQuiet : Nat
  /-- Subchannels in DDR5 power-down, a bit mask by way (R121, 04_dram; reset: 0) -/
  pdown : Nat
  /-- Power-down, scrub, migration and retraining stopped by a Caravan trigger (R121, R138, 04_dram; reset: no) -/
  caravan : Bool
  /-- Ranks in self-refresh for a warm reset (R134, 04_dram; reset: no) -/
  selfRef : Bool
  /-- Migrations in progress by channel (R136, 04_dram; reset: none) -/
  migr : List (Nat × Migr)
  /-- Retirements recorded in the system area or awaiting one: 4c + r for rank r of channel c, with the state 1 retiring, 2 Retired, 3 Offline (R136, R140, R142, 04_dram; reset: none) -/
  retired : List (Nat × Nat)
  /-- Retirement triggers recorded during Caravan or restore, 4c + r (R135, 04_dram; reset: none) -/
  retLater : List Nat
  /-- A spare that failed, by channel (R142, 04_dram; reset: none) -/
  spareBad : Nat
  /-- Serial number of the DIMM of each rank position when its record was made (R142, 04_dram; reset: none) -/
  serials : List (Nat × Nat)
  /-- Ticks of the corrected errors of each rank over the last 24 h, 4c + r (R128, 04_dram; reset: none) -/
  ce24 : List (Nat × List Nat)
  /-- Corrected errors of the device, saturating at 2³² − 1 (R100, 03_host_port; reset: 0) -/
  ceTotal : Nat
  /-- Scrub: lines of each subchannel that the pass has read (R131, 04_dram; reset: 0) -/
  scrubAt : List (Nat × Nat)
  /-- Scrub: tick at which the pass began, and whether it has read every line (R131, 04_dram; reset: 0, no) -/
  scrubFrom : Nat
  scrubDone : Bool
  /-- Corrected lines whose rewrite waits for room in its bank queue (R115, R128, 04_dram; reset: none) -/
  rewrites : List Nat
  /-- Activates charged to each QoS entry, and to 4,096 for traffic without one, as (tick, activates × 32,768) (R93, R126, 04_dram; reset: 0) -/
  actSpent : List (Nat × Nat × Nat)
  /-- Tick from which each channel's largest drift of the last second counts (R133, 04_dram; reset: 0) -/
  driftFrom : List (Nat × Nat)
  /-- Consecutive failed read centerings of each rank, 4c + r (R133, 04_dram; reset: 0) -/
  ctrFail : List (Nat × Nat)
  /-- Write DQS delay of each rank in steps, 4c + r (R133, 04_dram; reset: 0) -/
  dqs : List (Nat × Nat)
  /-- Pages that movers read or write through the bank queues, oldest first (R115, Table 4-4, 04_dram; reset: none) -/
  pages : List PageIo
  /-- Channels whose DIMMs support same-bank refresh, bit c (R122, 04_dram; reset: 0) -/
  sbRef : Nat
  /-- Bank address that the next same-bank refresh of each subchannel takes (R122, 04_dram; reset: 0) -/
  sbNext : List (Nat × Nat)
  /-- Banks that reached the maximum management threshold and await a refresh-management command, keyed as the open rows (R123, 04_dram; reset: none) -/
  rfmHold : List Nat
  /-- Command slots that each channel owes to its migration, in percent of a slot (R136, 04_dram; reset: 0) -/
  migCred : List (Nat × Nat)
  /-- Rebuild mark to be carried by the next save in place of map deltas (R141, 04_dram; reset: no) -/
  rebuild : Bool
  deriving DecidableEq, Repr

/-- One copy-table entry (R147): generation and the flags REDIRTY and DISCARD; `read` once its page has been read;
`prog` is 0 before its program is issued, 1 issued, 2 passed, 3 failed (R159, R160). -/
structure CopyEnt where
  gen : Nat
  redirty : Bool
  discard : Bool
  read : Bool
  slot : Nat
  prog : Nat
  deriving DecidableEq, Repr

/-- Dirty tracking (chapter Dirty Tracking and Drift). Pages are numbered by device physical address ÷ 4,096. -/
structure TrkSt where
  /-- Dirty bitmap, one bit a page (R145, 05_drift; reset: 0) -/
  dirty : List (Nat × Bool)
  /-- Bitmap cache: the lines of each of 2,048 sets with whether they were written, the last used first, at most 8 (R145, 05_drift; reset: empty) -/
  cache : List (Nat × List (Nat × Bool))
  /-- Bitmap lines to be fetched, and to be written back (R145, 05_drift; reset: none) -/
  missed : List Nat
  evicted : List Nat
  /-- Copy table, at most 65,536 entries, at most one a page (R147, 05_drift; reset: empty) -/
  copy : List (Nat × CopyEnt)
  /-- Promised bitmap (R62, 02_erg_image; reset: 0) -/
  promised : List (Nat × Bool)
  /-- Region summaries: DCNT, STAMP and AGED as the 16-bit word of Table 5-1 (R146, 05_drift; reset: 0) -/
  summary : List (Nat × Nat)
  /-- Restored bitmap of on-touch restore (R230, 07_caravan_save_restore; reset: 0) -/
  restored : List (Nat × Bool)
  /-- Post-snapshot region vectors 0 and 1 (R213, 07_caravan_save_restore; reset: 0) -/
  psv0 : List (Nat × Bool)
  psv1 : List (Nat × Bool)
  /-- Which vector is the reference, and the GEN of its snapshot (R213, 07_caravan_save_restore; reset: 0) -/
  refVec : Nat
  refGen : Nat
  /-- Admission gate enabled (R62, R193, R300, 06_energy_ledger; reset: yes) -/
  gate : Bool
  /-- Tick of the last epoch boundary (R154, 05_drift; reset: 0) -/
  epochAt : Nat
  deriving DecidableEq, Repr

/-- A metadata snapshot (R173): its number, GEN, held pages by the walk, coarse regions, tick, size in 64 KiB units, the bytes of
its header, its parts, those not yet given a slot, and those confirmed. -/
structure Snap where
  num : Nat
  gen : Nat
  held : List Nat
  coarse : List Nat
  tick : Nat
  size : Nat
  head : List Nat
  parts : Nat
  todo : List Nat
  got : List Nat
  deriving DecidableEq, Repr

/-- Drift (chapter Dirty Tracking and Drift). -/
structure DriftSt where
  /-- Rate-limiter tokens, units of 2⁻⁸ page (R169, 05_drift; reset: 0) -/
  tokens : Nat
  /-- Scan pointer: region and page within it (R157, 05_drift; reset: 0) -/
  scan : Nat
  /-- Number of the next snapshot (R213, 07_caravan_save_restore; reset: 0) -/
  snapNum : Nat
  /-- Snapshot being written (R173, 05_drift; reset: none) -/
  snapNow : Option Snap
  /-- A snapshot is due and waits for the running one (R176, 05_drift; reset: no) -/
  snapDue : Bool
  /-- The two newest complete snapshots, newest first (R176, 05_drift; reset: none) -/
  snaps : List Snap
  /-- Confirmations and redirtied confirmations of the window in progress (DFT_WCNT, DFT_WRD, 05_drift; reset: 0) -/
  confNow : Nat
  redirtyNow : Nat
  /-- Tick at which the open image segment of each stream last received a slot (R161, 05_drift; reset: 0) -/
  segAt : List (Nat × Nat)
  /-- Highest GEN of the image slots that flash has held, one more than it; the counter resumes there (R164, 05_drift; reset: 0) -/
  genTop : Nat
  /-- AGE_BYP as the last run of the loop took it (R172, 05_drift; reset: 90) -/
  ageByp : Nat
  /-- Program times of each die in units of 0.1 µs, newest first, at most 256 (R166, 05_drift; reset: empty) -/
  tprog : List (Nat × List Nat)
  deriving DecidableEq, Repr

/-- Energy ledger (chapter Energy Ledger and Store Admission). -/
structure LedgerSt where
  /-- A recomputation runs: none, or whether it is periodic (R186, 06_energy_ledger; reset: none) -/
  running : Option Bool
  /-- A further recomputation is due after it, and whether it is periodic (R186, 06_energy_ledger; reset: none) -/
  next : Option Bool
  /-- r_prev, units of 2⁻⁸ page per tick (R188, 06_energy_ledger; reset: 0) -/
  rPrev : Nat
  /-- t_last, tick (R188, 06_energy_ledger; reset: 0) -/
  tLast : Nat
  /-- The first estimate has set e_use and t_last at this cold boot (R189, 06_energy_ledger; reset: no) -/
  started : Bool
  /-- The first R_save of this cold boot has set r_prev (R189, 06_energy_ledger; reset: no) -/
  rSeen : Bool
  /-- Consecutive periodic recomputations completing with CLOSED set (R198, 06_energy_ledger; reset: 0) -/
  emCount : Nat
  /-- CLOSED has cleared since the last ledger-emergency save (R223, 07_caravan_save_restore; reset: yes) -/
  emArmed : Bool
  /-- Recomputation stopped by a save, resuming at the next periodic tick (R200, 06_energy_ledger; reset: no) -/
  stopped : Bool
  /-- Oasis reserve of the last completed recomputation, grains (R102, R187, 06_energy_ledger; reset: 0) -/
  oasisUsed : Nat
  /-- G of the last vendor event 0x0001 and the tick it was raised (R99, R202, 03_host_port; reset: 0, none) -/
  gEvent : Nat
  gEventAt : Option Nat
  deriving DecidableEq, Repr

/-- What a save slot or page program stands for (Table 7-2): a memory page; a staged page by staging page, namespace, first LBA and
GEN, with its bytes and metadata as they stand at the trigger; a part of the manifest; a map delta; the save checkpoint; the record;
the valid mark. -/
inductive SaveItem where
  | page (p gen : Nat)
  | staged (stg ns lba gen : Nat) (data md : List Host.Cell)
  | manifest (part : Nat)
  | delta (i : Nat)
  | checkpoint
  | record
  | mark
  deriving DecidableEq, Repr

/-- One program a save has issued and that has not ended: its slot, what it carries, whether it is the reissue of
a failed program (R220), and how far it has come: 0 its page is read from DRAM, 1 given to its die, 2 passed, 3 failed. -/
structure SaveProg where
  slot : Nat
  item : SaveItem
  again : Bool
  prog : Nat
  deriving DecidableEq, Repr

/-- The manifest of a save (R212): reference vector and GEN, held pages, promised pages, in-flight list as
(page, (REDIRTY, GEN)), staging list as (namespace, first LBA), its parts, and those that are complete. -/
structure Manifest where
  gen0 : Nat
  ssn : Nat
  tick : Nat
  code : Nat
  refGen : Nat
  refVec : List Nat
  pages : List Nat
  promised : List Nat
  inflight : List (Nat × (Bool × Nat))
  staging : List (Nat × Nat)
  parts : Nat
  got : List Nat
  deriving DecidableEq, Repr

/-- The save record and valid mark of a save as the image pool holds them (R218, Table 7-5); `trial` says that the save was
written under a trial image (R484); `cp` is the save checkpoint's sequence. -/
structure SaveRec where
  ssn : Nat
  gen0 : Nat
  genEnd : Nat
  tick : Nat
  code : Nat
  flags : Nat
  parts : Nat
  manMem : Nat
  manStg : Nat
  manFly : Nat
  issuedMem : Nat
  issuedStg : Nat
  skipped : Nat
  g : Nat
  cost : Nat
  cdn : Nat
  dur : Nat
  cpSeq : Nat
  trial : Bool
  marked : Bool
  deriving DecidableEq, Repr

/-- The loss record of the system area (R226): GEN_L and the pages not yet rewritten, as ranges (first page, pages). -/
structure LossRec where
  gen : Nat
  pages : List (Nat × Nat)
  deriving DecidableEq, Repr

/-- Caravan and restore (chapter Caravan Save and Restore). -/
structure CvnSt where
  /-- The save that runs: its code, 0 none (R203, 07_caravan_save_restore; reset: 0) -/
  code : Nat
  /-- Pages of R215 not yet issued: memory pages and staged pages in order (R215, 07_caravan_save_restore; reset: empty) -/
  todo : List SaveItem
  /-- Programs issued and not ended (R216, R219, 07_caravan_save_restore; reset: empty) -/
  progs : List SaveProg
  /-- n of R216: pages issued in step 5 (R216, 07_caravan_save_restore; reset: 0) -/
  issued : Nat
  issuedMem : Nat
  issuedStg : Nat
  skipped : Nat
  /-- Map-delta entries gathered for the next delta slot (R217, 07_caravan_save_restore; reset: none) -/
  deltas : List Nat
  deltaSlots : Nat
  /-- G at the trigger, pages (R216, 07_caravan_save_restore; reset: 0) -/
  gTrig : Nat
  /-- Stopped by the countdown under R216 (R218, 07_caravan_save_restore; reset: no) -/
  stopped : Bool
  /-- A rank migration was stopped under R138 (R218, 07_caravan_save_restore; reset: no) -/
  migStopped : Bool
  /-- SAVE_ACT driven high (R205, 07_caravan_save_restore; reset: no) -/
  saveAct : Bool
  /-- Manifest of the newest save, on flash (R212, 07_caravan_save_restore; reset: none) -/
  manifest : Option Manifest
  /-- Manifest of the running save, until its first parts are programmed (R214, 07_caravan_save_restore; reset: none) -/
  building : Option Manifest
  /-- Record of the running save, until it is programmed (R218, 07_caravan_save_restore; reset: none) -/
  newRec : Option SaveRec
  /-- Save record of the newest save, on flash (R218, 07_caravan_save_restore; reset: none) -/
  record : Option SaveRec
  /-- Loss record of the system area (R226, 07_caravan_save_restore; reset: none) -/
  loss : Option LossRec
  /-- Loss-record rewrites: tick at which their tokens were last counted, and the tokens, units of 1/25,600 page (R226, 07_caravan_save_restore; reset: 0) -/
  lrwAt : Nat
  lrwTok : Nat
  /-- Lost set of this restore: memory pages as ranges (first page, pages) (R225, 07_caravan_save_restore; reset: empty) -/
  lost : List (Nat × Nat)
  /-- Lost staged pages of this restore, (namespace, LBA) (R225, 07_caravan_save_restore; reset: empty) -/
  lostStg : List (Nat × Nat)
  /-- Tick at which the bulk restore began, and tick at which it ended (CVN_RTIM, R235, 07_caravan_save_restore; reset: 0) -/
  bulkAt : Nat
  doneAt : Nat
  /-- Bulk restore: the next page whose read is to be issued (R230, 07_caravan_save_restore; reset: 0) -/
  bulkNext : Nat
  /-- Bulk restore: pages whose read has ended and that are not yet written, with whether the read gave data and the buffer that holds it (R229, R230, 07_caravan_save_restore; reset: none) -/
  got : List (Nat × Bool × Nat)
  /-- Pages being fetched on touch (R232, 07_caravan_save_restore; reset: none) -/
  fetching : List Nat
  /-- Resets and an activation deferred until the save ends: (kind, number) (R206, 07_caravan_save_restore; reset: none) -/
  deferred : List (Nat × Nat)
  /-- A cold reset latched for the valid mark (R206, R451, 07_caravan_save_restore; reset: no) -/
  coldLatched : Bool
  /-- Dirty-shutdown count of the system area, saturating (R234, 07_caravan_save_restore; reset: 0) -/
  dirtyShut : Nat
  /-- Sequence number of the newest save; the first is 1 (R207, 07_caravan_save_restore; reset: 0) -/
  ssn : Nat
  /-- A MEM_SANITIZE progress mark stands in the system area (R509, 21_register_space_and_mailbox; reset: no) -/
  sanMark : Bool
  /-- Slots that do not decode at this boot (R163, 05_drift; reset: none) -/
  unread : List Nat
  deriving DecidableEq, Repr

/-- One entry of the long-operation queue (R512): generation, whether in use, ended and posted, what it runs, its
status (Table 21-6), result word and result record. -/
structure LoqEnt where
  gen : Nat
  used : Bool
  ended : Bool
  posted : Bool
  op : Nat
  args : List Nat
  slot : Nat
  status : Nat
  result : Nat
  record : List Nat
  deriving DecidableEq, Repr

/-- Mailbox and long-operation queue (chapter Register Space, Mailbox and Long Operations). -/
structure LoqSt where
  /-- The 256 entries (R511, R512, 21_register_space_and_mailbox; reset: free, generation 0) -/
  ents : List (Nat × LoqEnt)
  /-- Load buffer, 65,536 words of 32 bits (R513, 21_register_space_and_mailbox; reset: 0) -/
  buf : List (Nat × Nat)
  /-- Entries ended and not yet posted, oldest first (R514, 21_register_space_and_mailbox; reset: empty) -/
  post : List Nat
  /-- Entries written to rings 0 and 1 and not yet consumed (R514, 21_register_space_and_mailbox; reset: 0) -/
  cnt0 : Nat
  cnt1 : Nat
  /-- PHASE that the next entry of rings 0 and 1 carries (R429, R514, 21_register_space_and_mailbox; reset: 1) -/
  phase0 : Nat
  phase1 : Nat
  /-- Mailbox (32 × … logical device number) running a background command, with its queue entry (R507, R509, 21_register_space_and_mailbox; reset: none) -/
  bg : Option (Nat × Nat)
  /-- Mailbox commands waiting for a save or an activation to end, oldest first (R510, 21_register_space_and_mailbox; reset: none) -/
  waiting : List Instr
  /-- Step that a running OVL_SWITCH stands at, its entry, the new index and whether its batch has begun (R59, 02_erg_image; reset: none) -/
  ovlStep : Nat
  ovlEnt : Nat
  ovlNew : Nat
  ovlBegun : Bool
  deriving DecidableEq, Repr

/-- One dune overlay of the active image: mode tag and deltas (section, index, value) in entry order (R58). -/
structure Overlay where
  index : Nat
  tag : Nat
  deltas : List (Nat × (Nat × Nat))
  deriving DecidableEq, Repr

/-- The Erg image in force, the CAL store and the structure record (chapter The Erg Image and Dune Overlays). The image
bytes themselves stand in the code-flash slots. -/
structure ErgSt where
  /-- An image has been applied at this boot (R52, 02_erg_image; reset: no) -/
  loaded : Bool
  /-- Fields present in the base image applied, keyed 65,536 × section + index, value plus one (R44, 02_erg_image; reset: none) -/
  base : List (Nat × Nat)
  /-- Overlays of the active image (R58, 02_erg_image; reset: none) -/
  ovls : List Overlay
  /-- Overlay whose deltas are in force for the policy fields that no register holds: the active one, from step 3 of a switch on the
  new one (R59, 02_erg_image; reset: 15) -/
  polOvl : Nat
  /-- Overlay index and image digest recorded in the learned-value area (R59, R65, 02_erg_image; reset: 255, none) -/
  recOvl : Nat
  recDigest : Option Nat
  /-- Structural sections recorded in the system area at the last completed boot, by key as above (R57, 02_erg_image; reset: none) -/
  recStruct : Option (List (Nat × Nat))
  /-- A reformation's progress mark (R57, 02_erg_image; reset: no) -/
  reformMark : Bool
  /-- CAL store entries by key: origin (1 user) and words (R66, 02_erg_image; reset: none) -/
  cal : List (Nat × (Bool × List Nat))
  /-- Half of the CAL area in use (R66, 02_erg_image; reset: 0) -/
  calHalf : Nat
  /-- CAL values in effect since the last cold boot (R67, 02_erg_image; reset: none) -/
  calNow : List (Nat × (Bool × List Nat))
  /-- Owner key enrolled, and OWNER_ONLY fused (R48, 02_erg_image; reset: no) -/
  ownerKey : Bool
  ownerOnly : Bool
  deriving DecidableEq, Repr

/-- Who asked for a flash operation (Table 8-4). -/
inductive FSrc where
  /-- A Drift copy of a memory page (R159). -/
  | drift (page : Nat)
  /-- A part of a metadata snapshot (R173). -/
  | snapshot (num : Nat)
  /-- A loss-record rewrite, or a rewrite from DRAM of an unrecovered image slot (R226, R270). -/
  | rewrite (page : Nat)
  /-- A read for an NVMe command, by tag and 4 KiB slot of the namespace (R325, R319). -/
  | nvm (tag slot : Nat)
  /-- A destage program of a staging page (R276). -/
  | destage (stg : Nat)
  /-- A relocation read or program of the slot at address `src` (R284). -/
  | reloc (src : Nat)
  /-- A checkpoint, journal or other system-area program (R290 to R292). -/
  | system (kind : Nat)
  /-- One read of a reference probe: at the current offsets (0), at −1 (1) and at +1 (2) on the reference (R259). -/
  | probe (group i : Nat)
  /-- The parity unit of a stripe of a superblock (R269). -/
  | parity (sb stripe : Nat)
  /-- A media-scan read (R288). -/
  | scan (sb : Nat)
  /-- A program of a fold's copy, by coarse index (R275). -/
  | fold (unit : Nat)
  /-- The erase of a superblock (R285). -/
  | erase (sb : Nat)
  /-- A program of the save stream, by its slot (R207, R216). -/
  | save (slot : Nat)
  /-- A read of the bulk restore, and of an on-touch fetch (R230, R232). -/
  | bulk (page : Nat)
  | fetch (page : Nat)
  /-- A read that a trigger found in progress: its data is discarded (R211). -/
  | gone
  deriving DecidableEq, Repr

/-- What a flash operation is (R246). -/
inductive FKind where
  | read | program | erase | status | feature
  deriving DecidableEq, Repr

/-- Where an operation stands in its command slot. -/
inductive FStage where
  /-- Waits for its die (R248). -/
  | queued
  /-- Its array operation runs. -/
  | running
  /-- Suspended (R250). -/
  | suspended
  /-- Array read done; its codewords are being decoded at the step of R253, or rebuilt from their stripe: step 5 (R270, R297). -/
  | decoding
  deriving DecidableEq, Repr

/-- One operation in a command slot (R246): channel, die of the channel, service class, whether it is an urgent class 6
operation (R248), superblock and slot address, suspends so far (R250), decode step 1 to 4 and retry entry (R253), the array reads
of the step still to be made, whether a decode lane is given (R255), and the datapath buffer it works on, as in `PageIo` (R25). -/
structure FOp where
  id : Nat
  chan : Nat
  die : Nat
  kind : FKind
  cls : Nat
  urgent : Bool
  sb : Nat
  addr : Nat
  src : FSrc
  stage : FStage
  susp : Nat
  step : Nat
  retry : Nat
  left : Nat
  lane : Bool
  buf : Nat
  deriving DecidableEq, Repr

/-- One die (R241, R262): state (FCHn_DINFO.STATE), counters of the per-die registers, whether it was fenced at the last
cold boot (R297) and whether it is retired. -/
structure DieSt where
  state : Nat
  tmo : Nat
  reads : Nat
  progs : Nat
  erases : Nat
  iter : List Nat
  bitsMax : Nat
  soft : Nat
  retry : Nat
  unc : Nat
  pfail : Nat
  efail : Nat
  psus : Nat
  esus : Nat
  tprog : List Nat
  tbers : List Nat
  /-- Reads served in the present suspension (R251). -/
  served : Nat
  /-- Class 3 programs that ended in the window of R249: (tick, time in 0.1 µs), newest first. -/
  win3 : List (Nat × Nat)
  /-- Read-offset feature as last set on the die (R257). -/
  offs : List Int
  /-- Declared pseudo-SLC program time, µs (R243). -/
  slcTime : Nat
  fencedBefore : Bool
  retired : Bool
  deriving DecidableEq, Repr

/-- Reference tracking of one die and block group (R257 to R259): signed offsets by reference, running mean in 1/16 bit,
probes run, tick of the last probe, read since then, reference next tested, and the slot of the most recent hard-decoded
codeword plus one. -/
structure RefSt where
  offs : List Int
  mean : Nat
  probes : Nat
  last : Nat
  readSince : Bool
  next : Nat
  recent : Nat
  probing : Bool
  failed : Nat
  deriving DecidableEq, Repr

/-- Flash channels (chapter Flash Channels and Error Correction). A die is numbered 128 × channel + die. -/
structure FlashSt where
  /-- Operations holding command slots, oldest first (R246, 08_flash_channels; reset: none) -/
  ops : List FOp
  /-- Operations whose requester found no free command slot, oldest first (R246, 08_flash_channels; reset: none) -/
  extra : List FOp
  /-- Next operation number (R246, 08_flash_channels; reset: 0) -/
  next : Nat
  /-- Dies (R241, R262, 08_flash_channels; reset: absent) -/
  dies : List (Nat × DieSt)
  /-- Reference tracking table, keyed 16 × die + group (R257, 08_flash_channels; reset: offsets 0) -/
  refs : List (Nat × RefSt)
  /-- Channels stop accepting operations and wait for those in progress (R263, 08_flash_channels; reset: no) -/
  stopping : Bool
  /-- Waking or powered-down groups, bit g (R265, 08_flash_channels; reset: 0) -/
  waking : Nat
  /-- Interface mode discovery found for each channel: rate of the base mode (R238, R239, 08_flash_channels; reset: 0) -/
  baseRate : List (Nat × Nat)
  /-- Standard mode of each channel's base interface (R238, R239, 08_flash_channels; reset: 0) -/
  baseMode : List (Nat × Nat)
  /-- Tick of the last full round of eye checks of each channel in extended timing, and the volume whose eye is checked next (R240, 08_flash_channels; reset: 0) -/
  xtAt : List (Nat × Nat)
  xtVol : List (Nat × Nat)
  /-- Flash operations dropped by a trigger (R211, 08_flash_channels; reset: none) -/
  dropped : List FOp
  deriving DecidableEq, Repr

/-- What a written slot holds: the KIND byte of its descriptor (R280), its key (host page; or namespace × 2⁴⁰ + slot of
the namespace; or object number), its GEN or WSEQ, the 4,096 B payload as sparse bytes, the metadata bytes of its LBAs,
and the poisoned lines of the page (R89). -/
structure SlotC where
  kind : Nat
  key : Nat
  gen : Nat
  data : List Host.Cell
  md : List Host.Cell
  marks : List Nat
  deriving DecidableEq, Repr

/-- One superblock (R268, R272, R275): state as FTL_BINFO.STATE, native mode, tenant (3 none), stream (R273), wear, reads
since erase, close tick, open sequence, slots assigned, scheduling order for rewrite plus one, channels of its members,
channels of its retired members, channels to be retired at the next erase, erase
started and not ended, block group, channel whose blocks needed a rebuild in this and in an earlier erase cycle. -/
structure SbSt where
  state : Nat
  native : Bool
  tenant : Nat
  stream : Nat
  wear : Nat
  reads : Nat
  closeTick : Nat
  openSeq : Nat
  fill : Nat
  rw : Nat
  members : List Nat
  retired : List Nat
  retireNext : List Nat
  erasing : Bool
  group : Nat
  rebuilt : List Nat
  rebuiltOnce : List Nat
  movedSeq : Nat
  sanitize : Bool
  /-- Journal position that must be confirmed before the superblock's next program or erase (R285, R291). -/
  recAt : Nat
  deriving DecidableEq, Repr

/-- One checkpoint being written (R292): its sequence, REPLAY_FROM, journal position, the namespaces then in
write-back-persistent mode (R225), and the offsets of the reference table by 16 × die + group (R257). -/
structure CpSt where
  seq : Nat
  from0 : Nat
  jpos : Nat
  wb : List Nat
  offs : List (Nat × List Int)
  /-- The changes that it covers, as in `chunks`, and of their chunks those not yet written, by object number (R292). -/
  tags : List Nat
  todo : List Nat
  /-- Chunk-directory slots to be written (R292). -/
  dirs : List Nat
  /-- What is being written: 0 chunks, 1 directory and reference table, 2 root, 3 anchor record, 4 the anchor record is confirmed
  (R292). -/
  stage : Nat
  deriving DecidableEq, Repr

/-- One journal record (R291), by kind 0 open, 1 close, 2 erase start, 3 erase end, 4 relocation, 5 deallocation, 6
namespace creation, 7 namespace deletion, 8 retirement, 9 artefact location, with its numbers. -/
structure JRec where
  kind : Nat
  args : List Nat
  deriving DecidableEq, Repr

/-- One fold in progress (R275): the coarse index, its group, and whether a write to the unit has touched it. -/
structure FoldSt where
  unit : Nat
  group : Nat
  touched : Bool
  dst : Nat
  left : Nat
  deriving DecidableEq, Repr

/-- Flash translation (chapter Flash Translation and Media Management). -/
structure FtlSt where
  /-- Superblocks by number; one not listed is erased, unworn and has every member that discovery found (R268, R275, 09_flash_translation; reset: none listed) -/
  sbs : List (Nat × Option SbSt)
  /-- Contents of written slots by slot address (R267, 09_flash_translation; reset: erased) -/
  slots : List (Nat × Option SlotC)
  /-- Image fine map: host page to slot address; 0 deallocated (R274, 09_flash_translation; reset: 0) -/
  img : List (Nat × Nat)
  /-- Coarse map: coarse index to 4 × ADDR + TYPE (R274, 09_flash_translation; reset: deallocated) -/
  coarse : List (Nat × Nat)
  /-- Fine groups: 64 × group + entry to entry (R275, 09_flash_translation; reset: deallocated) -/
  fine : List (Nat × Nat)
  /-- Groups in use with their coarse index, oldest-written first (R275, 09_flash_translation; reset: none) -/
  groups : List (Nat × Nat)
  /-- Splits that wait for a free group (R275, 09_flash_translation; reset: 0) -/
  splitWait : Nat
  /-- Folds in progress (R275, 09_flash_translation; reset: none) -/
  folds : List FoldSt
  /-- Folding runs towards FOLD_LO (R275, 09_flash_translation; reset: no) -/
  folding : Bool
  /-- Open superblock of each stream, number plus one (R273, 09_flash_translation; reset: none) -/
  opens : List (Nat × Nat)
  /-- Next open sequence (R291, 09_flash_translation; reset: 0) -/
  openSeq : Nat
  /-- Journal since the last complete root (R291, 09_flash_translation; reset: empty) -/
  journal : List JRec
  /-- Records appended since the flash population's first boot (R291, 09_flash_translation; reset: 0) -/
  jpos : Nat
  /-- Checkpoint being written (R292, 09_flash_translation; reset: none) -/
  cp : Option CpSt
  /-- A further checkpoint is due (R292, 09_flash_translation; reset: no) -/
  cpDue : Bool
  /-- Last complete root (R290, 09_flash_translation; reset: none) -/
  root : Option CpSt
  /-- Slots programmed, and tick, at the last checkpoint start; map changed since (R292, 09_flash_translation; reset: 0, no) -/
  cpSlots : Nat
  cpTick : Nat
  mapChanged : Bool
  /-- Superblock being relocated, plus one; whether by wear levelling (R282, R286, 09_flash_translation; reset: none) -/
  victim : Nat
  victimWl : Bool
  /-- Relocated slots programmed and not yet moved in their map: (source, destination) (R284, 09_flash_translation; reset: none) -/
  moves : List (Nat × Nat)
  /-- Number of rewrite schedulings so far (R282, 09_flash_translation; reset: 0) -/
  rwSeq : Nat
  /-- Host pages, staging pages and NS_POOL needs at the last cold boot: G_R (R185, R279, 09_flash_translation; reset: 0) -/
  gRated : Nat
  /-- Media scan: tick of the last one and next superblock (R288, 09_flash_translation; reset: 0) -/
  scanTick : Nat
  scanNext : Nat
  /-- Tick of the last health record, and records written (R301, 09_flash_translation; reset: 0) -/
  healthTick : Nat
  healthRecs : Nat
  /-- Image-page reads that needed soft decode or stripe rebuild (R100, 03_host_port; reset: 0) -/
  corrPers : Nat
  /-- Unrecovered slots since cold boot raise Critical Warning bit 2 (Table 10-5, 10_nvme_service; reset: no) -/
  unrecSeen : Bool
  /-- Commands that wait until every superblock marked has been erased: (tag, superblocks) (R314, R315, 10_nvme_service; reset: none) -/
  eraseWait : List (Nat × List Nat)
  /-- Running XOR of the stripes being written: superblock, stripe, and the datapath buffers that hold it (R269, Table 11-2, 09_flash_translation; reset: none) -/
  xor : List (Nat × Nat × List Nat)
  /-- Stripes whose slots are all assigned and whose parity is not yet issued, as (superblock, stripe) (R269, 09_flash_translation; reset: none) -/
  parDue : List (Nat × Nat)
  /-- Stripes without parity: their running XOR was lost at power-down, as (superblock, stripe) (R270, 09_flash_translation; reset: none) -/
  noPar : List (Nat × Nat)
  /-- Journal records written to the system area, and confirmed there (R291, 09_flash_translation; reset: 0) -/
  jflushed : Nat
  jconf : Nat
  /-- Commands whose completion waits for their deallocation's journal record: (tag, position) (R277, 09_flash_translation; reset: none) -/
  jwait : List (Nat × Nat)
  /-- Map entries changed since the last checkpoint, as 4 × number + kind: coarse chunk, image chunk, superblock, fine group (R292, 09_flash_translation; reset: none) -/
  chunks : List Nat
  /-- Anchor records appended, modulo two plane-blocks (R290, 09_flash_translation; reset: 0) -/
  anchorPos : Nat
  /-- Lifetime sums of the dies' counters up to the last cold boot (R262, R301, 09_flash_translation; reset: 0) -/
  life : List (Nat × List Nat)
  deriving DecidableEq, Repr


/-- One namespace (R310 to R316, R327, R328): size in LBAs, first coarse index and units, LBA format of Table 10-6,
extended-LBA metadata, protection type 0 to 3, protection in the first bytes of the metadata, configured and effective
mode (true: write-through), cause, readiness, loss flags, tick of its last mode transition, attached controllers, and an
operation that closes it to commands (0 none, 1 Format, 2 deletion). -/
structure NsSt where
  size : Nat
  base : Nat
  units : Nat
  lbaf : Nat
  ext : Bool
  pit : Nat
  pil : Bool
  cfgWt : Bool
  effWt : Bool
  cause : Nat
  ready : Bool
  lossStg : Bool
  lossUnk : Bool
  last : Nat
  ctrls : List Nat
  closed : Nat
  deriving DecidableEq, Repr

/-- A submission queue: size, completion queue, priority class 0 urgent to 3 low, head and tail, and the command held in
its fetch slot for want of range-lock entries (R324). -/
structure SqSt where
  size : Nat
  cq : Nat
  prio : Nat
  head : Nat
  tail : Nat
  stalled : Bool
  deriving DecidableEq, Repr

/-- A completion queue: size, interrupts enabled, vector, head as the host last wrote it, and tail. -/
structure CqSt where
  size : Nat
  ien : Bool
  vec : Nat
  head : Nat
  tail : Nat
  deriving DecidableEq, Repr

/-- One NVMe function (R303 to R306, R332, R335): CC.EN, CSTS.RDY, CSTS.SHST complete, a shutdown requested, power state in force and the last
operational one, PS3 entry with the tag of its Set Features plus one, weighted arbitration (CC.AMS), queues by number,
features set by identifier, outstanding event requests by tag, events waiting as 2²⁴ type and page
words, tick of the last write-mode event plus one and whether one is pending, changed namespaces,
error entries and their count, submission queue next served, and grants left in the weighted round. -/
structure FnSt where
  en : Bool
  rdy : Bool
  shst : Bool
  shutReq : Bool
  ps : Nat
  lastOp : Nat
  psEntry : Nat
  ams : Bool
  sqs : List (Nat × SqSt)
  cqs : List (Nat × CqSt)
  feats : List (Nat × Nat)
  aers : List Nat
  events : List Nat
  modeAt : Nat
  modePend : Bool
  changed : List Nat
  errs : List (List Nat)
  errCnt : Nat
  next : Nat
  wrr : List Nat
  burst : Nat
  deriving DecidableEq, Repr

/-- How far a fetched command has come (R333). -/
inductive CStage where
  /-- Fetched, not yet carried out by its own row. -/
  | fetched
  /-- Waits for range-lock entries or an overlap (R323, R324). -/
  | waitLock
  /-- Waits for staging pages (R318). -/
  | waitStg
  /-- A write of part of a slot that waits for an earlier write of that slot (R319). -/
  | waitMerge
  /-- Its data waits for room in the bank queues of its staging pages (R115, R317). -/
  | filling
  /-- Executes, no flash program of its own issued. -/
  | running
  /-- A destage or merge program of the command is issued and not confirmed. -/
  | programming
  /-- Waits for other commands: Flush, Format, deletion, activation. -/
  | waitCmds
  deriving DecidableEq, Repr

/-- One fetched command, by its tag (R304): function, submission queue, command identifier, opcode, NSID, range, fetch
order, WSEQ drawn with its locks, effective mode taken (true: write-through), data from the host as bytes and metadata
bytes, protection fields (PRACT, PRCHK, LBRT, LBAT, LBATM), slots whose flash read is outstanding, slots read, a byte
transferred or a read issued, staging pages it holds, dataset-management ranges, where it stands, the operands of an admin
command that waits, whether its namespace was attached to its controller when it was fetched (R311), and the completion queue
of its submission queue. -/
structure CmdSt where
  fn : Nat
  sq : Nat
  cid : Nat
  opc : Nat
  nsid : Nat
  slba : Nat
  nlb : Nat
  order : Nat
  wseq : Nat
  wt : Bool
  data : List Byte
  md : List Byte
  prot : List Nat
  need : List Nat
  got : List (Nat × (List Host.Cell × List Host.Cell))
  begun : Bool
  stgs : List Nat
  ranges : List (Nat × Nat)
  stage : CStage
  args : List Nat
  att : Bool
  cq : Nat
  deriving DecidableEq, Repr

/-- One range-lock entry (R322). -/
structure LockSt where
  ns : Nat
  lba : Nat
  cnt : Nat
  tag : Nat
  deriving DecidableEq, Repr

/-- One staging page (R195, R276, R317): namespace, 4 KiB slot of it, held set or write-through, data and metadata bytes,
WSEQ, tag of the writing command plus one until its completion, the value R334 would restore, destage state (0 none, 1
slot assigned, 2 passed, 3 failed once, 4 replaced), the slot assigned, and whether the write's data stands in it (R276, R319). -/
structure StgSt where
  ns : Nat
  slot : Nat
  held : Bool
  data : List Host.Cell
  md : List Host.Cell
  wseq : Nat
  tag : Nat
  prev : Nat
  dst : Nat
  addr : Nat
  fails : Nat
  full : Bool
  deriving DecidableEq, Repr

/-- NVMe service (chapter NVMe Block Service). -/
structure NvmSt where
  /-- Functions by controller ID (R302, 10_nvme_service; reset: disabled, default features) -/
  fns : List (Nat × FnSt)
  /-- Commands by tag, at most 16,384 (R304, 10_nvme_service; reset: none) -/
  cmds : List (Nat × CmdSt)
  /-- Next fetch order and next WSEQ (R322, 10_nvme_service; reset: 0) -/
  order : Nat
  wseq : Nat
  /-- Range-lock entries, oldest first, at most 2,048 (R322, 10_nvme_service; reset: none) -/
  locks : List LockSt
  /-- Namespaces by NSID (R310, 10_nvme_service; reset: none) -/
  nss : List (Nat × NsSt)
  /-- Staging pages in use by number (R317, 10_nvme_service; reset: none) -/
  stg : List (Nat × StgSt)
  /-- Next staging page number (R317, 10_nvme_service; reset: 0) -/
  nextStg : Nat
  /-- Function next served by fetch arbitration (R305, 10_nvme_service; reset: 0) -/
  rr : Nat
  /-- Tick of the last write-mode transition of any namespace (Table 10-4, 10_nvme_service; reset: 0) -/
  lastMode : Nat
  /-- Lost LBA ranges of the last restore with a loss, (NSID, (first, count)) (R327, 10_nvme_service; reset: none) -/
  lostLbas : List (Nat × (Nat × Nat))
  /-- Sanitize running with its tag plus one, and its last result (R315, 10_nvme_service; reset: none) -/
  sanitize : Nat
  sanStatus : Nat
  /-- Fetching stopped on I/O queues for an activation with reset (R336, 10_nvme_service; reset: no) -/
  ioPause : Bool
  /-- Unsafe shutdowns and media errors (Table 10-5, 10_nvme_service; reset: 0) -/
  unsafeShut : Nat
  mediaErr : Nat
  /-- Fetch stopped by a save (R210, 10_nvme_service; reset: no) -/
  stopped : Bool
  deriving DecidableEq, Repr

/-- One hardware semaphore (R351, R352): holder plus one, the OWNER_RESET flag and the core next in rotation. -/
structure SemSt where
  holder : Nat
  ownerReset : Bool
  next : Nat
  deriving DecidableEq, Repr

/-- Buffers, books and semaphores (chapter Contention, Arbitration and Conserved Quantities). -/
structure BufSt where
  /-- Owned buffers: number to 65,536 × consumer + operation tag; a buffer not listed is free (R341, 11_contention_and_books; reset: free) -/
  own : List (Nat × Nat)
  /-- Waiting requests, oldest first: (consumer, tag) (R342, 11_contention_and_books; reset: none) -/
  wait : List (Nat × Nat)
  /-- Floors and caps as a save sets them (R346, 11_contention_and_books; reset: no) -/
  save : Bool
  /-- Double and foreign frees, saturating at 2³² − 1 (R344, R350, 11_contention_and_books; reset: 0) -/
  dbl : Nat
  foreign : Nat
  /-- Book faults, saturating (R348, R350, 11_contention_and_books; reset: 0) -/
  faults : Nat
  /-- Live operations of each consumer, as 65,536 × consumer + tag (R349, 11_contention_and_books; reset: none) -/
  live : List (Nat × Bool)
  /-- Buffers that the device's own movers hold: (1 + buffer + 8,192 × tag, consumer) (R25, R341, 11_contention_and_books; reset: none) -/
  mine : List (Nat × Nat)
  /-- Next operation tag of those movers (R341, 11_contention_and_books; reset: 0) -/
  nextTag : Nat
  /-- Semaphores by number (R351, 11_contention_and_books; reset: free) -/
  sems : List (Nat × SemSt)
  /-- Logical device through which the host claimed a general engine, by engine, plus one (R363, 12_check_value_units; reset: none) -/
  crcVia : List (Nat × Nat)
  deriving DecidableEq, Repr



/-- The learned values of the gauge (R378): Q_L, RFAC, pack serial plus one (0 none), ID code, soc, tick of the last
passing audit, S and n of the last qualifying save, P_MEAS and the image SERIAL it was measured under. -/
structure Learned where
  qL : Nat
  rfac : Nat
  ser : Nat
  id : Nat
  soc : Nat
  audTick : Nat
  sumS : Nat
  n : Nat
  pMeas : Nat
  pSer : Nat
  deriving DecidableEq, Repr

/-- Backup energy gauge (chapter Backup Energy Gauge). -/
structure GauSt where
  /-- soc and temperature at the last estimate (R365, 13_backup_gauge; reset: 0) -/
  socEst : Nat
  tEst : Int
  /-- An estimate is due at once (R365, 13_backup_gauge; reset: no) -/
  estDue : Bool
  /-- Samples of the last REST_T ticks as (tick, mV), newest first, with the one before them (R367, 13_backup_gauge; reset: none) -/
  hist : List (Nat × Nat)
  /-- Learned values as the island holds them (R378, 13_backup_gauge; reset: the code-flash copy) -/
  learned : Learned
  /-- Learned values as the code flash holds them (R378, R423, 13_backup_gauge; reset: none) -/
  lvFlash : Option Learned
  /-- A write of the learned values is due (R378, 13_backup_gauge; reset: no) -/
  lrnDue : Bool
  /-- Sums of the save that runs: S and n (R377, 13_backup_gauge; reset: 0) -/
  accS : Nat
  accN : Nat
  /-- The pack was Known at the trigger or the conversion tick (R377, 13_backup_gauge; reset: no) -/
  accKnown : Bool
  /-- Audit step: 0 none, 1 rest, 2 load just connected, 3 discharge, 4 rest again (R374, 13_backup_gauge; reset: 0) -/
  aud : Nat
  /-- Tick at which the audit step began (R374, 13_backup_gauge; reset: 0) -/
  audAt : Nat
  audSoc0 : Nat
  audO0 : Nat
  audRf : Nat
  /-- Charge counted by the audit, mC (R374, 13_backup_gauge; reset: 0) -/
  audQ : Nat
  /-- Long-operation entry of a CAP_AUDIT that runs, plus one (R373, 13_backup_gauge; reset: none) -/
  audLoq : Nat
  /-- An audit is due at once, as of an Unknown pack (R373, 13_backup_gauge; reset: no) -/
  audDue : Bool
  /-- No due audit starts before this tick, after a disqualification (R375, 13_backup_gauge; reset: 0) -/
  audRetry : Nat
  /-- Tick since which the cause of a pack fault has been absent, plus one (R370, 13_backup_gauge; reset: 0) -/
  causeGone : Nat
  /-- Tick of the last move of SOC_REP (R372, 13_backup_gauge; reset: 0) -/
  repAt : Nat
  /-- The last sample found the thermistor open or shorted (R370, 13_backup_gauge; reset: no) -/
  ntcBad : Bool
  /-- Overlay whose CHEM, ID_CODE and Q_R the pack was taken under (R370, 13_backup_gauge; reset: 15) -/
  polOvl : Nat
  /-- The factory default tables were valid at this cold boot (R366, 13_backup_gauge; reset: yes) -/
  tblOk : Bool
  deriving DecidableEq, Repr

/-- One entry of the sequencing-fault log (R397). -/
structure SeqLog where
  rail : Nat
  cause : Nat
  phase : Nat
  tick : Nat
  deriving DecidableEq, Repr

/-- Power sequencer and supervisor (chapter Power Sequencing and Supervision). The retained table is in the SEQ_R
registers. -/
structure SeqSt where
  /-- Main power present (R388, 14_power_sequencer; reset: no, DESIGN CHOICE) -/
  main : Bool
  /-- VBAT_AON present (R526, R31, 14_power_sequencer; reset: no, DESIGN CHOICE) -/
  vbat : Bool
  /-- PWR_FAIL_N is low (R388, R203, 14_power_sequencer; reset: no) -/
  pwrFail : Bool
  /-- Another sequencer holds SEQ_FLT_N low (R396, 14_power_sequencer; reset: no) -/
  fltLow : Bool
  /-- Consecutive scans that read SEQ_FLT_N low (R396, 14_power_sequencer; reset: 0) -/
  fltCnt : Nat
  /-- Common start of the sequence in progress, tick (R382, 14_power_sequencer; reset: 0) -/
  start : Nat
  /-- Tick of the enable of each rail (R386, 14_power_sequencer; reset: 0) -/
  enAt : List (Nat × Nat)
  /-- Tick of the disable of each rail (R387, 14_power_sequencer; reset: 0) -/
  offAt : List (Nat × Nat)
  /-- Rails to be turned off, with the start tick of their sequence plus one (R386, R387, R391, 14_power_sequencer; reset: none) -/
  offs : List (Nat × Nat)
  /-- Rails that were on when a sequence that turns them off began, bit n (R387, 14_power_sequencer; reset: 0) -/
  wasOn : Nat
  /-- Rails abandoned in this up-sequence, bit n (R386, 14_power_sequencer; reset: 0) -/
  dropped : Nat
  /-- Consecutive scans out of window, and with power-good low, by rail (R394, 14_power_sequencer; reset: 0) -/
  oow : List (Nat × Nat)
  pgLow : List (Nat × Nat)
  /-- Tick at which the last down-sequence ended, plus one (R388, 14_power_sequencer; reset: none) -/
  endAt : Nat
  /-- SEQ_FLT_N is released at this tick plus one (R396, 14_power_sequencer; reset: none) -/
  holdAt : Nat
  /-- A snapshot was written in this down-sequence (R394, 14_power_sequencer; reset: no) -/
  snap : Bool
  /-- A failure was logged in this sequence (R397, 14_power_sequencer; reset: no) -/
  logged : Bool
  /-- Last 16 sequencing faults, newest first, and how many of them the code flash holds (R397, 14_power_sequencer; reset: empty) -/
  log : List SeqLog
  logSaved : List SeqLog
  /-- The retained table is present and passes its CRC (R384, 14_power_sequencer; reset: no) -/
  tblOk : Bool
  /-- The running sequence uses the image's table (R384, 14_power_sequencer; reset: no) -/
  phase2Ready : Bool
  deriving DecidableEq, Repr

/-- A TWI1 or TWI0 controller transfer: port, target address, segment, outcome that the bus gives it (0 acknowledged, 1
address not acknowledged, 2 data not acknowledged, 3 target stretches, 4 PEC mismatch twice), arbitration losses, and
address attempts made, and whether the segment multiplexer leaves its address unacknowledged. -/
structure TwiXfer where
  port : Nat
  addr : Nat
  seg : Nat
  outcome : Nat
  losses : Nat
  tries : Nat
  pec : Bool
  muxNack : Bool
  deriving DecidableEq, Repr

/-- An MCTP message in assembly (R413): source address, tag, bytes so far, tick of its last packet. -/
structure MctpAsm where
  src : Nat
  tag : Nat
  data : List Nat
  tick : Nat
  deriving DecidableEq, Repr

/-- Two-wire ports (chapter Two-Wire Management Buses). -/
structure TwiSt where
  /-- The alert was acknowledged by a read of the Alert Response Address and no cause has newly set since (R412, 15_management_bus; reset: no) -/
  acked : Bool
  /-- Levels of TWI_ADDR[2:0] (R399, 15_management_bus; reset: 0) -/
  pins : Nat
  /-- Messages in assembly, at most 4 (R413, 15_management_bus; reset: none) -/
  asm : List MctpAsm
  /-- Endpoint ID in use (R413, 15_management_bus; reset: 0) -/
  eid : Nat
  /-- Transfer in progress on each port (R409, 15_management_bus; reset: none) -/
  run : List (Nat × Option TwiXfer)
  /-- Transfers waiting for their port, oldest first (R418, 15_management_bus; reset: none) -/
  queue : List TwiXfer
  /-- Selected TWI1 segment plus one; 0 unknown (R401, 15_management_bus; reset: unknown) -/
  mux : Nat
  /-- End tick of the Wait state of each port, plus one (R416, 15_management_bus; reset: none) -/
  waitAt : List (Nat × Nat)
  /-- NVMe-MI configuration by identifier (R414, 15_management_bus; reset: none set) -/
  miConf : List (Nat × Nat)
  deriving DecidableEq, Repr

/-- One descriptor of the code-flash queue (R427): operation 1 PROGRAM, 2 ERASE, 3 SELECT; pusher 1 to 4 MC0 to MC3, 5
the committer; stage 0 waiting, 1 running, 2 suspended, 3 its completion waits for the ring; suspends so far; and its
completion words while it waits. -/
structure CflDesc where
  id : Nat
  op : Nat
  sus : Bool
  tag : Nat
  addr : Nat
  src : Nat
  count : Nat
  ba : Nat
  by0 : Nat
  stage : Nat
  susps : Nat
  data : List Nat
  status : Nat
  pulses : Nat
  endAddr : Nat
  deriving DecidableEq, Repr

/-- In-package code flash (chapter In-Package Code Flash). -/
structure CflSt where
  /-- The array by 32-bit word; an erased word reads 0xFFFF_FFFF (R420, 16_code_flash; reset: erased) -/
  arr : List (Nat × Nat)
  /-- Descriptors queued, running or held, in queue order (R427, R428, 16_code_flash; reset: none) -/
  queue : List CflDesc
  next : Nat
  /-- Completion entries written and not consumed, and the PHASE of the next (R429, 16_code_flash; reset: 0, 1) -/
  cnt : Nat
  phase : Nat
  /-- Unfinished-erase flag cells of the information row (R420, R430, 16_code_flash; reset: clear) -/
  flags : List (Nat × Bool)
  /-- Boot selection: a valid word exists, its SEQ, its area, and words written in the active row (R436, R437, 16_code_flash; reset: none) -/
  selAny : Bool
  selSeq : Nat
  selBa : Nat
  selPos : Nat
  /-- Learned-value entry would not fit at the next write (R423, 16_code_flash; reset: no) -/
  lvFull : Bool
  deriving DecidableEq, Repr

/-- Boot, self-test and resets (chapter Boot, Self-Test, Resets and Service Levels). -/
structure BootSt where
  /-- Cold reset is asserted (R442, 17_boot_selftest_resets; reset: yes) -/
  inReset : Bool
  /-- Phase 1 ended with its rails good, and CHIP_RST_N is high (R442, 17_boot_selftest_resets; reset: no) -/
  p1done : Bool
  p1bad : Bool
  /-- Slices that failed once and wait for the rerun batch, bit s (R438, 17_boot_selftest_resets; reset: 0) -/
  rerun : Nat
  /-- Slices that have ended at this boot, bit s (R438, 17_boot_selftest_resets; reset: 0) -/
  ended : Nat
  /-- Cores whose check has ended at this boot, bit n (R440, 17_boot_selftest_resets; reset: 0) -/
  checked : Nat
  /-- Units found unusable at this boot: bit 0 boot area, 1 firmware, 2 Erg image, 3 no host port, 4 DRAM, 5 pack, 6 carve-out for SL2 or SL3, 7 coarse-map carve-out, 8 LDPC for an image-pool channel, 9 no DRAM channel (R443, R446, R448, 17_boot_selftest_resets; reset: 0) -/
  bad : Nat
  /-- The boot area found invalid first, and running boot-block mode (R443, 17_boot_selftest_resets; reset: no) -/
  bootBlock : Bool
  /-- Tick of the release of cold reset (R442, 17_boot_selftest_resets; reset: 0) -/
  relAt : Nat
  /-- BUD and PACK_WAIT as they stood at the release of cold reset (R441, 17_boot_selftest_resets; reset: 8, 60) -/
  bud : Nat
  packWait : Nat
  /-- Tick at which the pack wait began (R448, 17_boot_selftest_resets; reset: 0) -/
  waitAt : Nat
  /-- Ticks of the resets of each core in the last hour, newest first (R454, 17_boot_selftest_resets; reset: none) -/
  wdt : List (Nat × List Nat)
  /-- Cores reset and not yet restarted, bit n (R454, 17_boot_selftest_resets; reset: 0) -/
  down : Nat
  /-- A warm reset runs (R452, 17_boot_selftest_resets; reset: no) -/
  warm : Bool
  /-- The next cold boot follows an A reset, or CHIP_RST_N (R450, BST_RST, 17_boot_selftest_resets; reset: A) -/
  cause : Nat
  deriving DecidableEq, Repr

/-- Firmware update (chapter Firmware Update). -/
structure FwuSt where
  /-- Bytes received of blocks not yet checked, by image offset, value plus one (R474, 19_firmware_update; reset: none) -/
  part : List (Nat × Nat)
  /-- Blocks programmed in the open download (R474, 19_firmware_update; reset: none) -/
  blocks : List Nat
  /-- Sectors erased for the open download, counted from the slot's first (R474, 19_firmware_update; reset: none) -/
  erased : List Nat
  /-- Tick of the last data of the open download (R473, 19_firmware_update; reset: 0) -/
  lastAt : Nat
  /-- NVMe downloads that wait for their blocks: (tag, blocks not yet checked) (R474, 19_firmware_update; reset: none) -/
  waits : List (Nat × List Nat)
  /-- Selection as the code flash holds it: running slot, NEXT, TRIAL, TRIES (R482, 19_firmware_update; reset: A, A, no, 0) -/
  run : Nat
  next : Nat
  trial : Bool
  tries : Nat
  /-- The learned-value area holds entries in two formats (R483, R484, 19_firmware_update; reset: no) -/
  dual : Bool
  /-- Activation in progress: 0 none, 1 waits for admin commands and long operations, 2 waits for I/O, 3 hold (R478, 19_firmware_update; reset: 0) -/
  act : Nat
  actSlot : Nat
  actClass : Nat
  actAt : Nat
  holdAt : Nat
  /-- Who asked: NVMe tag plus one, or 0 for the mailbox (R481, 19_firmware_update; reset: 0) -/
  actTag : Nat
  actMbx : Nat
  deriving DecidableEq, Repr

/-- Clocks, power domains and adaptive loops (chapter Clocks, Power Domains and Adaptive Loops). -/
structure PwrSt where
  /-- The crystal drives the tick counter (R486, R487, 20_clocks_power_adaptive; reset: no) -/
  xtal : Bool
  /-- Failures of the AVSBus transaction in progress (R494, 20_clocks_power_adaptive; reset: 0) -/
  avsTry : Nat
  /-- A voltage request waits for its Voltage read (R495, 20_clocks_power_adaptive; reset: no) -/
  avsWait : Bool
  /-- The clock stretch holds (R496, 20_clocks_power_adaptive; reset: no) -/
  stretch : Bool
  /-- Consecutive windows of each core below 25 % busy (R492, 20_clocks_power_adaptive; reset: 0) -/
  fsLow : List (Nat × Nat)
  /-- Tick since which TJ has stayed at least 3 °C below the threshold of each stage, plus one (R498, 20_clocks_power_adaptive; reset: none) -/
  coolAt : List (Nat × Nat)
  /-- Consecutive low margin measurements of each port (R502, 20_clocks_power_adaptive; reset: 0) -/
  eqLow : List (Nat × Nat)
  /-- Tick of the last repeated equalization of each port, plus one (R502, 20_clocks_power_adaptive; reset: none) -/
  eqAt : List (Nat × Nat)
  /-- Idle switching disabled by a save (R490, 20_clocks_power_adaptive; reset: no) -/
  saveOn : Bool
  deriving DecidableEq, Repr

/-- What an event is: a fixed type of Table 18-4 with its TYPE, or an event that Odber raises, by source code
(Table 18-3) and the model's own name `k` for it (the manual gives its low TYPE byte and severity no value).
[DESIGN CHOICE, safe: log 10] -/
inductive EvType where
  | fixed (typ sev : Nat)
  | odber (src k : Nat)
  deriving DecidableEq, Repr

/-- An event that a block has signalled and that is not yet a record (R30, R455, R459, R460): tick and boot number when
raised, instance, payload bytes, place in a group (0 none, 1 first, 2 member) and whether only VBAT_AON powered the
device. -/
structure EvReport where
  typ : EvType
  tick : Nat
  boot : Nat
  inst : Nat
  payload : List Nat
  grp : Nat
  vbat : Bool
  deriving DecidableEq, Repr

/-- One recorder record (Table 18-1) without its SEQ, CRC and MARK. -/
structure EvRecord where
  typ : EvType
  sev : Nat
  flags : Nat
  tick : Nat
  boot : Nat
  inst : Nat
  payload : List Nat
  deriving DecidableEq, Repr

/-- One slot of the circular pool or the permanent sector (R456, R457): its SEQ, whether torn, and its record. -/
structure EvSlot where
  seq : Nat
  torn : Bool
  record : EvRecord
  deriving DecidableEq, Repr

/-- Event recorder (chapter Event Recorder). -/
structure EvrSt where
  /-- Events signalled to their owner and not yet records, oldest first (R30, 18_event_recorder; reset: empty) -/
  reports : List EvReport
  /-- Commit queue, at most 1,024 (R462, 18_event_recorder; reset: empty) -/
  queue : List EvRecord
  /-- Retention buffer, at most 32 (R462, 18_event_recorder; reset: empty) -/
  ret : List EvRecord
  /-- Pending loss count and TICK of the first loss (R462, 18_event_recorder; reset: 0) -/
  lossCnt : Nat
  lossTick : Nat
  /-- Records entered of each type in the window in progress (R461, 18_event_recorder; reset: none) -/
  seen : List (EvType × Nat)
  /-- Records suppressed of each type in the window in progress (R461, 18_event_recorder; reset: none) -/
  supp : List (EvType × Nat)
  /-- Start tick of the window in progress (R461, 18_event_recorder; reset: 0) -/
  winAt : Nat
  /-- Circular pool in code-flash sectors 459 to 487, by slot 0 to 29,695 (R457, 18_event_recorder; reset: erased) -/
  pool : List (Nat × Option EvSlot)
  /-- Permanent sector 456, by position 0 to 1,023 (R457, 18_event_recorder; reset: erased) -/
  perm : List (Nat × Option EvSlot)
  /-- Readout latch of EVR_SEL: the record prefetched, if any (R467, 18_event_recorder; reset: none) -/
  latch : Option EvSlot
  /-- A prefetch runs for EVR_SEL, and for TWI0 (R467, 18_event_recorder; reset: no) -/
  fetching : Bool
  twiFetching : Bool
  /-- TWI0's REC_SEL pointer: area and index (R467, 18_event_recorder; reset: 0) -/
  twiArea : Nat
  twiIndex : Nat
  /-- Readout latch of TWI0: its result (0 valid, 1 empty, 2 left the window, 3 torn), none while not ready (R467, 18_event_recorder; reset: none) -/
  twiLatch : Option (Nat × Option EvSlot)
  deriving DecidableEq, Repr

/-- A decoder as conventional reset leaves it (R87). -/
def decoderInit : Decoder :=
  { committed := false, base := 0, size := 0, ways := 1, gran := 256, dpaBase := 0, locked := false }

/-- An empty event log. -/
def evLogInit : EvLog := { recs := [], dropped := 0, overAt := (0, 0), next := 1 }

/-- A logical device at reset: eight decoders, four empty logs (0 Informational, 1 Warning, 2 Failure, 3 Dynamic
Capacity), no interrupt on any log. -/
def ldInit : Ld :=
  { decs := List.replicate 8 decoderInit, extents := [], regions := [], adding := [], releasing := [],
    logs := List.replicate 4 evLogInit, policy := [0, 0, 0, 0], poisoned := [], poisonOver := false, alert := [],
    shutdown := 0, lastUnmap := none, offline := true }

/-- Host ports at reset. -/
def hostInit : HostSt :=
  { trk := [], nextReq := 0, reqOut := [], rwdOut := [], credFly := [], rwdKept := [], lds := [], qosReq := [],
    qosLat := [], qosOver := [], qosIdle := [], qosSpent := [], holdSeen := false, holdSeenPrev := false, winAt := 0, perst := 3, pbr := 0, perstAt := [],
    ready := 0, gpfWait := 0, gpfMs := 0, gpfMw := 0, hostTime := none, offline := [], mediaLast := 1, healthLast := 0, lifeLast := 0,
    msixOff := [], cxlHold := false }

/-- DRAM controllers at reset. -/
def dramInit : DramSt :=
  { q := [], next := 0, reading := [], openRow := [], hits := [], rot := [], rfmDue := [], raa := [],
    trnDue := [], groups := [], quiet := [], ovfQuiet := 0, pdown := 0, caravan := false, selfRef := false, migr := [],
    retired := [], retLater := [], spareBad := 0, serials := [], ce24 := [], ceTotal := 0, scrubAt := [],
    scrubFrom := 0, scrubDone := false, rewrites := [], actSpent := [], driftFrom := [], ctrFail := [],
    dqs := [], pages := [], sbRef := 0, sbNext := [], rfmHold := [], migCred := [], rebuild := false }

/-- Tracking at reset. -/
def trkInit : TrkSt :=
  { dirty := [], cache := [], missed := [], evicted := [], copy := [], promised := [], summary := [], restored := [], psv0 := [], psv1 := [], refVec := 0,
    refGen := 0, gate := true, epochAt := 0 }

/-- Drift at reset. -/
def driftInit : DriftSt :=
  { tokens := 0, scan := 0, snapNum := 0, snapNow := none, snapDue := false, snaps := [], confNow := 0, redirtyNow := 0,
    segAt := [], genTop := 0, ageByp := 90, tprog := [] }

/-- The ledger at reset. -/
def ledgerInit : LedgerSt :=
  { running := none, next := none, rPrev := 0, tLast := 0, started := false, rSeen := false, emCount := 0, emArmed := true,
    stopped := false, oasisUsed := 0, gEvent := 0, gEventAt := none }

/-- Caravan and restore at reset. -/
def cvnInit : CvnSt :=
  { code := 0, todo := [], progs := [], issued := 0, issuedMem := 0, issuedStg := 0, skipped := 0, deltas := [],
    deltaSlots := 0, gTrig := 0, stopped := false, migStopped := false, saveAct := false, manifest := none,
    building := none, newRec := none, record := none, loss := none, lrwAt := 0, lrwTok := 0, lost := [], lostStg := [], bulkAt := 0, doneAt := 0, bulkNext := 0, got := [], fetching := [],
    deferred := [], coldLatched := false, dirtyShut := 0, ssn := 0, sanMark := false, unread := [] }

/-- A long-operation entry never used. -/
def loqEntInit : LoqEnt :=
  { gen := 0, used := false, ended := false, posted := false, op := 0, args := [], slot := 0, status := 0, result := 0,
    record := [] }

/-- The long-operation queue at reset. -/
def loqInit : LoqSt :=
  { ents := [], buf := [], post := [], cnt0 := 0, cnt1 := 0, phase0 := 1, phase1 := 1, bg := none, waiting := [],
    ovlStep := 0, ovlEnt := 0, ovlNew := 255, ovlBegun := false }

/-- Image and CAL store at reset. -/
def ergInit : ErgSt :=
  { loaded := false, base := [], ovls := [], polOvl := 15, recOvl := 255, recDigest := none, recStruct := none,
    reformMark := false, cal := [], calHalf := 0, calNow := [], ownerKey := false, ownerOnly := false }

/-- A die that has not been discovered. -/
def dieInit : DieSt :=
  { state := 0, tmo := 0, reads := 0, progs := 0, erases := 0, iter := [], bitsMax := 0, soft := 0, retry := 0, unc := 0,
    pfail := 0, efail := 0, psus := 0, esus := 0, tprog := [], tbers := [], served := 0, win3 := [], offs := [], slcTime := 0,
    fencedBefore := false,
    retired := false }

/-- A group with no saved entry (R257). -/
def refInit : RefSt :=
  { offs := List.replicate 15 0, mean := 0, probes := 0, last := 0, readSince := false, next := 0, recent := 0,
    probing := false, failed := 0 }

/-- Flash channels at reset. -/
def flashInit : FlashSt :=
  { ops := [], extra := [], next := 0, dies := [], refs := [], stopping := false, waking := 0, baseRate := [], baseMode := [],
    xtAt := [], xtVol := [], dropped := [] }

/-- A superblock without members. -/
def sbInit : SbSt :=
  { state := 6, native := false, tenant := 3, stream := 0, wear := 0, reads := 0, closeTick := 0, openSeq := 0, fill := 0,
    rw := 0, members := [], retired := [], retireNext := [], erasing := false, group := 0, rebuilt := [],
    rebuiltOnce := [], movedSeq := 0, sanitize := false, recAt := 0 }

/-- Flash translation at reset: no map, nothing written. -/
def ftlInit : FtlSt :=
  { sbs := [], slots := [], img := [], coarse := [], fine := [], groups := [], splitWait := 0, folds := [],
    folding := false, opens := [], openSeq := 0, journal := [], jpos := 0, cp := none, cpDue := false, root := none,
    cpSlots := 0, cpTick := 0, mapChanged := false, victim := 0, victimWl := false, moves := [], rwSeq := 0, gRated := 0,
    scanTick := 0, scanNext := 0, healthTick := 0, healthRecs := 0, corrPers := 0, unrecSeen := false,
    eraseWait := [], xor := [], parDue := [], noPar := [], jflushed := 0, jconf := 0, jwait := [], chunks := [], anchorPos := 0, life := [] }


/-- A namespace number not in use. -/
def nsInit : NsSt :=
  { size := 0, base := 0, units := 0, lbaf := 0, ext := false, pit := 0, pil := false, cfgWt := false, effWt := false,
    cause := 0, ready := false, lossStg := false, lossUnk := false, last := 0, ctrls := [], closed := 0 }

/-- A function after controller reset: only the admin queues, to be set by the host, here at their largest size. -/
def fnInit : FnSt :=
  { en := false, rdy := false, shst := false, shutReq := false, ps := 0, lastOp := 0, psEntry := 0, ams := false,
    sqs := [], cqs := [],
    feats := [], aers := [], events := [], modeAt := 0, modePend := false, changed := [], errs := [],
    errCnt := 0, next := 0, wrr := [], burst := 0 }

/-- NVMe service at reset. -/
def nvmInit : NvmSt :=
  { fns := [], cmds := [], order := 0, wseq := 0, locks := [], nss := [], stg := [], nextStg := 0, rr := 0, lastMode := 0,
    lostLbas := [], sanitize := 0, sanStatus := 0, ioPause := false, unsafeShut := 0, mediaErr := 0, stopped := false }

/-- A free semaphore. -/
def semInit : SemSt := { holder := 0, ownerReset := false, next := 0 }

/-- Buffers and semaphores at reset. -/
def bufInit : BufSt :=
  { own := [], wait := [], save := false, dbl := 0, foreign := 0, faults := 0, live := [], mine := [], nextTag := 0, sems := [], crcVia := [] }



/-- No learned value. -/
def learnedInit : Learned :=
  { qL := 0, rfac := 1000, ser := 0, id := 0, soc := 0, audTick := 0, sumS := 0, n := 0, pMeas := 0, pSer := 0 }

/-- The gauge at reset. -/
def gauInit : GauSt :=
  { socEst := 0, tEst := 0, estDue := false, hist := [], learned := learnedInit, lvFlash := none, lrnDue := false,
    accS := 0, accN := 0, accKnown := false, aud := 0, audAt := 0, audSoc0 := 0, audO0 := 0, audRf := 1000, audQ := 0,
    audLoq := 0, audDue := false, audRetry := 0, causeGone := 0, repAt := 0, ntcBad := false, polOvl := 15, tblOk := true }

/-- The sequencer at reset. -/
def seqInit : SeqSt :=
  { main := false, vbat := false, pwrFail := false, fltLow := false, fltCnt := 0, start := 0, enAt := [], offAt := [],
    offs := [], wasOn := 0, dropped := 0, oow := [], pgLow := [], endAt := 0, holdAt := 0, snap := false,
    logged := false, log := [], logSaved := [], tblOk := false, phase2Ready := false }

/-- The two-wire ports at reset. -/
def twiInit : TwiSt :=
  { acked := false, pins := 0, asm := [], eid := 0, run := [], queue := [], mux := 0, waitAt := [],
    miConf := [] }

/-- The code flash of a device whose slots have not been written. -/
def cflInit : CflSt :=
  { arr := [], queue := [], next := 0, cnt := 0, phase := 1, flags := [], selAny := false, selSeq := 0,
    selBa := 0, selPos := 0, lvFull := false }

/-- Boot state at reset. -/
def bootInit : BootSt :=
  { inReset := true, p1done := false, p1bad := false, rerun := 0, ended := 0, checked := 0, bad := 0, bootBlock := false,
    relAt := 0, bud := 8, packWait := 60, waitAt := 0, wdt := [], down := 0, warm := false,
    cause := 0 }

/-- Firmware update at reset. -/
def fwuInit : FwuSt :=
  { part := [], blocks := [], erased := [], lastAt := 0, waits := [], run := 0, next := 0, trial := false, tries := 0, dual := false,
    act := 0, actSlot := 0, actClass := 0, actAt := 0, holdAt := 0, actTag := 0, actMbx := 0 }

/-- Clocks and power at reset. -/
def pwrInit : PwrSt :=
  { xtal := false, avsTry := 0, avsWait := false, stretch := false, fsLow := [], coolAt := [], eqLow := [], eqAt := [],
    saveOn := false }

/-- The recorder at reset. -/
def evrInit : EvrSt :=
  { reports := [], queue := [], ret := [], lossCnt := 0, lossTick := 0, seen := [], supp := [], winAt := 0, pool := [],
    perm := [], latch := none, fetching := false, twiFetching := false, twiArea := 0, twiIndex := 0, twiLatch := none }

/-- The non-zero reset values of one field, by element and copy, put in front of a canonical list. -/
def fldResets (f : Fld) (m : List (Nat × Nat)) : List (Nat × Nat) :=
  if f.dflt = 0 ∧ f.dfl = [] then m
  else (List.range f.n).foldr (fun i m =>
    (List.range f.n2).foldr (fun j m => smSet 0 (f.key i j) (f.reset i) m) m) m

/-- Every register field at the reset value its map states (R536). [DESIGN CHOICE, unsafe: log 13] [PRESUMED, unsafe: log 14]
[DESIGN CHOICE, unsafe: log 15] [DESIGN CHOICE, unsafe: log 141] -/
def resetRegs : List (Nat × Nat) := allFlds.foldr fldResets []

/-- Every RWS field's applied value at reset (R536). -/
def resetAct : List (Nat × Nat) := (allFlds.filter (fun f => f.acc = .rws)).foldr fldResets []

/-- The state of the block. -/
structure State where
  /-- Register fields of the management space, keyed by bit address (Fld.key); an unlisted field reads 0 (R15 to R20, R503, R536; reset: the maps' reset values) -/
  regs : List (Nat × Nat)
  /-- Applied values of the RWS fields, keyed as the registers (R17, R18; reset: the maps' reset values) -/
  act : List (Nat × Nat)
  /-- Higher words latched by a read of the lowest word, keyed by word address, value plus one (R16; reset: none) -/
  latch : List (Nat × Nat)
  /-- The model's own: the queue of waiting commands, first in first out (reset: empty) -/
  pending : List Instr
  /-- Mailbox commands that waited and are released, oldest first, run when the queue is empty (R510; reset: empty) -/
  resumed : List Instr
  /-- The model's own: what the last command sent out of the device (reset: empty) -/
  out : List Output
  /-- The model's own: counter that gives each open value a fresh argument (reset: 0, DESIGN CHOICE) -/
  freeCtr : Nat
  /-- Host memory, by device physical address; an unlisted byte reads 0 (R76, R165; reset: nothing listed) -/
  mem : List Host.Cell
  /-- Poison marks, by line of 64 B of device physical address (R89, R130; reset: none) -/
  poison : List (Nat × Bool)
  /-- Erg image in force and CAL store -/
  erg : ErgSt
  /-- Host ports, tracker, QoS, logical devices -/
  host : HostSt
  /-- DRAM controllers -/
  dram : DramSt
  /-- Dirty tracking -/
  trk : TrkSt
  /-- Drift -/
  drift : DriftSt
  /-- Energy ledger -/
  ledger : LedgerSt
  /-- Caravan and restore -/
  cvn : CvnSt
  /-- Mailbox and long-operation queue -/
  loq : LoqSt
  /-- Flash channels -/
  flash : FlashSt
  /-- Flash translation -/
  ftl : FtlSt
  /-- NVMe block service -/
  nvm : NvmSt
  /-- Datapath buffers and hardware semaphores -/
  buf : BufSt
  /-- Backup energy gauge -/
  gau : GauSt
  /-- Power sequencer and supervisor -/
  seq : SeqSt
  /-- Two-wire ports -/
  twi : TwiSt
  /-- In-package code flash -/
  cfl : CflSt
  /-- Boot, self-test and resets -/
  boot : BootSt
  /-- Firmware update -/
  fwu : FwuSt
  /-- Clocks, power domains and adaptive loops -/
  pwr : PwrSt
  /-- Event recorder -/
  evr : EvrSt
  deriving DecidableEq, Repr

/-- The device right after an A reset, before any command (R19, R536, R450). [DEDUCED, unsafe: log 12] -/
def State.reset : State :=
  { regs := resetRegs,
    act := resetAct,
    latch := [],
    pending := [],
    resumed := [],
    out := [],
    freeCtr := 0,
    mem := [],
    poison := [],
    erg := ergInit,
    host := hostInit,
    dram := dramInit,
    trk := trkInit,
    drift := driftInit,
    ledger := ledgerInit,
    cvn := cvnInit,
    loq := loqInit,
    flash := flashInit,
    ftl := ftlInit,
    nvm := nvmInit,
    buf := bufInit,
    gau := gauInit,
    seq := seqInit,
    twi := twiInit,
    cfl := cflInit,
    boot := bootInit,
    fwu := fwuInit,
    pwr := pwrInit,
    evr := evrInit }

end Sys2Proof.Machine
end

