-- ==== Sys2Proof/Machine/Ops.lean ====
section
/-!
DEFINITION. The named operations that every meaning is built of: reading and writing a register field, counting,
reading and writing host memory, emitting a response, drawing an open value, and signalling an event.
-/
namespace Sys2Proof.Machine

/-! ### Arithmetic of the manual -/

/-- Division rounded up (the up() of R188; R14). -/
def cdiv (a b : Nat) : Nat := if b = 0 then 0 else (a + b - 1) / b

/-- Division rounded down; by 0 it is 0. -/
def fdiv (a b : Nat) : Nat := a / b

/-- Bit `i` of a number. -/
def bit (v i : Nat) : Bool := v.testBit i

/-- Bits `lo` to `lo + wd - 1` of a number. -/
def bits (v lo wd : Nat) : Nat := v / 2 ^ lo % 2 ^ wd

/-- A number with bit `i` set or cleared. -/
def setBitTo (v i : Nat) (b : Bool) : Nat := v - (bits v i 1) * 2 ^ i + (if b then 2 ^ i else 0)

/-- A Bool as a register bit. -/
def b2n (b : Bool) : Nat := if b then 1 else 0

/-- A signed 16-bit reading (R13). -/
def s16 (v : Nat) : Int := if v < 32768 then (v : Int) else (v : Int) - 65536

/-- An integer as the two's complement field of `wd` bits (R8). -/
def toField (wd : Nat) (v : Int) : Nat := (v % (2 ^ wd : Nat)).toNat

/-- A two's complement field of `wd` bits as an integer (R8). -/
def ofField (wd v : Nat) : Int := if v < 2 ^ (wd - 1) then (v : Int) else (v : Int) - (2 ^ wd : Nat)

/-- Division of integers rounded toward positive infinity (R170). -/
def idivUp (a : Int) (b : Nat) : Int := if b = 0 then 0 else -((-a).fdiv (b : Int))

/-- An integer held inside a range. -/
def clampI (lo hi v : Int) : Int := if v < lo then lo else if hi < v then hi else v

/-! ### Register fields -/

/-- The value of a field instance as the register holds it. -/
def State.rd (s : State) (f : Fld) (i : Nat := 0) (j : Nat := 0) : Nat := smGet 0 s.regs (f.key i j)

/-- Give a field instance a value, kept to the field's width. -/
def State.wr (s : State) (f : Fld) (v : Nat) (i : Nat := 0) (j : Nat := 0) : State :=
  { s with regs := smSet 0 (f.key i j) (v % 2 ^ f.wd) s.regs }

/-- The applied value of an RWS field (R17, R18). -/
def State.ap (s : State) (f : Fld) (i : Nat := 0) (j : Nat := 0) : Nat := smGet 0 s.act (f.key i j)

/-- Apply an RWS field's pending value (R18). -/
def State.applyRws (s : State) (f : Fld) (i : Nat := 0) (j : Nat := 0) : State :=
  { s with act := smSet 0 (f.key i j) (s.rd f i j) s.act }

/-- Whether a one-bit field reads 1. -/
def State.on (s : State) (f : Fld) (i : Nat := 0) (j : Nat := 0) : Bool := decide (s.rd f i j ≠ 0)

/-- Add to a saturating count. -/
def State.addSat (s : State) (f : Fld) (n : Nat) (i : Nat := 0) (j : Nat := 0) : State :=
  s.wr f (min (s.rd f i j + n) (2 ^ f.wd - 1)) i j

/-- Count one in a saturating count. -/
def State.inc (s : State) (f : Fld) (i : Nat := 0) (j : Nat := 0) : State := s.addSat f 1 i j

/-- Subtract from a count that does not fall below 0. -/
def State.sub (s : State) (f : Fld) (n : Nat) (i : Nat := 0) (j : Nat := 0) : State := s.wr f (s.rd f i j - n) i j

/-- Set or clear a one-bit field. -/
def State.put (s : State) (f : Fld) (b : Bool) (i : Nat := 0) (j : Nat := 0) : State := s.wr f (b2n b) i j

/-- The tick counter (R12). -/
def State.tick (s : State) : Nat := s.rd R.PWR_TICK_TICK

/-- The level served (R6). -/
def State.level (s : State) : Nat := s.rd R.BST_SL_CUR

/-! ### Open values, responses, events -/

/-- An open value, and the state whose counter has moved on. -/
def State.free (s : State) : Nat × State := (Config.freeNat s.freeCtr, { s with freeCtr := s.freeCtr + 1 })

/-- Send something out of the device. -/
def State.emit (s : State) (o : Output) : State := { s with out := s.out ++ [o] }

/-- Signal an event to its owner (R30): it becomes a record when the owner raises it (EVENT_RAISE). -/
def State.signal (s : State) (t : EvType) (inst : Nat := 0xFFFFFFFF) (payload : List Nat := []) (grp : Nat := 0) :
    State :=
  { s with evr := { s.evr with reports := s.evr.reports ++
      [{ typ := t, tick := s.tick, boot := s.rd R.BST_BOOTN_BOOT_CNT, inst := inst, payload := payload, grp := grp,
         vbat := !s.seq.main }] } }

/-- Signal one of Odber's own events, by source code (Table 18-3) and the model's name for it. -/
def State.note (s : State) (src k : Nat) (inst : Nat := 0xFFFFFFFF) : State := s.signal (.odber src k) inst

/-- TWI_ALERT_N is driven low while CAUSE AND MASK is nonzero and not yet acknowledged (R412). -/
def State.alertRefresh (s : State) : State :=
  s.put R.TWI0_ALERT_ASSERTED
    (decide (Nat.land (s.rd R.TWI0_ALERT_CAUSE) (s.rd R.TWI0_ALERT_MASK) ≠ 0) && !s.twi.acked)

/-- A cause of Table 15-6 arises: its CAUSE bit sets; one that newly sets ends an acknowledgement (R412). -/
def State.alert (s : State) (n : Nat) : State :=
  if bit (s.rd R.TWI0_ALERT_CAUSE) n then s
  else
    let s := s.wr R.TWI0_ALERT_CAUSE (s.rd R.TWI0_ALERT_CAUSE + 2 ^ n)
    { s with twi := { s.twi with acked := false } }.alertRefresh

/-- Little-endian bytes of a number. -/
def leBytes (n v : Nat) : List Nat := (List.range n).map (fun i => v / 256 ^ i % 256)

/-- The number that little-endian bytes spell. -/
def ofLe : List Nat → Nat
  | [] => 0
  | b :: m => b % 256 + 256 * ofLe m

/-! ### Host memory -/

/-- One byte of host memory. [DESIGN CHOICE, unsafe: log 11] -/
def State.byteAt (s : State) (a : Nat) : Byte := smGet 0 s.mem a

/-- A run of bytes of host memory. -/
def State.bytesAt (s : State) (a n : Nat) : List Byte := (List.range n).map (fun i => s.byteAt (a + i))

/-- Write the bytes that the enables select, from address `a` (R89). -/
def memWrite (a : Nat) (be : Nat) : List Byte → List Host.Cell → List Host.Cell
  | [], m => m
  | b :: bs, m => memWrite (a + 1) (be / 2) bs (if be % 2 = 1 then smSet 0 a b m else m)

/-- All 64 byte enables of a line. -/
def allBe : Nat := 2 ^ 64 - 1

/-- Whether a line carries a poison mark (R89). -/
def State.poisoned (s : State) (dpa : Nat) : Bool := smGet false s.poison (dpa / 64)

/-- Bytes as sparse cells from offset 0. -/
def cellsOf (bs : List Nat) : List Host.Cell :=
  (bs.foldl (fun (m : List Host.Cell × Nat) b => (if b % 256 = 0 then m.1 else m.1 ++ [(m.2, BitVec.ofNat 8 b)], m.2 + 1))
    ([], 0)).1

/-- Land a write of one line in DRAM with the poison rules of R89: poison marks the whole line, a full-line write
without poison clears the mark, a partial write without poison leaves it. -/
def State.landWrite (s : State) (dpa be : Nat) (data : List Byte) (psn : Bool) : State :=
  let m := memWrite dpa be (data.take 64) s.mem
  let p := if psn then smSet false (dpa / 64) true s.poison
    else if be % 2 ^ 64 = allBe then smSet false (dpa / 64) false s.poison else s.poison
  { s with mem := m, poison := p }

/-- Zero a range of whole pages of host memory, marks included. -/
def State.zeroPages (s : State) (page n : Nat) : State :=
  { s with mem := smErase (fun a => decide (page * 4096 ≤ a) && decide (a < (page + n) * 4096)) s.mem,
           poison := smErase (fun l => decide (page * 64 ≤ l) && decide (l < (page + n) * 64)) s.poison }

/-! ### Geometry -/

/-- Host memory in pages: units of 256 MiB in DRM_HOSTSZ (R42, R109). -/
def State.hostPages (s : State) : Nat := s.rd R.DRM_HOSTSZ_HOST_SZ * 65536

/-- Staging pages (Table 4-2). -/
def State.stgPages (s : State) : Nat := s.rd R.NVC_STG_STG_TOTAL

/-- A field of the base image, or its default when the index is missing (R44). -/
def State.ergBase (s : State) (sec idx dflt : Nat) : Nat :=
  match smGet 0 s.erg.base (65536 * sec + idx) with
  | 0 => dflt
  | v + 1 => v

/-- The index of a logical device in the tables of Table 3-10. -/
def ldKey (port ld : Nat) : Nat := 16 * port + ld

/-- What the device keeps for a logical device. -/
def State.ld (s : State) (port ld : Nat) : Ld := smGet ldInit s.host.lds (ldKey port ld)

/-- Replace what the device keeps for a logical device. -/
def State.setLd (s : State) (k : Nat) (d : Ld) : State :=
  { s with host := { s.host with lds := smSet ldInit k d s.host.lds } }

/-- The table index that gives a logical device its range: its own; but a multi-headed one whose own words are zero has
the range of the same logical device of the other port (R103, Table 3-10). [DEDUCED, unsafe: log 52] -/
def State.ldHome (s : State) (port ld : Nat) : Nat :=
  let k := ldKey port ld
  let o := (k + 16) % 32
  if s.ergBase 0x01 (8 + 2 * k) 0 = 0 ∧ s.ergBase 0x01 (9 + 2 * k) 0 = 0 ∧ (s.ergBase 0x01 (9 + 2 * o) 0).testBit 8
  then o else k

/-- Base of a logical device in the device physical address space, bytes (R76, Table 3-10). -/
def State.ldBase (s : State) (port ld : Nat) : Nat :=
  bits (s.ergBase 0x01 (8 + 2 * s.ldHome port ld) 0) 0 16 * 0x10000000

/-- Static capacity of a logical device, bytes (R76, Table 3-10). -/
def State.ldCap (s : State) (port ld : Nat) : Nat :=
  bits (s.ergBase 0x01 (8 + 2 * s.ldHome port ld) 0) 16 16 * 0x10000000

/-- Logical devices on a port (Table 3-10). -/
def State.ldCount (s : State) (port : Nat) : Nat :=
  let v := s.ergBase 0x01 2 1
  if port = 0 then bits v 0 5 else bits v 8 5

/-- A logical device of the other port that is presented on this one too (MH, R103). -/
def State.ldVisits (s : State) (port ld : Nat) : Bool :=
  let o := (ldKey port ld + 16) % 32
  decide (s.ldHome port ld = o) && decide (ld < s.ldCount (1 - port))

/-- The numbers of the logical devices of a port: its own, and those of the other port that are presented here (R103). -/
def State.ldNums (s : State) (port : Nat) : List Nat :=
  (List.range 16).filter (fun n => decide (n < s.ldCount port) || s.ldVisits port n)

/-- The logical devices of the image, by table index. -/
def State.ldKeys (s : State) : List Nat := s.ldNums 0 ++ (s.ldNums 1).map (· + 16)

/-- A port presents a logical device now (R71, R75, R103): it is one of its own, CXL 1.1 shows LD 0 alone, and one that visits
from the other port shows while both ports run CXL 3.1. -/
def State.ldShown (s : State) (port ld : Nat) : Bool :=
  decide (ld < 16) && !(s.ld port ld).offline && (decide (s.rd R.HP_STAT_PROTO port ≠ 1) || decide (ld = 0)) &&
  (if s.ldVisits port ld then decide (s.rd R.HP_STAT_PROTO port = 3) && decide (s.rd R.HP_STAT_PROTO (1 - port) = 3)
   else decide (ld < s.ldCount port))

/-! ### CXL event logs -/

/-- The host time of an event or of Get Timestamp: the recorded time plus the elapsed ticks in ns, or 0 while no
relation is held (R539). A tick is 2⁻¹⁵ s. -/
def State.hostNow (s : State) : Nat :=
  match s.host.hostTime with
  | none => 0
  | some (t, at0) => t + (s.tick - at0) * 1000000000 / 32768

/-- The UUID of vendor event records (R99), first byte first. -/
def vendorUuid : List Nat :=
  [0x6C, 0x3E, 0x0A, 0x51, 0x92, 0xD4, 0x4B, 0x7E, 0xA1, 0xF0, 0x3B, 0x5C, 0x8E, 0x27, 0xD9, 0x14]

/-- What a record carries: a vendor record its UUID and the 16-bit subtype before its own data (R99). -/
def evData (typ sub : Nat) (data : List Nat) : List Nat :=
  if typ = 4 then vendorUuid ++ leBytes 2 sub ++ data else data

/-- Append a record to a log of at most 256; a record that finds it full is counted, with the time of the first and of the last of
them, as the CXL specification has an overflow (R99). -/
def EvLog.add (l : EvLog) (typ sub : Nat) (data : List Nat) (time : Nat) : EvLog :=
  if l.recs.length < 256 then
    { l with recs := l.recs ++ [{ handle := l.next, typ := typ, sub := sub, data := evData typ sub data, time := time }],
             next := l.next + 1 }
  else { l with dropped := l.dropped + 1, overAt := (if l.dropped = 0 then time else l.overAt.1, time) }

/-- Write an event record to one log of one logical device, with the interrupt its policy asks for (R99, R515:
vector 1). Logs: 0 Informational, 1 Warning, 2 Failure, 3 Dynamic Capacity. -/
def State.cxlEventLd (s : State) (k log typ sub : Nat) (data : List Nat) : State :=
  let d := smGet ldInit s.host.lds k
  let d' := { d with logs := d.logs.modify log (fun l => l.add typ sub data s.hostNow) }
  let s := s.setLd k d'
  if d.policy.getD log 0 = 1 then s.emit (.msix (k / 16) (k % 16) 1) else s

/-- Write a device-wide event record to every logical device (R99). -/
def State.cxlEvent (s : State) (log typ sub : Nat) (data : List Nat) : State :=
  s.ldKeys.foldl (fun s k => s.cxlEventLd k log typ sub data) s

/-- The runs of device physical bytes that a logical device holds, static and dynamic (R76, R78). -/
def State.ldRuns (s : State) (k : Nat) : List (Nat × Nat) :=
  let b := s.ldBase (k / 16) (k % 16)
  (b, s.ldCap (k / 16) (k % 16)) ::
    (smGet ldInit s.host.lds k).extents.map (fun e => (e.1 * 0x10000000, e.2 * 0x10000000))

/-- The logical devices whose range meets a run of device physical bytes: both heads of a multi-headed one (R99, R103). -/
def State.ldsOf (s : State) (dpa len : Nat) : List Nat :=
  s.ldKeys.filter (fun k => (s.ldRuns k).any (fun e => decide (max e.1 dpa < min (e.1 + e.2) (dpa + len))))

/-- Write an event record that concerns a run of device physical bytes to the log of every logical device whose range it
meets (R99). -/
def State.cxlEventIn (s : State) (dpa len log typ sub : Nat) (data : List Nat) : State :=
  (s.ldsOf dpa len).foldl (fun s k => s.cxlEventLd k log typ sub data) s

/-- Write an event record that concerns one line to the log of every logical device that holds it. -/
def State.cxlEventAt (s : State) (dpa log typ sub : Nat) (data : List Nat) : State := s.cxlEventIn dpa 64 log typ sub data

/-- Record a line in its logical device's poison list, which keeps the last 1,024 to receive a mark, newest last
(R508). -/
def State.listPoison (s : State) (dpa : Nat) : State :=
  (s.ldsOf (dpa / 64 * 64) 64).foldl (fun s k =>
    let d := smGet ldInit s.host.lds k
    let l := setDel (dpa / 64) d.poisoned ++ [dpa / 64]
    s.setLd k (if l.length ≤ 1024 then { d with poisoned := l }
      else { d with poisoned := l.drop 1, poisonOver := true })) s

end Sys2Proof.Machine
end

