-- ==== Sys2Proof/Machine/BufOps.lean ====
section
/-!
DEFINITION. The shared operations of the datapath buffers: floors, caps and the grant rule (R341, R342, R346), the teardown
of an operation (R345), and book faults (R348).
-/
namespace Sys2Proof.Machine

/-- Floors and caps of Table 11-2, by consumer code 1 to 9. -/
def bufFloor0 (k : Nat) : Nat := [0, 1536, 1536, 512, 1024, 384, 256, 32, 64, 0].getD k 0
def bufCap0 (k : Nat) : Nat := [0, 3072, 3072, 1536, 4096, 768, 512, 64, 128, 6144].getD k 0

/-- Buffers that a consumer owns. -/
def State.bufOwned (s : State) (k : Nat) : Nat := (s.buf.own.filter (fun e => decide (e.2 / 65536 = k))).length

/-- Free buffers of the 6,144. -/
def State.bufFree (s : State) : Nat := 6144 - s.buf.own.length

/-- Floor and cap in force: a save sets every consumer but Stripe parity and Caravan to 0, and gives Caravan the rest
(R346). -/
def State.bufFloor (s : State) (k : Nat) : Nat :=
  if s.buf.save then (if k = 5 then bufFloor0 5 else if k = 9 then 6144 - s.bufOwned 5 else 0) else bufFloor0 k
def State.bufCap (s : State) (k : Nat) : Nat :=
  if s.buf.save then (if k = 5 then bufCap0 5 else if k = 9 then 6144 else 0) else bufCap0 k

/-- The sum over consumers of what is missing to their floors (R342). -/
def State.bufReserve (s : State) : Nat := ((List.range 10).map (fun j => s.bufFloor j - s.bufOwned j)).sum

/-- The condition of R342 for consumer `k`. -/
def State.bufGrants (s : State) (k : Nat) : Bool :=
  (decide (s.bufOwned k < s.bufFloor k) && decide (1 ≤ s.bufFree)) ||
  (decide (s.bufOwned k < s.bufCap k) && decide (s.bufReserve + 1 ≤ s.bufFree))

/-- The lowest free buffer. -/
def State.bufPick (s : State) : Nat :=
  ((List.range (s.buf.own.length + 1)).find? (fun b => !s.buf.own.any (fun e => decide (e.1 = b)))).getD 0

/-- Give a free buffer to an owner. -/
def State.bufGive (s : State) (k op : Nat) : State :=
  let b := s.bufPick
  let own := (s.buf.own.takeWhile (fun e => decide (e.1 < b))) ++ (b, 65536 * k + op % 65536) ::
    s.buf.own.dropWhile (fun e => decide (e.1 < b))
  { s with buf := { s.buf with own := own } }.emit (.granted k b)

/-- Serve waiting requests, oldest first, whose condition holds; Caravan first during a save (R338, R340, R342, R346). -/
def State.bufServe (s : State) : State :=
  let order := if s.buf.save then s.buf.wait.filter (fun e => decide (e.1 = 9)) ++ s.buf.wait.filter (fun e => decide (e.1 ≠ 9))
    else s.buf.wait
  match order.find? (fun e => s.bufGrants e.1) with
  | none => s
  | some e => { s with buf := { s.buf with wait := s.buf.wait.erase e } }.bufGive e.1 e.2

/-- A saturating count of 32 bits (Table 11-5). -/
def inc32 (v : Nat) : Nat := min (v + 1) (2 ^ 32 - 1)

/-- A book fault: counted, and an event records it (R348). -/
def State.bookFault (s : State) (book : Nat) : State :=
  { s with buf := { s.buf with faults := inc32 s.buf.faults } }.note 0x0A 3 book

/-- Serve the waiting requests until no condition holds. -/
def State.bufServeAll (s : State) : State := s.buf.wait.foldl (fun s _ => s.bufServe) s

/-- A buffer for an operation of consumer `k` that the device itself carries out (R25, R342): its code, 1 + buffer + 8,192 × tag,
or 0 while the consumer must wait. Requests of the same consumer that wait go first. -/
def State.bufTake (s : State) (k : Nat) : Nat × State :=
  if s.bufGrants k && !s.buf.wait.any (fun e => decide (e.1 = k)) then
    let b := s.bufPick
    let tag := s.buf.nextTag % 65536
    let o := 65536 * k + tag
    let own := (s.buf.own.takeWhile (fun e => decide (e.1 < b))) ++ (b, o) :: s.buf.own.dropWhile (fun e => decide (e.1 < b))
    let c := 1 + b + 8192 * tag
    (c, { s with buf := { s.buf with own := own, live := smSet false o true s.buf.live, mine := s.buf.mine ++ [(c, k)],
                                     nextTag := s.buf.nextTag + 1 } })
  else (0, s)

/-- The device's own mover ends: its buffer is free in the same step (R345). -/
def State.bufPut (s : State) (e : Nat × Nat) : State :=
  let o := 65536 * e.2 + e.1 / 8192
  let b := (e.1 - 1) % 8192
  { s with buf := { s.buf with own := s.buf.own.filter (fun x => decide (x ≠ (b, o))), live := smSet false o false s.buf.live,
                               mine := s.buf.mine.filter (fun x => decide (x ≠ e)) } }.bufServe

/-- The teardown of an operation: every buffer it owns is free in the same step, and what it waits for is dropped (R345). -/
def State.bufDrop (s : State) (owner : Nat) : State :=
  let b := s.buf
  { s with buf := { b with own := b.own.filter (fun e => decide (e.2 ≠ owner)),
                           wait := b.wait.filter (fun e => decide (65536 * e.1 + e.2 ≠ owner)),
                           live := smSet false owner false b.live } }.bufServeAll

end Sys2Proof.Machine
end

