-- ==== Sys2Proof/Machine/Flags.lean ====
section
/-!
DEFINITION. The computations that the manual states as formulas, each a function of plain numbers: the ledger's
arithmetic (R185, R188), the save-capable throughput (R167), the pacing loop (R170) and the check values (Table 12-1).
-/
namespace Sys2Proof.Machine

/-! ### The ledger's arithmetic -/

/-- The page cost c of R188 for a save power `p` in mW and a rate `r` in 2⁻⁸ page per tick. -/
def pageCost (p r : Nat) : Nat :=
  if r = 0 then 0xFFFFFFFF else min (cdiv (p * 65536 * 4101) (125 * r * 4096)) 0xFFFFFFFE

/-- The fixed save energy of R188, grains. -/
def fixEnergy (p tFix : Nat) : Nat := cdiv (p * tFix) 32000

/-- The guarantee g of R188, pages: a multiple of 256, at most GMAX, 0 when there is no usable rate. -/
def guarantee (eUse oasis fix c r gmax : Nat) : Nat :=
  if r = 0 then 0
  else
    let a := eUse - oasis - fix
    let g := min (if c = 0 then gmax else a * 65536 / c) gmax
    g - g % 256

/-- The deliverable energy in use after a recomputation (R188). [DEDUCED, unsafe: log 83] -/
def nextEUse (eG eUse rise dt : Nat) : Nat := if eG ≤ eUse then eG else min eG (eUse + rise * dt / 1024)

/-- R_RATED in units of 2⁻⁸ page per tick (R185). -/
def ratedRate (mbs : Nat) : Nat := mbs * 256000000 / 134217728

/-! ### The pacing loop (R170) -/

/-- What one run of the pacing loop yields. -/
structure Pace where
  u : Nat
  f : Nat
  i : Nat
  en : Int
  deriving DecidableEq, Repr

/-- One run of the pacing loop: G, H, whether step 4 of a switch out of a volatile overlay is held, the fields and the
integral. While G is 0 or H at or above G, or the switch is held, u and f are 65,536, and i and en keep their values. -/
def pace (g h : Nat) (leaving : Bool) (setpt fsP kp ki i : Nat) (en0 : Int) : Pace :=
  if g = 0 ∨ g ≤ h ∨ leaving = true then { u := 65536, f := 65536, i := i, en := en0 }
  else
    let s := g * setpt / 100
    let en := clampI (-65536) 65536 (idivUp (((h : Int) - (s : Int)) * 65536) g)
    let p := idivUp ((kp : Int) * en) 256
    let i1 := clampI 0 65536 ((i : Int) + idivUp ((ki : Int) * en) 65536)
    let fs := g * fsP / 100
    let f := if h ≤ fs then 0 else cdiv ((h - fs) * 65536) (g - fs)
    let ur := p + i1
    let u := (min 65536 (max (f : Int) ur)).toNat
    if (65536 < ur ∧ 0 < en) ∨ (ur < (f : Int) ∧ en < 0) then { u := u, f := f, i := i, en := en }
    else { u := u, f := f, i := i1.toNat, en := en }

/-- DMAX of R169. -/
def dmaxOf (rsave cap : Nat) : Nat := cdiv (rsave * cap) 256

/-! ### Save-capable throughput (R167) -/

/-- The rate of one die: slots per program and program time in 0.1 µs. -/
def dieRate (slots tp : Nat) : Nat := if tp = 0 then 0 else slots * 78125 / tp

/-- The rate of one channel: its dies' rates against its bus of `mts` MT/s. -/
def chanRate (dies : Nat) (mts : Nat) : Nat := min dies (mts * 1000000 / 593920)

/-! ### Check values (R354, Table 12-1) -/

/-- One bit of a reflected check-value register of polynomial `poly`. -/
def crcBitR (poly v : Nat) : Nat := if v % 2 = 1 then Nat.xor (v / 2) poly else v / 2

/-- One byte into a reflected check-value register. -/
def crcByteR (poly v b : Nat) : Nat := (List.range 8).foldl (fun x _ => crcBitR poly x) (Nat.xor v (b % 256))

/-- One bit of a non-reflected check-value register of `w` bits. -/
def crcBitN (w poly v : Nat) : Nat :=
  if v / 2 ^ (w - 1) % 2 = 1 then Nat.xor (v * 2 % 2 ^ w) poly else v * 2 % 2 ^ w

/-- One byte into a non-reflected check-value register of `w` bits. -/
def crcByteN (w poly v b : Nat) : Nat :=
  (List.range 8).foldl (fun x _ => crcBitN w poly x) (Nat.xor v (b % 256 * 2 ^ (w - 8)))

/-- CRC-32C of a list of bytes, as images, descriptors and records carry it. -/
def crc32c (bs : List Nat) : Nat := Nat.xor (bs.foldl (crcByteR 0x82F63B78) 0xFFFFFFFF) 0xFFFFFFFF

end Sys2Proof.Machine
end

