-- ==== Sys2Proof/Machine/Track.lean ====
section
/-!
DEFINITION. Dirty tracking and the held set (R145 to R153), the ledger's levels that follow the held set (R191, R192,
R540), and the health telemetry that follows them (R100, R101). One operation for each page event of Table 5-2.
-/
namespace Sys2Proof.Machine

/-! ### Persistence state and Media Status -/

/-- The number of stores held on a port. -/
def State.heldNow (s : State) (port : Nat) : Nat :=
  (s.host.trk.filter (fun r => decide (r.port = port) && decide (r.stage = .held))).length

/-- Admission of clean-page stores is closed (R192). -/
def State.admClosed (s : State) : Bool :=
  s.on R.LDG_STAT_CLOSED || s.host.trk.any (fun r => decide (r.stage = .held))

/-- No management core remains (R454). [DEDUCED, unsafe: log 182] -/
def State.coresGone (s : State) : Bool := decide (s.rd R.BST_CORE_FENCED = 15)

/-- The device holds dirty pages under the guarantee: it serves SL3 or above, or it fell to SL0 for want of cores, whose data path,
held set, gate and Caravan triggers go on (R153, R454). -/
def State.persistent (s : State) : Bool := decide (3 ≤ s.level) || (s.coresGone && s.on R.TRK_STAT_RUN)

/-- The persistence state (R540). -/
def State.persState (s : State) : Nat :=
  if !s.on R.CVN_STAT_READY || decide (s.level ≤ 1) then 4
  else if s.level = 2 then 5
  else if s.on R.FTL_STAT_WITHDRAWN then 3
  else if s.on R.ERG_STAT_VOLATILE then 2
  else if s.on R.LDG_STAT_CLOSED then 1
  else 0

/-- Step 4 of a switch out of a volatile overlay is held (R64). -/
def State.leaveHeld (s : State) : Bool := decide (s.loq.ovlStep = 5)

/-- The age rule is bypassed (R156). -/
def State.ageBypass (s : State) : Bool :=
  let g := s.rd R.LDG_GUAR_G
  let h := s.rd R.TRK_HELD_HELD
  decide (g * s.drift.ageByp ≤ 100 * h) || decide (g ≤ h) || decide (g = 0) || s.admClosed ||
    (s.leaveHeld && decide (g < h))

/-- The ledger DevLoad level (R94, R191). -/
def State.ledgerLevel (s : State) : Nat :=
  if !s.trk.gate then 0
  else if s.admClosed || decide (s.rd R.LDG_TSEV_TSEV ≤ s.rd R.TRK_HELD_HELD) then 3
  else if s.rd R.LDG_TMOD_TMOD ≤ s.rd R.TRK_HELD_HELD then 2
  else 0

/-- The health-information Media Status, in the encoding of the CXL specification: 0 Normal, 1 Not Ready, 2 Write
Persistency Lost, 3 All Data Lost, 4 Write Persistency Loss in the Event of Power Loss (R101, Table 3-8).
[PRESUMED, unsafe: log 44] -/
def State.mediaStatus (s : State) : Nat :=
  if !s.on R.CVN_STAT_READY then 1
  else if s.on R.ERG_STAT_REFORMED && bit (s.rd R.ERG_STAT_REFORM_LOSS) 1 then 3
  else if decide (s.level < 3) || s.on R.ERG_STAT_VOLATILE || s.on R.FTL_STAT_WITHDRAWN then 2
  else if s.on R.LDG_STAT_CLOSED then 4
  else 0

/-- Health Status: bit 0 Maintenance Needed, bit 1 Performance Degraded, bit 2 Replacement Needed (Table 3-7). -/
def State.healthStatus (s : State) : Nat :=
  b2n (s.on R.FTL_STAT_SPARE_LOW) +
  2 * b2n (decide (s.rd R.BST_FENCE_SLICES ≠ 0) || decide (s.rd R.BST_CORE_FENCED ≠ 0) ||
    decide (s.rd R.DRM_STAT_CH_FENCE ≠ 0) || decide (s.rd R.FCC_CHFENCE_FENCE ≠ 0) ||
    decide (s.rd R.FCC_STAT_CLS_FENCE ≠ 0) || s.flash.dies.any (fun e => decide (e.2.state = 2)) || s.host.holdSeen || s.host.holdSeenPrev) +
  4 * b2n (s.dram.retired.any (fun e => decide (3 ≤ e.2)) || s.on R.FTL_STAT_WITHDRAWN)

/-- Raise the Memory Module Events of Table 3-6 for a changed Media Status or Health Status, and for Life Used crossing
a multiple of 10 %. -/
def State.healthRefresh (s : State) : State :=
  let m := s.mediaStatus
  let s := if m = s.host.mediaLast then s
    else (s.cxlEvent (if 2 ≤ m then 2 else 1) 2 1 [m]) |> fun s => { s with host := { s.host with mediaLast := m } }
  let h := s.healthStatus
  let s := if h = s.host.healthLast then s
    else (s.cxlEvent 1 2 0 [h]) |> fun s => { s with host := { s.host with healthLast := h } }
  let l := s.rd R.FTL_LIFE_LIFE_IMG / 10
  if l = s.host.lifeLast then s
    else (s.cxlEvent 1 2 0 [h, 10 * l]) |> fun s => { s with host := { s.host with lifeLast := l } }

/-- Bring LDG_STAT.STATE, LDG_STAT.LEVEL, the ports' ledger level and DFT_STAT.AGE_BYPASS to what they report (R156, R191,
R540), and raise what the health telemetry then raises; a changed state is an alert cause (Table 15-6).
[DEDUCED, unsafe: log 16] -/
def State.refresh (s : State) : State :=
  let l := s.ledgerLevel
  let s := if s.persState = s.rd R.LDG_STAT_STATE then s else s.alert 7
  let s := ((s.wr R.LDG_STAT_STATE s.persState).wr R.LDG_STAT_LEVEL l).wr R.HP_DLCUR_DL_LEDGER l 0
  let s := s.put R.DFT_STAT_AGE_BYPASS s.ageBypass
  let s := (s.wr R.HP_HOLD_HOLD_ACT (s.ap R.HP_HOLD_HOLD_LIM 0) 0).wr R.HP_HOLD_HOLD_ACT (s.ap R.HP_HOLD_HOLD_LIM 1) 1
  (s.wr R.HP_DLCUR_DL_LEDGER l 1).healthRefresh

/-! ### The held set -/

/-- CLOSED clears when the held set reaches G − 1 (R192, R196): vendor event 0x0003 is raised and the emergency count
returns to 0. -/
def State.closedClear (s : State) : State :=
  if s.on R.LDG_STAT_CLOSED && decide (s.rd R.TRK_HELD_HELD + 1 ≤ s.rd R.LDG_GUAR_G) then
    let s := s.put R.LDG_STAT_CLOSED false
    let s := { s with ledger := { s.ledger with emCount := 0, emArmed := true } }
    s.cxlEvent 0 4 0x0003 [s.rd R.LDG_GUAR_G, s.rd R.TRK_HELD_HELD]
  else s

/-- The admission gate is disabled: CLOSED clears in the same step without vendor event 0x0003, and the emergency count
returns to 0; the caller's step admits the held stores (R62, R192, R300). -/
def State.gateOff (s : State) : State :=
  { (s.put R.LDG_STAT_CLOSED false) with trk := { s.trk with gate := false },
                                         ledger := { s.ledger with emCount := 0, emArmed := true } }

/-- The held-set counters take new values: HELD is their sum, PEAK the largest held set seen; CLOSED and the levels
follow in the same step (R148, R149, R191, R192). -/
def State.setHeld (s : State) (memPages stg : Nat) : State :=
  let h := memPages + stg
  let s := ((s.wr R.TRK_HMEM_HELD_MEM memPages).wr R.TRK_HSTG_HELD_STG stg).wr R.TRK_HELD_HELD h
  let s := s.wr R.TRK_PEAK_PEAK (max (s.rd R.TRK_PEAK_PEAK) h)
  s.closedClear.refresh

/-- HELD_MEM rises by one (R150). -/
def State.heldAdd (s : State) : State := s.setHeld (s.rd R.TRK_HMEM_HELD_MEM + 1) (s.rd R.TRK_HSTG_HELD_STG)

/-- HELD_MEM falls by one (R150). -/
def State.heldSub (s : State) : State := s.setHeld (s.rd R.TRK_HMEM_HELD_MEM - 1) (s.rd R.TRK_HSTG_HELD_STG)

/-- HELD_STG rises or falls (R149). -/
def State.stgAdd (s : State) (k : Nat) : State := s.setHeld (s.rd R.TRK_HMEM_HELD_MEM) (s.rd R.TRK_HSTG_HELD_STG + k)
def State.stgSub (s : State) (k : Nat) : State := s.setHeld (s.rd R.TRK_HMEM_HELD_MEM) (s.rd R.TRK_HSTG_HELD_STG - k)

/-! ### Page state (Table 5-2) -/

/-- The dirty bit of a page. -/
def State.dirtyAt (s : State) (p : Nat) : Bool := smGet false s.trk.dirty p

/-- The copy-table entry of a page. -/
def State.copyAt (s : State) (p : Nat) : Option CopyEnt := (s.trk.copy.find? (fun e => decide (e.1 = p))).map (·.2)

/-- The page has a copy-table entry without DISCARD. -/
def State.copyLive (s : State) (p : Nat) : Bool :=
  match s.copyAt p with
  | some c => !c.discard
  | none => false

/-- The page is in the held set (R149). -/
def State.inHeld (s : State) (p : Nat) : Bool := s.dirtyAt p || s.copyLive p

/-- The region of a page: 2,048 pages (R146). -/
def regionOf (p : Nat) : Nat := p / 2048

/-- DCNT, STAMP and AGED of a summary word (Table 5-1). -/
def dcnt (w : Nat) : Nat := bits w 0 12
def stamp (w : Nat) : Nat := bits w 12 3
def aged (w : Nat) : Bool := bit w 15

/-- A summary word of its three fields. -/
def mkSummary (d st : Nat) (a : Bool) : Nat := d % 4096 + 4096 * (st % 8) + 32768 * b2n a

/-- The summary word of a region. -/
def State.summaryAt (s : State) (r : Nat) : Nat := smGet 0 s.trk.summary r

/-- The line of the bitmap cache that holds a page's bit is used (R145): 512 pages a line, eight lines a set. A line that is not held is
fetched, and the line longest unused leaves the set, written back if it was written. The manual gives neither the set of a line nor
which line leaves. [DESIGN CHOICE, safe: log 205] -/
def State.bitmapUse (s : State) (p : Nat) (written : Bool) : State :=
  let n := p / 512
  let set := n % 2048
  let ls := smGet [] s.trk.cache set
  let was := ls.any (fun e => decide (e.1 = n) && e.2)
  let rest := ls.filter (fun e => decide (e.1 ≠ n))
  let new := ((n, written || was) :: rest)
  { s with trk := { s.trk with
      cache := smSet [] set (new.take 8) s.trk.cache,
      missed := if ls.any (fun e => decide (e.1 = n)) then s.trk.missed else s.trk.missed ++ [n],
      evicted := s.trk.evicted ++ ((new.drop 8).filter (·.2)).map (·.1) } }

/-- Set the dirty bit of a page whose bit is clear: DCNT counts it, STAMP takes the epoch when DCNT leaves 0 (R154), and
a store's region enters both post-snapshot vectors (R213). -/
def State.setDirty (s : State) (p : Nat) (byStore : Bool) : State :=
  let r := regionOf p
  let w := s.summaryAt r
  let w' := if dcnt w = 0 then mkSummary 1 (s.rd R.TRK_STAT_EPOCH_NOW) false
    else mkSummary (dcnt w + 1) (stamp w) (aged w)
  let t := { s.trk with dirty := smSet false p true s.trk.dirty, summary := smSet 0 r w' s.trk.summary }
  let t := if byStore then { t with psv0 := smSet false r true t.psv0, psv1 := smSet false r true t.psv1 } else t
  ({ s with trk := t }.wr R.TRK_DIRTY_DIRTY (s.rd R.TRK_DIRTY_DIRTY + 1)).bitmapUse p true

/-- Clear the dirty bit of a page whose bit is set. -/
def State.clearDirty (s : State) (p : Nat) : State :=
  let r := regionOf p
  let w := s.summaryAt r
  let t := { s.trk with dirty := smSet false p false s.trk.dirty,
                        summary := smSet 0 r (mkSummary (dcnt w - 1) (stamp w) (aged w))
                          s.trk.summary }
  ({ s with trk := t }.wr R.TRK_DIRTY_DIRTY (s.rd R.TRK_DIRTY_DIRTY - 1)).bitmapUse p true

/-- Replace, add or free the copy-table entry of a page; INFL reports the entries in use (R147). -/
def State.setCopy (s : State) (p : Nat) (c : Option CopyEnt) : State :=
  let rest := s.trk.copy.filter (fun e => decide (e.1 ≠ p))
  let m := match c with
    | none => rest
    | some e => (rest.takeWhile (fun x => decide (x.1 < p))) ++ (p, e) :: (rest.dropWhile (fun x => decide (x.1 < p)))
  { s with trk := { s.trk with copy := m } }.wr R.TRK_INFL_INFL m.length

/-- Clear a page's promised bit (R62). -/
def State.unpromise (s : State) (p : Nat) : State :=
  { s with trk := { s.trk with promised := smSet false p false s.trk.promised } }

/-- A store to a page is applied: the store rows of Table 5-2. Below SL3 no held set is kept (R153). -/
def State.pageStore (s : State) (p : Nat) : State :=
  if !s.on R.TRK_STAT_RUN then s
  else match s.dirtyAt p, s.copyAt p with
  | false, none => (s.setDirty p true).heldAdd
  | true, _ => s.bitmapUse p false
  | false, some c => if c.discard then s else (s.setDirty p true).setCopy p (some { c with redirty := true })

/-- The Drift take of a dirty page without an entry: the take row of Table 5-2. -/
def State.pageTake (s : State) (p gen slot : Nat) : State :=
  if s.dirtyAt p && (s.copyAt p).isNone then
    (s.clearDirty p).setCopy p (some
      { gen := gen, redirty := false, discard := false, read := false, slot := slot, prog := 0 })
  else s

/-- The confirmation rows of Table 5-2 for the tracking side: the entry is freed, the promised bit cleared, and a page
not redirtied leaves the held set. A discarded entry is only freed. -/
def State.pageConfirm (s : State) (p : Nat) : State :=
  match s.copyAt p with
  | none => s
  | some c =>
    if c.discard then s.setCopy p none
    else if c.redirty then (s.setCopy p none).unpromise p
    else ((s.setCopy p none).unpromise p).heldSub

/-- The program-failure rows of Table 5-2: the page returns to Dirty; a discarded entry is only freed. -/
def State.pageFail (s : State) (p : Nat) : State :=
  match s.copyAt p with
  | none => s
  | some c =>
    if c.discard then s.setCopy p none
    else if c.redirty then s.setCopy p none
    else (s.setCopy p none).setDirty p false

/-- The release rows of Table 5-2: the page leaves the held set, and a copy under way is discarded. -/
def State.pageRelease (s : State) (p : Nat) : State :=
  match s.dirtyAt p, s.copyAt p with
  | false, none => s
  | true, none => ((s.clearDirty p).unpromise p).heldSub
  | d, some c =>
    if c.discard then s
    else
      let s := if d then s.clearDirty p else s
      (((s.setCopy p (some { c with discard := true })).unpromise p)).heldSub

/-- The pages of the held set in a range, ascending: dirty, or with a live copy (R149). -/
def State.heldPages (s : State) (lo n : Nat) : List Nat :=
  let d := (s.trk.dirty.filter (fun e => e.2)).map (·.1)
  let c := (s.trk.copy.filter (fun e => !e.2.discard)).map (·.1)
  (c.foldl (fun m p => setIns p m) d).filter (fun p => decide (lo ≤ p) && decide (p < lo + n))

/-- Release every page of a range in one step (R79 step 2). -/
def State.releaseRange (s : State) (page n : Nat) : State :=
  (s.heldPages page n).foldl (fun s p => s.pageRelease p) s

/-- The recount of HELD_MEM from the bitmap and the copy table (R152): the counter takes the recount, TRK_AUDV the
difference, and a difference is recorded. A recount that leaves the held set above G sets CLOSED (R192), which the
ledger's own operation then does. -/
def State.heldRecount (s : State) : State :=
  let n := (s.heldPages 0 (2 ^ 32)).length
  let old := s.rd R.TRK_HMEM_HELD_MEM
  let d : Int := (n : Int) - (old : Int)
  let s := s.setHeld n (s.rd R.TRK_HSTG_HELD_STG)
  if n = old then s
  else
    let s := s.wr R.TRK_AUDV_AUDV (toField 32 (clampI (-2 ^ 31) (2 ^ 31 - 1) (ofField 32 (s.rd R.TRK_AUDV_AUDV) + d)))
    ((s.inc R.TRK_AUD_AUD_DIFFS).put R.TRK_STAT_AUD_DIFF true).note 0x03 1

/-- Clear tracking as a whole: MEM_SANITIZE step 2 (R509), and the zero state at memory ready (R153). -/
def State.clearTracking (s : State) : State :=
  let s := { s with trk := { s.trk with dirty := [], copy := [], promised := [], summary := [],
                                         cache := [], missed := [], evicted := [] } }
  let s := (s.wr R.TRK_DIRTY_DIRTY 0).wr R.TRK_INFL_INFL 0
  s.setHeld 0 (s.rd R.TRK_HSTG_HELD_STG)

/-- The service level falls below SL3: tracking keeps no held set, both counters read 0, nothing is promised and no store
waits for admission (R153, Table 0-2). -/
def State.trackOff (s : State) : State :=
  let s := { s with nvm := { s.nvm with stg := s.nvm.stg.map (fun (e : Nat × StgSt) => (e.1, { e.2 with held := false })) } }
  let s := ((s.clearTracking).put R.TRK_STAT_RUN false).setHeld 0 0
  s.gateOff.wr R.LDG_GPUB_G_PUB 0

end Sys2Proof.Machine
end

