-- ==== Sys2Proof/Machine/Operands.lean ====
section
/-!
DEFINITION. The Erg image as an operand: its header, directory, sections and overlays read from words (R43 to R48,
R58), the range of every field (R103, R104, R144, R181, R184 and the other field tables), the register fields that the
policy sections load (R60, R65), and the fields in force under the active overlay.
-/
namespace Sys2Proof.Machine

/-! ### Reading an image -/

/-- Byte `k` of an image whose words `w` gives. -/
def imgByte (w : Nat → Nat) (k : Nat) : Nat := w (k / 4) / 256 ^ (k % 4) % 256

/-- The 32-bit word at byte offset `k` of an image, least significant byte first (R43, R44): a section body may begin at any
byte. -/
def imgWordAt (w : Nat → Nat) (k : Nat) : Nat := ofLe ((List.range 4).map (fun i => imgByte w (k + i)))

/-- One directory entry (R43): section, class, version, offset, length in bytes, CRC. -/
structure DirEnt where
  id : Nat
  cls : Nat
  ver : Nat
  off : Nat
  len : Nat
  crc : Nat
  deriving DecidableEq, Repr

/-- The section directory (R43). -/
def imgDir (w : Nat → Nat) : List DirEnt :=
  (List.range (min 32 (imgByte w 0x25))).map (fun e =>
    let k := 16 + 4 * e
    { id := bits (w k) 0 8, cls := bits (w k) 8 8, ver := bits (w k) 16 16, off := w (k + 1), len := w (k + 2),
      crc := w (k + 3) })

/-- A directory entry by section. -/
def imgSec (w : Nat → Nat) (id : Nat) : Option DirEnt := (imgDir w).find? (fun d => decide (d.id = id))

/-- The value of a field index, if its section holds it (R44). -/
def imgField (w : Nat → Nat) (id idx : Nat) : Option Nat :=
  match imgSec w id with
  | none => none
  | some d => if 4 * idx + 4 ≤ d.len then some (imgWordAt w (d.off + 4 * idx)) else none

/-- The required sections (R45). -/
def requiredSecs : List Nat := [1, 2, 3, 4, 5, 6, 0x10, 0x11, 0x12, 0x13, 0x14, 0x15, 0x16, 0x17]

/-- The overlays of an image in index order (R58). -/
def imgOverlays (w : Nat → Nat) : List Overlay :=
  (List.range 8).filterMap (fun k =>
    match imgSec w (0x20 + k) with
    | none => none
    | some d =>
      let h := imgWordAt w d.off
      some { index := k, tag := bits h 0 8,
             deltas := (List.range (bits h 16 16)).map (fun j =>
               let a := imgWordAt w (d.off + 4 + 8 * j)
               (bits a 0 8, (bits a 16 16, imgWordAt w (d.off + 8 + 8 * j)))) })

/-! ### Field ranges (step 9 of Table 2-3) -/

/-- A field of a section: indices `lo` to `hi`, bits, range and whether the table gives a default. -/
structure SecFld where
  sec : Nat
  lo : Nat
  hi : Nat
  bit : Nat
  wd : Nat
  mn : Nat
  mx : Nat
  opt : Bool
  deriving DecidableEq, Repr

/-- The ranges of the structural sections (Tables 3-10, 10-1, 4-5, 9-7, 14-1, 15-2). -/
def structRanges : List SecFld :=
  [⟨1, 0, 0, 0, 32, 0, 3, true⟩, ⟨1, 1, 1, 0, 2, 0, 2, true⟩, ⟨1, 1, 1, 2, 2, 0, 2, true⟩, ⟨1, 2, 2, 0, 5, 1, 16, true⟩,
   ⟨1, 2, 2, 8, 5, 0, 16, true⟩, ⟨1, 4, 4, 0, 32, 0, 16384, true⟩, ⟨1, 5, 7, 0, 32, 0, 0, true⟩,
   ⟨2, 0, 1, 0, 32, 0, 126, true⟩, ⟨2, 2, 2, 0, 32, 1, 1024, true⟩, ⟨2, 3, 3, 0, 32, 1, 64, true⟩,
   ⟨2, 4, 4, 0, 32, 1, 2048, true⟩, ⟨2, 5, 5, 0, 32, 1, 65, true⟩, ⟨2, 6, 6, 0, 32, 64, 16384, true⟩,
   ⟨2, 7, 7, 0, 32, 2, 65536, true⟩,
   ⟨3, 0, 0, 0, 32, 48, 88, true⟩, ⟨3, 1, 1, 0, 32, 0, 255, true⟩,
   ⟨4, 0, 35, 0, 32, 0, 0xFFFFFFFF, false⟩, ⟨4, 36, 36, 0, 32, 0, 63, false⟩,
   ⟨4, 37, 37, 0, 32, 0, 7, false⟩, ⟨4, 38, 38, 0, 32, 0, 3, false⟩, ⟨4, 39, 39, 0, 32, 0, 4095, false⟩,
   ⟨4, 40, 40, 0, 32, 0, 0xFFFFF, false⟩, ⟨4, 41, 41, 0, 32, 0, 65535, false⟩, ⟨4, 42, 42, 0, 32, 0, 1, true⟩, ⟨4, 43, 43, 0, 32, 0, 4800, true⟩,
   ⟨4, 44, 44, 0, 32, 1000, 1000000, true⟩, ⟨4, 45, 45, 0, 32, 100, 100000, true⟩, ⟨4, 46, 46, 0, 32, 0, 50, true⟩,
   ⟨4, 47, 47, 0, 32, 16, 1024, true⟩, ⟨4, 48, 48, 0, 32, 0, 4194304, false⟩, ⟨4, 49, 49, 0, 32, 4, 32, true⟩,
   ⟨4, 50, 50, 0, 32, 0, 255, false⟩, ⟨4, 51, 51, 8, 8, 1, 255, false⟩, ⟨4, 52, 52, 0, 32, 0, 16, true⟩,
   ⟨5, 128, 131, 0, 32, 1, 65535, true⟩, ⟨5, 132, 132, 0, 2, 0, 2, true⟩, ⟨5, 134, 134, 0, 4, 1, 15, true⟩,
   ⟨6, 0, 0, 0, 32, 0x10, 0x70, true⟩, ⟨6, 1, 1, 0, 32, 0, 2, true⟩, ⟨6, 2, 2, 0, 32, 0, 1, true⟩,
   ⟨6, 3, 3, 0, 32, 0, 0xFE, true⟩, ⟨6, 4, 4, 0, 32, 0, 2, true⟩, ⟨6, 5, 5, 0, 32, 0, 0x77, true⟩,
   ⟨6, 14, 14, 2, 6, 0, 0, true⟩, ⟨6, 14, 14, 9, 23, 0, 0, true⟩, ⟨6, 15, 16, 8, 8, 1, 255, true⟩, ⟨6, 17, 17, 0, 32, 1, 15, true⟩]

/-- The ranges of the policy sections (Tables 7-7, 6-2, 13-1, 3-11, 9-8, 5-5, 20-6, 2-6). -/
def policyRanges : List SecFld :=
  [⟨0x10, 0, 0, 0, 32, 0, 1, true⟩, ⟨0x10, 1, 1, 0, 32, 0, 65535, true⟩, ⟨0x10, 2, 2, 0, 32, 0, 1, true⟩,
   ⟨0x10, 3, 3, 0, 32, 1, 100, true⟩,
   ⟨0x11, 0, 0, 0, 32, 1000, 16777215, false⟩, ⟨0x11, 1, 1, 0, 32, 0, 0xFFFFFFFF, false⟩,
   ⟨0x11, 2, 2, 0, 32, 1, 65535, false⟩, ⟨0x11, 3, 3, 0, 32, 1, 16777215, true⟩, ⟨0x11, 4, 4, 0, 32, 1, 255, true⟩,
   ⟨0x11, 5, 5, 0, 32, 1000, 1000000, false⟩,
   ⟨0x12, 0, 0, 0, 8, 0, 4, false⟩, ⟨0x12, 0, 0, 9, 23, 0, 0, false⟩, ⟨0x12, 1, 2, 0, 32, 1, 0xFFFFFFFF, false⟩,
   ⟨0x12, 3, 3, 0, 32, 1, 65535, false⟩, ⟨0x12, 4, 4, 0, 32, 500, 1000, false⟩, ⟨0x12, 5, 5, 0, 32, 1, 14, false⟩,
   ⟨0x12, 6, 6, 0, 32, 0, 0x77, true⟩, ⟨0x12, 7, 9, 0, 32, 1, 65535, false⟩,
   ⟨0x12, 12, 13, 0, 32, 1, 0xFFFFFFFF, false⟩, ⟨0x12, 15, 15, 0, 32, 5, 50, true⟩,
   ⟨0x12, 16, 16, 0, 32, 1, 511, true⟩,
   ⟨0x13, 0, 7, 0, 32, 64, 65535, true⟩, ⟨0x13, 8, 9, 0, 32, 1, 10000, true⟩,
   ⟨0x14, 0, 1, 0, 32, 0, 1, true⟩, ⟨0x14, 2, 2, 0, 32, 0, 3, true⟩, ⟨0x14, 3, 3, 0, 32, 0, 15, true⟩,
   ⟨0x14, 4, 5, 0, 32, 10, 65535, true⟩, ⟨0x14, 6, 8, 0, 32, 0, 255, true⟩, ⟨0x14, 9, 9, 0, 32, 16, 65535, true⟩,
   ⟨0x14, 10, 12, 0, 32, 0, 1023, true⟩, ⟨0x14, 13, 13, 0, 32, 1, 511, true⟩, ⟨0x14, 14, 15, 0, 32, 0, 65535, true⟩,
   ⟨0x14, 16, 16, 0, 32, 1, 100, true⟩, ⟨0x14, 17, 17, 0, 32, 1, 255, true⟩, ⟨0x14, 18, 18, 0, 32, 2, 100, true⟩,
   ⟨0x14, 19, 19, 0, 32, 0, 127, true⟩, ⟨0x14, 20, 20, 0, 32, 32768, 0xFFFFFFFF, true⟩,
   ⟨0x14, 21, 21, 0, 32, 1, 65535, true⟩,
   ⟨0x15, 0, 0, 0, 32, 1, 99, true⟩, ⟨0x15, 1, 1, 0, 32, 0, 99, true⟩, ⟨0x15, 2, 2, 0, 32, 1, 100, true⟩,
   ⟨0x15, 3, 3, 0, 32, 1, 255, true⟩, ⟨0x15, 4, 4, 0, 32, 1, 65535, true⟩, ⟨0x15, 5, 5, 0, 32, 0, 65535, true⟩,
   ⟨0x15, 6, 6, 0, 32, 32, 65535, true⟩, ⟨0x15, 7, 7, 0, 32, 1, 7, true⟩,
   ⟨0x16, 0, 0, 0, 32, 0, 1, true⟩, ⟨0x16, 1, 1, 0, 32, 0, 1000, true⟩, ⟨0x16, 2, 5, 0, 32, 0, 1, true⟩,
   ⟨0x16, 9, 9, 0, 32, 10, 100, true⟩,
   ⟨0x17, 0, 0, 0, 32, 0, 2, true⟩, ⟨0x17, 1, 2, 0, 32, 0, 1, true⟩]

/-- Whether every index of a field range of an image is within the range, and present where there is no default (R44). -/
def secFldOk (w : Nat → Nat) (f : SecFld) : Bool :=
  (List.range (f.hi + 1 - f.lo)).all (fun k =>
    match imgField w f.sec (f.lo + k) with
    | none => f.opt
    | some v => decide (f.mn ≤ bits v f.bit f.wd) && decide (bits v f.bit f.wd ≤ f.mx))

/-- A field of an image or a default. -/
def imgOr (w : Nat → Nat) (sec idx d : Nat) : Nat := (imgField w sec idx).getD d

/-- Base and end of logical device k's static range, 256 MiB units. -/
def imgLd (w : Nat → Nat) (k : Nat) : Nat × Nat :=
  let v := imgOr w 1 (8 + 2 * k) 0
  (bits v 0 16, bits v 0 16 + bits v 16 16)

/-- R103: counts of logical devices, disjoint static ranges. -/
def ldRulesOk (w : Nat → Nat) : Bool :=
  let ldb := bits (imgOr w 1 2 1) 8 5
  (decide (ldb = 0) || decide (imgOr w 1 0 0 ≠ 0)) &&
  (List.range 32).all (fun k => decide (bits (imgOr w 1 (9 + 2 * k) 0) 0 4 ≤ 8) &&
    (!bit (imgOr w 1 (9 + 2 * k) 0) 8 || (decide (imgOr w 1 0 0 ≠ 0) &&
      let o := (k + 16) % 32
      decide (imgOr w 1 (8 + 2 * o) 0 = 0) && decide (imgOr w 1 (9 + 2 * o) 0 = 0)))) &&
  (List.range 32).all (fun a => (List.range a).all (fun b =>
    decide ((imgLd w a).2 ≤ (imgLd w b).1) || decide ((imgLd w b).2 ≤ (imgLd w a).1) ||
    decide ((imgLd w a).1 = (imgLd w a).2) || decide ((imgLd w b).1 = (imgLd w b).2)))

/-- Host memory of one channel in 128 MiB units from section 0x03, read by `g` as section, index, default: rank capacity
times its non-spare ranks, less the carve-outs (R109); none when negative. -/
def chanHost (g : Nat → Nat → Nat → Nat) (c : Nat) : Option Nat :=
  let geo := g 3 (2 + c) 0
  let a := g 3 (10 + c) 0
  let b := g 3 (18 + c) 0
  let tot := (bits geo 0 3 - bits a 31 1) * bits geo 3 9 * 8
  let cut := bits a 0 13 + bits a 16 13 + bits b 0 13 + bits b 16 13
  if cut ≤ tot then some (tot - cut) else none

/-- The channels of the interleave (Table 4-5). -/
def chansOf (g : Nat → Nat → Nat → Nat) : List Nat := (List.range 8).filter (fun c => bit (g 3 1 0xFF) c)
def imgChans (w : Nat → Nat) : List Nat := chansOf (imgOr w)

/-- R109: no channel negative, all channels equal, a multiple of 256 MiB in all. -/
def dramRulesOk (w : Nat → Nat) : Bool :=
  let hs := (imgChans w).map (chanHost (imgOr w))
  hs.all (fun h => h.isSome && decide (h = hs.headD none)) &&
  decide ((hs.headD none).getD 0 * hs.length % 2 = 0)

/-- Host memory, 256 MiB units (R109). -/
def hostMemOf (g : Nat → Nat → Nat → Nat) : Nat :=
  let hs := (chansOf g).map (chanHost g)
  (hs.headD none).getD 0 * hs.length / 2
def imgHostMem (w : Nat → Nat) : Nat := hostMemOf (imgOr w)

/-- Staging, pages of 4 KiB (R108). -/
def stagingOf (g : Nat → Nat → Nat → Nat) : Nat := ((chansOf g).map (fun c => bits (g 3 (18 + c) 0) 16 13)).sum * 32768
def imgStaging (w : Nat → Nat) : Nat := stagingOf (imgOr w)

/-- R111 and R112: the enabled masks are the first m, two ways to a channel; pivots distinct and in range, each mask with its own
pivot and no other's. [DESIGN CHOICE, safe: log 193] -/
def maskRulesOk (w : Nat → Nat) : Bool :=
  let lo := fun k => imgOr w 3 (26 + 2 * k) 0
  let hi := fun k => imgOr w 3 (27 + 2 * k) 0
  let en := (List.range 4).filter (fun k => bit (hi k) 31)
  let piv := fun k => bits (hi k) 16 5
  en.all (fun k => decide (6 ≤ piv k) && decide (piv k ≤ 20) && bit (lo k) (piv k) &&
    en.all (fun m => decide (m = k) || (decide (piv m ≠ piv k) && !bit (lo k) (piv m)))) &&
  decide (en = List.range en.length) && decide (2 ^ en.length = 2 * (imgChans w).length)

/-- R144: the words of a channel of the interleave are present and within their ranges, those of another channel are
zero. -/
def chanRulesOk (w : Nat → Nat) : Bool :=
  (List.range 8).all (fun c =>
    if (imgChans w).contains c then
      let g := imgOr w 3 (2 + c) 0
      (imgField w 3 (2 + c)).isSome && (imgField w 3 (10 + c)).isSome && (imgField w 3 (18 + c)).isSome &&
      decide (1 ≤ bits g 0 3) && decide (bits g 0 3 ≤ 4) && decide (1 ≤ bits g 3 9) && decide (bits g 15 2 ≤ 2) &&
      decide (bits g 17 15 = 0)
    else decide (imgOr w 3 (2 + c) 0 = 0) && decide (imgOr w 3 (10 + c) 0 = 0) && decide (imgOr w 3 (18 + c) 0 = 0))

/-- Chip-ID bits of the image: the greatest 3DS height that a channel of the interleave declares, as a power of two. -/
def imgCids (w : Nat → Nat) : Nat := ((imgChans w).map (fun c => bits (imgOr w 3 (2 + c) 0) 12 2)).foldl max 0

/-- R114: an enabled bank mask contains the raw position of its own bit and of no other bank or chip-ID bit; above the chip-ID
bits that the image declares lie row bits, which a mask may contain. The raw positions begin above 7 burst-column bits, those
of every x4 DDR5 device. [PRESUMED, unsafe: log 62] -/
def bankRulesOk (w : Nat → Nat) : Bool :=
  (List.range 8).all (fun k =>
    let m := bits (imgOr w 3 (34 + 2 * k) 0) 6 26 * 64 + bits (imgOr w 3 (35 + 2 * k) 0) 0 6 * 2 ^ 32
    !bit (imgOr w 3 (35 + 2 * k) 0) 31 || (bit m (13 + k) &&
      (List.range (5 + imgCids w)).all (fun j => decide (j = k) || !bit m (13 + j))))

/-- R302: virtual functions, port B, the queue total. -/
def nvmRulesOk (w : Nat → Nat) : Bool :=
  let a := imgOr w 2 0 0
  let b := imgOr w 2 1 0
  let noB := decide (imgOr w 1 0 0 = 0)
  decide (a + b ≤ 126) && (!noB || decide (b = 0)) &&
  decide ((if noB then 1 else 2) * imgOr w 2 2 256 + (a + b) * imgOr w 2 3 16 ≤ 4096)

/-- R383: the sequencer table. -/
def seqRulesOk (w : Nat → Nat) : Bool :=
  let fl := fun n => bits (imgOr w 5 (4 * n + 3) 0xFFFF) 16 8
  let dep := fun n => imgOr w 5 (4 * n + 1) 0
  let th := fun n => imgOr w 5 (4 * n + 2) 0
  let ov := fun n => bits (imgOr w 5 (4 * n + 3) 0xFFFF) 0 16
  let en := fun n => bit (fl n) 0
  let okRail := fun n => !(bit (fl n) 2 && bit (fl n) 3) && !(bit (fl n) 4 && bit (fl n) 2) &&
    (!en n || (decide (bits (th n) 0 16 < bits (th n) 16 16) && decide (bits (th n) 16 16 < ov n))) &&
    (List.range 32).all (fun d => !bit (dep n) d ||
      (en d && !bit (fl d) 2 && !bit (fl d) 3 && (!bit (fl n) 1 || bit (fl d) 1)))
  -- after 32 rounds of removing rails whose dependencies are gone, no rail is left
  let round := fun (left : List Nat) => left.filter (fun n => left.any (fun d => bit (dep n) d))
  (List.range 32).all okRail && (List.range 32).any (fun n => bit (fl n) 2) &&
  ((List.range 32).foldl (fun l _ => round l) (List.range 32)).isEmpty

/-- The present SPD hubs of an image as (segment, hub ID), by channel and DIMM (Table 15-2). -/
def imgHubs (w : Nat → Nat) : List (Nat × Nat) :=
  (List.range 16).filterMap (fun k =>
    let v := bits (imgOr w 6 (6 + k / 2) 0) (8 * (k % 2)) 6
    if bit v 5 then some (bits v 3 2, bits v 0 3) else none)

/-- R400: two-wire addresses. -/
def twiRulesOk (w : Nat → Nat) : Bool :=
  let b := imgOr w 6 0 0x68
  let mux := imgOr w 6 5 0
  let pack := imgOr w 0x12 6 0
  [0x28, 0x37, 0x61].all (fun a => decide (¬ (b ≤ a ∧ a ≤ b + 7))) && decide ((imgHubs w).Nodup) &&
  decide (¬ (0x50 ≤ mux ∧ mux ≤ 0x57)) && (decide (mux = 0) || decide (8 ≤ mux)) &&
  (decide (pack = 0) || (decide (8 ≤ pack) && decide (pack ≠ mux) &&
    (imgHubs w).all (fun h => decide (h.1 ≠ bits (imgOr w 6 14 0) 0 2) || decide (pack ≠ 0x50 + h.2))))

/-- A Q12.4 field fills the low 16 bits of its word: the upper half is zero or repeats the sign. The spec gives its width only.
[DESIGN CHOICE, unsafe: log 189] -/
def q124Ok (v : Nat) : Bool :=
  let h := bits v 16 16
  decide (h = 0) || (bit v 15 && decide (h = 0xFFFF))

/-- R498: the thermal thresholds are Q12.4 words, ascend, and TJ_CRIT exceeds TJ_THROT by more than 2.5 °C. -/
def thermRulesOk (w : Nat → Nat) (gradeE : Bool) : Bool :=
  let t := fun (k d : Nat) => s16 (bits (imgOr w 0x16 k (if gradeE then d + 80 else d)) 0 16)
  [6, 7, 8].all (fun k => q124Ok (imgOr w 0x16 k 0)) &&
  decide (t 6 1520 < t 7 1600) && decide (t 7 1600 + 40 < t 8 1680)

/-- Table 20-6: AVS_VMAX is 0 or 700 to 1,000 mV. -/
def avsOk (v : Nat) : Bool := decide (v = 0) || decide (700 ≤ v ∧ v ≤ 1000)

/-- The policy fields of Q12.4: the thermal thresholds of section 0x16; T_HOT, AUD_TMIN, AUD_TMAX and the table temperatures of
section 0x12 (Tables 13-1 and 20-6). -/
def isQ124 (sec idx : Nat) : Bool :=
  (decide (sec = 0x16) && decide (6 ≤ idx) && decide (idx ≤ 8)) ||
  (decide (sec = 0x12) && (decide (idx = 14) || decide (idx = 17) || decide (idx = 18) || decide (22 ≤ idx && idx ≤ 29)))

/-- R366: the tables are present and every value is 1 or more unless TBL_SRC takes them from the CAL store; the test-load
fields are present unless AUD_RAIL is 0xFF; the rate classes and the table temperatures ascend. Table 13-1 gives R_LOAD the range
from 1, and AUD_IMIN and AUD_IMAX no range: any value of theirs passes. [DESIGN CHOICE, unsafe: log 188] -/
def packRulesOk (w : Nat → Nat) : Bool :=
  let cal := bit (imgOr w 0x12 0 0) 8
  let rail := imgOr w 0x12 10 0xFF
  (cal || (List.range 640).all (fun k =>
    match imgField w 0x12 (30 + k) with
    | none => false
    | some v => decide (bits v 0 16 ≠ 0) && decide (bits v 16 16 ≠ 0))) &&
  (decide (rail ≤ 31) || decide (rail = 0xFF)) &&
  (decide (rail = 0xFF) || ([11, 19, 20].all (fun i => (imgField w 0x12 i).isSome) && decide (imgOr w 0x12 11 0 ≠ 0))) &&
  ([14, 17, 18] ++ (List.range 8).map (22 + ·)).all (fun k => q124Ok (imgOr w 0x12 k 0)) &&
  (decide (imgOr w 0x12 7 0 < imgOr w 0x12 8 0) && decide (imgOr w 0x12 8 0 < imgOr w 0x12 9 0)) &&
  (List.range 8).all (fun k => (imgField w 0x12 (22 + k)).isSome) &&
  (List.range 7).all (fun k => decide (s16 (bits (imgOr w 0x12 (22 + k) 0) 0 16) < s16 (bits (imgOr w 0x12 (23 + k) 0) 0 16)))

/-- Section 0x04 (Table 9-7): a mode code of Table 8-1 for each channel, XT_MAX 0 or a rate of extended timing, and byte 15 of
every read-retry entry zero. -/
def flashRulesOk (w : Nat → Nat) : Bool :=
  (List.range 32).all (fun c => decide (bits (imgOr w 4 (c / 8) 0) (4 * (c % 8)) 4 ≤ 4)) &&
  (decide (imgOr w 4 43 0 = 0) || decide (4000 ≤ imgOr w 4 43 0)) &&
  (List.range 16).all (fun k => decide (bits (imgOr w 4 (56 + 4 * k) 0) 24 8 = 0))

/-- An overlay's header names its own index and a tag of Table 2-5, and a delta's value lies in the range of the field it
names. [DEDUCED, unsafe: log 26] -/
def overlayRulesOk (w : Nat → Nat) : Bool :=
  (List.range 8).all (fun k => match imgSec w (0x20 + k) with
    | none => true
    | some d => let h := imgWordAt w d.off
                decide (bits h 8 8 = k) && decide (1 ≤ bits h 0 8) && decide (bits h 0 8 ≤ 15) &&
                decide (4 + 8 * bits h 16 16 ≤ d.len)) &&
  (imgOverlays w).all (fun o => o.deltas.all (fun d => (decide (d.1 ≠ 0x16 ∨ d.2.1 ≠ 1) || avsOk d.2.2) &&
   (!isQ124 d.1 d.2.1 || q124Ok d.2.2) && policyRanges.all (fun f =>
    decide (f.sec ≠ d.1 ∨ d.2.1 < f.lo ∨ f.hi < d.2.1) ||
    (decide (f.mn ≤ bits d.2.2 f.bit f.wd) && decide (bits d.2.2 f.bit f.wd ≤ f.mx)))))

/-- Table 2-1: FLAGS[15:2] and the last 25 bytes are zero, and so is UNIT_ID in an image that is not bound to a unit. The fields
of the header are held to their content at step 9; the steps of Table 2-3 name MAGIC, HDR_LEN, IMG_LEN, HW_TYPE, UNIT_ID and FMT
for themselves. [DESIGN CHOICE, unsafe: log 190] -/
def headerOk (w : Nat → Nat) : Bool :=
  let flags := bits (w 3) 16 16
  decide (flags / 4 = 0) && (bit flags 0 || (List.range 4).all (fun i => decide (w (4 + i) = 0))) &&
  (List.range 25).all (fun k => decide (imgByte w (0x27 + k) = 0))

/-- The class of a directory entry is the one that Table 2-2 gives its section; an ID that the table lacks may carry any. -/
def classOk (d : DirEnt) : Bool :=
  if 0x01 ≤ d.id ∧ d.id ≤ 0x06 then decide (d.cls = 0)
  else if 0x10 ≤ d.id ∧ d.id ≤ 0x17 then decide (d.cls = 1)
  else if 0x20 ≤ d.id ∧ d.id ≤ 0x27 then decide (d.cls = 2)
  else true

/-- Step 9: every field within its range (R46), the header's and the directory's among them (R43). OVL_DEF names a present
overlay or none (R65). -/
def step9Ok (w : Nat → Nat) (gradeE : Bool) : Bool :=
  headerOk w && (imgDir w).all classOk && avsOk (imgOr w 0x16 1 0) &&
  decide (1 ≤ imgByte w 0x25) && decide (imgByte w 0x25 ≤ 32) && flashRulesOk w && overlayRulesOk w &&
  (structRanges ++ policyRanges).all (secFldOk w) && ldRulesOk w && dramRulesOk w && maskRulesOk w && seqRulesOk w &&
  chanRulesOk w && bankRulesOk w && nvmRulesOk w && twiRulesOk w && thermRulesOk w gradeE && packRulesOk w &&
  (decide (imgByte w 0x26 = 0xFF) || (imgOverlays w).any (fun o => decide (o.index = imgByte w 0x26)))

/-- Step 10: every overlay delta names a policy field (R46). -/
def step10Ok (w : Nat → Nat) : Bool :=
  (imgOverlays w).all (fun o => o.deltas.all (fun d =>
    decide (0x10 ≤ d.1) && decide (d.1 ≤ 0x17) &&
    (policyRanges.any (fun f => decide (f.sec = d.1) && decide (f.lo ≤ d.2.1) && decide (d.2.1 ≤ f.hi)) ||
     decide (d.1 = 0x12) && decide (d.2.1 ≤ 669) || decide (d.1 = 0x13) && decide (d.2.1 ≤ 13) ||
     decide (d.1 = 0x16) && decide (d.2.1 ≤ 9))))

/-- The rated guarantee of an image's base (R47, R185): GMAX is host memory plus staging. -/
def imgRated (w : Nat → Nat) : Nat :=
  let p := imgOr w 0x11 0 0
  let r := ratedRate (imgOr w 0x11 5 0)
  guarantee (imgOr w 0x12 1 0) (imgOr w 0x11 1 0) (fixEnergy p (imgOr w 0x11 2 0)) (pageCost p r) r
    (imgHostMem w * 65536 + imgStaging w)

/-- Channels on which section 0x04 declares die `d` (R241). -/
def imgDieChans (w : Nat → Nat) (d : Nat) : List Nat :=
  (List.range 32).filter (fun c => let v := imgOr w 4 (4 + c) 0; bit v (d / 8) && decide (d % 8 < bits v 16 4))

/-- The pool that section 0x04 declares holds the memory image with its over-provisioning: N_img is at most S, every declared
die in service (R47, R278). -/
def imgPoolOk (w : Nat → Nat) : Bool :=
  let ws := (List.range 128).map (fun d => (d, (imgDieChans w d).length))
  let n := ((List.range 32).filter (fun c => (List.range 128).any (fun d => (imgDieChans w d).contains c))).length
  let minW := imgOr w 4 49 8
  let blocks := imgOr w 4 40 0
  let sum := (ws.map (fun e => if e.2 < minW then 0 else (blocks - (if e.1 = 0 then 3 else 1)) * (e.2 - 1))).sum
  let dSlc := (n - 1) * 2 ^ imgOr w 4 37 0 * (imgOr w 4 39 0 * imgOr w 4 36 0 / 4 / (imgOr w 4 38 0 + 1))
  decide (2 ≤ n) && decide (dSlc ≠ 0) && decide (cdiv (imgHostMem w * 65536 * 5) (4 * dSlc) ≤ sum / (n - 1))

/-- Step 11: the cross-section constraints (R47): the fine-map budget, the image pool with 25 % over-provisioning, staging
within G_R, and the logical devices within host memory. -/
def step11Ok (w : Nat → Nat) : Bool :=
  let fmap := ((imgChans w).map (fun c => bits (imgOr w 3 (10 + c) 0) 16 13)).sum * 134217728 / 5
  let caps := ((List.range 32).map (fun k => bits (imgOr w 1 (8 + 2 * k) 0) 16 16)).sum
  decide (fmap ≤ 2 ^ 32) && imgPoolOk w &&
  decide (imgStaging w ≤ imgRated w) && decide (caps + imgOr w 1 4 0 ≤ imgHostMem w)

/-- The bytes that the signatures cover: from 0 to the start of the signature block, as words (R43, R46). -/
def imgSigned (w : Nat → Nat) : List Nat := (List.range ((w 2 - 5504) / 4)).map w

/-- The signature block, as words. -/
def imgSigBlock (w : Nat → Nat) : List Nat := (List.range 1376).map (fun k => w ((w 2 - 5504) / 4 + k))

/-- Validation in the order of Table 2-3: the code of the first failure, or 0 (R46, R48). [DESIGN CHOICE, safe: log 38] -/
def State.validateErg (s : State) (w : Nat → Nat) : Nat :=
  let len := w 2
  let flags := bits (w 3) 16 16
  if w 0 ≠ 0x31475245 ∨ bits (w 1) 16 16 ≠ 0x40 ∨ len % 4 ≠ 0 ∨ 262144 < len ∨ len < 5568 then 0x01
  else if bits (w 3) 0 16 ≠ s.rd R.CAL_HWTYPE_HW_TYPE then 0x02
  else if bit flags 0 ∧ ¬ ((List.range 4).all (fun i => decide (w (4 + i) = s.rd R.CAL_UID_UID i))) then 0x03
  else if bits (w 1) 0 16 ≠ 3 then 0x04
  else if ¬ Config.ecdsaOk (imgSigned w ++ imgSigBlock w) then 0x05
  else if ¬ Config.mldsaOk (imgSigned w ++ imgSigBlock w) then 0x06
  else if (if bit flags 1 then ¬ (s.erg.ownerKey ∧ Config.ownerKeyHash (imgSigBlock w))
           else (s.erg.ownerOnly ∨ ¬ Config.vendorKey (imgSigBlock w))) then 0x07
  else if ¬ ((imgDir w).all (fun d => decide (d.crc = crc32c ((List.range d.len).map (fun k => imgByte w (d.off + k)))))
        ∧ ((imgDir w).map (·.id)).Nodup
        ∧ requiredSecs.all (fun i => ((imgDir w).map (·.id)).contains i)) then 0x08
  else if ¬ step9Ok w (s.on R.TOP_ID_GRADE) then 0x09
  else if ¬ step10Ok w then 0x0A
  else if ¬ step11Ok w then 0x0B
  else 0

/-! ### Fields in force -/

/-- One policy field that loads a register field: section, index, bits of the word, the field instance, and the default
of a missing index. -/
structure PolFld where
  sec : Nat
  idx : Nat
  bit : Nat
  fld : Fld
  i : Nat
  j : Nat
  dflt : Nat
  deriving DecidableEq, Repr

/-- The register fields that sections 0x10 to 0x13 load (R104, Tables 6-2, 7-7, 13-1). -/
def policyMapA : List PolFld :=
  [⟨0x10, 0, 0, R.CVN_POL_OT_EN, 0, 0, 0⟩, ⟨0x10, 1, 0, R.CVN_TOL_HOST_TOL, 0, 0, 0⟩,
   ⟨0x10, 2, 0, R.CVN_POL_EMERG_EN, 0, 0, 0⟩, ⟨0x10, 3, 0, R.CVN_POL_LRW_SHARE, 0, 0, 10⟩,
   ⟨0x11, 0, 0, R.LDG_PSAVE_P_SAVE, 0, 0, 1000⟩, ⟨0x11, 1, 0, R.LDG_OASIS_OASIS, 0, 0, 0⟩,
   ⟨0x11, 2, 0, R.LDG_LIM_T_FIX, 0, 0, 1⟩, ⟨0x11, 3, 0, R.LDG_RISE_RISE, 0, 0, 1024⟩,
   ⟨0x11, 4, 0, R.LDG_LIM_EM_HOLD, 0, 0, 4⟩,
   ⟨0x12, 15, 0, R.GAU_AUD_DEPTH, 0, 0, 20⟩, ⟨0x12, 16, 0, R.GAU_AUD_AUD_PER, 0, 0, 30⟩] ++
  (List.range 8).map (fun k => ⟨0x13, k, 0, R.QOS_CLASS_TARGET, k, 0, R.QOS_CLASS_TARGET.reset k⟩) ++
  [⟨0x13, 8, 0, R.HP_HOLD_HOLD_LIM, 0, 0, 50⟩, ⟨0x13, 9, 0, R.HP_HOLD_HOLD_LIM, 1, 0, 50⟩] ++
  (List.range 4).flatMap (fun e => (List.range 8).map (fun k => ⟨0x13, 10 + e, 4 * k, R.QOS_LDCLS_CLASS, e, k, 3⟩))

/-- The register fields that sections 0x14 to 0x16 load (Tables 9-8, 5-5, 20-6). -/
def policyMapB : List PolFld :=
  [⟨0x14, 0, 0, R.FCC_SUS_PSUS_EN, 0, 0, 1⟩, ⟨0x14, 1, 0, R.FCC_SUS_ESUS_EN, 0, 0, 1⟩,
   ⟨0x14, 2, 0, R.FCC_SUS_PSUS_MAX, 0, 0, 2⟩, ⟨0x14, 3, 0, R.FCC_SUS_ESUS_MAX, 0, 0, 8⟩,
   ⟨0x14, 4, 0, R.FCC_SUST_SUS_MIN_P, 0, 0, 100⟩, ⟨0x14, 5, 0, R.FCC_SUST_SUS_MIN_E, 0, 0, 500⟩,
   ⟨0x14, 6, 0, R.FTL_GCW_W_V, 0, 0, 16⟩, ⟨0x14, 7, 0, R.FTL_GCW_W_A, 0, 0, 1⟩, ⟨0x14, 8, 0, R.FTL_GCW_W_W, 0, 0, 4⟩,
   ⟨0x14, 9, 0, R.FTL_WL_WL_SPREAD, 0, 0, 400⟩, ⟨0x14, 10, 0, R.FTL_GCTH_GC_ST, 0, 0, 64⟩,
   ⟨0x14, 11, 0, R.FTL_GCTH_GC_URG, 0, 0, 16⟩, ⟨0x14, 12, 0, R.FTL_GCTH_GC_STOP, 0, 0, 96⟩,
   ⟨0x14, 13, 0, R.FTL_RWR_CB_LIM, 0, 0, 200⟩, ⟨0x14, 14, 0, R.FTL_RDLIM_RL_SLC, 0, 0, 1000⟩,
   ⟨0x14, 15, 0, R.FTL_RDLIM_RL_NAT, 0, 0, 100⟩, ⟨0x14, 16, 0, R.FTL_AVAIL_SPARE_WARN, 0, 0, 10⟩,
   ⟨0x14, 17, 0, R.FTL_CP_CP_GIB, 0, 0, 64⟩, ⟨0x14, 18, 0, R.FTL_CP_FOLD_HI, 0, 0, 90⟩,
   ⟨0x14, 19, 0, R.FTL_CP_FOLD_LO, 0, 0, 75⟩, ⟨0x14, 20, 0, R.FTL_CPT_CP_TICKS, 0, 0, 983040⟩,
   ⟨0x14, 21, 0, R.FTL_SCAN_SCAN_PER, 0, 0, 168⟩,
   ⟨0x15, 0, 0, R.DFT_PACE_SETPT, 0, 0, 50⟩, ⟨0x15, 1, 0, R.DFT_PACE_FS, 0, 0, 50⟩,
   ⟨0x15, 2, 0, R.DFT_PACE_AGE_BYP, 0, 0, 90⟩, ⟨0x15, 3, 0, R.DFT_PACE_CAP, 0, 0, 235⟩,
   ⟨0x15, 4, 0, R.DFT_GAIN_KP, 0, 0, 1024⟩, ⟨0x15, 5, 0, R.DFT_GAIN_KI, 0, 0, 16⟩,
   ⟨0x15, 6, 0, R.DFT_AGE_EPOCH, 0, 0, 1024⟩, ⟨0x15, 7, 0, R.DFT_AGE_MIN_AGE, 0, 0, 3⟩,
   ⟨0x16, 0, 0, R.PWR_LOOP_AVS_EN, 0, 0, 1⟩, ⟨0x16, 1, 0, R.PWR_AVS_VMAX, 0, 0, 0⟩,
   ⟨0x16, 2, 0, R.PWR_LOOP_FS_EN, 0, 0, 1⟩, ⟨0x16, 3, 0, R.PWR_LOOP_EQ_EN, 0, 0, 1⟩] ++
  (List.range 8).map (fun c => ⟨0x16, 4, 0, R.DCH_TRN_DQS_EN, c, 0, 1⟩) ++
  [⟨0x16, 5, 0, R.FCC_RRT_TRK_EN, 0, 0, 1⟩, ⟨0x16, 6, 0, R.PWR_TTH0_TJ_WARN, 0, 0, 1520⟩,
   ⟨0x16, 7, 0, R.PWR_TTH0_TJ_THROT, 0, 0, 1600⟩, ⟨0x16, 8, 0, R.PWR_TTH1_TJ_CRIT, 0, 0, 1680⟩,
   ⟨0x16, 9, 0, R.PWR_TTH1_THERM_U, 0, 0, 50⟩]

/-- The GAU fields that the register map marks from section 0x12 and to which Table 13-1 gives no index: the index here is one
that no image holds, so that they load their defaults, REST_T by CHEM. [DEDUCED, unsafe: log 126] -/
def policyMapC : List PolFld :=
  [⟨0x12, 65535, 0, R.GAU_SMP_SMP_INT, 0, 0, 32⟩, ⟨0x12, 65535, 0, R.GAU_SMP_EST_INT, 0, 0, 1024⟩,
   ⟨0x12, 65535, 0, R.GAU_HIB_HIB_INT, 0, 0, 1966080⟩, ⟨0x12, 65535, 0, R.GAU_REST_REST_T, 0, 0, 19660800⟩,
   ⟨0x12, 65535, 0, R.GAU_THR_REST_DV, 0, 0, 5⟩, ⟨0x12, 65535, 0, R.GAU_THR_FALL_TRIG, 0, 0, 256⟩]

/-- Every register field that a policy section loads (R60). -/
def policyMap : List PolFld := policyMapA ++ policyMapB ++ policyMapC

/-- The active overlay, if any (R58, ERG_STAT.ACT_OVL). [DESIGN CHOICE, unsafe: log 28] -/
def State.activeOvl (s : State) (idx : Nat) : Option Overlay := s.erg.ovls.find? (fun o => decide (o.index = idx))

/-- The value in force of a policy field under overlay `ovl`: the last delta that names it, else the base image's word,
else none (R58). -/
def State.inForce (s : State) (ovl sec idx : Nat) : Option Nat :=
  let d := match s.activeOvl ovl with
    | none => none
    | some o => (o.deltas.reverse.find? (fun d => decide (d.1 = sec) && decide (d.2.1 = idx))).map (·.2.2)
  match d with
  | some v => some v
  | none => match smGet 0 s.erg.base (65536 * sec + idx) with
    | 0 => none
    | v + 1 => some v

/-- The value in force of a policy field, or a default: under the overlay whose batch step 3 of R59 wrote last. -/
def State.pol (s : State) (sec idx dflt : Nat) : Nat := (s.inForce s.erg.polOvl sec idx).getD dflt

/-- VMAX of the CAL store, 700 to 1,000 mV (R495, PWR_AVS). -/
def vmaxCal : Nat := 700 + Config.vmaxCal % 301

/-- The value a register field takes from the image (R65). The thermal thresholds of grade -E default 5 °C higher
(Table 20-4); a VMAX of 0 asks for the CAL value, which bounds every VMAX; REST_T follows CHEM. -/
def State.polValue (s : State) (ovl : Nat) (e : PolFld) : Nat :=
  match s.inForce ovl e.sec e.idx with
  | some v => let x := bits v e.bit e.fld.wd
              if e.fld = R.PWR_AVS_VMAX then (if x = 0 then vmaxCal else min x vmaxCal) else x
  | none =>
    if e.fld = R.PWR_AVS_VMAX then vmaxCal
    else if e.fld = R.GAU_REST_REST_T ∧ (s.inForce ovl 0x12 0).getD 0 % 256 = 4 then 32768
    else if e.sec = 0x16 ∧ 6 ≤ e.idx ∧ e.idx ≤ 8 ∧ s.on R.TOP_ID_GRADE then e.dflt + 80 else e.dflt

/-- Write every image-backed policy field that `sel` selects to its value under overlay `ovl`: RW fields take effect at
once; RWS fields wait for their apply boundary unless `now`, and so does the hold limit in force (R59 step 3, R65, R86).
[DESIGN CHOICE, unsafe: log 127] -/
def State.loadPolicy (s : State) (ovl : Nat) (now : Bool) (sel : PolFld → Bool) : State :=
  policyMap.foldl (fun s e =>
    if sel e then
      let s := s.wr e.fld (s.polValue ovl e) e.i e.j
      let s := if e.fld.acc = .rws && now then s.applyRws e.fld e.i e.j else s
      if e.fld = R.HP_HOLD_HOLD_LIM && now then s.wr R.HP_HOLD_HOLD_ACT (s.rd R.HP_HOLD_HOLD_LIM e.i) e.i else s
    else s) s

end Sys2Proof.Machine
end

