-- ==== Sys2Proof/Machine/LoqOps.lean ====
section
/-!
DEFINITION. The long-operation queue (R511 to R516): issue from the four slots, the paths each operation accepts, the
end of an operation, and the completion rings.
-/
namespace Sys2Proof.Machine

/-- Statuses of Table 21-6. -/
def loSuccess : Nat := 0
def loBusy : Nat := 1
def loInvalid : Nat := 2
def loAborted : Nat := 3
def loNotStarted : Nat := 4
def loPassed : Nat := 5
def loDisq : Nat := 6
def loDiff : Nat := 7
def loProtected : Nat := 8
def loDenied : Nat := 9
def loFailed : Nat := 10
def loReset : Nat := 11

/-- One entry of the queue. -/
def State.loqEnt (s : State) (e : Nat) : LoqEnt := smGet loqEntInit s.loq.ents e

/-- Replace an entry; LOQ_STAT.USED counts the entries in use. -/
def State.setLoqEnt (s : State) (e : Nat) (x : LoqEnt) : State :=
  let m := smSet loqEntInit e x s.loq.ents
  { s with loq := { s.loq with ents := m } }.wr R.LOQ_STAT_USED (m.filter (fun (p : Nat × LoqEnt) => p.2.used)).length

/-- The handle of an entry: g × 256 + e (R512). -/
def State.loqHandle (s : State) (e : Nat) : Nat := (s.loqEnt e).gen * 256 + e

/-- The generation after `g`: 1 to 255, wrapping from 255 to 1 (R512). -/
def nextGen (g : Nat) : Nat := if 255 ≤ g then 1 else g + 1

/-- Whether an issue slot accepts an operation: slot 1 only as Table 21-5 and section 0x17 permit, slots 0, 2 and 3 every
one of the table (R512). -/
def State.slotPermits (s : State) (slot op : Nat) : Bool :=
  decide (slot ≠ 1) ||
  (decide (op = 1) && decide (s.pol 0x17 1 0 = 1)) || (decide (op = 2) && decide (s.pol 0x17 2 1 = 1)) ||
  ((decide (op = 3) || decide (op = 4)) && decide (s.pol 0x17 0 0 = 2)) ||
  (decide (6 ≤ op) && decide (op ≤ 9))

/-- The slot's result register (R511). -/
def State.issueRes (s : State) (slot handle : Nat) : State :=
  (s.wr R.LOQ_ISS_RES_HANDLE handle slot).put R.LOQ_ISS_RES_REFUSED (decide (handle = 0)) slot

/-- An operation ends: its status, result word and result record stand, and its completion waits to be posted. A mailbox
background command that ran it ends with it: vector 0 (R509, R512, R514, R515). -/
def State.loqEnd (s : State) (e status result : Nat) (record : List Nat := []) : State :=
  let x := s.loqEnt e
  if !x.used || x.ended then s
  else
    let s := s.setLoqEnt e { x with ended := true, status := status, result := result % 2 ^ 32, record := record }
    let s := { s with loq := { s.loq with post := s.loq.post ++ [e] } }
    match s.loq.bg with
    | some (m, e') =>
      if e' = e then
        (({ s with loq := { s.loq with bg := none } }.wr R.MBX_STAT_BG 0).put R.MBX_STAT_DEVWIDE false).emit
          (.msix (m / 16) (m % 16) 0)
      else s
    | none => s

/-- Issue an operation on a slot: the lowest free entry is taken under its next generation, and the handle appears in the
slot's result; none free: 0 with REFUSED. An operation that the slot does not permit takes its entry and completes at
once with Denied (R511, R512). The entry is returned when the operation is to start. -/
def State.issueLong (s : State) (slot op : Nat) (args : List Nat) (permitted : Bool := true) : State × Option Nat :=
  match (List.range 256).find? (fun e => !(s.loqEnt e).used) with
  | none => (s.issueRes slot 0, none)
  | some e =>
    let g := nextGen (s.loqEnt e).gen
    let s := s.setLoqEnt e { gen := g, used := true, ended := false, posted := false, op := op, args := args,
                             slot := slot, status := 0, result := 0, record := [] }
    let s := s.issueRes slot (g * 256 + e)
    if permitted && s.slotPermits slot op then (s, some e) else (s.loqEnd e loDenied 0, none)

/-- Issue an operation and start it with `f`, which is given its entry. The boot block runs none: an operation issued while no
Odber runs completes with Not Started (R443). While a cold reset is asserted nothing is issued; during
a save of code 1 or 2 an operation takes its entry and no completion follows (R516). [DEDUCED, unsafe: log 229] -/
def State.longOp (s : State) (slot op : Nat) (args : List Nat) (permitted : Bool) (f : State → Nat → State) : State :=
  if s.boot.inReset || decide (4 ≤ slot) then s
  else match s.issueLong slot op args permitted with
  | (s, some e) => if s.boot.bootBlock then s.loqEnd e loNotStarted 0 else if s.cvn.code = 1 ∨ s.cvn.code = 2 then s else f s e
  | (s, none) => s

/-- The entry of a running operation of a kind, if one runs. -/
def State.loqRunning (s : State) (op : Nat) : Option Nat :=
  (s.loq.ents.find? (fun e => e.2.used && !e.2.ended && decide (e.2.op = op))).map (·.1)

/-- The ring of an entry's slot: 0 for slots 0 and 3, 1 for slot 1, 2 for none (R514). -/
def ringOf (slot : Nat) : Nat := if slot = 1 then 1 else if slot = 2 then 2 else 0

/-- Entries of a ring written and not yet consumed, and its PHASE. -/
def State.ringCnt (s : State) (r : Nat) : Nat := if r = 0 then s.loq.cnt0 else s.loq.cnt1
def State.ringPhase (s : State) (r : Nat) : Nat := if r = 0 then s.loq.phase0 else s.loq.phase1

/-- Change the count of a ring. -/
def State.setRingCnt (s : State) (r n : Nat) : State :=
  if r = 0 then { s with loq := { s.loq with cnt0 := n } } else { s with loq := { s.loq with cnt1 := n } }

/-- The four words of a completion entry (Table 21-7). -/
def loqWords (phase handle tick : Nat) (x : LoqEnt) : List Nat :=
  [handle + x.op % 256 * 2 ^ 16 + x.status % 256 * 2 ^ 24,
   phase + 2 * b2n (!x.record.isEmpty) + x.slot % 256 * 256 + tick % 2 ^ 16 * 2 ^ 16,
   tick / 2 ^ 16 % 2 ^ 32, x.result % 2 ^ 32]

/-- An entry is posted: without a result record it is free (R512). -/
def State.loqPosted (s : State) (e : Nat) : State :=
  let x := s.loqEnt e
  let s := { s with loq := { s.loq with post := s.loq.post.filter (fun k => decide (k ≠ e)) } }
  s.setLoqEnt e { x with posted := true, used := !x.record.isEmpty }

/-- Write a completion at the tail of a ring (R514), and signal it (R515). -/
def State.ringWrite (s : State) (r e : Nat) : State :=
  let t := s.rd R.LOQ_RPTR_TAIL r
  let ws := loqWords (s.ringPhase r) (s.loqHandle e) s.tick (s.loqEnt e)
  let s := (List.range 4).foldl (fun s k => s.wr R.LOQ_RING_ENTRY (ws.getD k 0) r (4 * t + k)) s
  let s := s.wr R.LOQ_RPTR_TAIL ((t + 1) % 64) r
  let s := s.setRingCnt r (s.ringCnt r + 1)
  let s := if t = 63 then
      (if r = 0 then { s with loq := { s.loq with phase0 := 1 - s.loq.phase0 } }
       else { s with loq := { s.loq with phase1 := 1 - s.loq.phase1 } })
    else s
  if r = 0 then s.emit (.msix (s.rd R.LOQ_CTL_HPORT) 0 2)
  else s.alert 0

/-- LOQ_COMPLETION_POST (R514): the oldest completion of a ring that waits is written, when its ring has room; a
completion of slot 2 goes to no ring. -/
def State.doLoqCompletionPost (s : State) (ring : Nat) : State :=
  match s.loq.post.find? (fun e => decide (ringOf (s.loqEnt e).slot = ring)) with
  | none => s
  | some e =>
    if ring = 2 then s.loqPosted e
    else if s.ringCnt ring < 64 then (s.ringWrite ring e).loqPosted e
    else s

/-- LOQ_REL (R512): frees an ended and posted entry by its handle; any other handle is rejected. -/
def State.loqRel (s : State) (handle : Nat) : State :=
  let e := handle % 256
  let x := s.loqEnt e
  if x.used && x.posted && decide (x.gen = handle / 256) then s.setLoqEnt e { x with used := false, record := [] }
  else s.put R.LOQ_STAT_CFG_REJ true

/-- A write of HEAD (R514): rejected when it would pass the entries written and not yet consumed. -/
def State.loqHead (s : State) (ring head : Nat) : State :=
  let n := (head % 64 + 64 - s.rd R.LOQ_RPTR_HEAD ring) % 64
  -- with 64 entries unconsumed, a write of the present HEAD consumes none
  if n ≤ s.ringCnt ring then (s.wr R.LOQ_RPTR_HEAD head ring).setRingCnt ring (s.ringCnt ring - n)
  else s.put R.LOQ_STAT_CFG_REJ true

/-- Entries of a ring from its head, at most `n`, as words; the head advances and posted entries read are released when
the path releases them (C004h and vendor opcode 0x04, R512, R514). [DEDUCED, unsafe: log 149] -/
def State.ringTake (s : State) (r n : Nat) (release : Bool) : State × List Nat :=
  let h := s.rd R.LOQ_RPTR_HEAD r
  let k := min n (s.ringCnt r)
  let ws := (List.range k).flatMap (fun i =>
    (List.range 4).map (fun j => s.rd R.LOQ_RING_ENTRY r (4 * ((h + i) % 64) + j)))
  let hs := (List.range k).map (fun i => s.rd R.LOQ_RING_ENTRY r (4 * ((h + i) % 64)) % 65536)
  let s := (s.wr R.LOQ_RPTR_HEAD ((h + k) % 64) r).setRingCnt r (s.ringCnt r - k)
  let s := if release then
      hs.foldl (fun s h =>
        let x := s.loqEnt (h % 256)
        if x.used && x.posted && decide (x.gen = h / 256) then
          s.setLoqEnt (h % 256) { x with used := false, record := [] } else s) s
    else s
  (s, ws)

/-- Whether an operation that reads the load buffer runs: ERG_LOAD, CAL_WRITE, CAL_FACTORY (R513). -/
def State.bufBusy (s : State) : Bool :=
  s.loq.ents.any (fun e => e.2.used && !e.2.ended && (decide (e.2.op = 2) || decide (e.2.op = 3) || decide (e.2.op = 4)))

/-- One word of the load buffer. -/
def State.lbWord (s : State) (k : Nat) : Nat := smGet 0 s.loq.buf k

/-- Write words into the load buffer from a word offset; rejected while an operation reads it (R513). -/
def State.lbWrite (s : State) (off : Nat) (ws : List Nat) : State :=
  if s.bufBusy then s.put R.LOQ_STAT_CFG_REJ true
  else
    let m := (ws.zip (List.range ws.length)).foldl
      (fun m p => smSet 0 ((off + p.2) % 65536) (p.1 % 2 ^ 32) m) s.loq.buf
    { s with loq := { s.loq with buf := m } }

/-- A warm reset posts Aborted by reset for every outstanding operation (R516). -/
def State.loqAbortAll (s : State) (status : Nat) : State :=
  (List.range 256).foldl (fun s e => s.loqEnd e status 0) s

end Sys2Proof.Machine
end

