-- ==== Sys2Proof/Machine/LevelOps.lean ====
section
/-!
DEFINITION. The service levels (R6, R446, R449): the highest level that the healthy, unfenced units permit and the unit
that holds it down; and the start of a ledger recomputation (R186), which the gauge, Drift and register writes share.
-/
namespace Sys2Proof.Machine

/-- A slice is fenced (BST_FENCE). -/
def State.sliceFenced (s : State) (k : Nat) : Bool := bit (s.rd R.BST_FENCE_SLICES) k

/-- A fault that boot found in a unit (BootSt.bad). -/
def State.unitBad (s : State) (k : Nat) : Bool := bit s.boot.bad k

/-- Mark a unit unusable until the next cold boot. -/
def State.setBad (s : State) (k : Nat) : State :=
  { s with boot := { s.boot with bad := Nat.lor s.boot.bad (2 ^ k) } }

/-- Both LDPC clusters of a pair are fenced, so that image-pool channels have no LDPC service (R237). -/
def State.ldpcLost (s : State) : Bool :=
  (s.sliceFenced 14 && s.sliceFenced 15) || (s.sliceFenced 16 && s.sliceFenced 17) || s.unitBad 8

/-- The units that fail, in the order of Table 17-3, so that the first permits the least: the level each still permits and its BST_SL.LIMIT code.
[DEDUCED, unsafe: log 164] [DEDUCED, unsafe: log 183] -/
def State.limits (s : State) (wd : Bool) : List (Nat × Nat) :=
  [(s.sliceFenced 22, 0, 1), (decide (s.rd R.BST_CORE_FENCED = 15), 0, 2), (s.unitBad 0, 0, 3), (s.boot.p1bad, 0, 1),
   (s.unitBad 1, 1, 4), (s.unitBad 2, 1, 5),
   ((s.sliceFenced 0 && s.sliceFenced 1) || s.unitBad 3, 1, 6), (s.unitBad 9, 1, 7),
   (s.sliceFenced 21, 2, 8), (s.sliceFenced 23, 2, 9), (s.sliceFenced 19 && s.sliceFenced 20, 2, 10),
   (s.unitBad 4 || decide (s.rd R.DRM_STAT_CH_FENCE ≠ 0), 2, 7),
   (s.ldpcLost || (wd && s.on R.FTL_STAT_WITHDRAWN), 2, 11), (s.unitBad 6, 2, 13), (s.unitBad 5, 2, 12),
   (s.sliceFenced 18, 3, 14), (s.sliceFenced 19 || s.sliceFenced 20, 3, 10),
   (s.unitBad 7, 3, 13)].filterMap (fun (x : Bool × Nat × Nat) => if x.1 then some x.2 else none)

/-- The highest level that the units permit, and the code of the first unit that holds it down (R446). `wd`: a
withdrawal of persistence counts. -/
def State.capOf (s : State) (wd : Bool) : Nat × Nat := (s.limits wd).headD (4, 0)

/-- The level served changes: it is recorded, and is an alert cause; below SL3 Drift is off and no held set is kept, but not
where only the cores are gone (R6, R153, R177, R454, Table 5-4, Table 15-6, Table 18-4). -/
def State.setLevel (s : State) (l : Nat) : State :=
  if s.level = l then s
  else
    let off := decide (l < 3) && !s.coresGone
    let s := if off && (decide (s.rd R.DFT_STAT_STATE = 1) || decide (s.rd R.DFT_STAT_STATE = 2)) then s.wr R.DFT_STAT_STATE 0 else s
    let s := if off && s.on R.TRK_STAT_RUN then s.trackOff else s
    ((s.wr R.BST_SL_CUR l).signal (.fixed 0x1002 2) 0xFFFFFFFF [s.level, l, s.rd R.BST_SL_LIMIT]).alert 3

/-- CAP and LIMIT follow every fence at once; after boot has ended, CUR falls when a fence no longer permits it, and a
withdrawal of persistence does not lower it (R446, R449). -/
def State.capRefresh (s : State) : State :=
  if s.boot.inReset then s
  else
    let c := s.capOf true
    let s := (s.wr R.BST_SL_CAP c.1).wr R.BST_SL_LIMIT c.2
    if s.on R.BST_STAT_DONE && decide ((s.capOf false).1 < s.level) then s.setLevel (s.capOf false).1 else s

/-- LDG_CDNP: the pages that the countdown's energy still carries (R200). -/
def State.cdnpNow (s : State) : State :=
  let a := s.rd R.LDG_CDN_CDN - s.rd R.LDG_OASIS_OASIS - s.rd R.LDG_EFIX_FIX
  let c := s.rd R.LDG_COST_C
  s.wr R.LDG_CDNP_CDNP (if c = 0 then 0 else min (a * 65536 / c) 0xFFFFFFFF)

/-- The loop of Drift as it enters Idle from Stopped or Off (R172, Table 5-4); below SL3 it is Off. -/
def State.driftStart (s : State) : State :=
  let s := (((s.wr R.DFT_OUT_U 0).wr R.DFT_FLR_F 0).wr R.DFT_INT_I 0).wr R.DFT_ERR_EN 0
  (s.put R.DFT_STAT_AT_MAX false).wr R.DFT_STAT_STATE (if s.level < 3 ∧ !s.coresGone then 0 else 1)

/-- Start a recomputation of the ledger, or note that one further is due after the running one; the further one is
periodic if any event merged into it was (R186). None starts while a save has stopped the ledger (R200). -/
def State.ledgerStart (s : State) (periodic : Bool) : State :=
  if s.ledger.stopped then s
  else
    match s.ledger.running with
    | none => { s with ledger := { s.ledger with running := some periodic } }
    | some _ => { s with ledger := { s.ledger with next := some (periodic || s.ledger.next = some true) } }

end Sys2Proof.Machine
end

