-- ==== Sys2Proof/Machine/AuditOps.lean ====
section
/-!
DEFINITION. How a capacity audit ends (R374, R375, R392): its test load, its long operation and its disqualification.
-/
namespace Sys2Proof.Machine

/-- A field of section 0x12 in force. -/
def State.gp (s : State) (idx d : Nat) : Nat := s.pol 0x12 idx d

/-- Drive or release the audit's test load: only the gauge drives its rail (R374, R392). -/
def State.audLoad (s : State) (on : Bool) : State :=
  let r := s.gp 10 0xFF
  if 32 ≤ r then s
  else (s.wr R.SEQ_ON_RAILS (setBitTo (s.rd R.SEQ_ON_RAILS) r on)).emit (.issue 1 [r, b2n on])

/-- The audit ends: the long operation that runs it completes, and the learned values are to be written (R375, R378). -/
def State.audEnd (s : State) (status cause : Nat) : State :=
  let e := s.gau.audLoq
  let s := { s with gau := { s.gau with aud := 0, audLoq := 0, lrnDue := true } }.put R.GAU_STAT_AUD_BUSY false
  if e = 0 then s else s.loqEnd (e - 1) status cause

/-- An audit is disqualified: the load is released at once, nothing is learned, and it is retried after 24 h (R375). -/
def State.audDisq (s : State) (cause : Nat) : State :=
  if s.gau.aud = 0 then s
  else
    let s := s.audLoad false
    let s := ((s.put R.GAU_AUDST_LAST_PASS false).wr R.GAU_AUDST_LAST_CAUSE cause).inc R.GAU_AUDST_DISQ
    let s := { s with gau := { s.gau with audRetry := s.tick + 2831155200, audDue := true } }
    (s.note 0x0C 1 cause).audEnd loDisq cause

/-- An audit that runs is disqualified as soon as the ledger level becomes Severe (R375, Table 13-3 cause 5). -/
def State.audSevere (s : State) : State := if s.gau.aud ≠ 0 ∧ s.ledgerLevel = 3 then s.audDisq 5 else s

end Sys2Proof.Machine
end

