-- ==== Sys2Proof/Machine/Dram0.lean ====
section
/-!
DEFINITION. The address decode of the DRAM subsystem (R111 to R114), the bank queues (R115, R116), drain mode (R118),
the urgencies of internal traffic (Table 4-4), the activate limits (R93, R126), and the pages that movers read or write through
the bank queues.
-/
namespace Sys2Proof.Machine

/-- Parity of the low `n` bits of a number. -/
def parityOf (v : Nat) : Nat → Nat
  | 0 => 0
  | n + 1 => (v / 2 ^ n % 2 + parityOf v n) % 2

/-- A number with bit `p` deleted and the higher bits closed down (R112). -/
def dropBit (v p : Nat) : Nat := v / 2 ^ (p + 1) * 2 ^ p + v % 2 ^ p

/-- Channel mask k over device physical address bits 47:6. -/
def State.chMask (s : State) (k : Nat) : Nat := s.rd R.DRM_CHM_LO_MASK_LO k * 64 + s.rd R.DRM_CHM_HI_MASK_HI k * 2 ^ 32

/-- Bank mask k over subchannel address bits 37:6. -/
def State.bkMask (s : State) (k : Nat) : Nat := s.rd R.DRM_BKM_LO_MASK_LO k * 64 + s.rd R.DRM_BKM_HI_MASK_HI k * 2 ^ 32

/-- The way of a device physical address: way bit k is the parity of A AND DRM_CHMk (R111). In degraded service the
lowest healthy group carries the ways (R143). -/
def State.wayOf (s : State) (a : Nat) : Nat :=
  (List.range (s.rd R.DRM_STAT_WAYS)).foldl (fun w k => w + parityOf (Nat.land a (s.chMask k)) 48 * 2 ^ k) 0 +
  2 * s.rd R.DRM_STAT_GRP_BASE

/-- The subchannel address S: A with the pivot bits deleted (R112). -/
def State.subAddr (s : State) (a : Nat) : Nat :=
  let ps := (List.range (s.rd R.DRM_STAT_WAYS)).map (fun k => s.rd R.DRM_CHM_HI_PIVOT k)
  (ps.foldl (fun m p => setIns p m) []).reverse.foldl dropBit a

/-- Ranks of a channel, the spare included, as section 0x03 declares them (Table 4-5). -/
def State.ranksOf (s : State) (c : Nat) : Nat := bits (s.ergBase 3 (2 + c) 0) 0 3

/-- The spare of a channel is its highest rank (Table 4-2). -/
def State.spareRank (s : State) (c : Nat) : Nat := s.ranksOf c - 1

/-- Where a line lies in its subchannel. -/
structure DramLoc where
  way : Nat
  bank : Nat
  drank : Nat
  row : Nat
  col : Nat
  cid : Nat
  sub : Nat
  deriving DecidableEq, Repr

/-- One bank or chip-ID bit: the parity of S AND its mask when the mask is enabled, else the raw bit (R114). -/
def State.bankBit (s : State) (sub raw k : Nat) : Nat :=
  if s.on R.DRM_BKM_HI_EN k then parityOf (Nat.land sub (s.bkMask k)) 38 else sub / 2 ^ raw % 2

/-- The fields of S (R113): column, bank, chip ID, row and rank, bank bits hashed (R114). A retired rank is replaced by
the spare, the channel's highest rank (R136, R139). -/
def State.locOf (s : State) (a : Nat) : DramLoc :=
  let w := s.wayOf a
  let c := w / 2
  let sub := s.subAddr a
  let colw := s.rd R.DCH_GEO_COLW c
  let cidw := s.rd R.DCH_GEO_CIDW c
  let b0 := 6 + colw
  let bank := (List.range 5).foldl (fun v k => v + s.bankBit sub (b0 + k) k * 2 ^ k) 0
  let cid := (List.range cidw).foldl (fun v k => v + s.bankBit sub (b0 + 5 + k) (5 + k) * 2 ^ k) 0
  let r0 := b0 + 5 + cidw
  let roww := s.rd R.DCH_GEO_ROWW c
  let rank := sub / 2 ^ (r0 + roww) % 4
  let spare := s.spareRank c
  let rank' := if s.rd R.DCH_RANK_STATE c rank = 2 then spare else rank
  { way := w, bank := bank, drank := rank', row := bits sub r0 roww, col := bits sub 6 colw, cid := cid, sub := sub }

/-- The key of a bank's row state: way, 8 × rank + chip ID, bank. -/
def bankKey (way drank bank : Nat) : Nat := 1024 * way + 32 * drank + bank

/-- The device physical address of subchannel address `sub` on way `w`: the inverse of R111 and R112. The masks contain no
other mask's pivot, so each pivot bit is fixed by its own way bit. -/
def State.addrOf (s : State) (w sub : Nat) : Nat :=
  let ks := List.range (s.rd R.DRM_STAT_WAYS)
  let ps := ks.map (fun k => s.rd R.DRM_CHM_HI_PIVOT k)
  let a0 := (ps.foldl (fun m p => setIns p m) []).foldl (fun v p => v / 2 ^ p * 2 ^ (p + 1) + v % 2 ^ p) sub
  ks.foldl (fun a k => a + (parityOf (Nat.land a0 (s.chMask k)) 48 + (w - 2 * s.rd R.DRM_STAT_GRP_BASE) / 2 ^ k) % 2 *
    2 ^ s.rd R.DRM_CHM_HI_PIVOT k) a0

/-- Requests in one bank queue (R115: a queue is shared by all ranks and chip IDs of its bank address). -/
def State.bankQ (s : State) (way bank : Nat) : List DReq :=
  s.dram.q.filter (fun r => decide (r.way = way) && decide (r.bank = bank))

/-- Writes queued on a subchannel. -/
def State.wrCount (s : State) (way : Nat) : Nat := (s.dram.q.filter (fun r => decide (r.way = way) && r.wr)).length

/-- Some bank queue of the subchannel holds 12 or more writes (R118). -/
def State.bankFullOfWrites (s : State) (way : Nat) : Bool :=
  (List.range 32).any (fun b => decide (12 ≤ ((s.bankQ way b).filter (·.wr)).length))

/-- Whether a subchannel is in drain mode. -/
def State.draining (s : State) (way : Nat) : Bool :=
  if way % 2 = 0 then s.on R.DCH_STAT_DRAIN0 (way / 2) else s.on R.DCH_STAT_DRAIN1 (way / 2)

/-- Put a subchannel in or out of drain mode. -/
def State.setDrain (s : State) (way : Nat) (b : Bool) : State :=
  if way % 2 = 0 then s.put R.DCH_STAT_DRAIN0 b (way / 2) else s.put R.DCH_STAT_DRAIN1 b (way / 2)

/-- Enter or leave drain mode as the write count crosses WR_HI or WR_LO (R118); a Caravan trigger holds it (R121). -/
def State.drainRefresh (s : State) (way : Nat) : State :=
  let n := s.wrCount way
  let full := s.bankFullOfWrites way
  if s.dram.caravan || full || decide (s.ap R.DCH_CTL_WR_HI (way / 2) ≤ n) then s.setDrain way true
  else if decide (n ≤ s.ap R.DCH_CTL_WR_LO (way / 2)) then s.setDrain way false
  else s

/-- Urgency of a Drift page read (Table 4-4). -/
def State.driftUrg (s : State) : Nat :=
  let g := s.rd R.LDG_GUAR_G
  if decide (g = 0) || !s.trk.gate then 4 else min 7 (8 * s.rd R.TRK_HELD_HELD / g)

/-- Whether a line lies in the 4 KiB unit of S that a migration of its rank is copying (R137). -/
def State.unitBusy (s : State) (l : DramLoc) : Bool :=
  match smGet none (s.dram.migr.map (fun e => (e.1, some e.2))) (l.way / 2) with
  | none => false
  | some m =>
    let c := l.way / 2
    let rankBytes := s.rd R.DCH_GEO_RANK_GIB c * 2 ^ 29
    !s.dram.caravan && decide (l.drank = m.rank) && decide (0 < rankBytes) &&
    decide (l.sub % rankBytes / 4096 = s.rd R.DCH_MIGW_W c)

/-- The rank a request goes to during a migration: the spare below the watermark, the old rank otherwise (R137). -/
def State.liveRank (s : State) (l : DramLoc) : Nat :=
  match smGet none (s.dram.migr.map (fun e => (e.1, some e.2))) (l.way / 2) with
  | none => l.drank
  | some m =>
    let c := l.way / 2
    let rankBytes := s.rd R.DCH_GEO_RANK_GIB c * 2 ^ 29
    if l.drank = m.rank ∧ 0 < rankBytes ∧ l.sub % rankBytes / 4096 < s.rd R.DCH_MIGW_W c
    then s.spareRank c else l.drank

/-- Whether a bank queue takes one more request for a line (R115, R137). -/
def State.dramRoom (s : State) (line : Nat) : Bool :=
  let l := s.locOf line
  decide ((s.bankQ l.way l.bank).length < 16) && !s.unitBusy l

/-- A queued write has at least the urgency of every queued read of its line, whichever was queued first (R116). -/
def writeUrg (q : List DReq) : List DReq :=
  q.map (fun w => if w.wr then
    { w with urg := (q.filter (fun x => !x.wr && decide (x.line = w.line))).foldl (fun m x => max m x.urg) w.urg } else w)

/-- The rank that a request goes to: the spare for a migration's write, else the rank that holds the line (R136, R137). -/
def State.destRank (s : State) (l : DramLoc) (wr : Bool) (src : DSrc) : Nat :=
  if wr && decide (src = .migrate) then s.spareRank (l.way / 2) else s.liveRank l

/-- Put a request in its bank queue; a write of a line takes the urgency of a read of it (R116). -/
def State.dramPush (s : State) (line : Nat) (wr : Bool) (data : List Byte) (be : Nat) (psn : Bool) (src : DSrc)
    (urg : Nat) (qent : Option Nat) : State :=
  let l := s.locOf line
  let urg := if s.dram.caravan && wr then 7 else if wr && s.draining l.way then max urg 6 else urg
  let r : DReq :=
    { id := s.dram.next, way := l.way, bank := l.bank, drank := 8 * s.destRank l wr src + l.cid, row := l.row, line := line, wr := wr,
      data := data, be := be, psn := psn, src := src, urg := urg, qent := qent }
  { s with dram := { s.dram with q := writeUrg (s.dram.q ++ [r]), next := s.dram.next + 1 } }.drainRefresh l.way

/-- The pages of range O of a failed rank `r`: device addresses r × C × N to (r + 1) × C × N − 1, bounded by the top of host
memory, with C the rank capacity and N the channels in use (R140). -/
def State.rankRange (s : State) (r : Nat) : Nat × Nat :=
  let n := s.rd R.DCH_GEO_RANK_GIB (s.rd R.DRM_STAT_GRP_BASE) * 262144 * 2 ^ (s.rd R.DRM_STAT_WAYS - 1)
  let lo := min (r * n) s.hostPages
  (lo, min ((r + 1) * n) s.hostPages - lo)

/-- Whether rank `r` of a channel holds a part of a carve-out (Table 4-2), by the channel's layout in units of 128 MiB. -/
def State.holdsCarve (s : State) (c r : Nat) : Bool :=
  let u := 8 * s.rd R.DCH_GEO_RANK_GIB c
  let h := s.rd R.DCH_HOST_H c
  let cv := s.rd R.DCH_CARVE0_CV_MAP c + s.rd R.DCH_CARVE0_CV_FMAP c + s.rd R.DCH_CARVE1_CV_TRK c + s.rd R.DCH_CARVE1_CV_STG c
  decide (max h (r * u) < min (h + cv) ((r + 1) * u))

/-- A line of a rank that is Offline: its data are lost, while other channels still hold theirs of the same range (R140). -/
def State.lineLost (s : State) (a : Nat) : Bool :=
  let c := s.wayOf a / 2
  let low := 11 + s.rd R.DCH_GEO_COLW c + s.rd R.DCH_GEO_CIDW c + s.rd R.DCH_GEO_ROWW c
  decide (s.rd R.DCH_RANK_STATE c (s.subAddr a / 2 ^ low % 4) = 3)

/-- Whether a device physical address lies in a range marked offline (R140). -/
def State.isOffline (s : State) (a : Nat) : Bool :=
  s.host.offline.any (fun e => decide (e.1 ≤ a / 4096) && decide (a / 4096 < e.1 + e.2))

/-! ### Activate limits -/

/-- The key of the bank that a request needs. -/
def DReq.key (r : DReq) : Nat := bankKey r.way r.drank r.bank

/-- The row of a request is open. -/
def State.rowHit (s : State) (r : DReq) : Bool := decide (smGet 0 s.dram.openRow r.key = r.row + 1)

/-- The limit on the activates of a request's source, in units of 1,000/s, and the key it is charged to: the lower nonzero of
ACT_CAP and ACT_THR of the entry, OVF_RATE for host traffic without one while OVF_ACT is set, none for internal traffic
(R93, R126). -/
def State.actLimit (s : State) (r : DReq) : Option (Nat × Nat) :=
  match r.src, r.qent with
  | .host _, some e =>
    let a := s.rd R.QOS_CAP_ACT_CAP e
    let b := s.rd R.QOS_THR_ACT_THR e
    if a = 0 ∧ b = 0 then none else some (e, if a = 0 then b else if b = 0 then a else min a b)
  | .host _, none => if s.on R.DRM_RDOVF_OVF_ACT then some (4096, s.rd R.DRM_RDOVF_OVF_RATE) else none
  | _, _ => none

/-- What is charged to a key now: each tick of 2⁻¹⁵ s works off the activates that the limit allows in it. -/
def State.actCharge (s : State) (key limit : Nat) : Nat :=
  let x := smGet (0, 0) s.dram.actSpent key
  x.2 - (s.tick - x.1) * limit * 1000

/-- Whether the limit permits an activate for a request now. -/
def State.actAllowed (s : State) (r : DReq) : Bool :=
  match s.actLimit r with
  | none => true
  | some (k, l) => let c := s.actCharge k l; decide (c = 0) || decide (c + 32768 ≤ l * 1000)

/-- Charge an activate. -/
def State.actSpend (s : State) (r : DReq) : State :=
  match s.actLimit r with
  | none => s
  | some (k, l) =>
    { s with dram := { s.dram with actSpent := smSet (0, 0) k (s.tick, s.actCharge k l + 32768) s.dram.actSpent } }

/-! ### Pages that movers read or write (R115, Table 4-4) -/

/-- The consumer of Table 11-2 that moves a page. -/
def DSrc.consumer : DSrc → Nat
  | .staging _ | .destage _ | .nvm _ _ => 1
  | .drift _ | .image _ => 2
  | .fetch _ | .bulk _ => 4
  | .save _ => 9
  | _ => 0

/-- The page that a mover reads or writes. -/
def State.pageJob (s : State) (src : DSrc) : Option PageIo := s.dram.pages.find? (fun j => decide (j.src = src))

/-- Replace it. -/
def State.setJob (s : State) (j : PageIo) : State :=
  { s with dram := { s.dram with pages := s.dram.pages.map (fun x => if x.src = j.src then j else x) } }

/-- The mover is done with it. -/
def State.pageDrop (s : State) (src : DSrc) : State :=
  { s with dram := { s.dram with pages := s.dram.pages.filter (fun j => decide (j.src ≠ src)) } }

/-- Every line has been read or written. -/
def PageIo.done (j : PageIo) : Bool := j.wait.isEmpty && j.out.isEmpty

/-- Line `i` of a page as bytes. -/
def PageIo.line (j : PageIo) (i : Nat) : List Byte := (List.range 64).map (fun k => smGet 0 j.data (64 * i + k))

/-- One line enters its bank queue if it has room, once the page has its buffer (R25, R115). -/
def State.pageLine (s : State) (src : DSrc) (i : Nat) : State :=
  match s.pageJob src with
  | none => s
  | some j =>
    let a := j.base + 64 * i
    if (decide (j.buf = 0) && decide (src.consumer ≠ 0)) || !j.wait.contains i || !s.dramRoom a then s
    else
      let s := s.setJob { j with wait := j.wait.filter (fun x => decide (x ≠ i)), out := j.out ++ [i] }
      s.dramPush a j.wr (if j.wr then j.line i else []) (if j.wr then allBe else 0) (j.wr && j.marks.contains i) src j.urg none

/-- A page without a buffer asks for one (R25, R158). -/
def State.pageBuf (s : State) (j : PageIo) : State :=
  if j.buf ≠ 0 ∨ j.src.consumer = 0 then s
  else
    let (c, s) := s.bufTake j.src.consumer
    s.setJob { j with buf := c }

/-- A page goes as far as its buffer and the bank queues allow. -/
def State.pagePush (s : State) (j : PageIo) : State := j.wait.foldl (fun s i => s.pageLine j.src i) (s.pageBuf j)

/-- Every page goes as far as its buffer and the bank queues allow, oldest first. -/
def State.pageRoom (s : State) : State := s.dram.pages.foldl (fun s j => s.pagePush j) s

/-- A mover begins its work. [DEDUCED, unsafe: log 71] -/
def State.pageStart (s : State) (j : PageIo) : State :=
  { s with dram := { s.dram with pages := s.dram.pages ++ [j] } }.pagePush j

/-- A page of 4 KiB at a device address. -/
def pageIo (src : DSrc) (wr : Bool) (base urg buf : Nat) : PageIo :=
  { src := src, wr := wr, base := base, urg := urg, age := 0, wait := List.range 64, out := [], data := [], md := [], marks := [],
    buf := buf }

/-- The device address of staging page `n` and of a line of the maps: the carve-outs lie above host memory, the maps first
(Table 4-2). [DEDUCED, unsafe: log 204] -/
def State.mapAddr (s : State) (byte : Nat) : Nat := (s.hostPages * 4096 + byte) / 64 * 64
def State.stgAddr (s : State) (n : Nat) : Nat :=
  let cv := (List.range 8).map (fun c =>
    s.rd R.DCH_CARVE0_CV_MAP c + s.rd R.DCH_CARVE0_CV_FMAP c + s.rd R.DCH_CARVE1_CV_TRK c)
  let k := s.stgPages
  s.hostPages * 4096 + cv.sum * 134217728 + (if k = 0 then 0 else n % k) * 4096

/-- A line of the maps is written (Table 4-4). -/
def State.mapIo (s : State) (byte : Nat) : State :=
  let a := s.mapAddr byte
  if (s.pageJob (.map a)).isSome then s else s.pageStart { pageIo (.map a) true a 0 0 with wait := [0] }

/-- The device address of a line of the dirty bitmap, in the tracking area behind the maps (R145, Table 4-2). -/
def State.bitmapAddr (s : State) (n : Nat) : Nat :=
  let cv := (List.range 8).map (fun c => s.rd R.DCH_CARVE0_CV_MAP c + s.rd R.DCH_CARVE0_CV_FMAP c)
  s.hostPages * 4096 + cv.sum * 134217728 + 64 * n

/-- One line of the bitmap is fetched, or written back, at urgency 7; while a transfer of that line runs, no other begins. -/
def State.bitmapIo (s : State) (n : Nat) (wr : Bool) : State :=
  let a := s.bitmapAddr n
  if (s.pageJob (.map a)).isSome then s else s.pageStart { pageIo (.map a) wr a 7 0 with wait := [0] }

/-- The bitmap cache's misses and write-backs go to DRAM (R145). -/
def State.bitmapKick (s : State) : State :=
  if s.trk.missed.isEmpty && s.trk.evicted.isEmpty then s
  else
    let s' := { s with trk := { s.trk with missed := [], evicted := [] } }
    s.trk.missed.foldl (fun s n => s.bitmapIo n false) (s.trk.evicted.foldl (fun s n => s.bitmapIo n true) s')

/-- A line that a mover read has returned: its bytes, or that it reads as poisoned (R130, R162). The bytes of a staging page stand
in its staging entry. -/
def State.pageGot (s : State) (src : DSrc) (a : Nat) (data : List Byte) (bad : Bool) : State :=
  match s.pageJob src with
  | none => s
  | some j =>
    let i := (a - j.base) / 64
    let keep := decide (s.hostPages * 4096 ≤ a)
    let cells := if bad then [] else (cellsOf (data.map (·.toNat))).map (fun (e : Host.Cell) => (64 * i + e.1, e.2))
    s.setJob { j with
      out := j.out.filter (fun x => decide (x ≠ i)),
      data := if keep then j.data
        else j.data.filter (fun e => decide (e.1 < 64 * i)) ++ cells ++ j.data.filter (fun e => decide (64 * i + 64 ≤ e.1)),
      marks := if bad then setIns i j.marks else j.marks }

/-- The pages of the bulk restore that are neither in DRAM nor given up: being read, read, or being written (R230). -/
def State.bulkOut (s : State) : List Nat :=
  (s.flash.ops ++ s.flash.extra ++ s.flash.dropped).filterMap (fun o => match o.src with | .bulk p => some p | _ => none) ++
  s.cvn.got.map (·.1) ++ s.dram.pages.filterMap (fun j => match j.src with | .bulk p => some p | _ => none)

/-- CVN_RWM: every page below it is restored (R230). [DEDUCED, unsafe: log 97] -/
def State.bulkMark (s : State) : State := s.wr R.CVN_RWM_RWM ((s.bulkOut ++ s.cvn.fetching).foldl min s.cvn.bulkNext)

/-- A page of restore is in DRAM: its restored bit is set (R230). -/
def State.pageRestored (s : State) (p : Nat) : State :=
  if s.on R.CVN_STAT_OT then { s with trk := { s.trk with restored := smSet false p true s.trk.restored } } else s

/-- A line that a mover wrote has reached DRAM. With the last one a page of the bulk restore is restored, and a staging page's
write has ended; an on-touch fetch waits for its own command. -/
def State.pagePut (s : State) (src : DSrc) (a : Nat) : State :=
  match s.pageJob src with
  | none => s
  | some j =>
    let j := { j with out := j.out.filter (fun x => decide (x ≠ (a - j.base) / 64)) }
    let s := s.setJob j
    if !j.done then s
    else match src with
    | .bulk p => ((s.pageDrop src).pageRestored p).bulkMark
    | .fetch p => if s.cvn.fetching.contains p then s else (s.pageDrop src).pageRestored p
    | .staging _ | .map _ => s.pageDrop src
    | _ => s

end Sys2Proof.Machine
end

