-- ==== Sys2Proof/Machine/PowerOps.lean ====
section
/-!
DEFINITION. The switched power domains (R489 to R491): which are powered, and what switching one off and waking it does;
the levels of the management cores (R492, R493).
-/
namespace Sys2Proof.Machine

/-- PDn is powered (PWR_DON). -/
def State.pdOn (s : State) (n : Nat) : Bool := bit (s.rd R.PWR_DON_ON (n / 32)) (n % 32)

/-- Power a domain or switch it off. -/
def State.pdSet (s : State) (n : Nat) (b : Bool) : State :=
  s.wr R.PWR_DON_ON (setBitTo (s.rd R.PWR_DON_ON (n / 32)) (n % 32) b) (n / 32)

/-- A switched-off domain wakes: it is counted, and its idle time applies (R489, R491). TWI0's fast path and TWI1 lie in
PD29 (R408). -/
def State.pdWake (s : State) (n : Nat) : State :=
  if s.pdOn n then s
  else
    let s := ((s.pdSet n true).inc R.PWR_IDLE_WAKES n).applyRws R.PWR_IDLE_IDLE n
    if n = 29 then (s.put R.TWI_STAT_SLEEP false 0).put R.TWI_STAT_SLEEP false 1 else s

/-- A domain switches off. -/
def State.pdSleep (s : State) (n : Nat) : State :=
  let s := s.pdSet n false
  if n = 29 then (s.put R.TWI_STAT_SLEEP true 0).put R.TWI_STAT_SLEEP true 1 else s

/-- A flash channel group switches with its LDPC cluster: the cluster is off when both groups it serves are off (Table
20-2). -/
def State.pdGroup (s : State) (g : Nat) (b : Bool) : State :=
  if b then (s.pdWake (6 + g)).pdWake (14 + g / 2)
  else
    let s := s.pdSleep (6 + g)
    if s.pdOn (6 + (g / 2 * 2)) || s.pdOn (7 + (g / 2 * 2)) then s else s.pdSleep (14 + g / 2)

/-! ### Core levels -/

/-- The fastest level that the thermal stage permits a core (Table 20-3), and F3 from a trigger of code 1 or 2 (R493). -/
def State.fsCap (s : State) : Nat :=
  if s.cvn.code = 1 ∨ s.cvn.code = 2 ∨ 3 ≤ s.rd R.PWR_STAT_STAGE then 3
  else if s.rd R.PWR_STAT_STAGE = 2 then 2 else 0

/-- A core's level, 0 to 3 for F0 to F3, is set as far as the cap permits; without FS_EN every core runs at F0 (R492). -/
def State.fsSet (s : State) (n v : Nat) : State :=
  s.wr R.PWR_FS_LVL (max s.fsCap (if s.on R.PWR_LOOP_FS_EN then min v 3 else 0)) 0 n

/-- Every core keeps its level as far as the cap permits (Table 20-3, R493). -/
def State.fsAll (s : State) : State := (List.range 4).foldl (fun s n => s.fsSet n (s.rd R.PWR_FS_LVL 0 n)) s

/-- An event queued for a core at F2 or F3 raises it to F1 at once (R492). -/
def State.fsRaise (s : State) (n : Nat) : State := if 2 ≤ s.rd R.PWR_FS_LVL 0 n then s.fsSet n 1 else s

/-- A voltage request: a Voltage write goes out and waits for its Voltage read (R494, R495). -/
def State.avsAsk (s : State) (mv : Nat) : State :=
  { s.wr R.PWR_AVSST_VSET mv with pwr := { s.pwr with avsWait := true, avsTry := 0 } }.emit (.issue 3 [mv])

/-! ### Running cores (R26 to R28) -/

/-- A core that has passed its check and is not fenced. -/
def State.coreUp (s : State) (n : Nat) : Bool := bit (s.rd R.BST_CORE_PASS) n && !bit (s.rd R.BST_CORE_FENCED) n

/-- A core that does its management work: healthy, and not in the reset that its watchdog made (R28). -/
def State.coreRuns (s : State) (n : Nat) : Bool := s.coreUp n && !bit s.boot.down n

/-- The core that carries role `k` of Table 1-2 does its work (R26 to R28). -/
def State.roleRuns (s : State) (k : Nat) : Bool := s.coreRuns (s.rd R.TOP_ROLE_CORE 0 k)

/-- The core that owns the blocks of a source code (R26, R27, Table 1-2, Table 18-3). Table 1-2 names no owner of the datapath
buffers and books (0x0A) and of the check-value units (0x09): the model gives them to MC1's role and to MC2's.
[DESIGN CHOICE, safe: log 187] -/
def State.ownerOf (s : State) (src : Nat) : Nat :=
  s.rd R.TOP_ROLE_CORE 0
    (if src = 0x01 ∨ src = 0x08 ∨ src = 0x0A ∨ src = 0x0B then 1 else if src = 0x06 ∨ src = 0x07 ∨ src = 0x09 then 2
     else if 0x02 ≤ src ∧ src ≤ 0x05 then 3 else 0)

end Sys2Proof.Machine
end

