-- ==== Sys2Proof/Machine/FlashOps.lean ====
section
/-!
DEFINITION. The shared operations of the flash channels: dies and their counters (R241, R262), command slots (R246), the
order in which a die takes operations (R247 to R249), reference tracking (R257 to R259) and fencing (R261).
-/
namespace Sys2Proof.Machine

/-- The key of die `d` of channel `c` (R241, Table 9-1). -/
def dieKey (c d : Nat) : Nat := 128 * c + d

/-- A die. -/
def State.die (s : State) (k : Nat) : DieSt := smGet dieInit s.flash.dies k

/-- Replace a die. -/
def State.setDie (s : State) (k : Nat) (d : DieSt) : State :=
  { s with flash := { s.flash with dies := smSet dieInit k d s.flash.dies } }

/-- A die in service. -/
def State.dieUp (s : State) (k : Nat) : Bool := decide ((s.die k).state = 1)

/-- Channels with a die in service that are not fenced. -/
def State.chansUp (s : State) : List Nat :=
  (List.range 32).filter (fun c => bit (s.rd R.FCC_CHPOP_POP) c && !bit (s.rd R.FCC_CHFENCE_FENCE) c)

/-- A saturating count of a die register of `w` bits. -/
def satInc (w v : Nat) : Nat := min (v + 1) (2 ^ w - 1)

/-- An operation by number. -/
def State.fop (s : State) (id : Nat) : Option FOp := s.flash.ops.find? (fun o => decide (o.id = id))

/-- The channel's command slots in use (FCHn_STAT.SLOTS). -/
def State.slotsUsed (s : State) (c : Nat) : Nat := (s.flash.ops.filter (fun o => decide (o.chan = c))).length

/-- Bring FCHn_STAT.SLOTS to the operations held. -/
def State.slotsRefresh (s : State) (c : Nat) : State := s.wr R.FCH_STAT_SLOTS (s.slotsUsed c) c

/-- Replace an operation. -/
def State.setFop (s : State) (o : FOp) : State :=
  { s with flash := { s.flash with ops := s.flash.ops.map (fun x => if x.id = o.id then o else x) } }

/-- The consumer of Table 11-2 whose buffer an operation works on; an erase moves no data. -/
def FOp.consumer (o : FOp) : Nat :=
  if o.kind = .erase then 0
  else match o.src with
  | .nvm _ _ | .destage _ => 1
  | .drift _ | .snapshot _ | .rewrite _ => 2
  | .reloc _ | .fold _ => 3
  | .bulk _ | .fetch _ => 4
  | .system _ => 6
  | .probe _ _ | .scan _ => 7
  | .save _ => 9
  | .erase _ | .gone | .parity _ _ => 0

/-- A channel accepts an operation into a command slot, with a datapath buffer for its data (R25, R246); otherwise it stays with its
requester. -/
def State.fopAdmit (s : State) (o : FOp) : Option State :=
  if s.flash.stopping || decide (1024 ≤ s.slotsUsed o.chan) then none
  else
    let (b, t) := if o.buf ≠ 0 ∨ o.consumer = 0 then (o.buf, s) else s.bufTake o.consumer
    if b = 0 ∧ o.consumer ≠ 0 then none
    else some ({ t with flash := { t.flash with ops := t.flash.ops ++ [{ o with buf := b }] } }.slotsRefresh o.chan)

/-- Admit operations that found no slot or no buffer, oldest first (R246). -/
def State.slotFill (s : State) : State :=
  s.flash.extra.foldl (fun s o => match s.fopAdmit o with
    | none => s
    | some t => { t with flash := { t.flash with extra := t.flash.extra.filter (fun x => decide (x.id ≠ o.id)) } }) s

/-- Free the command slot of an operation when its result is reported (R246). -/
def State.endFop (s : State) (o : FOp) : State :=
  ({ s with flash := { s.flash with ops := s.flash.ops.filter (fun x => decide (x.id ≠ o.id)) } }.slotsRefresh
    o.chan).slotFill

/-- Whether the read of a fenced die goes to the stripe rebuild (R297): every read but those of probes and scans. -/
def rebuilds (kind : FKind) (src : FSrc) : Bool :=
  decide (kind = .read) && (match src with | .probe _ _ | .scan _ | .gone => false | _ => true)

/-- Give an operation to a channel, with the buffer that its data stands in already, if any: it takes a command slot, or waits for
one (R246). An operation for a powered-down
group asks for its wake (R265). A read of a fenced die is served by stripe rebuild (R297). -/
def State.fIssue (s : State) (k : Nat) (kind : FKind) (cls : Nat) (urgent : Bool) (sb addr : Nat) (src : FSrc)
    (buf : Nat := 0) : State :=
  let c := k / 128
  let o : FOp := { id := s.flash.next, chan := c, die := k % 128, kind := kind, cls := cls, urgent := urgent, sb := sb,
                   addr := addr, src := src, stage := .queued, susp := 0, step := 1, retry := 0, left := 1, lane := false, buf := buf }
  let o : FOp := if decide ((s.die k).state = 2) && rebuilds kind src then { o with stage := .decoding, step := 5 } else o
  let s := { s with flash := { s.flash with next := s.flash.next + 1 } }
  let s := if s.rd R.FCH_STAT_STATE c = 4
    then { s with flash := { s.flash with waking := setBitTo s.flash.waking (c / 4) true } } else s
  match s.fopAdmit o with
  | some t => t
  | none => { s with flash := { s.flash with extra := s.flash.extra ++ [o] } }

/-- Operations of one die. -/
def State.dieOps (s : State) (k : Nat) : List FOp :=
  s.flash.ops.filter (fun o => decide (dieKey o.chan o.die = k))

/-- The operation whose array work occupies the die. -/
def State.dieRunning (s : State) (k : Nat) : Option FOp := (s.dieOps k).find? (fun o => decide (o.stage = .running))

/-- The suspended operation of a die. -/
def State.dieSuspended (s : State) (k : Nat) : Option FOp := (s.dieOps k).find? (fun o => decide (o.stage = .suspended))

/-- Class 3's share of a die's array time over the last DRIFT_WIN, in 2⁻¹⁶, by the class 3 programs that ended in it (R249).
[DEDUCED, unsafe: log 211] -/
def State.share3 (s : State) (k : Nat) : Nat :=
  let w := s.rd R.FCC_LIM_DRIFT_WIN
  let t := ((s.die k).win3.filter (fun e => decide (s.tick < e.1 + cdiv (w * 32768) 1000000))).map (·.2)
  if w = 0 then 0 else min 65536 (t.sum * 65536 / (10 * w))

/-- Class 3 has precedence over class 2 on a die of the image pool: it has queued work and its share of the die's array
time is below the floor share f (R249). -/
def State.driftFirst (s : State) (k : Nat) : Bool :=
  (s.dieOps k).any (fun o => decide (o.cls = 3) && decide (o.stage = .queued)) && decide (s.share3 k < s.rd R.DFT_FLR_F)

/-- The rank of an operation in R248, by its class of Table 8-4 (R247): lower goes first. Urgent class 6 stands between classes 3 and 4. -/
def fopRank (first3 : Bool) (o : FOp) : Nat :=
  if o.cls = 3 ∧ first3 = true then 3 else if o.cls = 6 ∧ o.urgent = true then 7 else 2 * o.cls

/-- The percentage of channel time that the power states leave namespace operations of classes 2, 4 and 6: that of the
highest-power operational state among enabled functions (Table 10-8, R331). -/
def State.psLimit (s : State) : Nat :=
  match (s.nvm.fns.filter (fun (e : Nat × FnSt) => e.2.en && decide (e.2.ps < 3))).map (fun e => e.2.ps) with
  | [] => 100
  | p :: ps => match ps.foldl min p with
    | 0 => 100
    | 1 => 60
    | _ => 30

/-- The percentage that the thermal stage leaves a class (Table 20-3). -/
def State.thermLimit (s : State) (cls : Nat) : Nat :=
  let st := s.rd R.PWR_STAT_STAGE
  if (2 ≤ st ∧ (cls = 4 ∨ cls = 6)) ∨ (3 ≤ st ∧ cls = 2) then 30 else 100

/-- An operation's class is below the limits on its channel's time, of which `busy` gives the percentages that the classes
took (R331, R500). -/
def State.clsFree (s : State) (busy : List Nat) (o : FOp) : Bool :=
  let ns := (decide (o.cls = 2) || decide (o.cls = 4) || decide (o.cls = 6)) && (match smGet none s.ftl.sbs o.sb with
    | some b => decide (b.tenant = 1)
    | none => false)
  let lim := min (s.thermLimit o.cls) (if ns then s.psLimit else 100)
  decide (lim = 100) || decide (busy.getD o.cls 0 < lim)

/-- What a channel still carries out during a save: class 0, and the Drift programs that had been issued (R211). -/
def FOp.inSave (o : FOp) : Bool :=
  decide (o.cls = 0) || (decide (o.kind = .program) && (match o.src with | .drift _ => true | _ => false))

/-- Whether the journal record that an operation must not overtake is confirmed: the open record of a superblock before its first
program, the start record before an erase (R285, R291). A save's own superblocks stand in its checkpoint (R294). -/
def State.jrnlOk (s : State) (o : FOp) : Bool :=
  decide (o.kind = .read) || s.on R.FCC_STAT_SAVE || (match smGet none s.ftl.sbs o.sb with
    | some b => decide (b.recAt ≤ s.ftl.jconf)
    | none => true)

/-- The operation that a ready die receives (R248): lowest rank, oldest first; during a save what R211 leaves; only reads
of classes 1 and 2 while an operation of the die is suspended (R251). -/
def State.diePick (s : State) (k : Nat) (busy : List Nat) : Option FOp :=
  let f3 := s.driftFirst k
  let susp := (s.dieSuspended k).isSome
  let ok := fun (o : FOp) => decide (o.stage = .queued) &&
    (!s.on R.FCC_STAT_SAVE || o.inSave) && (s.on R.FCC_STAT_SAVE || s.clsFree busy o) &&
    s.jrnlOk o && (!susp || (decide (o.kind = .read) && (decide (o.cls = 1) || decide (o.cls = 2))))
  ((s.dieOps k).filter ok).foldl (fun b o => match b with
    | none => some o
    | some x => if fopRank f3 o < fopRank f3 x then some o else some x) none

/-- Whether an operation may be suspended by a read of class 1 or 2 (Table 8-4, R249). -/
def State.suspendable (s : State) (k : Nat) (o : FOp) : Bool :=
  (decide (o.kind = .program) || decide (o.kind = .erase)) &&
  (decide (o.cls = 4) || (decide (o.cls = 6) && !o.urgent) || (decide (o.cls = 3) && !s.driftFirst k))

/-! ### Reference tracking -/

/-- The tracking state of a die and group. -/
def State.refAt (s : State) (k g : Nat) : RefSt := smGet refInit s.flash.refs (16 * k + g)

/-- Replace it. -/
def State.setRef (s : State) (k g : Nat) (r : RefSt) : State :=
  { s with flash := { s.flash with refs := smSet refInit (16 * k + g) r s.flash.refs } }

/-- References of a group: 1 in pseudo-SLC, 7 in TLC, 15 in QLC (R257); groups 0 to 3 are pseudo-SLC (Table 9-5). -/
def refCount (g bpc : Nat) : Nat := if g < 4 then 1 else 2 ^ (bpc + 1) - 1

/-- An offset kept in −OFF_MAX to +OFF_MAX (R259). -/
def State.offClamp (s : State) (v : Int) : Int :=
  clampI (-(s.rd R.FCC_RRT_OFF_MAX : Int)) (s.rd R.FCC_RRT_OFF_MAX : Int) v

/-- The running mean of R258 in 1/16 bit, rounded up: m + (c − m) ÷ 16 with c in the same unit. -/
def meanStep (m c : Nat) : Nat := ((m : Int) + idivUp ((16 * c : Nat) - (m : Int)) 16).toNat

/-- The signed offsets of read-retry entry `k`, from 1 (Table 9-7). -/
def State.retryOffs (s : State) (k : Nat) : List Int :=
  (List.range 15).map (fun j => ofField 8 (bits (s.ergBase 0x04 (49 + 4 * k + j / 4) 0) (8 * (j % 4)) 8))

/-- The mean of times, rounded up. -/
def meanUp (vs : List Nat) : Nat := cdiv vs.sum vs.length

/-! ### Decode lanes (R255) -/

/-- The LDPC cluster that serves a channel: its own, or its neighbour when that is fenced (R237). -/
def State.clusterOf (s : State) (c : Nat) : Nat :=
  let k := c / 8
  if bit (s.rd R.FCC_STAT_CLS_FENCE) k then (if k % 2 = 0 then k + 1 else k - 1) else k

/-- A decode step that takes a soft lane. -/
def FOp.soft (o : FOp) : Bool := decide (o.step = 2) || decide (o.step = 4)

/-- A codeword that a lane of cluster `k` decodes, or that waits for one. -/
def State.laneOps (s : State) (k : Nat) (soft lane : Bool) : List FOp :=
  s.flash.ops.filter (fun o => decide (o.stage = .decoding) && decide (o.step < 5) && decide (o.soft = soft) &&
    decide (o.lane = lane) && decide (s.clusterOf o.chan = k))

/-- A free lane of 16 hard and 2 soft ones goes to the waiting decode of the lowest class, the oldest within it. -/
def State.laneGive (s : State) (k : Nat) (soft : Bool) : State :=
  if (if soft then 2 else 16) ≤ (s.laneOps k soft true).length then s
  else match (s.laneOps k soft false).foldl (fun b o => match b with
      | none => some o
      | some (x : FOp) => if o.cls < x.cls then some o else some x) none with
    | none => s
    | some o => s.setFop { o with lane := true }

/-- Every free lane is given. A trigger leaves the clusters only class 0 and what is in progress (R211, R340). -/
def State.laneFill (s : State) : State :=
  let n := (s.flash.ops.filter (fun o => decide (o.stage = .decoding) && decide (o.step < 5) && !o.lane)).length
  if n = 0 then s
  else (List.range n).foldl (fun s _ => (List.range 4).foldl (fun s k => (s.laneGive k true).laneGive k false) s) s

/-! ### Fencing -/

/-- Set the fence bit of a die (FCHn_DFENCE). -/
def State.fenceBit (s : State) (k : Nat) : State :=
  let c := k / 128
  let d := k % 128
  s.wr R.FCH_DFENCE_FENCE (setBitTo (s.rd R.FCH_DFENCE_FENCE c (d / 32)) (d % 32) true) c (d / 32)

/-- Dies in service on a channel; a channel without one is fenced (Table 8-3). -/
def State.chanRefresh (s : State) (c : Nat) : State :=
  let n := ((List.range 128).filter (fun d => s.dieUp (dieKey c d))).length
  let s := s.wr R.FCH_POP_DIES n c
  let s := s.wr R.FCC_CHPOP_POP (setBitTo (s.rd R.FCC_CHPOP_POP) c (decide (n ≠ 0)))
  if n = 0 ∧ 2 ≤ s.rd R.FCH_STAT_STATE c then
    (s.wr R.FCH_STAT_STATE 1 c).wr R.FCC_CHFENCE_FENCE (setBitTo (s.rd R.FCC_CHFENCE_FENCE) c true)
  else s

end Sys2Proof.Machine
end

