-- ==== Sys2Proof/Machine/FtlOps.lean ====
section
/-!
DEFINITION. The shared operations of flash translation: geometry and slot addresses (R267 to R269), superblocks and their
allocation (R271 to R273), the maps (R274, R275), the account of the pool (R278, R279, R299, R300), the journal (R291),
rewrite scheduling (R287) and retirement (R296, R297).
-/
namespace Sys2Proof.Machine

/-! ### Geometry -/

/-- The declared geometry of section 0x04 (Table 9-7): page size in KiB, log2 planes, bits per cell code, pages per block
and blocks per plane. -/
def State.pageKib (s : State) : Nat := s.ergBase 0x04 36 0
def State.planesLog (s : State) : Nat := s.ergBase 0x04 37 0
def State.bpc (s : State) : Nat := s.ergBase 0x04 38 0
def State.pagesPer (s : State) : Nat := s.ergBase 0x04 39 0
def State.blocksPer (s : State) : Nat := s.ergBase 0x04 40 0

/-- SPB, the codeword indices of a plane-block (R267). -/
def State.spb (s : State) : Nat := s.pagesPer * s.pageKib / 4

/-- Codeword indices used in a cell mode (R267). -/
def State.spbIn (s : State) (native : Bool) : Nat := if native then s.spb else s.spb / (s.bpc + 1)

/-- Slots of a coarse unit: 16 at 64 KiB, 64 at 256 KiB (Table 9-7). -/
def State.unitSlots (s : State) : Nat := if s.ergBase 0x04 42 0 = 0 then 16 else 64

/-- GMAX is host memory plus staging, fixed at cold boot (LDG_GMAX). -/
def State.gmaxSet (s : State) : State := s.wr R.LDG_GMAX_GMAX (s.hostPages + s.stgPages)

/-- MIN_W (Table 9-7). -/
def State.minW (s : State) : Nat := s.ergBase 0x04 49 8

/-- The superblock of a slot address (R267, R268). -/
def State.sbOf (s : State) (a : Nat) : Nat :=
  let p := if s.spb = 0 then 0 else a % 2 ^ 28 / s.spb / 2 ^ s.planesLog
  a / 2 ^ 28 % 128 * s.blocksPer + p

/-- The die of a slot address. -/
def addrDie (a : Nat) : Nat := a / 2 ^ 28

/-! ### Superblocks -/

/-- Whether a superblock is reserved for the die record or the anchor (R268). -/
def State.sbReserved (s : State) (n : Nat) : Bool :=
  decide (s.blocksPer = 0) || decide (n % s.blocksPer = 0) || decide (n = 1) || decide (n = 2)

/-- Channels in service whose die `d` is in service (R268). -/
def State.dieChans (s : State) (d : Nat) : List Nat := s.chansUp.filter (fun c => s.dieUp (dieKey c d))

/-- A superblock as it stands: while it holds no data its members are those of R268, every channel whose die is in service
and whose blocks there are not retired, and below MIN_W it is parked; one that holds data keeps those it was opened with. -/
def State.sbView (s : State) (n : Nat) (b : SbSt) : SbSt :=
  if b.state = 0 ∨ b.state = 6 then
    let m := if s.blocksPer = 0 then [] else (s.dieChans (n / s.blocksPer)).filter (fun c => !b.retired.contains c)
    { b with members := m, state := if m.length < s.minW then 6 else 0 }
  else b

/-- A superblock (R268): one not listed is erased and unworn. -/
def State.sb (s : State) (n : Nat) : SbSt :=
  match smGet none s.ftl.sbs n with
  | some b => s.sbView n b
  | none => if s.sbReserved n then { sbInit with state := 5 } else s.sbView n { sbInit with state := 0 }

/-- Note a change of the map or of the superblock table for the next checkpoint (R292). -/
def State.chunkMark (s : State) (v : Nat) : State := { s with ftl := { s.ftl with chunks := setIns v s.ftl.chunks } }

/-- Replace a superblock: its entries of the superblock table change (R275, R292). -/
def State.setSb (s : State) (n : Nat) (b : SbSt) : State :=
  { s with ftl := { s.ftl with sbs := smSet none n (some b) s.ftl.sbs } }.chunkMark (4 * n + 2)

/-- The listed superblocks. -/
def State.sbList (s : State) : List (Nat × SbSt) :=
  s.ftl.sbs.filterMap (fun e => e.2.map (fun b => (e.1, s.sbView e.1 b)))

/-- The width of a superblock: its members whose channel and die are in service (R268). -/
def State.sbWidth (s : State) (n : Nat) (b : SbSt) : Nat :=
  (b.members.filter (fun c => s.chansUp.contains c && decide (s.blocksPer ≠ 0) && s.dieUp (dieKey c (n / s.blocksPer)))).length

/-- Wear added by an erase (R272): 1 in pseudo-SLC mode, ceil(RATE_SLC ÷ RATE_NAT) in native mode. -/
def State.eraseWear (s : State) (native : Bool) : Nat :=
  if native then cdiv (s.ergBase 0x04 44 60000) (s.ergBase 0x04 45 3000) else 1

/-- Data members of a superblock: every member but the one at position (number mod width) (R269). -/
def dataMembers (n : Nat) (b : SbSt) : List Nat :=
  let w := b.members.length
  (List.range w).filterMap (fun i => if i = n % (if w = 0 then 1 else w) then none else b.members[i]?)

/-- The smallest run of slots that the FTL places together: a coarse unit in native mode, one slot in pseudo-SLC. -/
def State.grain (s : State) (native : Bool) : Nat := if native then s.unitSlots else 1

/-- Data slots of a superblock in its mode. -/
def State.sbSlots (s : State) (b : SbSt) : Nat :=
  let g := s.grain b.native
  (b.members.length - 1) * 2 ^ s.planesLog * (s.spbIn b.native / g) * g

/-- The slot address of the k-th data slot of a superblock: runs of a grain go round the data members and planes, and
each run takes consecutive codeword indices of one plane-block, aligned to the grain (R269, R275).
[DESIGN CHOICE, unsafe: log 103] -/
def State.slotAddr (s : State) (n : Nat) (b : SbSt) (k : Nat) : Nat :=
  let dm := dataMembers n b
  let g := s.grain b.native
  let lanes := dm.length * 2 ^ s.planesLog
  if lanes = 0 ∨ s.blocksPer = 0 then 0
  else
    let v := k / g
    let lane := v % lanes
    let i := g * (v / lanes) + k % g
    let plane := lane / dm.length
    let c := dm.getD (lane % dm.length) 0
    (128 * c + n / s.blocksPer) * 2 ^ 28 + (n % s.blocksPer * 2 ^ s.planesLog + plane) * s.spb + i

/-! ### Stripes (R269) -/

/-- Codeword positions of one plane in a program unit: one flash page in pseudo-SLC mode, the pages of one program in native mode. -/
def State.unitSpan (s : State) (native : Bool) : Nat := s.pageKib / 4 * (if native then s.bpc + 1 else 1)

/-- Data slots of one stripe of a superblock. [DEDUCED, unsafe: log 81] -/
def State.stripeSlots (s : State) (b : SbSt) : Nat := (b.members.length - 1) * 2 ^ s.planesLog * s.unitSpan b.native

/-- The stripe of a slot address. -/
def State.stripeOf (s : State) (a : Nat) : Nat := a % 2 ^ 28 % s.spb / s.unitSpan (s.sb (s.sbOf a)).native

/-- Of the first `f` slots of a superblock: the stripes that they fill, and those that they have begun. -/
def State.stripesFull (s : State) (b : SbSt) (f : Nat) : Nat :=
  let g := s.grain b.native
  g * (f / ((b.members.length - 1) * 2 ^ s.planesLog * g)) / s.unitSpan b.native
def State.stripesBegun (s : State) (b : SbSt) (f : Nat) : Nat :=
  let g := s.grain b.native
  cdiv (g * cdiv f ((b.members.length - 1) * 2 ^ s.planesLog * g)) (s.unitSpan b.native)

/-- Pairs of a superblock and each stripe from `a` on below `z`. -/
def stripeRange (n a z : Nat) : List (Nat × Nat) := (List.range (z - a)).map (fun i => (n, a + i))

/-- A stripe begins: its running XOR takes the buffers of a program unit from Stripe parity, as far as R342 grants them.
[DESIGN CHOICE, unsafe: log 220] -/
def State.xorOpen (s : State) (n u : Nat) : State :=
  let (bs, s) := (List.range (2 ^ s.planesLog * s.unitSpan (s.sb n).native)).foldl (fun (e : List Nat × State) _ =>
    let (c, t) := e.2.bufTake 5
    (if c = 0 then e.1 else e.1 ++ [c], t)) ([], s)
  { s with ftl := { s.ftl with xor := s.ftl.xor ++ [(n, u, bs)] } }

/-- Slots from `f` to `f'` of a superblock have been assigned: stripes begin, and the parity of the full ones is due. -/
def State.stripeStep (s : State) (n : Nat) (b : SbSt) (f f' : Nat) : State :=
  let s := (stripeRange n (s.stripesBegun b f) (s.stripesBegun b f')).foldl (fun s e => s.xorOpen e.1 e.2) s
  { s with ftl := { s.ftl with parDue := s.ftl.parDue ++ stripeRange n (s.stripesFull b f) (s.stripesFull b f') } }

/-- What the account holds of a stripe ends with the superblock's erase, and its running XOR once its parity is programmed. -/
def State.xorEnd (s : State) (n u : Nat) : State :=
  { s with ftl := { s.ftl with xor := s.ftl.xor.filter (fun e => decide ((e.1, e.2.1) ≠ (n, u))) } }
def State.stripesGone (s : State) (n : Nat) : State :=
  { s with ftl := { s.ftl with xor := s.ftl.xor.filter (fun e => decide (e.1 ≠ n)), parDue := s.ftl.parDue.filter (fun e => decide (e.1 ≠ n)),
                               noPar := s.ftl.noPar.filter (fun e => decide (e.1 ≠ n)) } }

/-! ### Pool accounting (R278) -/

/-- Erased superblocks that may be allocated: the listed ones, and for each die index those not listed. -/
def State.freeListed (s : State) : List (Nat × SbSt) := s.sbList.filter (fun e => decide (e.2.state = 0))

/-- Unlisted superblock numbers of a die index that are usable, counted. -/
def State.unlistedFree (s : State) (d : Nat) : Nat :=
  if (s.dieChans d).length < s.minW then 0
  else
    let listed := (s.sbList.filter (fun e => decide (e.1 / s.blocksPer = d) && !s.sbReserved e.1)).length
    s.blocksPer - (if d = 0 then 3 else 1) - listed

/-- Erased superblocks in all. -/
def State.freeAll (s : State) : Nat :=
  s.freeListed.length + ((List.range 128).map s.unlistedFree).sum

/-- Σ (w − 1) over superblocks that are not parked and not reserved. -/
def State.sumWidth (s : State) : Nat :=
  (((s.sbList.filter (fun e => decide (e.2.state ≠ 6) && !s.sbReserved e.1)).map (fun e => s.sbWidth e.1 e.2)).map (fun w =>
    if w < s.minW then 0 else w - 1)).sum +
  ((List.range 128).map (fun d => s.unlistedFree d * ((s.dieChans d).length - 1))).sum

/-- n, the channels in service. -/
def State.fullWidth (s : State) : Nat := s.chansUp.length

/-- D_slc, the data slots of a full pseudo-SLC superblock. -/
def State.dSlc (s : State) : Nat := (s.fullWidth - 1) * 2 ^ s.planesLog * s.spbIn false

/-- C_nat in MiB. -/
def State.cNat (s : State) : Nat := (s.fullWidth - 1) * 2 ^ s.planesLog * s.pagesPer * s.pageKib / 1024

/-- S of R278. -/
def State.poolS (s : State) : Nat := if s.fullWidth ≤ 1 then 0 else s.sumWidth / (s.fullWidth - 1)

/-- N_img of R278. -/
def State.nImg (s : State) : Nat := cdiv (s.hostPages * 5) (4 * s.dSlc)

/-- N_rsv of R279, with G_S the larger of the rated guarantee and G in force. -/
def State.nRsv (s : State) : Nat :=
  let g := max s.ftl.gRated (s.rd R.LDG_GUAR_G)
  let regions := cdiv s.hostPages 2048
  cdiv (g + cdiv g 819 + 289 + cdiv (16 * s.stgPages) 4096 + cdiv (512 * regions) 4096) s.dSlc

/-- Superblocks that hold namespace data (O_ns). -/
def State.oNs (s : State) : Nat :=
  (s.sbList.filter (fun e => decide (e.2.tenant = 1) &&
    (decide (e.2.state = 1) || decide (e.2.state = 2) || decide (e.2.state = 3)))).length

/-- N_ns of R278; only the superblocks in use while the namespaces are read-only (R299). -/
def State.nNsFull (s : State) : Nat :=
  cdiv (s.ergBase 0x04 48 0 * 1024 * (100 + s.ergBase 0x04 46 7)) (100 * s.cNat)
def State.nNs (s : State) : Nat := if s.on R.FTL_STAT_NS_RO then s.oNs else s.nNsFull

/-- N_sys. -/
def State.nSys (s : State) : Nat := s.ergBase 0x04 47 64

/-- P (R278), with the namespace need in force: while the namespaces are read-only it counts only the superblocks that hold their
data, so that a deletion may end the read-only state (R299). [DEDUCED, unsafe: log 221] -/
def State.poolP (s : State) : Int :=
  (s.poolS : Int) - (s.nImg : Int) - (s.nRsv : Int) - (s.nSys : Int) - (s.nNs : Int)

/-- Bring F, the reserve and GC urgency to what the pool holds (R279, R282). -/
def State.freeRefresh (s : State) : State :=
  let a := s.freeAll
  let n := s.rd R.FTL_NRSV_VAL
  let rsv := min a n
  let s := (s.wr R.FTL_FREE_F (a - rsv)).wr R.FTL_FRSV_RSV_FREE rsv
  let s := s.put R.FTL_STAT_RSV_SHORT (decide (a < n))
  let s := s.wr R.FTL_PEND_PEND ((s.sbList.filter (fun e => decide (e.2.state = 3))).length)
  s.put R.FTL_STAT_GC_URGENT (decide (a - rsv < s.rd R.FTL_GCTH_GC_URG) || decide (a < n) || decide (s.ftl.splitWait ≠ 0))

/-- The inequality of R300, with `m` superblocks of margin. -/
def State.imageShort (s : State) (m : Nat) : Bool :=
  decide ((s.poolS : Int) - (s.nSys : Int) - (s.oNs : Int) < ((cdiv s.hostPages s.dSlc + s.nRsv + m : Nat) : Int))

/-- Withdraw persistence (R300): the gate is disabled, the published guarantee is 0 and vendor event 0x0006 is raised. -/
def State.withdraw (s : State) : State :=
  let s := s.put R.FTL_STAT_WITHDRAWN true
  let s := s.gateOff.wr R.LDG_GPUB_G_PUB 0
  (s.cxlEvent 1 4 0x0006 [3]).note 0x07 1

/-- The part has flash channel `c`: the EB7416 has 16 of the 32, with their 2,048 dies (R2, Table 0-1). -/
def State.hasFch (s : State) (c : Nat) : Bool := decide (c < 16) || !s.on R.TOP_ID_PART

/-- Die `d` of channel `c` is declared by section 0x04 (R241, Table 9-7), on a channel that the part has (R2). -/
def State.dieDeclared (s : State) (c d : Nat) : Bool :=
  let v := s.ergBase 0x04 (4 + c) 0
  s.hasFch c && bit v (d / 8) && decide (d % 8 < bits v 16 4)

/-- Superblocks of the device: numbers of the dies that section 0x04 declares (R268). -/
def State.sbCount (s : State) : Nat :=
  ((List.range 128).filter (fun d => (List.range 32).any (fun c => s.dieDeclared c d))).length * s.blocksPer

/-- Stage 8 begins: the declared channels discover their dies, in SDR timing mode 0, and train (R238, R442). -/
def State.stage8 (s : State) : State :=
  ((List.range 32).filter (fun c => (List.range 128).any (s.dieDeclared c) && !bit (s.rd R.FCC_CHFENCE_FENCE) c)).foldl (fun s c =>
    ((s.wr R.FCH_STAT_STATE 3 c).wr R.FCH_STAT_MODE 0 c).wr R.FCH_STAT_RATE 0 c) (s.wr R.BST_STAT_STAGE 8)

/-- Σ (w − 1) over factory-good blocks: members retired in service count as standing (R278). -/
def State.sumWidthFactory (s : State) : Nat :=
  ((s.sbList.filter (fun e => !s.sbReserved e.1)).map (fun e => e.2.members.length + e.2.retired.length - 1)).sum +
  ((List.range 128).map (fun d =>
    let w := ((List.range 32).filter (fun c => s.dieDeclared c d)).length
    let listed := (s.sbList.filter (fun e => decide (e.1 / s.blocksPer = d) && !s.sbReserved e.1)).length
    if w < s.minW then 0 else (s.blocksPer - (if d = 0 then 3 else 1) - listed) * (w - 1))).sum

/-- P0: P with S taken over factory-good blocks (R278). -/
def State.poolP0 (s : State) : Nat :=
  let sf := if s.fullWidth ≤ 1 then 0 else s.sumWidthFactory / (s.fullWidth - 1)
  sf - s.nImg - s.nRsv - s.nSys - s.nNsFull

/-- Persistence is withdrawn as soon as the inequality of R300 holds. -/
def State.withdrawCheck (s : State) : State :=
  if !s.on R.FTL_STAT_WITHDRAWN && s.persistent && s.imageShort (s.rd R.FTL_GCTH_GC_URG) then s.withdraw else s

/-- Recompute S, N_img, N_rsv, N_ns, P, P0 and AVAIL, the read-only state (R299) and the image-pool condition (R278 to
R300). [DESIGN CHOICE, unsafe: log 197] -/
def State.account (s : State) : State :=
  let s := (((s.wr R.FTL_S_VAL s.poolS).wr R.FTL_NIMG_VAL s.nImg).wr R.FTL_NRSV_VAL s.nRsv)
  let p := s.poolP
  let s := s.put R.FTL_STAT_NS_RO (decide (p < 0))
  let s := (s.wr R.FTL_NNS_VAL s.nNs).wr R.FTL_SPARE_P (toField 32 p)
  let s := s.wr R.FTL_SPARE0_P0 s.poolP0
  let p0 := s.rd R.FTL_SPARE0_P0
  let av := if p0 = 0 then 0 else min 100 (p.toNat * 100 / p0)
  let s := s.wr R.FTL_AVAIL_AVAIL av
  let low := decide (av < s.rd R.FTL_AVAIL_SPARE_WARN)
  let s := if low && !s.on R.FTL_STAT_SPARE_LOW then s.note 0x07 3 else s
  (s.put R.FTL_STAT_SPARE_LOW low).freeRefresh.withdrawCheck

/-- P is recomputed whenever N_rsv changes (R278, R279). -/
def State.rsvFollow (s : State) : State :=
  if s.rd R.FTL_NRSV_VAL = s.nRsv ∨ s.rd R.FTL_S_VAL = 0 then s else s.account

/-- An element at rank p (0 to 100) of the order of a list and `z` zeros: the 75th percentile of R301 is the smallest value
that at least 75 % of the values do not exceed. -/
def percentile (p z : Nat) (vs : List Nat) : Nat :=
  let sorted := vs.foldl (fun m v => (m.takeWhile (· ≤ v)) ++ v :: m.dropWhile (· ≤ v)) []
  let k := cdiv ((z + sorted.length) * p) 100
  if k ≤ z then 0 else sorted.getD (k - z - 1) 0

/-- The wear range and the life figures (R286, R301), which show how far the progression of Table 9-6 has come (R298). -/
def State.wearRefresh (s : State) : State :=
  let closed := (s.sbList.filter (fun e => decide (e.2.state = 2))).map (fun e => e.2.wear)
  let all := (s.sbList.filter (fun e => decide (e.2.state ≠ 6) && decide (e.2.state ≠ 5))).map (fun e => e.2.wear)
  let mn := match closed with | [] => 0 | x :: m => m.foldl min x
  let mx := all.foldl max 0
  let rate := s.ergBase 0x04 44 60000
  let fresh := ((List.range 128).map s.unlistedFree).sum
  let img := percentile 75 0 ((s.sbList.filter (fun e => decide (e.2.tenant = 0) && decide (e.2.state ≠ 0))).map (fun e => e.2.wear))
  let s := (s.wr R.FTL_WEAR_WMIN (min mn 65535)).wr R.FTL_WEAR_WMAX (min mx 65535)
  let s := s.wr R.FTL_LIFE_LIFE_IMG (min 100 (cdiv (img * 100) rate))
  s.wr R.FTL_LIFE_PCT_USED (min 255 (cdiv (percentile 75 fresh all * 100) rate))

/-! ### Journal and scheduling -/

/-- Append a journal record (R291). -/
def State.jot (s : State) (kind : Nat) (args : List Nat) : State :=
  { s with ftl := { s.ftl with journal := s.ftl.journal ++ [{ kind := kind, args := args }], jpos := s.ftl.jpos + 1 } }

/-- Schedule a superblock for rewrite, once, in the order of scheduling (R282, R287). -/
def State.rewriteSched (s : State) (n : Nat) : State :=
  let b := s.sb n
  if b.rw ≠ 0 ∨ b.state = 0 ∨ 3 ≤ b.state then s
  else
    let s := s.setSb n { b with rw := s.ftl.rwSeq + 1 }
    { s with ftl := { s.ftl with rwSeq := s.ftl.rwSeq + 1 } }.inc R.FTL_RWS_RWS

/-! ### Allocation (R273) -/

/-- The cell mode and tenant of a stream: 0 image fresh, 1 save, 2 image relocation, 3 destage, 4 namespace relocation,
5 system, 6 the mirror of the system stream (R270, R273). [DESIGN CHOICE, unsafe: log 219] -/
def streamNative (t : Nat) : Bool := t == 3 || t == 4
def streamTenant (t : Nat) : Nat := if t ≤ 2 then 0 else if t ≤ 4 then 1 else 2

/-- The first unlisted usable superblock of a die index. -/
def State.firstUnlisted (s : State) (d : Nat) : Option Nat :=
  if s.unlistedFree d = 0 then none
  else
    let listed := s.sbList.filter (fun e => decide (e.1 / s.blocksPer = d))
    ((List.range (listed.length + 4)).map (fun p => d * s.blocksPer + p)).find? (fun n =>
      !s.sbReserved n && !listed.any (fun e => decide (e.1 = n)) && decide (n < (d + 1) * s.blocksPer))

/-- The system stream and its mirror are never open on the same die index (R270). -/
def State.barredDie (s : State) (t d : Nat) : Bool :=
  match (if t = 5 then smGet 0 s.ftl.opens 6 else if t = 6 then smGet 0 s.ftl.opens 5 else 0) with
  | 0 => false
  | n + 1 => decide (s.blocksPer ≠ 0) && decide (n / s.blocksPer = d)

/-- The free superblock a stream takes: lowest wear, or highest for a relocation stream; ties to the lower number
(R273). -/
def State.pickFree (s : State) (t : Nat) : Option Nat :=
  let may := (List.range 128).filter (fun d => !s.barredDie t d)
  let fresh := (may.filterMap s.firstUnlisted).head?
  let cands := (s.freeListed.filter (fun e => decide (s.blocksPer = 0) || may.contains (e.1 / s.blocksPer))).map (fun e => (e.1, e.2.wear)) ++
    (match fresh with | some n => [(n, 0)] | none => [])
  let better := fun (a b : Nat × Nat) =>
    if t = 2 ∨ t = 4 then b.2 < a.2 ∨ (a.2 = b.2 ∧ a.1 < b.1) else a.2 < b.2 ∨ (a.2 = b.2 ∧ a.1 < b.1)
  (cands.foldl (fun o e => match o with
    | none => some e
    | some x => if better e x then some e else some x) none).map (·.1)

/-- Whether a stream may open a superblock: the save streams of a power-fail save may take the reserve, every other
stream only a superblock outside it (R279). -/
def State.mayOpen (s : State) (t : Nat) : Bool :=
  if t = 1 ∧ (s.cvn.code = 1 ∨ s.cvn.code = 2) then decide (0 < s.freeAll)
  else decide (s.rd R.FTL_NRSV_VAL < s.freeAll)

/-- Close the open superblock of a stream (R291). -/
def State.closeSb (s : State) (t : Nat) : State :=
  match smGet 0 s.ftl.opens t with
  | 0 => s
  | k + 1 =>
    let b := s.sb k
    let s := { s with ftl := { s.ftl with parDue := s.ftl.parDue ++ stripeRange k (s.stripesFull b b.fill) (s.stripesBegun b b.fill) } }
    let s := s.setSb k { b with state := 2, closeTick := s.tick }
    ({ s with ftl := { s.ftl with opens := smSet 0 t 0 s.ftl.opens } }.jot 1 [k]).wearRefresh

/-- Close a superblock that is open. -/
def State.closeOf (s : State) (n : Nat) : State :=
  match s.ftl.opens.find? (fun e => decide (e.2 = n + 1)) with
  | some e => s.closeSb e.1
  | none => s

/-- Open a superblock for a stream: it takes the stream's tenant and cell mode, and the open is journaled; its first program waits
for that record, but in the system streams, which hold the journal itself, and in the save stream, whose superblocks the save's
checkpoint lists (R271, R291, R294). [DESIGN CHOICE, unsafe: log 218] -/
def State.openSb (s : State) (t : Nat) : State :=
  if !s.mayOpen t then s
  else match s.pickFree t with
  | none => s
  | some n =>
    let b := s.sb n
    let s := s.setSb n { b with state := 1, native := streamNative t, tenant := streamTenant t, stream := t, fill := 0,
                                reads := 0, openSeq := s.ftl.openSeq, group := if streamNative t then 4 else 0 }
    let s := { s with ftl := { s.ftl with opens := smSet 0 t (n + 1) s.ftl.opens, openSeq := s.ftl.openSeq + 1 } }
    let s := s.jot 0 [s.ftl.openSeq - 1, streamTenant t, t, b2n (streamNative t), n]
    let s := s.setSb n { s.sb n with recAt := if t = 1 ∨ 5 ≤ t then 0 else s.ftl.jpos }
    s.freeRefresh.withdrawCheck

/-- The open superblock of a stream with room for `k` slots from an aligned start, opening one if needed. -/
def State.roomFor (s : State) (t k : Nat) : Option Nat × State :=
  let fits := fun (s : State) => match smGet 0 s.ftl.opens t with
    | 0 => none
    | n + 1 => let b := s.sb n
               if cdiv b.fill k * k + k ≤ s.sbSlots b then some n else none
  match fits s with
  | some n => (some n, s)
  | none => let s := (s.closeSb t).openSb t
            (fits s, s)

/-- Assign `k` slots of a stream, aligned to `k`; the address of the first, and none when no superblock may be opened
(R273, R279). A superblock with no further slot closes. -/
def State.assign (s : State) (t k : Nat) : Option Nat × State :=
  match s.roomFor t k with
  | (none, s) => (none, s)
  | (some n, s) =>
    let b := s.sb n
    let at0 := cdiv b.fill k * k
    let s := s.setSb n { b with fill := at0 + k }
    let s := { s with ftl := { s.ftl with cpSlots := s.ftl.cpSlots + k },
                      drift := { s.drift with segAt := smSet 0 t s.tick s.drift.segAt } }
    let s := s.stripeStep n b b.fill (at0 + k)
    let s := if s.sbSlots b ≤ at0 + k then s.closeSb t else s
    (some (s.slotAddr n b at0), s)

/-! ### Save-capable throughput (R166 to R168) -/

/-- TP of a die in 0.1 µs, and whether it is measured (R166). -/
def State.tpOf (s : State) (k : Nat) : Nat × Bool :=
  let m := smGet [] s.drift.tprog k
  if m.length < 16 then (10 * (s.die k).slcTime, false)
  else (max (meanUp m) (meanUp (m.take 16)), true)

/-- The usable dies of a channel (R166). -/
def State.usableDies (s : State) (c : Nat) : List Nat :=
  ((List.range 128).map (dieKey c)).filter (fun k => s.dieUp k && !(s.die k).retired)

/-- DFT_TPROG of one die: its TP, and whether it is measured (R166). -/
def State.tprogReg (s : State) (k : Nat) : State :=
  let t := s.tpOf k
  (s.wr R.DFT_TPROG_TP (min t.1 65535) k).put R.DFT_TPROG_MEAS t.2 k

/-- DFT_TPROG of every die of a channel that discovery found. -/
def State.tprogRegs (s : State) (c : Nat) : State :=
  (((List.range 128).map (dieKey c)).filter (fun k => decide ((s.die k).state ≠ 0))).foldl (fun s k =>
    (s.tprogReg k).put R.DFT_TPROG_USABLE (s.dieUp k && !(s.die k).retired) k) s

/-- The rate of one channel of the stripe (R167). -/
def State.chanSave (s : State) (c : Nat) : Nat :=
  let slots := 2 ^ s.planesLog * (s.pageKib / 4)
  chanRate ((s.usableDies c).map (fun k => dieRate slots (s.tpOf k).1)).sum (s.rd R.FCH_STAT_RATE c)

/-- The groups with channels in the stripe, and their share of R167 for `n` channels. -/
def State.groupSave (s : State) (cs : List Nat) : List (Nat × Nat) :=
  ((List.range 8).filter (fun g => cs.any (fun c => decide (c / 4 = g)))).map (fun g =>
    let m := cs.filter (fun c => decide (c / 4 = g))
    (g, (m.map s.chanSave).sum * cs.length / m.length))

/-- The group of the least share (R167); the lower number of equals. -/
def slowest (m : List (Nat × Nat)) : Nat × Nat :=
  match m with
  | [] => (0, 0)
  | x :: xs => xs.foldl (fun a b => if b.2 < a.2 then b else a) x

/-- R_save and what Drift reports of the pool (R166 to R169). [DEDUCED, unsafe: log 68] -/
def State.rsaveNow (s : State) : State :=
  let cs := s.chansUp
  let s := (List.range 32).foldl (fun s c => s.tprogRegs c) s
  let g := slowest (s.groupSave cs)
  let n := cs.length
  let v := min (g.2 * (n - 1) / (if n = 0 then 1 else n)) (2 ^ 20 - 1)
  let ds := (cs.map s.usableDies).flatten
  let s := (s.wr R.DFT_RSAVE_RSAVE v).wr R.DFT_DMAX_DMAX (dmaxOf v (s.rd R.DFT_PACE_CAP))
  let s := ((s.wr R.DFT_POOL_DIES ds.length).wr R.DFT_POOL_NCH n).wr R.DFT_POOL_SLOW_GRP g.1
  let s := s.put R.DFT_STAT_MEASURED (ds.all (fun k => (s.tpOf k).2))
  if s.ledger.rSeen then s else { s with ledger := { s.ledger with rSeen := true, rPrev := v } }

/-- R_save is recomputed at once, and the ledger with it, when a die becomes usable or unusable or a channel's rate changes
(R168, R186). -/
def State.dieChanged (s : State) : State := s.rsaveNow.ledgerStart false

/-! ### Slots and maps -/

/-- The contents of a slot. -/
def State.slot (s : State) (a : Nat) : Option SlotC := smGet none s.ftl.slots a

/-- Write or erase a slot. -/
def State.setSlot (s : State) (a : Nat) (c : Option SlotC) : State :=
  { s with ftl := { s.ftl with slots := smSet none a c s.ftl.slots } }

/-- The class and urgency of a stream's programs (Table 8-4): save, image, destage, and the rest as media work. -/
def streamClass (t : Nat) : Nat := if t = 1 then 0 else if t = 0 then 3 else if t = 3 then 4 else 6

/-- A slot that is assigned and whose program is not yet issued: its page is still being read from DRAM. -/
def State.unissued (s : State) (n u : Nat) : Bool :=
  let here := fun (a : Nat) => decide (s.sbOf a = n) && decide (s.stripeOf a = u)
  s.nvm.stg.any (fun e => decide (e.2.dst = 1) && here e.2.addr && (s.pageJob (.destage e.1)).isSome) ||
  s.cvn.progs.any (fun x => decide (x.prog = 0) && here x.slot)

/-- The parity unit of a stripe goes to its member, that at position (superblock number mod width) (R269), in the class of its stream's
programs. -/
def State.parityIssue (s : State) (n u : Nat) : State :=
  let b := s.sb n
  let s := { s with ftl := { s.ftl with parDue := s.ftl.parDue.filter (fun e => decide (e ≠ (n, u))) } }
  let w := b.members.length
  match b.members[n % (if w = 0 then 1 else w)]? with
  | none => s.xorEnd n u
  | some c =>
    let k := dieKey c (if s.blocksPer = 0 then 0 else n / s.blocksPer)
    let p := if s.blocksPer = 0 then 0 else n % s.blocksPer
    s.fIssue k .program (streamClass b.stream) (decide (5 ≤ b.stream)) n
      (k * 2 ^ 28 + p * 2 ^ s.planesLog * s.spb + u * s.unitSpan b.native) (.parity n u)

/-- The parity of each full stripe is issued after every data unit of the stripe (R269). -/
def State.parityKick (s : State) : State :=
  s.ftl.parDue.foldl (fun s e => if s.unissued e.1 e.2 then s else s.parityIssue e.1 e.2) s

/-- Write one system-area slot of a KIND: the slot and its mirror, to two superblocks whose die indexes differ (R270, R280). -/
def State.sysWrite (s : State) (kind key gen : Nat) (data : List Host.Cell := []) : State :=
  [5, 6].foldl (fun s t => match s.assign t 1 with
    | (some a, s) =>
      let s := s.setSlot a (some { kind := kind, key := key, gen := gen, data := data, md := [], marks := [] })
      s.fIssue (addrDie a) .program 6 true (s.sbOf a) a (.system kind)
    | (none, s) => s) s

/-- The counters of a die that its lifetime sums keep: reads, programs, erases, soft decodes, retries, uncorrectable codewords,
program and erase failures, and suspends (R262). -/
def DieSt.counts (x : DieSt) : List Nat :=
  [x.reads, x.progs, x.erases, x.soft, x.retry, x.unc, x.pfail, x.efail, x.psus, x.esus]

/-- Lifetime sums of a die's counters: those up to the last cold boot and those since (R262, R301). -/
def State.lifeSums (s : State) (k : Nat) : List Nat :=
  let a := smGet [] s.ftl.life k
  ((s.die k).counts).mapIdx (fun i v => a.getD i 0 + v)

/-- A health record is written: the lifetime sums of each die's counters, 48 dies in each slot, as a die number of 4 B and ten sums
of 8 B (R301). The spec gives no layout. -/
def State.healthWrite (s : State) : State :=
  let s := { s with ftl := { s.ftl with healthRecs := s.ftl.healthRecs + 1 } }.wearRefresh
  let dies := s.flash.dies.map (·.1)
  (List.range (max 1 (cdiv dies.length 48))).foldl (fun s i =>
    s.sysWrite 0x24 i s.ftl.healthRecs (cellsOf (((dies.drop (48 * i)).take 48).flatMap (fun k =>
      leBytes 4 k ++ (s.lifeSums k).flatMap (leBytes 8))))) s

/-- Plane-blocks of a die that are retired. -/
def State.dieRetired (s : State) (k : Nat) : Nat :=
  (s.sbList.filter (fun e => decide (s.blocksPer ≠ 0) && decide (e.1 / s.blocksPer = k % 128) &&
    e.2.retired.contains (k / 128))).length

/-- A die with more than half of its blocks retired is retired; FTL_DIES counts it (R297). -/
def State.dieRetire (s : State) (k : Nat) : State :=
  if (s.die k).retired ∨ 2 * s.dieRetired k ≤ s.blocksPer then s
  else
    let s := s.setDie k { s.die k with retired := true }
    (s.wr R.FTL_DIES_DIES_RET (s.flash.dies.filter (fun e => e.2.retired)).length).dieChanged

/-- Retire members of a superblock: it narrows and is parked below MIN_W with its remaining members retired, the pool is
accounted again, a die may be retired with them, and a health record is written once the maps are loaded (R281, R296, R297,
R301). -/
def State.retireMembers (s : State) (n : Nat) (cs : List Nat) : State :=
  let b := s.sb n
  let gone := b.members.filter (fun c => cs.contains c)
  if gone.isEmpty then s
  else
    let m := b.members.filter (fun c => !cs.contains c)
    let park := decide (m.length < s.minW)
    let out := gone ++ (if park then m else [])
    let b' := { b with members := if park then [] else m, retired := b.retired ++ out,
                       state := if park then 6 else b.state, retireNext := [] }
    let s := (((s.setSb n b').addSat R.FTL_RETB_RETB (2 ^ s.planesLog * out.length)).jot 8 [n]).account
    let d := if s.blocksPer = 0 then 0 else n / s.blocksPer
    let s := out.foldl (fun s c => s.dieRetire (dieKey c d)) s
    if s.on R.FTL_STAT_MAP_IMG then s.healthWrite else s

/-- The map has changed since the last checkpoint (R292). -/
def State.mapTouched (s : State) : State := { s with ftl := { s.ftl with mapChanged := true } }

/-- The image fine map's entry of a host page. -/
def State.imgAt (s : State) (p : Nat) : Nat := smGet 0 s.ftl.img p

/-- Where the fine-map slice begins, in bytes from the coarse-map slice, which stands first (Table 4-2, R275). -/
def State.fmapBase (s : State) : Nat := ((List.range 8).map (fun c => s.rd R.DCH_CARVE0_CV_MAP c)).sum * 134217728

/-- Set it; the image fine map stands first in its slice (R275). -/
def State.setImg (s : State) (p a : Nat) : State :=
  (({ s with ftl := { s.ftl with img := smSet 0 p a s.ftl.img } }.mapTouched).chunkMark (4 * (p / 819) + 1)).mapIo (s.fmapBase + 5 * p)

/-- Deallocate a range of host pages: the entries become 0, no slot of a page of the range can be found again, and the
deallocation is journaled with its stream position (R165, R277). -/
def State.imgDealloc (s : State) (page n : Nat) : State :=
  let inR := fun (p : Nat) => decide (page ≤ p) && decide (p < page + n)
  let s := s.jot 5 [page, n, s.ftl.cpSlots]
  let s := (s.ftl.img.filter (fun e => inR e.1)).foldl (fun s e => s.chunkMark (4 * (e.1 / 819) + 1)) s
  { s with ftl := { s.ftl with
      img := smErase inR s.ftl.img,
      slots := s.ftl.slots.filter (fun e => match e.2 with
        | some c => decide (c.kind ≠ 0x01) || !inR c.key
        | none => true) } }.mapTouched

/-- The coarse entry of an index: 4 × ADDR + TYPE (Table 9-3). -/
def State.coarseAt (s : State) (i : Nat) : Nat := smGet 0 s.ftl.coarse i

/-- Set it. -/
def State.setCoarse (s : State) (i v : Nat) : State :=
  (({ s with ftl := { s.ftl with coarse := smSet 0 i v s.ftl.coarse } }.mapTouched).chunkMark (4 * (i / 819))).mapIo (5 * i)

/-- A fine entry. -/
def State.fineAt (s : State) (g e : Nat) : Nat := smGet 0 s.ftl.fine (64 * g + e)

/-- Set it; the groups stand behind the image fine map and the superblock table (R275). [DEDUCED, unsafe: log 106] -/
def State.setFine (s : State) (g e v : Nat) : State :=
  ({ s with ftl := { s.ftl with fine := smSet 0 (64 * g + e) v s.ftl.fine } }.mapTouched.chunkMark (4 * g + 3)).mapIo
    (s.fmapBase + 5 * (s.hostPages + 4 * s.sbCount + s.unitSlots * g + e))

/-- Bring FTL_FGRP to the groups in use. -/
def State.groupRefresh (s : State) : State := s.wr R.FTL_FGRP_GROUPS s.ftl.groups.length 0

/-- Release a fine group. -/
def State.freeGroup (s : State) (g : Nat) : State :=
  { s with ftl := { s.ftl with groups := s.ftl.groups.filter (fun e => decide (e.1 ≠ g)),
                               fine := smErase (fun k => decide (k / 64 = g)) s.ftl.fine } }.groupRefresh.chunkMark (4 * g + 3)

/-- Groups available (R275): what the fine-map slice holds beyond the image map and the superblock table. -/
def State.groupsMax (s : State) : Nat := s.rd R.FTL_FGRP_GROUPS 1

/-- The map entry of a namespace slot `x` in device-wide slot numbers (coarse index × unit + slot): a slot address, or 0
deallocated, 1 Staged, 2 Unrecovered (R274). -/
def State.nsEntry (s : State) (x : Nat) : Nat :=
  let u := s.unitSlots
  let c := s.coarseAt (x / u)
  if c % 4 = 1 then c / 4 * u + x % u
  else if c % 4 = 2 then s.fineAt (c / 4) (x % u)
  else 0

/-- Split a unit: take a free group and fill it from the coarse entry (R275). None while no group is free; folds then
become urgent. -/
def State.splitUnit (s : State) (i : Nat) : Option Nat × State :=
  let u := s.unitSlots
  let c := s.coarseAt i
  if c % 4 = 2 then (some (c / 4), s)
  else if s.groupsMax ≤ s.ftl.groups.length then
    (none, { s with ftl := { s.ftl with splitWait := s.ftl.splitWait + 1 } }.freeRefresh)
  else
    let g := ((List.range (s.ftl.groups.length + 1)).find? (fun g => !s.ftl.groups.any (fun e => decide (e.1 = g)))).getD 0
    let s := (List.range u).foldl (fun s e => if c % 4 = 1 then s.setFine g e (c / 4 * u + e) else s) s
    let s := { s with ftl := { s.ftl with groups := s.ftl.groups ++ [(g, i)] } }
    (some g, (s.setCoarse i (4 * g + 2)).groupRefresh)

/-- Set the entry of a namespace slot. A write to a unit being folded makes the fold's swap fail; the group becomes the
newest-written (R275). A group whose entries are all 0 is released, and a group whose entries are one aligned run becomes
a whole entry. -/
def State.setNsEntry (s : State) (x v : Nat) : State :=
  let u := s.unitSlots
  let i := x / u
  if v = 0 ∧ s.coarseAt i % 4 ≠ 1 ∧ s.coarseAt i % 4 ≠ 2 then s
  else match s.splitUnit i with
  | (none, s) => s
  | (some g, s) =>
    let s := s.setFine g (x % u) v
    let s := { s with ftl := { s.ftl with
      groups := s.ftl.groups.filter (fun e => decide (e.1 ≠ g)) ++ [(g, i)],
      folds := s.ftl.folds.map (fun f => if f.unit = i then { f with touched := true } else f) } }
    let es := (List.range u).map (s.fineAt g)
    if es.all (fun e => decide (e = 0)) then (s.setCoarse i 0).freeGroup g
    else
      let a := s.fineAt g 0
      if 0x100 ≤ a ∧ a % u = 0 ∧ (List.range u).all (fun e => decide (s.fineAt g e = a + e))
      then (s.setCoarse i (4 * (a / u) + 1)).freeGroup g
      else s

/-- A slot is valid while a map entry points to it or a write in progress would restore it; save and system slots while
they belong to an artefact that stands (R283). -/
def State.slotValid (s : State) (a : Nat) : Bool :=
  match s.slot a with
  | none => false
  | some c =>
    if c.kind = 0x01 then decide (s.imgAt c.key = a)
    else if c.kind = 0x10 ∨ c.kind = 0x11 then
      decide (s.nsEntry (c.key % 2 ^ 40) = a) || s.nvm.stg.any (fun e => decide (e.2.prev = a))
    else if c.kind = 0x22 then
      (match s.ftl.root with | some r => decide (r.seq = c.key) | none => false) ||
      (match s.ftl.cp with | some r => decide (r.seq = c.key) | none => false)
    else if c.kind = 0x25 then s.cvn.loss.isSome
    else if c.kind = 0x24 then decide (c.gen = s.ftl.healthRecs)
    else if c.kind = 0x23 then decide ((match s.ftl.root with | some r => r.jpos | none => 0) < c.gen)
    else if c.kind = 0x20 ∨ c.kind = 0x21 ∨ c.kind = 0x26 then
      s.ftl.slots.all (fun e => match e.2 with
        | some d => decide (d.kind ≠ c.kind) || decide (d.key ≠ c.key) || decide (d.gen ≤ c.gen)
        | none => true)
    else decide (c.kind ≠ 0x00)

/-- Valid slots of a superblock. -/
def State.validIn (s : State) (n : Nat) : List Nat :=
  (s.ftl.slots.filter (fun e => decide (s.sbOf e.1 = n) && s.slotValid e.1)).map (·.1)

/-- The parts of the two newest complete snapshots and the newest save's artefacts keep their superblocks from being
victims (R235, R284). -/
def State.sbProtected (s : State) (n : Nat) : Bool :=
  s.ftl.slots.any (fun e => decide (s.sbOf e.1 = n) && (match e.2 with
    | some c => decide (c.kind = 0x03)
    | none => false))

/-- The score of a closed superblock (R283). -/
def State.gcScore (s : State) (n : Nat) (b : SbSt) : Nat :=
  let slots := s.sbSlots b
  let rate := s.ergBase 0x04 44 60000
  let v := if slots = 0 then 0 else (s.validIn n).length * 65536 / slots
  let a := min 65535 ((s.tick - b.closeTick) / 32768)
  let x := min 65535 (b.wear * 65536 / (if rate = 0 then 1 else rate))
  s.rd R.FTL_GCW_W_V * v + s.rd R.FTL_GCW_W_A * (65535 - a) + s.rd R.FTL_GCW_W_W * x

/-- The next victim: superblocks scheduled for rewrite, oldest scheduling first, then closed ones by lowest score, ties to
the lower number (R282, R284). -/
def State.pickVictim (s : State) : Option Nat :=
  let closed := s.sbList.filter (fun e => decide (e.2.state = 2) && !s.sbProtected e.1 && !s.sbReserved e.1)
  let least := fun (f : Nat × SbSt → Nat) (m : List (Nat × SbSt)) => (m.foldl (fun o e => match o with
    | none => some e
    | some x => if f e < f x then some e else some x) none).map (·.1)
  match least (fun e => e.2.rw) (closed.filter (fun e => decide (e.2.rw ≠ 0))) with
  | some n => some n
  | none => least (fun e => s.gcScore e.1 e.2) closed

/-- Issue the relocation reads of a victim's valid slots (R284); a victim without any is pending erase at once. -/
def State.startVictim (s : State) (n : Nat) (wl : Bool) : State :=
  let s := { s with ftl := { s.ftl with victim := n + 1, victimWl := wl } }
  let vs := s.validIn n
  if vs.isEmpty then
    let b := s.sb n
    let s := s.setSb n { b with state := 3, movedSeq := s.ftl.jpos }
    { s with ftl := { s.ftl with victim := 0, victimWl := false } }.freeRefresh
  else
    let urg := !wl && s.on R.FTL_STAT_GC_URGENT
    vs.foldl (fun s a => s.fIssue (addrDie a) .read 6 urg n a (.reloc a)) s

/-- The next closed superblock that a Format or Sanitize waits to see erased (R314, R315). [DEDUCED, unsafe: log 118] -/
def State.eraseNext (s : State) : Option Nat :=
  (s.ftl.eraseWait.flatMap (·.2)).find? (fun n => decide ((s.sb n).state = 2) && !s.sbProtected n && !s.sbReserved n)

/-- Take the next victim when none is being relocated: a superblock that a Format or Sanitize waits for is relocated whatever
F is, since the operation erases it; else the next victim of garbage collection while it runs, until GC_STOP (R282, R314,
R315). -/
def State.gcNext (s : State) : State :=
  if s.ftl.victim ≠ 0 then s
  else match s.eraseNext with
  | some n => s.startVictim n false
  | none =>
  if !s.on R.FTL_STAT_GC_ACT then s
  else if s.rd R.FTL_GCTH_GC_STOP ≤ s.rd R.FTL_FREE_F then s.put R.FTL_STAT_GC_ACT false
  else match s.pickVictim with
  | none => s
  | some n => s.startVictim n false

/-- Static wear levelling takes its next superblock: the least-worn closed one, ties to the oldest close, while the spread
exceeds WL_SPREAD, or 7/8 of it once it runs (R286). -/
def State.wlNext (s : State) : State :=
  let lim := s.rd R.FTL_WL_WL_SPREAD * (if s.on R.FTL_STAT_WL_BUSY then 7 else 8) / 8
  if s.ftl.victim ≠ 0 then s
  else if s.rd R.FTL_WEAR_WMAX - s.rd R.FTL_WEAR_WMIN ≤ lim then s.put R.FTL_STAT_WL_BUSY false
  else
    let closed := s.sbList.filter (fun e => decide (e.2.state = 2) && !s.sbProtected e.1)
    match closed.foldl (fun o e => match o with
      | none => some e
      | some (x : Nat × SbSt) => if e.2.wear < x.2.wear ∨ (e.2.wear = x.2.wear ∧ e.2.closeTick < x.2.closeTick)
        then some e else some x) none with
    | none => s
    | some e => (s.put R.FTL_STAT_WL_BUSY true).startVictim e.1 true

/-- A relocation victim whose last valid slot has moved is pending erase (R285); garbage collection, or wear levelling where it
runs alone, goes on (R282, R286). -/
def State.victimEmptied (s : State) : State :=
  match s.ftl.victim with
  | 0 => s
  | n + 1 =>
    if (s.validIn n).isEmpty && !s.flash.ops.any (fun o => decide (o.sb = n) &&
        (match o.src with | .reloc _ => true | _ => false)) then
      let b := s.sb n
      let s := s.setSb n { b with state := 3, movedSeq := s.ftl.jpos }
      let s := { s with ftl := { s.ftl with victim := 0, victimWl := false } }.freeRefresh.wearRefresh.gcNext
      if s.on R.FTL_STAT_WL_BUSY then s.wlNext else s
    else s

/-- Start the erase of a pending victim: one operation a member, and the start is journaled; the erase waits for
that record (R285). -/
def State.startErase (s : State) (n : Nat) : State :=
  let b := s.sb n
  let s := s.jot 2 [n]
  let s := s.setSb n { b with erasing := true, recAt := s.ftl.jpos }
  let d := if s.blocksPer = 0 then 0 else n / s.blocksPer
  (b.members.filter (fun c => s.dieUp (dieKey c d))).foldl (fun s c => s.fIssue (dieKey c d) .erase 6 (s.on R.FTL_STAT_GC_URGENT) n 0 (.erase n)) s

end Sys2Proof.Machine
end

