-- ==== Sys2Proof/Machine/NvmOps.lean ====
section
/-!
DEFINITION. The shared operations of the NVMe service: functions and queues (R302, R303), events to hosts (R321), the
effective write mode (R315 to R321), completions and tags (R304), range locks (R322 to R324), the staging directory and
its pages (R276, R317, R318, R334), protection information (R312, R313) and the progress of each command.
-/
namespace Sys2Proof.Machine

/-! ### Functions -/

/-- Virtual functions of a port (Table 10-1). -/
def State.vfs (s : State) (port : Nat) : Nat := if port = 0 then s.ergBase 0x02 0 0 else s.ergBase 0x02 1 0

/-- A function of the image's allotment. The physical function of each port by controller ID: PF A is 0 and PF B 1, then the VFs
of PF A, then of PF B. -/
def State.fnAllotted (s : State) (fn : Nat) : Bool :=
  decide (fn = 0) || (decide (fn = 1) && decide (s.ergBase 0x01 0 0 ≠ 0)) || (decide (2 ≤ fn) && decide (fn < 2 + s.vfs 0 + s.vfs 1))

/-- The port of a function. -/
def State.fnPort (s : State) (fn : Nat) : Nat := if fn ≤ 1 then fn else if fn < 2 + s.vfs 0 then 0 else 1

/-- A function of an active port (R73). -/
def State.fnPresent (s : State) (fn : Nat) : Bool :=
  (decide (fn ≤ 1) || decide (fn < 2 + s.vfs 0 + s.vfs 1)) && s.on R.HP_STAT_ACTIVE (s.fnPort fn)

/-- Every function of the allotment: function 1 of LD 0 of each active port, and the virtual functions (R73). -/
def State.fnIds (s : State) : List Nat := (List.range (2 + s.vfs 0 + s.vfs 1)).filter s.fnPresent

/-- A physical function. -/
def isPf (fn : Nat) : Bool := decide (fn ≤ 1)

/-- I/O queue pairs allotted to a function, and its MSI-X vectors (Table 10-1). -/
def State.fnQp (s : State) (fn : Nat) : Nat := if isPf fn then s.ergBase 0x02 2 256 else s.ergBase 0x02 3 16
def State.fnVec (s : State) (fn : Nat) : Nat := if isPf fn then s.ergBase 0x02 4 257 else s.ergBase 0x02 5 17
def State.cmdMax (s : State) : Nat := s.ergBase 0x02 6 4096
def State.mqes (s : State) : Nat := s.ergBase 0x02 7 16384

/-- A function. -/
def State.fn (s : State) (f : Nat) : FnSt := smGet fnInit s.nvm.fns f

/-- Replace a function. -/
def State.setFn (s : State) (f : Nat) (x : FnSt) : State :=
  { s with nvm := { s.nvm with fns := smSet fnInit f x s.nvm.fns } }

/-- A feature of a function, or its default. -/
def FnSt.feat (x : FnSt) (fid dflt : Nat) : Nat := match smGet 0 x.feats fid with | 0 => dflt | v + 1 => v

/-- Set a feature. -/
def FnSt.setFeat (x : FnSt) (fid v : Nat) : FnSt := { x with feats := smSet 0 fid (v + 1) x.feats }

/-- Post an entry of a submission queue on its completion queue: the tail advances and the queue's vector interrupts.
[PRESUMED, unsafe: log 109] -/
def State.cqPost (s : State) (f q cq cid sct sc : Nat) (data : List Nat) : State :=
  let s := s.emit (.cqe f q cid sct sc data)
  let x := s.fn f
  let s := s.setFn f { x with cqs := x.cqs.map (fun e =>
    if e.1 = cq then (cq, { e.2 with tail := (e.2.tail + 1) % (if e.2.size = 0 then 1 else e.2.size) }) else e) }
  match x.cqs.find? (fun e => decide (e.1 = cq)) with
  | some e => if e.2.ien then s.emit (.msix (s.fnPort f) (1000 + f) e.2.vec) else s
  | none => s

/-- Report an asynchronous event to a function: it completes an outstanding request, or waits for one. The word holds
type in bits 2:0, information in bits 15:8 and log page in bits 23:16. -/
def State.aen (s : State) (f w : Nat) : State :=
  let x := s.fn f
  match x.aers with
  | t :: m =>
    let cid := match s.nvm.cmds.find? (fun e => decide (e.1 = t)) with | some e => e.2.cid | none => 0
    let s := { s with nvm := { s.nvm with cmds := s.nvm.cmds.filter (fun e => decide (e.1 ≠ t)) } }
    ((s.setFn f { x with aers := m }).cqPost f 0 0 cid 0 0 [w]).wr R.NVC_CMD_INFL s.nvm.cmds.length
  | [] => if x.events.contains w then s else s.setFn f { x with events := x.events ++ [w] }

/-- Namespace Attribute Changed: the changed-namespace list of each controller attached, and a notice where Asynchronous
Event Configuration asks for it (R311, R328). -/
def State.nsChanged (s : State) (ns : Nat) (fs : List Nat) : State :=
  fs.foldl (fun s f =>
    let x := s.fn f
    let s := s.setFn f { x with changed := setIns ns x.changed }
    if bit (x.feat 0x0B 0) 8 then s.aen f 0x040002 else s) s

/-! ### Namespaces -/

/-- A namespace. -/
def State.ns (s : State) (n : Nat) : NsSt := smGet nsInit s.nvm.nss n

/-- Replace a namespace. -/
def State.setNs (s : State) (n : Nat) (x : NsSt) : State :=
  { s with nvm := { s.nvm with nss := smSet nsInit n x s.nvm.nss } }

/-- A namespace exists. -/
def State.nsUp (s : State) (n : Nat) : Bool := decide ((s.ns n).units ≠ 0)

/-- Bytes of an LBA, of its metadata and of its protection information by format (Table 10-6). -/
def lbaBytes (f : Nat) : Nat := if f = 0 ∨ f = 2 then 512 else 4096
def mdBytes (f : Nat) : Nat := if f ≤ 1 then 0 else if f ≤ 3 then 8 else if f ≤ 5 then 16 else 64
def piBytes (f : Nat) : Nat := if f ≤ 1 then 0 else if f ≤ 3 then 8 else 16

/-- LBAs in a 4 KiB slot. -/
def lbasPerSlot (f : Nat) : Nat := 4096 / lbaBytes f

/-- The device-wide slot of a namespace's slot: coarse index × slots of a unit + slot (R274). -/
def State.devSlot (s : State) (x : NsSt) (k : Nat) : Nat := x.base * s.unitSlots + k

/-- The cause of write-through: configured, persistence absent, STG_OFF, in that order (Write modes). -/
def State.modeCause (s : State) (x : NsSt) : Nat :=
  if x.cfgWt then 1
  else if 2 ≤ s.persState then 3
  else if s.on R.LDG_STAT_STG_OFF then 2
  else 0

/-- Raise the write-mode event on a controller, at most one per 1,024 ticks; later ones are coalesced (R321). -/
def State.modeEvent (s : State) (f : Nat) : State :=
  let x := s.fn f
  if !bit (x.feat 0xC1 3) 0 then s
  else if x.modeAt = 0 ∨ x.modeAt + 1023 ≤ s.tick then
    (s.setFn f { x with modeAt := s.tick + 1, modePend := false }).aen f 0xC00007
  else s.setFn f { x with modePend := true }

/-- One namespace takes its effective mode (R321). -/
def State.modeOf (s : State) (n : Nat) : State :=
  let x := s.ns n
  let c := s.modeCause x
  let wt := decide (c ≠ 0)
  if x.units = 0 ∨ (x.effWt = wt ∧ x.cause = c) then s
  else if x.effWt = wt then s.setNs n { x with cause := c }
  else
    let s := s.setNs n { x with effWt := wt, cause := c, last := s.tick }
    let s := { s with nvm := { s.nvm with lastMode := s.tick } }
    let s := if wt then s.inc R.NVC_SWCNT_SWITCHES else s
    x.ctrls.foldl (fun s f => s.modeEvent f) s

/-- Every namespace takes its effective mode, and the engine's status follows; an enabled function becomes ready once boot has
ended and the device serves SL4 (R306, R321). -/
def State.modeRefresh (s : State) : State :=
  let s := (s.nvm.nss.map (·.1)).foldl (fun s n => s.modeOf n) s
  let s := s.put R.NVC_STAT_STG_OFF (s.on R.LDG_STAT_STG_OFF)
  let s := s.put R.NVC_STAT_PERS_ABS (decide (2 ≤ s.persState))
  let s := s.put R.NVC_STAT_RUN (decide (s.level = 4))
  let s := if s.on R.BST_STAT_DONE && decide (s.level = 4) && s.nvm.fns.any (fun e => e.2.en && !e.2.rdy) then
      { s with nvm := { s.nvm with fns := s.nvm.fns.map (fun e => (e.1, { e.2 with rdy := e.2.rdy || e.2.en })) } }
    else s
  s.wr R.NVC_WTN_WT_NS ((s.nvm.nss.filter (fun e => decide (e.2.units ≠ 0) && e.2.effWt)).length)

/-! ### Commands -/

/-- A command by tag. -/
def State.cmd (s : State) (t : Nat) : Option CmdSt := (s.nvm.cmds.find? (fun e => decide (e.1 = t))).map (·.2)

/-- Replace a command. -/
def State.setCmd (s : State) (t : Nat) (c : CmdSt) : State :=
  { s with nvm := { s.nvm with cmds := s.nvm.cmds.map (fun e => if e.1 = t then (t, c) else e) } }

/-- Tags held by a function. -/
def State.fnInfl (s : State) (f : Nat) : Nat := (s.nvm.cmds.filter (fun e => decide (e.2.fn = f))).length

/-- An I/O command of write class (R320, R329). -/
def CmdSt.writeClass (c : CmdSt) : Bool :=
  decide (c.sq ≠ 0) && (decide (c.opc = 1) || decide (c.opc = 4) || decide (c.opc = 8) || decide (c.opc = 9))

/-- An I/O command that takes range locks (R322). -/
def CmdSt.locks (c : CmdSt) : Bool := decide (c.sq ≠ 0) && decide (c.opc ≠ 0)

/-- Lock entries a command needs: one, or one a range (R322). -/
def CmdSt.lockRanges (c : CmdSt) : List (Nat × Nat) := if c.opc = 9 then c.ranges else [(c.slba, c.nlb)]

/-- The counts of NVC_CMD, NVC_LOCK, NVC_STALL, NVC_STGU and NVC_LOSSNS follow what is held. -/
def State.nvmRefresh (s : State) : State :=
  let s := s.wr R.NVC_CMD_INFL s.nvm.cmds.length
  let s := s.wr R.NVC_LOCK_LOCK_USED s.nvm.locks.length
  let s := s.wr R.NVC_LOCK_LOCK_WAIT ((s.nvm.cmds.filter (fun e => decide (e.2.stage = .waitLock) &&
    s.nvm.locks.any (fun l => decide (l.tag = e.1)))).length)
  let s := s.wr R.NVC_STALL_SQ_STALL ((s.nvm.fns.map (fun e => (e.2.sqs.filter (fun q => q.2.stalled)).length)).sum)
  let s := s.wr R.NVC_STGU_STG_USED s.nvm.stg.length
  let s := s.wr R.NVC_LOSSNS_NS_STG ((s.nvm.nss.filter (fun e => e.2.lossStg)).length)
  s.wr R.NVC_LOSSNS_NS_UNK ((s.nvm.nss.filter (fun e => e.2.lossUnk)).length)

/-- Stall or release a submission queue (R324). -/
def State.setStall (s : State) (f q : Nat) (b : Bool) : State :=
  let x := s.fn f
  s.setFn f { x with sqs := x.sqs.map (fun e => if e.1 = q then (q, { e.2 with stalled := b }) else e) }

/-- Release the range-lock entries of a command (R323). -/
def State.unlock (s : State) (t : Nat) : State :=
  { s with nvm := { s.nvm with locks := s.nvm.locks.filter (fun l => decide (l.tag ≠ t)) } }

/-! ### Staging -/

/-- A staging page by number. -/
def State.stgAt (s : State) (n : Nat) : Option StgSt := (s.nvm.stg.find? (fun e => decide (e.1 = n))).map (·.2)

/-- Replace a staging page. -/
def State.setStg (s : State) (n : Nat) (x : StgSt) : State :=
  { s with nvm := { s.nvm with stg := s.nvm.stg.map (fun e => if e.1 = n then (n, x) else e) } }

/-- Free a staging page; a page of the held set leaves it in the same step (R149, R276, R277). -/
def State.freeStg (s : State) (n : Nat) : State :=
  match s.stgAt n with
  | none => s
  | some x =>
    let s := { s with nvm := { s.nvm with stg := s.nvm.stg.filter (fun e => decide (e.1 ≠ n)) } }
    let s := (s.pageDrop (.staging n)).pageDrop (.destage n)
    if x.held then s.stgSub 1 else s

/-- The staging page that the directory maps a namespace slot to: the newest in which its write's data stands (R276, R36). -/
def State.stgFind (s : State) (ns k : Nat) : Option Nat :=
  (s.nvm.stg.foldl (fun o e =>
    if e.2.ns = ns ∧ e.2.slot = k ∧ e.2.full then
      match o with
      | none => some e
      | some x => if x.2.wseq ≤ e.2.wseq then some e else some x
    else o) none).map (·.1)

/-- Restore the slot of a torn-down write's staging page: the map entry and directory return to the value held with its
reservation, or take its new contents if its program has completed (R276, R334). -/
def State.restoreStg (s : State) (n : Nat) : State :=
  match s.stgAt n with
  | none => s
  | some x =>
    let newest := decide (s.stgFind x.ns x.slot = some n)
    let s := s.freeStg n
    if newest then
      let v := match s.stgFind x.ns x.slot with | some _ => 1 | none => if x.dst = 2 then x.addr else if x.prev = 1 then 0 else x.prev
      s.setNsEntry (s.devSlot (s.ns x.ns) x.slot) v
    else s

/-- Every staging page of a command is returned (R334). -/
def State.restoreAll (s : State) (t : Nat) : State :=
  ((s.nvm.stg.filter (fun e => decide (e.2.tag = t + 1))).map (·.1)).foldl (fun s n => s.restoreStg n) s

/-- A Format or deletion that ends before it has begun leaves its namespace open (R311, R314, R330). [DEDUCED, unsafe: log 124] -/
def State.reopenNs (s : State) (c : CmdSt) : State :=
  if c.sq = 0 ∧ (c.opc = 0x80 ∨ c.opc = 0x0D) ∧ c.stage = .waitCmds ∧ s.nsUp c.nsid then
    s.setNs c.nsid { s.ns c.nsid with closed := 0 }
  else s

/-- The reads of a command that has ended have no requester; nothing waits on their results. -/
def State.orphan (s : State) (t : Nat) : State :=
  let f := fun (o : FOp) => match o.src with
    | .nvm u _ => if u = t then { o with src := .scan o.sb } else o
    | _ => o
  let mine := fun (j : PageIo) => match j.src with | .nvm u _ => decide (u = t) | _ => false
  { s with flash := { s.flash with ops := s.flash.ops.map f, extra := s.flash.extra.map f },
           dram := { s.dram with pages := s.dram.pages.filter (fun j => !mine j) },
           ftl := { s.ftl with eraseWait := s.ftl.eraseWait.filter (fun e => decide (e.1 ≠ t)) } }

/-- Post a command's completion: its entries, tag and queue are released, and its staging pages stand as completed data
(R304, R317, R323). -/
def State.nvmDone (s : State) (t sct sc : Nat) (data : List Nat := []) : State :=
  match s.cmd t with
  | none => s
  | some c =>
    let s := s.cqPost c.fn c.sq c.cq c.cid sct sc data
    let s := { s with nvm := { s.nvm with
      cmds := s.nvm.cmds.filter (fun e => decide (e.1 ≠ t)),
      stg := s.nvm.stg.map (fun (e : Nat × StgSt) => if e.2.tag = t + 1 then (e.1, { e.2 with tag := 0 }) else e) } }
    -- a destage that a completed write has replaced is cancelled if it has no slot (R276)
    let olds := if c.stgs.isEmpty then [] else s.nvm.stg.filter (fun (e : Nat × StgSt) => decide (e.2.tag = 0) && decide (e.2.dst = 0) &&
      c.stgs.any (fun k => match s.stgAt k with
        | some y => decide (y.ns = e.2.ns) && decide (y.slot = e.2.slot) && decide (e.2.wseq < y.wseq)
        | none => false))
    let s := olds.foldl (fun s e => s.freeStg e.1) s
    let s := s.orphan t
    let s := if sct = 2 ∧ sc = 0x81 then { s with nvm := { s.nvm with mediaErr := s.nvm.mediaErr + 1 } } else s
    ((s.unlock t).setStall c.fn c.sq false).nvmRefresh

/-- An Error Information entry: at most 64 a controller (R326, Table 10-4). -/
def State.nvmError (s : State) (t sct sc lba : Nat) : State :=
  match s.cmd t with
  | none => s
  | some c =>
    let x := s.fn c.fn
    s.setFn c.fn { x with errCnt := x.errCnt + 1,
                          errs := ([x.errCnt + 1, c.sq, c.cid, sct * 256 + sc, c.nsid, lba] :: x.errs).take 64 }

/-- Tear a command down without a completion: its staging returns what it held, its tag and entries are released (R334,
R345). -/
def State.nvmTear (s : State) (t : Nat) : State :=
  let s := s.restoreAll t
  match s.cmd t with
  | none => s
  | some c =>
    let s := (s.reopenNs c).orphan t
    let s := { s with nvm := { s.nvm with cmds := s.nvm.cmds.filter (fun e => decide (e.1 ≠ t)) } }
    let s := s.bufDrop (65536 + t)
    ((s.unlock t).setStall c.fn c.sq false).nvmRefresh

/-! ### Protection information (R312, R313) -/

/-- The 16-bit T10-DIF guard (polynomial 0x8BB7). -/
def guard16 (bs : List Nat) : Nat := bs.foldl (crcByteN 16 0x8BB7) 0

/-- The 64-bit NVMe guard (reflected polynomial). -/
def guard64 (bs : List Nat) : Nat := Nat.xor (bs.foldl (crcByteR 0x9A6C9329AC4BC9B5) (2 ^ 64 - 1)) (2 ^ 64 - 1)

/-- The guard of an LBA by format. -/
def guardOf (f : Nat) (bs : List Nat) : Nat :=
  if f ≤ 3 then guard16 bs else if f = 4 then crc32c bs else guard64 bs

/-- Width of the guard, the application tag and the reference tag in bytes: 2/2/4, 4/2/10 low 4 used, 8/2/6. -/
def guardW (f : Nat) : Nat := if f ≤ 3 then 2 else if f = 4 then 4 else 8
def refW (f : Nat) : Nat := if f ≤ 3 then 4 else if f = 4 then 10 else 6

/-- A big-endian number of bytes. -/
def ofBe (bs : List Nat) : Nat := bs.foldl (fun v b => 256 * v + b % 256) 0

/-- Protection fields of a command: PRACT and PRCHK (bits 3:0), initial reference tag, application tag, its mask. -/
def protAt (p : List Nat) (k : Nat) : Nat := p.getD k 0

/-- Check one LBA's protection information; 0 when it passes, else the status code (R313). An application tag of 0xFFFF
disables checking (for type 3, with a reference tag of ones). -/
def piCheck (f pit : Nat) (pil : Bool) (p : List Nat) (lba k : Nat) (data md : List Nat) : Nat :=
  let off := if pil then 0 else mdBytes f - piBytes f
  let pb := (md.drop off).take (piBytes f)
  let g := ofBe (pb.take (guardW f))
  let at0 := ofBe ((pb.drop (guardW f)).take 2)
  let rf := ofBe ((pb.drop (guardW f + 2)).take (refW f))
  let m := 256 ^ refW f
  if at0 = 0xFFFF ∧ (pit ≠ 3 ∨ rf = m - 1) then 0
  else if bit (protAt p 0) 2 ∧ g ≠ guardOf f (data ++ md.take off) then 0x82
  else if bit (protAt p 0) 1 ∧ Nat.land at0 (protAt p 3) ≠ Nat.land (protAt p 2) (protAt p 3) then 0x83
  else if bit (protAt p 0) 0 ∧ pit ≠ 3 ∧ rf ≠ (if pit = 1 then lba else protAt p 1 + k) % m then 0x84
  else 0

/-- The protection bytes that the device inserts when PRACT is 1 (R313). -/
def piMake (f pit : Nat) (pil : Bool) (p : List Nat) (lba k : Nat) (data md : List Nat) : List Nat :=
  let off := if pil then 0 else mdBytes f - piBytes f
  let g := guardOf f (data ++ md.take off)
  let rf := (if pit = 1 then lba else protAt p 1 + k) % 256 ^ refW f
  (leBytes (guardW f) g).reverse ++ (leBytes 2 (protAt p 2)).reverse ++ (leBytes (refW f) rf).reverse

/-- The first failing check over the LBAs of a command, as (status code, LBA). -/
def piScan (f pit : Nat) (pil : Bool) (p : List Nat) (slba nlb : Nat) (data md : List Nat) : Option (Nat × Nat) :=
  if piBytes f = 0 ∨ pit = 0 then none
  else (List.range nlb).findSome? (fun k =>
    let e := piCheck f pit pil p (slba + k) k ((data.drop (k * lbaBytes f)).take (lbaBytes f))
      ((md.drop (k * mdBytes f)).take (mdBytes f))
    if e = 0 then none else some (e, slba + k))

/-- The byte at an offset of sparse cells. -/
def cellAt (m : List Host.Cell) (k : Nat) : Nat := (smGet 0 m k).toNat

end Sys2Proof.Machine
end

