-- ==== Sys2Proof/Machine/NvmRun.lean ====
section
/-!
DEFINITION. The progress of NVMe I/O commands through range locks, staging, flash reads, merges and destage (R276, R313,
R316 to R326, R329; R23, R35 and R36: all write data is staged first, a staged page is held until its destage is confirmed, and a
staged range is read from staging), and of the admin commands that wait for other commands (R311, R314, R315, R320).
-/
namespace Sys2Proof.Machine

/-- 4 KiB slots of a namespace that a range of LBAs touches. -/
def slotsOf (x : NsSt) (slba nlb : Nat) : List Nat :=
  let k := lbasPerSlot x.lbaf
  if nlb = 0 then [] else (List.range ((slba + nlb - 1) / k + 1 - slba / k)).map (· + slba / k)

/-- Whether a range covers a whole slot. -/
def coversSlot (x : NsSt) (slba nlb k : Nat) : Bool :=
  let n := lbasPerSlot x.lbaf
  decide (slba ≤ k * n) && decide ((k + 1) * n ≤ slba + nlb)

/-- Where the contents of a namespace slot stand (R325): in a staging page, on flash by its map entry, or nowhere, deallocated. -/
inductive SlotAt where
  | staged (n : Nat) (y : StgSt)
  | flash (a : Nat)
  | none
  deriving DecidableEq, Repr

/-- Where the contents of a namespace slot stand now (R36, R325). -/
def State.slotNow (s : State) (ns k : Nat) : SlotAt :=
  match (s.stgFind ns k).bind (fun n => (s.stgAt n).map (fun y => (n, y))) with
  | some (n, y) => .staged n y
  | none =>
    let e := s.nsEntry (s.devSlot (s.ns ns) k)
    if e = 0 then .none else .flash e

/-- A deallocated slot reads as zeros, its metadata bytes as 0xFF (R325). -/
def blankSlot : List Host.Cell × List Host.Cell := ([], cellsOf (List.replicate 512 255))

/-- What stands for the rest of an Unrecovered slot that a write covers in part: free values (R319, R326).
[DESIGN CHOICE, safe: log 210] -/
def lostSlot (w k : Nat) : List Host.Cell × List Host.Cell :=
  (cellsOf ((List.range 4096).map (Config.lostByte w k)), cellsOf ((List.range 512).map (fun i => Config.lostByte w k (4096 + i))))

/-- Read one slot for a command: its staging page from DRAM (Table 4-4), or its flash slot by a class 2 read (R319, R325). -/
def State.slotRead (s : State) (t ns k : Nat) : State :=
  match s.slotNow ns k with
  | .staged n y => s.pageStart { pageIo (.nvm t k) false (s.stgAddr n) 0 0 with data := y.data, md := y.md }
  | .flash a => s.fIssue (addrDie a) .read 2 false (s.sbOf a) a (.nvm t k)
  | .none => s

/-- I/O commands are turned away with a status (R311, R314, R315, R328, R329, Table 10-10); 0 lets the command run. Attachment
counts as it stood at the fetch, and a deletion or Format turns away what was fetched after it (R311, R314). -/
def State.nvmGate (s : State) (c : CmdSt) : Nat :=
  let x := s.ns c.nsid
  let shut := s.nvm.cmds.any (fun e => decide (e.2.sq = 0) && (decide (e.2.opc = 0x80) || decide (e.2.opc = 0x0D)) &&
    decide (e.2.nsid = c.nsid) && decide (e.2.stage = .waitCmds) && decide (e.2.order < c.order))
  if x.units = 0 ∨ !c.att ∨ (x.closed = 2 ∧ shut) then 0x0B
  else if s.nvm.sanitize ≠ 0 then 0x1D
  else if !x.ready ∨ (x.closed = 1 ∧ shut) then 0x82
  else if c.writeClass ∧ s.on R.FTL_STAT_NS_RO then 0x20
  else if c.opc ≠ 0 ∧ c.opc ≠ 9 ∧ x.size < c.slba + c.nlb then 0x80
  else if c.opc = 9 ∧ c.ranges.any (fun r => decide (x.size < r.1 + r.2)) then 0x80
  else 0

/-- Free staging pages (book 11). -/
def State.stgFree (s : State) : Nat := s.stgPages - s.nvm.stg.length

/-- A staging page has been read for its destage: the program is issued, class 4 (R276). -/
def State.destageRead (s : State) (n : Nat) : State :=
  match s.pageJob (.destage n) with
  | none => s
  | some j =>
    if !j.done then s
    else
      let s := s.pageDrop (.destage n)
      match s.stgAt n with
      | none => s
      | some y =>
        if y.dst ≠ 1 then s
        else
          let s := s.setSlot y.addr (some { kind := 0x10, key := y.ns * 2 ^ 40 + s.devSlot (s.ns y.ns) y.slot, gen := y.wseq,
                                            data := y.data, md := y.md, marks := j.marks })
          s.fIssue (addrDie y.addr) .program 4 false (s.sbOf y.addr) y.addr (.destage n) j.buf

/-- Assign flash slots to staging pages without one and read them from DRAM for their destage programs (R276). -/
def State.destage (s : State) (ns : List Nat) : State :=
  let issue := fun (s : State) (n a : Nat) =>
    match s.stgAt n with
    | none => s
    | some y =>
      (s.setStg n { y with dst := 1, addr := a }).pageStart
        { pageIo (.destage n) false (s.stgAddr n) 0 0 with data := y.data, md := y.md }
  let u := s.unitSlots
  let whole := match ns with
    | n :: _ => match s.stgAt n with
      | some y => decide (ns.length = u) && decide (s.devSlot (s.ns y.ns) y.slot % u = 0)
      | none => false
    | [] => false
  if whole then
    match s.assign 3 u with
    | (some a, s) => ((List.range u).foldl (fun s i => issue s (ns.getD i 0) (a + i)) s).mapTouched
    | (none, s) => s
  else ns.foldl (fun s n => match s.assign 3 1 with
    | (some a, s) => (issue s n a).mapTouched
    | (none, s) => s) s

/-- Split a list into the runs that whole aligned units make, for destage. -/
def unitRuns (u : Nat) (first : Nat) (ns : List Nat) : List (List Nat) :=
  let lead := (u - first % u) % u
  let a := ns.take lead
  let b := ns.drop lead
  a.map (fun n => [n]) ++ ((List.range (b.length / u)).map (fun i => (b.drop (i * u)).take u)) ++
    ((b.drop (b.length / u * u)).map (fun n => [n]))

/-- Deallocate one slot: its entry becomes 0 and a Staged entry releases its staging page at once (R277).
[DEDUCED, unsafe: log 105] -/
def State.deallocSlot (s : State) (ns k : Nat) : State :=
  let s := (s.nvm.stg.filter (fun e => decide (e.2.ns = ns) && decide (e.2.slot = k) && decide (e.2.tag = 0))).foldl
    (fun s e => s.freeStg e.1) s
  s.setNsEntry (s.devSlot (s.ns ns) k) 0

/-- A command completes once the journal up to here is confirmed (R277). -/
def State.jrnlWait (s : State) (t : Nat) : State := { s with ftl := { s.ftl with jwait := s.ftl.jwait ++ [(t, s.ftl.jpos)] } }

/-- Deallocate a range: the entries of the slots that lie wholly inside it become 0, and the deallocation is journaled
with its stream position; a slot that the range covers in part keeps its entry (R277). -/
def State.deallocRange (s : State) (ns slba nlb : Nat) : State :=
  let x := s.ns ns
  let s := s.jot 5 [ns, slba, nlb, s.ftl.cpSlots]
  (slotsOf x slba nlb).foldl (fun s k => if coversSlot x slba nlb k then s.deallocSlot ns k else s) s

/-- Deallocate a whole namespace (R311, R314, R315). -/
def State.deallocNs (s : State) (ns : Nat) : State :=
  let x := s.ns ns
  let s := (s.nvm.stg.filter (fun e => decide (e.2.ns = ns))).foldl (fun s e => s.freeStg e.1) s
  let s := s.jot 5 [ns, 0, x.size, s.ftl.cpSlots]
  (List.range x.units).foldl (fun s i =>
    let c := s.coarseAt (x.base + i)
    let s := if c % 4 = 2 then s.freeGroup (c / 4) else s
    s.setCoarse (x.base + i) 0) s

/-- Superblocks that hold slots of a namespace (R314), or of any (R315). -/
def State.nsSbs (s : State) (ns : Option Nat) : List Nat :=
  (s.ftl.slots.filter (fun e => match e.2 with
    | some c => (decide (c.kind = 0x10) || decide (c.kind = 0x11)) &&
      (match ns with | some n => decide (c.key / 2 ^ 40 = n) | none => true)
    | none => false)).foldl (fun m e => setIns (s.sbOf e.1) m) []

/-- The waiting admin and Flush commands whose wait is over complete (R311, R314, R320), and a function's shutdown with its last
command (R335). -/
def State.nvmKick (s : State) : State :=
  let busy := fun (s : State) (ns ord : Nat) (all : Bool) (fn : Nat) => s.nvm.cmds.any (fun e =>
    decide (e.2.order < ord) && decide (e.2.sq ≠ 0) && (if all then e.2.writeClass && (s.ns e.2.nsid).ctrls.contains fn
      else decide (e.2.nsid = ns)))
  let one := fun (s : State) (e : Nat × CmdSt) =>
    let t := e.1
    let c := e.2
    if c.stage ≠ .waitCmds then s
    else if c.sq ≠ 0 then
      if c.opc ≠ 0 then s
      else if c.nsid = 0xFFFFFFFF then (if busy s 0 c.order true c.fn then s else s.nvmDone t 0 0)
      else if s.nvm.cmds.any (fun e => decide (e.2.order < c.order) && e.2.writeClass && decide (e.2.nsid = c.nsid)) then s
      else s.nvmDone t 0 0
    else if c.opc = 0x0D then
      if busy s c.nsid c.order false 0 then s
      else
        let s := (s.deallocNs c.nsid).jot 7 [c.nsid]
        let fs := (s.ns c.nsid).ctrls
        let s := (s.setNs c.nsid nsInit).nsChanged c.nsid fs
        ((s.account).setCmd t { c with stage := .running, begun := true }).jrnlWait t
    else if c.opc = 0x80 then
      if busy s c.nsid c.order false 0 then s
      else
        let x := s.ns c.nsid
        let sbs := s.nsSbs (some c.nsid)
        let s := s.deallocNs c.nsid
        let f := c.args.getD 0 0
        let s := s.setNs c.nsid { x with lbaf := f, ext := decide (c.args.getD 1 0 = 1), pit := c.args.getD 2 0,
                                         pil := decide (c.args.getD 3 0 = 1), closed := 0,
                                         size := x.units * s.unitSlots * lbasPerSlot f }
        if c.args.getD 4 0 = 1 ∧ sbs ≠ [] then
          let s := sbs.foldl (fun s n => (s.closeOf n).rewriteSched n) s
          let s := s.setCmd t { c with stage := .running, begun := true }
          { s with ftl := { s.ftl with eraseWait := s.ftl.eraseWait ++ [(t, sbs)] } }.gcNext
        else (s.setCmd t { c with stage := .running, begun := true }).jrnlWait t
    else s
  let s := s.nvm.cmds.foldl one s
  -- a normal shutdown reports complete when the function holds no command (R335)
  s.nvm.fns.foldl (fun s e =>
    if e.2.shutReq && decide (s.fnInfl e.1 = e.2.aers.length)
    then s.setFn e.1 { s.fn e.1 with shst := true, shutReq := false } else s) s

/-- A command that has finished: post its completion and let those that waited for it complete. -/
def State.nvmFinish (s : State) (t sct sc : Nat) (data : List Nat := []) : State := (s.nvmDone t sct sc data).nvmKick

/-- The key under which MEM_SANITIZE waits for its superblocks (R509). -/
def memSanKey : Nat := 100001

/-- The last superblock of MEM_SANITIZE is erased: its progress mark clears and it completes, unless a reset or a save has
ended it (R509). -/
def State.memSanEnd (s : State) : State :=
  match s.loqRunning 0x0B with
  | none => s
  | some e => ({ s with cvn := { s.cvn with sanMark := false } }).loqEnd e loSuccess 0

/-- Superblocks erased: commands that waited for them complete (R314, R315, R509). -/
def State.eraseKick (s : State) : State :=
  s.ftl.eraseWait.foldl (fun s e =>
    if e.2.all (fun n => decide ((s.sb n).state = 0) || decide (4 ≤ (s.sb n).state)) then
      let s := { s with ftl := { s.ftl with eraseWait := s.ftl.eraseWait.filter (fun x => decide (x.1 ≠ e.1)) } }
      if e.1 = memSanKey then s.memSanEnd
      else if s.nvm.sanitize = e.1 + 1 then
        let s := { s with nvm := { s.nvm with sanitize := 0, sanStatus := 1 } }
        s.fnIds.foldl (fun s f => s.aen f 0x810106) s
      else s.nvmFinish e.1 0 0
    else s) s

/-! ### Reads -/

/-- The bytes of a command's LBAs, data then metadata, from the slots read. -/
def readBytes (x : NsSt) (c : CmdSt) : List Nat × List Nat :=
  let n := lbasPerSlot x.lbaf
  let one := fun (lba : Nat) =>
    let g := match c.got.find? (fun e => decide (e.1 = lba / n)) with | some e => e.2 | none => ([], [])
    let o := lba % n
    ((List.range (lbaBytes x.lbaf)).map (fun i => cellAt g.1 (o * lbaBytes x.lbaf + i)),
     (List.range (mdBytes x.lbaf)).map (fun i => cellAt g.2 (o * 64 + i)))
  let ps := (List.range c.nlb).map (fun k => one (c.slba + k))
  (ps.flatMap (·.1), ps.flatMap (·.2))

/-- A protection check has failed: a guard mismatch is counted, and the engine keeps nothing else (R355, R357). -/
def State.piFail (s : State) (t e lba : Nat) : State :=
  ((if e = 0x82 then s.inc R.CRC_DPERR_PI_ERR else s).nvmError t 2 e lba).nvmFinish t 2 e

/-- Complete a Read, Compare or Verify whose slots have all been read: checks, then data (R313, R325). -/
def State.readFinish (s : State) (t : Nat) (c : CmdSt) : State :=
  let x := s.ns c.nsid
  let (d, m) := readBytes x c
  match piScan x.lbaf x.pit x.pil c.prot c.slba c.nlb d m with
  | some (e, lba) => s.piFail t e lba
  | none =>
    if c.opc = 5 then
      if d = c.data.map (·.toNat) ∧ (mdBytes x.lbaf = 0 ∨ bit (protAt c.prot 0) 3 ∨ m = c.md.map (·.toNat))
      then s.nvmFinish t 0 0 else s.nvmFinish t 2 0x85
    else if c.opc = 2 then
      let strip := bit (protAt c.prot 0) 3 && decide (mdBytes x.lbaf = piBytes x.lbaf)
      s.nvmFinish t 0 0 (d ++ (if strip then [] else m))
    else s.nvmFinish t 0 0

/-- Read slots for a command, from staging or from flash; an Unrecovered slot fails the command with its first LBA
(R325, R326). -/
def State.readStart (s : State) (t : Nat) (c : CmdSt) (ks : List Nat) : State × Bool :=
  let x := s.ns c.nsid
  match ks.find? (fun k => decide (s.slotNow c.nsid k = .flash 2)) with
  | some k =>
    let lba := max c.slba (k * lbasPerSlot x.lbaf)
    ((s.nvmError t 2 0x81 lba).nvmFinish t 2 0x81, false)
  | none =>
    let none0 := fun (k : Nat) => decide (s.slotNow c.nsid k = .none)
    let c := { c with got := (ks.filter none0).map (fun k => (k, blankSlot)), need := ks.filter (fun k => !none0 k),
                      begun := true, stage := .running }
    (c.need.foldl (fun s k => s.slotRead t c.nsid k) (s.setCmd t c), true)

/-! ### Writes -/

/-- Every byte of a write is in staging, and the map marks its slots Staged (R276, R317): a write-back write completes, a
write-through write completes when its destages are confirmed (R318). -/
def State.writeInStaging (s : State) (t : Nat) (c : CmdSt) : State :=
  let x := s.ns c.nsid
  let ks := slotsOf x c.slba c.nlb
  let s := c.stgs.foldl (fun s p => match s.stgAt p with | some y => s.setStg p { y with full := true } | none => s) s
  let s := ks.foldl (fun s k => s.setNsEntry (s.devSlot x k) 1) s
  let c := { c with stage := .programming, begun := true, got := [] }
  let s := s.setCmd t c
  let s := (unitRuns s.unitSlots (s.devSlot x (ks.headD 0)) c.stgs).foldl (fun s r => s.destage r) s
  if c.wt then s else s.nvmFinish t 0 0

/-- The data of a write stands in staging once every line is in a DRAM write queue, inside the persistence domain (R32, R317); until
then the command waits for room (R115). -/
def State.writeLand (s : State) (t : Nat) (c : CmdSt) : State :=
  if c.stgs.all (fun p => match s.pageJob (.staging p) with | some j => j.wait.isEmpty | none => true)
  then s.writeInStaging t c
  else s.setCmd t { c with stage := .filling, begun := true }

/-- The staging pages of a write take the merged contents of their slots and are written to DRAM (R23, R317, R319). -/
def State.writeStaged (s : State) (t : Nat) (c : CmdSt) : State :=
  let x := s.ns c.nsid
  let n := lbasPerSlot x.lbaf
  let lb := lbaBytes x.lbaf
  let mb := mdBytes x.lbaf
  let ks := slotsOf x c.slba c.nlb
  let fill := fun (s : State) (i : Nat) =>
    let k := ks.getD i 0
    let p := c.stgs.getD i 0
    let old := match c.got.find? (fun e => decide (e.1 = k)) with | some e => e.2 | none => ([], [])
    let lbas := (List.range n).map (fun j => k * n + j)
    let mine := lbas.filter (fun a => decide (c.slba ≤ a) && decide (a < c.slba + c.nlb))
    let put := fun (w f : Nat) (src : List Byte) (m : List Host.Cell) => mine.foldl (fun m a =>
      (List.range w).foldl (fun m b => smSet 0 (a % n * f + b) (src.getD ((a - c.slba) * w + b) 0) m) m) m
    match s.stgAt p with
    | some y =>
      let d := put lb lb c.data old.1
      (s.setStg p { y with data := d, md := put mb 64 c.md old.2 }).pageStart
        { pageIo (.staging p) true (s.stgAddr p) 0 0 with data := d }
    | none => s
  ((List.range ks.length).foldl fill s).writeLand t c

/-- A write that has its staging pages merges the slots it covers in part, reading the rest from staging or flash
(R319). It waits for an earlier write of such a slot that has not completed, whose data the rest may be.
[DEDUCED, safe: log 209] -/
def State.writeMerge (s : State) (t : Nat) (c : CmdSt) : State :=
  let x := s.ns c.nsid
  let part := (slotsOf x c.slba c.nlb).filter (fun k => !coversSlot x c.slba c.nlb k)
  if part.isEmpty then s.writeStaged t c
  else if s.nvm.stg.any (fun e => decide (e.2.ns = c.nsid) && part.contains e.2.slot && decide (e.2.tag ≠ 0) &&
      decide (e.2.tag ≠ t + 1) && decide (e.2.wseq < c.wseq)) then s.setCmd t { c with stage := .waitMerge }
  else
    let s := s.addSat R.NVC_MERGE_MERGES part.length
    let got := part.filterMap (fun k => match s.slotNow c.nsid k with
      | .none => some (k, blankSlot)
      | .flash e => if e = 2 then some (k, lostSlot c.wseq k) else none
      | .staged _ _ => none)
    let need := part.filter (fun k => !got.any (fun e => decide (e.1 = k)))
    let c := { c with got := got, need := need, stage := .running }
    if need.isEmpty then s.writeStaged t c
    else need.foldl (fun s k => s.slotRead t c.nsid k) (s.setCmd t c)

/-- A write reserves staging: the pages of the held set if R195 allows in its namespace's effective mode, else pages
outside it with STG_OFF set (R195, R316 to R318); it waits while too few pages are free (R318). -/
def State.writeReserve (s : State) (t : Nat) (c : CmdSt) : State :=
  let x := s.ns c.nsid
  let ks := slotsOf x c.slba c.nlb
  let k := ks.length
  if s.stgFree < k then
    let s := if c.stage = .waitStg then s else s.inc R.NVC_STGW_STG_WAITS
    s.setCmd t { c with stage := .waitStg }
  else
    let room := s.trk.gate && !s.admClosed && !s.on R.LDG_STAT_STG_OFF &&
      decide (s.rd R.TRK_HELD_HELD + k ≤ s.rd R.LDG_GUAR_G)
    let wbp := !x.effWt
    let held := wbp && room
    let s := if wbp && !room then s.put R.LDG_STAT_STG_OFF true else s
    let new := (List.range k).map (fun i => (s.nvm.nextStg + i,
      ({ ns := c.nsid, slot := ks.getD i 0, held := held, data := [], md := [], wseq := c.wseq, tag := t + 1,
         prev := (match s.stgFind c.nsid (ks.getD i 0) with
           | some _ => 1
           | none => s.nsEntry (s.devSlot x (ks.getD i 0))),
         dst := 0, addr := 0, fails := 0, full := false } : StgSt)))
    let s := { s with nvm := { s.nvm with stg := s.nvm.stg ++ new, nextStg := s.nvm.nextStg + k } }
    let s := if held then s.stgAdd k else s
    let c := { c with wt := !held, stgs := new.map (·.1), stage := .running }
    (s.setCmd t c).nvmRefresh.writeMerge t c

/-- The commands that change the map without data: Write Zeroes and Dataset Management deallocate, and complete once the journal
record is confirmed; Write Uncorrectable marks (R277, R326). A slot that the range covers in part keeps its entry. -/
def State.mapRun (s : State) (t : Nat) (c : CmdSt) : State :=
  let x := s.ns c.nsid
  let s := s.setCmd t { c with stage := .running, begun := true, wt := x.effWt }
  if c.opc = 4 then
    let s := (slotsOf x c.slba c.nlb).foldl (fun s k =>
      let s := (s.nvm.stg.filter (fun e => decide (e.2.ns = c.nsid) && decide (e.2.slot = k))).foldl
        (fun s e => s.freeStg e.1) s
      s.setNsEntry (s.devSlot x k) 2) s
    s.nvmFinish t 0 0
  else (c.lockRanges.foldl (fun s r => s.deallocRange c.nsid r.1 r.2) s).jrnlWait t

/-- A command past its range locks runs (R322 to R326). -/
def State.nvmRun (s : State) (t : Nat) (c : CmdSt) : State :=
  let x := s.ns c.nsid
  match s.nvmGate c with
  | 0 =>
    if c.opc = 1 then
      let bad := if bit (protAt c.prot 0) 3 then none
        else piScan x.lbaf x.pit x.pil c.prot c.slba c.nlb (c.data.map (·.toNat)) (c.md.map (·.toNat))
      match bad with
      | some (e, lba) => s.piFail t e lba
      | none =>
        let md := if bit (protAt c.prot 0) 3 ∧ piBytes x.lbaf ≠ 0 then
          ((List.range c.nlb).flatMap (fun k =>
            let d := ((c.data.map (·.toNat)).drop (k * lbaBytes x.lbaf)).take (lbaBytes x.lbaf)
            let own := ((c.md.map (·.toNat)).drop (k * mdBytes x.lbaf)).take (mdBytes x.lbaf)
            let pi := piMake x.lbaf x.pit x.pil c.prot (c.slba + k) k d own
            if mdBytes x.lbaf = piBytes x.lbaf then pi
            else if x.pil then pi ++ own.drop (piBytes x.lbaf)
            else own.take (mdBytes x.lbaf - piBytes x.lbaf) ++ pi)).map (fun b => (BitVec.ofNat 8 b : Byte))
          else c.md
        let c := { c with md := md }
        (s.setCmd t c).writeReserve t c
    else if c.opc = 2 ∨ c.opc = 5 ∨ c.opc = 0x0C then
      let (s, go) := s.readStart t c (slotsOf x c.slba c.nlb)
      match s.cmd t with
      | some c => if go && c.need.isEmpty then s.readFinish t c else s
      | none => s
    else s.mapRun t c
  | e => s.nvmFinish t 0 e

/-- Take the range-lock entries of a command in fetch order, device-wide, with its WSEQ; it runs unless an earlier entry
of its namespace overlaps (R322, R323). A command that finds too few free entries stalls its queue (R324).
[DEDUCED, safe: log 123] -/
def State.nvmStart (s : State) (t : Nat) : State :=
  match s.cmd t with
  | none => s
  | some c =>
    let have0 := s.nvm.locks.any (fun l => decide (l.tag = t))
    let rs := c.lockRanges
    let earlier := s.nvm.cmds.any (fun e => e.2.locks && decide (e.2.order < c.order) && decide (e.2.stage = .waitLock) &&
      !s.nvm.locks.any (fun l => decide (l.tag = e.1)))
    -- an earlier command that has not come to its entries yet takes them first (R322)
    if !have0 && s.nvm.cmds.any (fun e => e.2.locks && decide (e.2.order < c.order) && decide (e.2.stage = .fetched)) then
      (s.setCmd t { c with stage := .waitLock }).nvmRefresh
    else if !have0 && (earlier || decide (2048 < s.nvm.locks.length + rs.length)) then
      ((s.setCmd t { c with stage := .waitLock }).setStall c.fn c.sq true).nvmRefresh
    else
      let s := if have0 then s
        else
          let ls := rs.map (fun r => { ns := c.nsid, lba := r.1, cnt := r.2, tag := t })
          { s with nvm := { s.nvm with locks := s.nvm.locks ++ ls, wseq := s.nvm.wseq + 1 } }
      let c := if have0 then c else { c with wseq := s.nvm.wseq - 1 }
      let before := s.nvm.locks.takeWhile (fun l => decide (l.tag ≠ t))
      let hit := before.any (fun l => decide (l.ns = c.nsid) && rs.any (fun r =>
        decide (l.lba < r.1 + r.2) && decide (r.1 < l.lba + l.cnt)))
      let s := s.setStall c.fn c.sq false
      if hit then (s.setCmd t { c with stage := .waitLock }).nvmRefresh
      else ((s.setCmd t c).nvmRun t c).nvmRefresh

/-- A flash read for a command ends: with its data, or unrecovered, which fails the command (R270, R319, R325, R326). -/
def State.nvmReadDone (s : State) (t k : Nat) (res : Option (List Host.Cell × List Host.Cell)) : State :=
  match s.cmd t with
  | none => s
  | some c =>
    let x := s.ns c.nsid
    match res with
    | none =>
      let s := s.setNsEntry (s.devSlot x k) 2
      let s := { s with ftl := { s.ftl with unrecSeen := true } }
      if c.opc = 1 then
        let c := { c with got := c.got ++ [(k, lostSlot c.wseq k)], need := setDel k c.need }
        if c.need.isEmpty then (s.setCmd t c).writeStaged t c else s.setCmd t c
      else (s.nvmError t 2 0x81 (max c.slba (k * lbasPerSlot x.lbaf))).nvmFinish t 2 0x81
    | some d =>
      let c := { c with got := c.got ++ [(k, d)], need := setDel k c.need }
      let s := s.setCmd t c
      if !c.need.isEmpty then s
      else if c.opc = 1 then s.writeStaged t c
      else s.readFinish t c

/-- A staging page has been read for a command (R319, R325). A page that reads as poisoned fails a read, and a merge takes the bytes
that it has. -/
def State.stagedRead (s : State) (t k : Nat) : State :=
  match s.pageJob (.nvm t k), s.cmd t with
  | some j, some c =>
    if !j.done then s
    else
      let s := s.pageDrop (.nvm t k)
      if j.marks.isEmpty || decide (c.opc = 1) then s.nvmReadDone t k (some (j.data, j.md))
      else (s.nvmError t 2 0x81 (max c.slba (k * lbasPerSlot (s.ns c.nsid).lbaf))).nvmFinish t 2 0x81
  | _, _ => s

/-- Writes that wait for room in the bank queues, or for an earlier write of their slot, go on (R115, R317, R319). -/
def State.fillKick (s : State) : State :=
  s.nvm.cmds.foldl (fun s e => match s.cmd e.1 with
    | some c => if c.stage = .filling then s.writeLand e.1 c else if c.stage = .waitMerge then s.writeMerge e.1 c else s
    | none => s) s

/-- The save slots of a staged page are obsolete when its destage confirms (R222); those of a save that runs stand. -/
def State.stagedObsolete (s : State) (y : StgSt) : State :=
  if s.cvn.code ≠ 0 then s
  else
    let k := y.ns * 2 ^ 40 + y.slot * lbasPerSlot (s.ns y.ns).lbaf
    let gone := s.ftl.slots.filter (fun e => match e.2 with | some c => decide (c.kind = 0x04) && decide (c.key = k) | none => false)
    if gone.isEmpty then s
    else { s with ftl := { s.ftl with slots := s.ftl.slots.filter (fun e => match e.2 with
      | some c => decide (c.kind ≠ 0x04) || decide (c.key ≠ k)
      | none => true) } }

/-- A destage program is confirmed: the three cases of R276. A write-through command whose last staging page is confirmed
completes (R318). -/
def State.destageConfirm (s : State) (n : Nat) : State :=
  match s.stgAt n with
  | none => s
  | some y =>
    if y.dst ≠ 2 then s
    else
      let x := s.ns y.ns
      let s := match s.stgFind y.ns y.slot with
        | some m =>
          if m = n then (s.setNsEntry (s.devSlot x y.slot) y.addr).freeStg n
          else match s.stgAt m with
            | some z => if z.tag ≠ 0 then (s.setStg m { z with prev := y.addr }).freeStg n
                        else (s.freeStg n).setSlot y.addr none
            | none => s.freeStg n
        | none => s.freeStg n
      let s := (s.stagedObsolete y).nvmRefresh
      match s.nvm.cmds.find? (fun e => decide (e.1 + 1 = y.tag) || e.2.stgs.contains n) with
      | none => s
      | some e => if e.2.wt && e.2.stgs.all (fun k => (s.stgAt k).isNone) && decide (e.2.stage = .programming)
                  then s.nvmFinish e.1 0 0 else s

/-- A destage program fails: it is reissued once in the next stripe; a second failure ends a write-through command with
Write Fault and returns its slots to what they held (R281, R334, Table 10-10). -/
def State.destageFail (s : State) (n : Nat) : State :=
  match s.stgAt n with
  | none => s
  | some y =>
    let s := s.setSlot y.addr none
    match s.nvm.cmds.find? (fun e => decide (e.1 + 1 = y.tag)) with
    | some e =>
      if y.fails ≠ 0 then
        let s := e.2.stgs.foldl (fun s k => s.restoreStg k) s
        s.nvmFinish e.1 2 0x80
      else (s.setStg n { y with dst := 0, fails := 1 }).destage [n]
    | none => (s.setStg n { y with dst := 0, fails := y.fails + 1 }).destage [n]

/-- Whether restore has come to the destage of the saved staged pages: the maps are loaded and the bulk restore has ended
(R228 step 6, R294). -/
def State.destageOpen (s : State) : Bool :=
  s.on R.FTL_STAT_MAP_NS && (decide (s.rd R.CVN_STAT_RST_ST = 0) || decide (s.rd R.CVN_STAT_RST_ST = 5))

/-- Issue the destages that wait (R318), those of a namespace not yet ready in step 6 of R228. -/
def State.destageWaiting (s : State) : State :=
  let open6 := s.destageOpen
  (s.nvm.stg.filter (fun e => decide (e.2.dst = 0) && e.2.full && (open6 || (s.ns e.2.ns).ready) &&
    decide (s.nsEntry (s.devSlot (s.ns e.2.ns) e.2.slot) = 1))).foldl (fun s e => s.destage [e.1]) s

/-- Destages that wait for a superblock, and writes that wait for staging pages, oldest first (R318).
[DEDUCED, unsafe: log 112] -/
def State.stgKick (s : State) : State :=
  let s := s.destageWaiting
  match (s.nvm.cmds.filter (fun e => decide (e.2.stage = .waitStg))).head? with
  | some e => s.writeReserve e.1 e.2
  | none => s

/-- Namespaces whose map is loaded and whose saved pages are destaged become ready, and restore ends with the last of them
(R228, R328). -/
def State.nsReady (s : State) : State :=
  let wait := fun (s : State) (n : Nat) => s.nvm.stg.any (fun e => decide (e.2.ns = n))
  let s := if s.nvm.nss.any (fun e => !e.2.ready && wait s e.1) && s.destageOpen then s.destageWaiting else s
  let s := if !s.on R.FTL_STAT_MAP_NS then s
    else (s.nvm.nss.filter (fun e => !e.2.ready && !wait s e.1)).foldl (fun s e =>
      (s.setNs e.1 { e.2 with ready := true }).nsChanged e.1 e.2.ctrls) s
  if s.rd R.CVN_STAT_RST_ST = 5 ∧ !(s.nvm.nss.any (fun e => !e.2.ready && wait s e.1)) then s.wr R.CVN_STAT_RST_ST 0 else s

end Sys2Proof.Machine
end

