-- ==== Sys2Proof/Machine/Checkpoint.lean ====
section
/-!
DEFINITION. How the journal and a checkpoint go on by themselves (R277, R285, R290 to R292): journal records are written to the
system area when something waits for them, and a checkpoint writes its chunks, directory, root and anchor record one after another.
-/
namespace Sys2Proof.Machine

/-! ### What a checkpoint writes -/

/-- Object numbers of chunks: 2c for chunk c of the coarse map, 2c + 1 for chunk c of the fine-map slice, the superblock table
and the fine groups included (R275, R292). -/
def State.chunkIds (s : State) (tags : List Nat) : List Nat :=
  let u := s.unitSlots
  let fine := fun (e : Nat) => 2 * (e / 819) + 1
  tags.foldl (fun m v =>
    let n := v / 4
    match v % 4 with
    | 0 => setIns (2 * n) m
    | 1 => setIns (2 * n + 1) m
    | 2 => setIns (fine (s.hostPages + 4 * n + 3)) (setIns (fine (s.hostPages + 4 * n)) m)
    | _ => setIns (fine (s.hostPages + 4 * s.sbCount + u * n + u - 1)) (setIns (fine (s.hostPages + 4 * s.sbCount + u * n)) m)) []

/-- Every change that a map differing from an empty one shows. -/
def State.chunksAll (s : State) : List Nat :=
  let m := s.ftl.img.foldl (fun m e => setIns (4 * (e.1 / 819) + 1) m) []
  let m := s.ftl.coarse.foldl (fun m e => setIns (4 * (e.1 / 819)) m) m
  let m := s.ftl.groups.foldl (fun m e => setIns (4 * e.1 + 3) m) m
  s.ftl.sbs.foldl (fun m e => setIns (4 * e.1 + 2) m) m

/-- The four entries of a superblock in the superblock table: wear, read count, close tick, and valid slots with state, mode, tenant
and block group (R275). The spec gives no places. -/
def State.sbEntry (s : State) (n i : Nat) : Nat :=
  let b := s.sb n
  match i with
  | 0 => b.wear % 2 ^ 40
  | 1 => b.reads % 2 ^ 40
  | 2 => b.closeTick % 2 ^ 40
  | _ => (s.validIn n).length % 2 ^ 24 + 2 ^ 24 * (b.state + 8 * b2n b.native + 16 * b.tenant + 64 * b.group)

/-- Entry `e` of the fine-map slice (R275). -/
def State.fineEntry (s : State) (e : Nat) : Nat :=
  let t := s.hostPages + 4 * s.sbCount
  if e < s.hostPages then s.imgAt e
  else if e < t then s.sbEntry ((e - s.hostPages) / 4) ((e - s.hostPages) % 4)
  else s.fineAt ((e - t) / s.unitSlots) ((e - t) % s.unitSlots)

/-- The payload of a chunk: 819 entries of 40 bits (R292). -/
def State.chunkCells (s : State) (id : Nat) : List Host.Cell :=
  cellsOf ((List.range 819).flatMap (fun j =>
    let k := id / 2 * 819 + j
    leBytes 5 (if id % 2 = 0 then s.coarseAt k % 4 * 2 ^ 38 + s.coarseAt k / 4 else s.fineEntry k)))

/-- Where a system object stands: of the slots of its kind and number the one of the highest sequence, the first of its two copies;
0 where none stands. -/
def State.sysAt (s : State) (kind key : Nat) : Nat :=
  (s.ftl.slots.foldl (fun (b : Option (Nat × Nat)) e => match e.2 with
    | some c => if decide (c.kind = kind) && decide (c.key = key) && decide (b.elim 0 (·.2 + 1) ≤ c.gen)
        then some (e.1, c.gen) else b
    | none => b) none).elim 0 (·.1)

/-- The directory slot of a chunk: 819 chunks of its map each (R292). -/
def dirOf (id : Nat) : Nat := 2 * (id / 2 / 819) + id % 2

/-- The payload of a directory slot: where its chunks stand. -/
def State.dirCells (s : State) (d : Nat) : List Host.Cell :=
  cellsOf ((List.range 819).flatMap (fun j => leBytes 5 (s.sysAt 0x20 (2 * (d / 2 * 819 + j) + d % 2))))

/-- The reference table of R257, 16 B for each die and group, 256 of them in a slot; its slots are chunks numbered from 2³¹ on. -/
def State.refCells (offs : List (Nat × List Int)) (k : Nat) : List Host.Cell :=
  cellsOf ((List.range 256).flatMap (fun j =>
    (smGet [] offs (256 * k + j) ++ List.replicate 16 0).take 16 |>.map (fun v => toField 8 v)))

/-- The root: sequence, REPLAY_FROM, journal position, directory locations, and the pending-erase list (R292). -/
def State.rootCells (s : State) (c : CpSt) : List Host.Cell :=
  let pend := (s.sbList.filter (fun e => decide (e.2.state = 3))).map (·.1)
  let dirs := s.ftl.slots.foldl (fun m e => match e.2 with
    | some x => if x.kind = 0x21 then setIns x.key m else m
    | none => m) []
  cellsOf ((leBytes 8 c.seq ++ leBytes 8 c.from0 ++ leBytes 8 c.jpos ++ leBytes 4 dirs.length ++
    dirs.flatMap (fun d => leBytes 4 d ++ leBytes 5 (s.sysAt 0x21 d)) ++ leBytes 4 pend.length ++ pend.flatMap (leBytes 4)).take 4096)

/-- The anchor record: checkpoint sequence, the root copies, the journal position at the checkpoint's start, and the system-area
superblocks in use (R290). -/
def State.anchorCells (s : State) (c : CpSt) : List Host.Cell :=
  let roots := (s.ftl.slots.filter (fun e => match e.2 with
    | some x => decide (x.kind = 0x22) && decide (x.key = c.seq)
    | none => false)).map (·.1)
  let sys := (s.sbList.filter (fun e => decide (e.2.tenant = 2))).map (·.1)
  cellsOf ((leBytes 8 c.seq ++ (roots.take 2).flatMap (leBytes 5) ++ leBytes 8 c.jpos ++ leBytes 4 sys.length ++
    sys.flatMap (leBytes 4)).take 4096)

/-! ### The system area -/

/-- Write a system-area object if a superblock of the system stream or its mirror has room; the answer says whether. -/
def State.sysTry (s : State) (kind key gen : Nat) (data : List Host.Cell) : Bool × State :=
  let (a, s) := s.roomFor 5 1
  let (b, s) := s.roomFor 6 1
  if a.isSome || b.isSome then (true, s.sysWrite kind key gen data) else (false, s)

/-- A program of one of these kinds is not yet over. -/
def State.sysFlying (s : State) (kinds : List Nat) : Bool :=
  (s.flash.ops ++ s.flash.extra).any (fun o => match o.src with | .system k => kinds.contains k | _ => false)

/-- The structure digest is written to the system area (R53, R57): a CRC of the structural fields stands for it. -/
def State.digestWrite (s : State) : State :=
  match s.erg.recStruct with
  | none => s
  | some m => s.sysWrite 0x26 0 s.ftl.jpos (cellsOf (leBytes 4 (crc32c (m.flatMap (fun e => leBytes 4 e.1 ++ leBytes 4 e.2)))))

/-! ### A checkpoint's steps -/

/-- The chunks not yet written, as far as the system area has room (R292 step 2). -/
def State.cpChunks (s : State) (c : CpSt) : State :=
  let (done, s) := c.todo.foldl (fun (e : List Nat × State) id =>
    let (ok, s) := e.2.sysTry 0x20 id c.seq (e.2.chunkCells id)
    (if ok then e.1 ++ [id] else e.1, s)) ([], s)
  { s with ftl := { s.ftl with cp := some { c with todo := c.todo.filter (fun id => !done.contains id),
                                                   dirs := done.foldl (fun m id => setIns (dirOf id) m) c.dirs } } }

/-- The changed directory slots, then the reference table (R292 step 3). -/
def State.cpDirs (s : State) (c : CpSt) : State :=
  let s := c.dirs.foldl (fun s d => s.sysWrite 0x21 d c.seq (s.dirCells d)) s
  let refs := c.offs.foldl (fun m e => setIns (e.1 / 256) m) []
  let s := refs.foldl (fun s k => s.sysWrite 0x20 (2 ^ 31 + k) c.seq (State.refCells c.offs k)) s
  { s with ftl := { s.ftl with cp := some { c with stage := 1 } } }

/-- The root, once the journal up to the checkpoint's start is confirmed (R291, R292 step 4). -/
def State.cpRoot (s : State) (c : CpSt) : State :=
  if s.ftl.jconf < c.jpos then s
  else
    match s.sysTry 0x22 c.seq c.seq (s.rootCells c) with
    | (true, s) => { s with ftl := { s.ftl with cp := some { c with stage := 2 } } }
    | (false, s) => s

/-- The anchor record, to plane-block 1 or 2 of die 0 on the two lowest channels in service; when one of them fills, what the other
holds is erased (R290, R292 step 5). [DEDUCED, unsafe: log 216] -/
def State.cpAnchor (s : State) (c : CpSt) : State :=
  let per := 2 ^ s.planesLog * s.spbIn false
  let cs := (s.dieChans 0).take 2
  if per = 0 ∨ cs.isEmpty then s
  else
    let p := s.ftl.anchorPos % (2 * per)
    let n := 1 + p / per
    let i := p % per
    let rcd : SlotC := { kind := 0x27, key := 0, gen := c.seq, data := s.anchorCells c, md := [], marks := [] }
    let s := cs.foldl (fun s ch =>
      let a := dieKey ch 0 * 2 ^ 28 + (n * 2 ^ s.planesLog + i % 2 ^ s.planesLog) * s.spb + i / 2 ^ s.planesLog
      (s.setSlot a (some rcd)).fIssue (dieKey ch 0) .program 6 true n a (.system 0x27)) s
    let s := { s with ftl := { s.ftl with cp := some { c with stage := 3 }, anchorPos := (p + 1) % (2 * per) } }
    let old : Nat := 3 - n
    if decide (i + 1 = per) && s.ftl.slots.any (fun e => decide (s.sbOf e.1 = old)) then
      cs.foldl (fun s ch => s.fIssue (dieKey ch 0) .erase 6 true old 0 (.erase old)) s
    else s

/-- A checkpoint goes on when what it has written is confirmed (R292). -/
def State.cpKick (s : State) : State :=
  match s.ftl.cp with
  | none => s
  | some c =>
    if s.on R.FCC_STAT_SAVE || s.sysFlying [0x20, 0x21, 0x22, 0x27] then s
    else match c.stage with
      | 0 => if c.todo.isEmpty then s.cpDirs c else s.cpChunks c
      | 1 => s.cpRoot c
      | 2 => s.cpAnchor c
      | 3 => { s with ftl := { s.ftl with cp := some { c with stage := 4 } } }
      | _ => s

/-! ### The journal -/

/-- A journal record: its kind and numbers, 48 B, 85 in a slot. The spec gives no layout. -/
def JRec.bytes (r : JRec) : List Nat :=
  leBytes 4 r.kind ++ leBytes 4 r.args.length ++ ((r.args ++ List.replicate 5 0).take 5).flatMap (leBytes 8)

/-- Records not yet written are wanted: they fill a slot, or a program, an erase, a deallocation or a checkpoint's root waits for one
of them (R277, R285, R291). The spec does not say when else the journal is written. [DESIGN CHOICE, unsafe: log 217] -/
def State.journalWanted (s : State) : Bool :=
  let f := s.ftl.jflushed
  decide (f < s.ftl.jpos) && (decide (f + 85 ≤ s.ftl.jpos) || s.ftl.jwait.any (fun e => decide (f < e.2)) ||
    (match s.ftl.cp with | some c => decide (c.stage ≤ 1) && decide (f < c.jpos) | none => false) ||
    (s.flash.ops ++ s.flash.extra).any (fun o => decide (o.stage = .queued) && !s.jrnlOk o))

/-- Write the records not yet written, once those in flight are confirmed, in slots of kind 0x23. -/
def State.journalWrite (s : State) : State :=
  let f := s.ftl.jflushed
  let n := s.ftl.jpos - f
  let recs := s.ftl.journal.drop (s.ftl.journal.length - n)
  (List.range (cdiv n 85)).foldl (fun s i =>
    s.sysWrite 0x23 (f + 85 * i) (min (f + 85 * (i + 1)) (f + n)) (cellsOf (((recs.drop (85 * i)).take 85).flatMap JRec.bytes)))
    { s with ftl := { s.ftl with jflushed := f + n } }

/-- The journal goes on: what has been written is confirmed when its programs are over, and records that are wanted are written while the
system area has room. [DEDUCED, unsafe: log 107] -/
def State.journalKick (s : State) : State :=
  if s.on R.FCC_STAT_SAVE || !s.on R.FTL_STAT_MAP_IMG || s.sysFlying [0x23] then s
  else
    let s := { s with ftl := { s.ftl with jconf := s.ftl.jflushed } }
    if !s.journalWanted then s
    else
      let (a, s) := s.roomFor 5 1
      let (b, s) := s.roomFor 6 1
      if a.isSome || b.isSome then s.journalWrite else s

/-- Deallocations whose record is confirmed complete (R277). -/
def State.jwaitKick (s : State) : State :=
  let ended := fun (e : Nat × Nat) => decide (e.2 ≤ s.ftl.jconf) || (s.cmd e.1).isNone
  let done := s.ftl.jwait.filter ended
  if done.isEmpty then s
  else (done.filter (fun e => (s.cmd e.1).isSome)).foldl (fun s e => s.nvmFinish e.1 0 0)
    { s with ftl := { s.ftl with jwait := s.ftl.jwait.filter (fun e => !ended e) } }

end Sys2Proof.Machine
end

