-- ==== Sys2Proof/Machine/CflOps.lean ====
section
/-!
DEFINITION. The array of the in-package code flash (R420, R421, R430, R434): reading a word, erasing a sector, programming
pages, and the learned-value log (R423).
-/
namespace Sys2Proof.Machine

/-- Sector `n` carries its unfinished-erase flag, so that its contents are undefined (R434). -/
def State.flagged (s : State) (n : Nat) : Bool := smGet false s.cfl.flags n

/-- The write-protect bit of a sector (R435). -/
def State.protectedSector (s : State) (n : Nat) : Bool := bit (s.rd R.CFL_WP_WP (n / 32)) (n % 32)

/-- A sector whose write-protect bit WP_LOCK holds set: Odber and the committer, which clear the bit for an operation of their
own, cannot write it (R435, R473). [DEDUCED, unsafe: log 228] -/
def State.wpFrozen (s : State) (n : Nat) : Bool := s.on R.CFL_STAT_WP_LOCK && s.protectedSector n

/-- One 32-bit word of the array, by word number. A word of a sector whose erase did not end carries no meaning: an open
value (R434). [DESIGN CHOICE, safe: log 152] -/
def State.cflWord (s : State) (k : Nat) : Nat :=
  if s.flagged (k / 16384) then Config.freeNat (s.freeCtr + k) % 2 ^ 32 else smGet 0xFFFFFFFF s.cfl.arr k

/-- Set or clear the unfinished-erase flag of a sector. -/
def State.setFlag (s : State) (n : Nat) (b : Bool) : State :=
  { s with cfl := { s.cfl with flags := smSet false n b s.cfl.flags } }

/-- An erase of a sector starts: its flag is set and its counter rises (R421, R430). -/
def State.eraseStart (s : State) (n : Nat) : State := (s.inc R.CFL_ECNT_ECNT n).setFlag n true

/-- An erase of a sector ends OK: the sector reads erased, its flag and its CFL_EINT bit clear (R430, R434), and records
it held are gone (R422). -/
def State.eraseOk (s : State) (n : Nat) : State :=
  let s := s.setFlag n false
  let s := s.wr R.CFL_EINT_EINT (setBitTo (s.rd R.CFL_EINT_EINT (n / 32)) (n % 32) false) (n / 32)
  let s := { s with cfl := { s.cfl with arr := smErase (fun k => decide (k / 16384 = n)) s.cfl.arr } }
  if 459 ≤ n ∧ n < 488 then
    { s with evr := { s.evr with pool := smErase (fun k => decide (k / 1024 = n - 459)) s.evr.pool } }
  else s

/-- Odber erases a sector between other operations (R50, R66, R474). -/
def State.sectorErase (s : State) (n : Nat) : State := (s.eraseStart n).eraseOk n

/-- Program words of one page from word `k`: a program only clears bits (R430). -/
def State.cflProgram (s : State) (k : Nat) (ws : List Nat) : State :=
  let m := (ws.zip (List.range ws.length)).foldl (fun m p =>
    let v := smGet 0xFFFFFFFF m (k + p.2)
    smSet 0xFFFFFFFF (k + p.2) (Nat.land v (p.1 % 2 ^ 32)) m) s.cfl.arr
  { s with cfl := { s.cfl with arr := m } }

/-- A page program that stopped part way: each bit to be cleared may or may not be clear, an open value (R432, Table 16-4
code 1). -/
def State.cflPartial (s : State) (k : Nat) (ws : List Nat) : State :=
  (ws.zip (List.range ws.length)).foldl (fun s p =>
    let (v, s) := s.free
    s.cflProgram (k + p.2) [Nat.lor p.1 (v % 2 ^ 32)]) s

/-- A page holds a 0 where its data holds a 1, so that it cannot be programmed (R430). -/
def State.notErased (s : State) (k : Nat) (ws : List Nat) : Bool :=
  (ws.zip (List.range ws.length)).any (fun p =>
    let v := s.cflWord (k + p.2)
    decide (Nat.land v (p.1 % 2 ^ 32) ≠ p.1 % 2 ^ 32))

/-- The words of page `i` of a program's data; bytes beyond it read erased. -/
def pageWords (data : List Nat) (i : Nat) : List Nat :=
  let d := (data.drop (256 * i)).take 256
  let d := d ++ List.replicate (256 - d.length) 255
  (List.range 64).map (fun k => ofLe ((d.drop (4 * k)).take 4))

/-- Program the first `n` pages of a descriptor. -/
def State.cflPages (s : State) (d : CflDesc) (n : Nat) : State :=
  (List.range n).foldl (fun s i => s.cflProgram (d.addr / 4 + 64 * i) (pageWords d.data i)) s

/-- A program that a reset stopped: how many of its pages were done is open; at a C reset the page in progress may be
partly programmed, at a W reset it is finished (R432). [DESIGN CHOICE, safe: log 156] -/
def State.cflStopped (s : State) (d : CflDesc) (cold : Bool) : State :=
  let (v, s) := s.free
  let n := v % d.count
  let s := s.cflPages d n
  if cold then s.cflPartial (d.addr / 4 + 64 * n) (pageWords d.data n)
  else s.cflProgram (d.addr / 4 + 64 * n) (pageWords d.data n)

/-- Compact the learned values: the standing entries go to the other sector, LV_ACT switches and the old sector is erased
(R423). While no image is on trial the entries of the older format are dropped (R484). [DEDUCED, unsafe: log 185] -/
def State.lvCompact (s : State) : State :=
  let old := 457 + s.rd R.CFL_WIN_LV_ACT
  let s := s.wr R.CFL_WIN_LV_ACT (1 - s.rd R.CFL_WIN_LV_ACT)
  let s := { s with fwu := { s.fwu with dual := s.fwu.dual && s.fwu.trial } }.put R.FWU_FMT_DUAL (s.fwu.dual && s.fwu.trial)
  { s with cfl := { s.cfl with lvFull := false } }.sectorErase old

/-- Append an entry to the learned-value area, compacting when it would not fit (R423). The manual gives no entry its size,
so whether the next one fits is an open value. [DESIGN CHOICE, safe: log 125] [DEDUCED, unsafe: log 174]
[DEDUCED, unsafe: log 227] -/
def State.lvAppend (s : State) : State :=
  let s := if s.cfl.lvFull then s.lvCompact else s
  let (v, s) := s.free
  { s with cfl := { s.cfl with lvFull := decide (v % 2 = 1) } }

/-- Write the next boot selection word, with SEQ one higher than the current word (R436, R437). -/
def State.selectWord (s : State) (ba : Nat) : State :=
  let q := if s.cfl.selAny then s.cfl.selSeq + 1 else 0
  let s := { s with cfl := { s.cfl with selAny := true, selSeq := q, selBa := ba,
                                        selPos := if s.cfl.selPos = 32 then 1 else s.cfl.selPos + 1 } }
  (s.wr R.CFL_SEL_SEQ q).wr R.CFL_SEL_BA_NEXT ba

end Sys2Proof.Machine
end

