-- ==== Sys2Proof/Machine/Artefacts.lean ====
section
/-!
DEFINITION. The contents of the image pool's artefacts as sparse bytes, 4,096 to a part: bit vectors and page lists (R173, R212, R226).
-/
namespace Sys2Proof.Machine

/-- The bytes of a bit vector whose bits are set at the rising places of a list. -/
def bitCells : List Nat → List Host.Cell
  | [] => []
  | b :: bs => match bitCells bs with
    | [] => [(b / 8, BitVec.ofNat 8 (2 ^ (b % 8)))]
    | (o, v) :: r =>
      if o = b / 8 then (o, v ||| BitVec.ofNat 8 (2 ^ (b % 8))) :: r
      else (b / 8, BitVec.ofNat 8 (2 ^ (b % 8))) :: (o, v) :: r

/-- Bytes moved to an offset. -/
def cellsAt (off : Nat) (m : List Host.Cell) : List Host.Cell := m.map (fun e => (off + e.1, e.2))

/-- Part `k` of an artefact. -/
def partOf (k : Nat) (m : List Host.Cell) : List Host.Cell :=
  (m.filter (fun e => decide (4096 * k ≤ e.1) && decide (e.1 < 4096 * (k + 1)))).map (fun e => (e.1 - 4096 * k, e.2))

/-- The regions that hold a page of a list, ascending. -/
def regionsOf (pages : List Nat) : List Nat := pages.foldl (fun l p => setIns (regionOf p) l) []

/-- The pages of a region, by their number in it. -/
def inRegion (pages : List Nat) (r : Nat) : List Nat := (pages.filter (fun p => decide (regionOf p = r))).map (· % 2048)

/-- Page lists of the regions `rs`, `w` bytes each. -/
def pageLists (w : Nat) (rs : List Nat) (f : Nat → List Nat) : List Host.Cell :=
  rs.zipIdx.flatMap (fun e => cellsAt (w * e.2) (bitCells (f e.1)))

/-- The bytes of a snapshot: header, held-region vector, exact-region vector, and the list of each exact region (R173). -/
def Snap.cells (x : Snap) : List Host.Cell :=
  let rs := regionsOf x.held
  let exact := rs.filter (fun r => !x.coarse.contains r)
  cellsOf x.head ++ cellsAt 4096 (bitCells rs) ++ cellsAt (17 * 4096) (bitCells exact) ++
    cellsAt (33 * 4096) (pageLists 256 exact (inRegion x.held))

/-- The bytes of a loss record: GEN_L, its region vector and a page list of each region, laid out as a manifest's (R226). -/
def lossCells (gen : Nat) (pages : List Nat) : List Host.Cell :=
  let rs := regionsOf pages
  cellsOf (leBytes 8 gen) ++ cellsAt 4096 (bitCells rs) ++ cellsAt (17 * 4096) (pageLists 256 rs (inRegion pages))

end Sys2Proof.Machine
end

