-- ==== Sys2Proof/Machine/RestOps.lean ====
section
/-!
DEFINITION. The shared operations of restore: generations (R164), the lost set (R225, R229), a page of the image on its way to DRAM
(R229), the reads of the bulk restore (R230) and of on-touch fetches (R232), and the rewrite of an image page from DRAM (R226, R270).
-/
namespace Sys2Proof.Machine

/-- Draw a generation (R164). [DESIGN CHOICE, safe: log 117] -/
def State.drawGen (s : State) : Nat × State :=
  (s.rd R.DFT_GEN_GEN, s.wr R.DFT_GEN_GEN (s.rd R.DFT_GEN_GEN + 1))

/-! ### The lost set -/

/-- Whether a page is yet to be restored, so that a request for it waits for a fetch (R232). -/
def State.unrestored (s : State) (page : Nat) : Bool :=
  s.on R.CVN_STAT_OT && decide (s.rd R.CVN_STAT_RST_ST = 3) && !smGet false s.trk.restored page

/-- Whether a restore in progress has not yet put a page into DRAM (R229, R230). -/
def State.unplaced (s : State) (page : Nat) : Bool :=
  (decide (s.rd R.CVN_STAT_RST_ST = 3) || decide (s.rd R.CVN_STAT_RST_ST = 4)) &&
  (if s.on R.CVN_STAT_OT then !smGet false s.trk.restored page else decide (s.rd R.CVN_RWM_RWM ≤ page))

/-- The lost set's counts and the registers of the loss record (CVN_LOST, CVN_LRNGC, CVN_LRP, LREC). -/
def State.lostRegs (s : State) : State :=
  let s := (s.wr R.CVN_LOST_LOST (rngSize s.cvn.lost)).wr R.CVN_LRNGC_RANGES s.cvn.lost.length
  let s := s.wr R.CVN_LSTG_LSTG s.cvn.lostStg.length
  match s.cvn.loss with
  | none => (s.put R.CVN_STAT_LREC false).wr R.CVN_LRP_LRP 0
  | some r => (s.put R.CVN_STAT_LREC true).wr R.CVN_LRP_LRP (rngSize r.pages)

/-- A page whose slot cannot be read joins the lost set and the loss record (R229). -/
def State.lostAdd (s : State) (p : Nat) : State :=
  let r : LossRec := match s.cvn.loss with
    | some r => { r with pages := rngAdd p 1 r.pages }
    | none => { gen := s.rd R.DFT_GEN_GEN, pages := [(p, 1)] }
  { s with cvn := { s.cvn with lost := rngAdd p 1 s.cvn.lost, loss := some r } }.lostRegs

/-- Whether a page is in the lost set of this restore (R225). -/
def State.isLost (s : State) (p : Nat) : Bool := rngHas p s.cvn.lost

/-- Whether a page stands in the loss record, so that a rewrite of it marks every line (R226). -/
def State.inLossRecord (s : State) (p : Nat) : Bool :=
  match s.cvn.loss with | some r => rngHas p r.pages | none => false

/-! ### Pages on their way to DRAM -/

/-- A page of the image goes to DRAM through the bank queues (R229): zeros for a deallocated page, else the payload and the marks of
its newest slot. A lost page, and one whose slot could not be read, carries a mark on every line. `buf` is the buffer its data stands
in, if it has one. -/
def State.placePage (s : State) (src : DSrc) (p urg buf : Nat) (good : Bool) : State :=
  let c := if good then s.slot (s.imgAt p) else none
  let all := s.isLost p || (!good && decide (s.imgAt p ≠ 0))
  let marks := if all then List.range 64 else match c with | some c => c.marks | none => []
  let s := marks.foldl (fun s l => s.listPoison (p * 4096 + 64 * l)) s
  s.pageStart { pageIo src true (p * 4096) urg buf with data := match c with | some c => c.data | none => [], marks := marks }

/-- The read of the slot of an image page. -/
def State.imgRead (s : State) (p cls : Nat) (src : FSrc) : State :=
  s.fIssue (addrDie (s.imgAt p)) .read cls false (s.sbOf (s.imgAt p)) (s.imgAt p) src

/-- An on-touch fetch begins (R232): the page's slot is read as class 1; a deallocated page is written at once as zeros; one that the
bulk restore is writing already is only waited for. -/
def State.fetchStart (s : State) (p : Nat) : State :=
  let s := { s with cvn := { s.cvn with fetching := s.cvn.fetching ++ [p] } }
  if (s.pageJob (.bulk p)).isSome || (s.pageJob (.fetch p)).isSome then s
  else if s.imgAt p = 0 then s.placePage (.fetch p) p 7 0 true
  else s.imgRead p 1 (.fetch p)

/-- The bulk restore is in progress (R230). -/
def State.bulkRuns (s : State) : Bool :=
  (decide (s.rd R.CVN_STAT_RST_ST = 3) || decide (s.rd R.CVN_STAT_RST_ST = 4)) && decide (s.cvn.code = 0)

/-- The bulk restore goes on to its next page in ascending order (R230): one that an on-touch fetch has is passed over, a deallocated
one needs no read (R229), and the slot of any other is read as class 5. At most 16 pages are on their way at a time.
[DESIGN CHOICE, unsafe: log 206] -/
def State.bulkNextPage (s : State) : State :=
  let p := s.cvn.bulkNext
  if !s.bulkRuns || decide (s.hostPages ≤ p) || decide (16 ≤ s.bulkOut.length) then s
  else
    let s := { s with cvn := { s.cvn with bulkNext := p + 1 } }
    (if smGet false s.trk.restored p || s.cvn.fetching.contains p then s
     else if s.imgAt p = 0 then { s with cvn := { s.cvn with got := s.cvn.got ++ [(p, true, 0)] } }
     else s.imgRead p 5 (.bulk p)).bulkMark

/-- The bulk restore keeps its reads going while it runs. -/
def State.bulkKick (s : State) : State :=
  if s.bulkRuns then (List.range 16).foldl (fun s _ => s.bulkNextPage) s else s

/-! ### Snapshots -/

/-- The header of a snapshot (R173): tick, G, page cost, deliverable energy, Oasis reserve, H, HELD_MEM, HELD_STG, generation counter
and part count. The spec gives the fields and not their sizes. [DESIGN CHOICE, safe: log 215] -/
def State.snapHead (s : State) (parts : Nat) : List Nat :=
  leBytes 8 s.tick ++ leBytes 4 (s.rd R.LDG_GUAR_G) ++ leBytes 4 (s.rd R.LDG_COST_C) ++ leBytes 4 (s.rd R.LDG_EUSE_E_USE) ++
    leBytes 4 (s.rd R.LDG_OASIS_OASIS) ++ leBytes 4 (s.rd R.TRK_HELD_HELD) ++ leBytes 4 (s.rd R.TRK_HMEM_HELD_MEM) ++
    leBytes 4 (s.rd R.TRK_HSTG_HELD_STG) ++ leBytes 8 (s.rd R.DFT_GEN_GEN) ++ leBytes 4 parts

/-- One part of the running snapshot is assigned a slot of kind 0x03 in the image stream and programmed (R173); without a slot it
waits for one. -/
def State.snapPart (s : State) (k : Nat) : State :=
  match s.drift.snapNow with
  | none => s
  | some x =>
    match s.assign 0 1 with
    | (none, s) => s
    | (some a, s) =>
      let s := { s with drift := { s.drift with snapNow := some { x with todo := x.todo.filter (fun i => decide (i ≠ k)) } } }
      let s := s.setSlot a (some { kind := 0x03, key := k, gen := x.gen, data := partOf k x.cells, md := [], marks := [] })
      s.fIssue (addrDie a) .program 3 false (s.sbOf a) a (.snapshot x.num)

/-- The parts of the running snapshot that have no slot yet are given one each. -/
def State.snapFill (s : State) : State :=
  match s.drift.snapNow with
  | none => s
  | some x => x.todo.foldl (fun s k => s.snapPart k) s

/-- A part of the running snapshot is confirmed (R176). -/
def State.snapGot (s : State) (num k : Nat) : State :=
  match s.drift.snapNow with
  | none => s
  | some x => if x.num = num then { s with drift := { s.drift with snapNow := some { x with got := setIns k x.got } } } else s

/-! ### The programs of a save -/

/-- A part of the manifest is complete: from the first on, the manifest of this save is the newest that restore finds (R212,
R224). -/
def State.manifestPart (s : State) (k : Nat) : State :=
  match s.cvn.building with
  | none => s
  | some m =>
    let m := { m with got := setIns k m.got }
    let old := match s.cvn.manifest with | some x => decide (x.gen0 = m.gen0) | none => false
    let r := if old then s.cvn.record else none
    { s with cvn := { s.cvn with building := some m, manifest := some m, record := r } }

/-- The save record and its valid mark as flash holds them once their programs have passed (R218). -/
def State.recordPut (s : State) : State := { s with cvn := { s.cvn with record := s.cvn.newRec } }
def State.markPut (s : State) : State :=
  { s with cvn := { s.cvn with record := s.cvn.record.map (fun (r : SaveRec) => { r with marked := true }) } }

/-- A save is cut off (R38, R163): a program that had not ended leaves its slot incomplete; what a die had written stands. -/
def State.saveTorn (s : State) : State :=
  s.cvn.progs.foldl (fun s x =>
    if x.prog ≠ 2 then s.setSlot x.slot none
    else match x.item with
    | .manifest k => s.manifestPart k
    | .record => s.recordPut
    | .mark => s.markPut
    | _ => s) s

/-! ### Rewrites from DRAM -/

/-- The page of an image slot that is to be written again is read from DRAM (R226, R270), with the urgency of a Drift read. A page
that is dirty or being copied gets a newer slot in any case. -/
def State.imageStart (s : State) (p : Nat) : State :=
  if s.dirtyAt p || (s.copyAt p).isSome || (s.pageJob (.image p)).isSome then s
  else s.pageStart (pageIo (.image p) false (p * 4096) s.driftUrg 0)

/-- The page has been read: it is written as class 3 with a GEN of its own, unless it was dirtied meanwhile. -/
def State.imageRead (s : State) (p : Nat) : State :=
  match s.pageJob (.image p) with
  | none => s
  | some j =>
    if !j.done then s
    else
      let s := s.pageDrop (.image p)
      if s.dirtyAt p || (s.copyAt p).isSome then s
      else match s.assign 0 1 with
      | (none, s) => s
      | (some a, s) =>
        let (g, s) := s.drawGen
        let m := if s.inLossRecord p then List.range 64 else j.marks
        let s := s.setSlot a (some { kind := 0x01, key := p, gen := g, data := j.data, md := [], marks := m })
        s.fIssue (addrDie a) .program 3 false (s.sbOf a) a (.rewrite p) j.buf

end Sys2Proof.Machine
end

