-- ==== Sys2Proof/Machine/HostOps.lean ====
section
/-!
DEFINITION. The shared operations of the host ports: decoders (R76, R77), the request tracker and its credits (R81), QoS
entries and tokens (R90 to R93), DevLoad (R94), admission (R84, R193), and the progress of a request from arrival to the
bank queue (R83, R115, R232, R541). No request reaches flash but by DRAM; an on-touch fetch alone brings a page from flash
first (R22). DevLoad comes before the limits of a requester and those before held stores (R95).
-/
namespace Sys2Proof.Machine

/-! ### DevLoad -/

/-- The congestion level of a port (R94). -/
def State.congLevel (s : State) (port : Nat) : Nat :=
  let u := s.rd R.HP_TRK_TRK_USED port * 100
  if u < s.rd R.HP_DLTH_CONG_OPT port * 1024 then 0
  else if u < s.rd R.HP_DLTH_CONG_MOD port * 1024 then 1
  else if u < s.rd R.HP_DLTH_CONG_SEV port * 1024 then 2
  else 3

/-- The DevLoad of a response: the highest of ledger, congestion and requester level (R94). CXL 1.1 has no QoS telemetry
(Table 3-3). -/
def State.devLoad (s : State) (port : Nat) (qent : Option Nat) : Nat :=
  if s.rd R.HP_STAT_PROTO port < 2 then 0
  else
    let rq := match qent with
      | some e => if s.on R.QOS_KEY_THROT e then 3 else 0
      | none => 0
    max (max s.ledgerLevel (s.congLevel port)) rq

/-! ### Tracker, credits -/

/-- A tracker entry by number. -/
def State.req (s : State) (id : Nat) : Option Req := s.host.trk.find? (fun r => decide (r.id = id))

/-- Whether an operation carries a RwD credit. -/
def ReqOp.isWrite (o : ReqOp) : Bool := decide (o = .wr) || decide (o = .wrPtl)

/-- Bring TRK_USED, HELD_NOW, THROT counts and DL_CONG to what the tracker holds, and the levels with them. -/
def State.trkRefresh (s : State) : State :=
  let one := fun (s : State) (p : Nat) =>
    let s := s.wr R.HP_TRK_TRK_USED ((s.host.trk.filter (fun r => decide (r.port = p))).length) p
    let s := s.wr R.HP_TRK_HELD_NOW (s.heldNow p) p
    let s := s.wr R.HP_DLCUR_DL_CONG (s.congLevel p) p
    if s.heldNow p = 0 then (s.applyRws R.HP_HOLD_HOLD_LIM p).wr R.HP_HOLD_HOLD_ACT (s.rd R.HP_HOLD_HOLD_LIM p) p else s
  (one (one s 0) 1).refresh

/-- Replace a tracker entry. -/
def State.setReq (s : State) (r : Req) : State :=
  { s with host := { s.host with trk := s.host.trk.map (fun x => if x.id = r.id then r else x) } }

/-- Return one credit of a port: it is in flight until the link layer acknowledges it (R81, R347). A RwD credit is
withheld while HOLD_OVER is set (R86). -/
def State.returnCredit (s : State) (port : Nat) (rwd : Bool) : State :=
  if rwd && s.on R.HP_STAT_HOLD_OVER port then
    { s with host := { s.host with rwdKept := smUpd 0 port (· + 1) s.host.rwdKept } }
  else
    { s with host := { s.host with credFly := smUpd 0 (2 * port + b2n rwd) (· + 1) s.host.credFly } }.emit
      (.credit port (b2n (!rwd)) (b2n rwd))

/-- Free a tracker entry; its credit is returned (R81). -/
def State.freeReq (s : State) (r : Req) : State :=
  let s := { s with host := { s.host with trk := s.host.trk.filter (fun x => decide (x.id ≠ r.id)) } }
  (s.returnCredit r.port r.op.isWrite).trkRefresh

/-- Account a completion in its QoS entry's window: longest latency and completions over the class target (QOS_LAT). -/
def State.qosDone (s : State) (r : Req) : State :=
  match r.qent with
  | none => s
  | some e =>
    let h := { s.host with qosLat := smUpd 0 e (max r.age) s.host.qosLat }
    let h := if s.rd R.QOS_CLASS_TARGET r.cls < r.age then { h with qosOver := smUpd 0 e (· + 1) h.qosOver } else h
    { s with host := h }

/-- Complete a read with data, or with poison (R82, R88, R89). -/
def State.finishRead (s : State) (r : Req) (data : List Byte) (psn : Bool) : State :=
  ((s.qosDone r).emit (.memData r.port r.tag data psn (s.devLoad r.port r.qent))).freeReq r

/-- Complete a write (R32, R82). -/
def State.finishWrite (s : State) (r : Req) : State :=
  ((s.qosDone r).emit (.cmp r.port r.tag (s.devLoad r.port r.qent))).freeReq r

/-- Discard a request without completing it (R87), or abandon it, counted in HPx_ABND (R37, R96). -/
def State.dropReq (s : State) (r : Req) : State := s.freeReq r
def State.abandonReq (s : State) (r : Req) : State := (s.inc R.HP_ABND_ABANDONED r.port).freeReq r

/-! ### Decoders -/

/-- The DPA that a logical device's committed decoders yield for a host physical address (R77): the decoder's base DPA
plus the offset with the interleave removed. -/
def decodeHpa (ds : List Decoder) (hpa : Nat) : Option Nat :=
  match ds.find? (fun d => d.committed && decide (d.base ≤ hpa) && decide (hpa < d.base + d.size)) with
  | none => none
  | some d =>
    let o := hpa - d.base
    some (d.dpaBase + (if d.gran = 0 then o else o / d.gran / (if d.ways = 0 then 1 else d.ways) * d.gran + o % d.gran))

/-- Whether a DPA of a logical device lies in its static capacity or, in CXL 3.1 mode, in one of its extents (R75, R76, R78).
[DEDUCED, unsafe: log 69] -/
def State.ldOwns (s : State) (port ld dpa : Nat) : Bool :=
  let a := s.ldBase port ld + dpa
  decide (dpa < s.ldCap port ld) ||
    (decide (s.rd R.HP_STAT_PROTO port = 3) &&
      (s.ld port ld).extents.any (fun e => decide (e.1 * 0x10000000 ≤ a) && decide (a < (e.1 + e.2) * 0x10000000)))

/-- The device physical address of a request (R76), if a committed decoder matches and the address lies in the logical
device's capacity and in host memory. -/
def State.resolve (s : State) (port ld hpa : Nat) : Option Nat :=
  match decodeHpa (s.ld port ld).decs hpa with
  | none => none
  | some dpa =>
    if !s.ldShown port ld then none else
    let a := (s.ldBase port ld + dpa) / 64 * 64
    if s.ldOwns port ld dpa && decide (a < s.hostPages * 4096) then some a else none

/-- Count a request under R77, and raise at most one General Media Event per logical device per 1,024 ticks. -/
def State.countUnmapped (s : State) (port ld : Nat) : State :=
  let s := s.inc R.HP_ERR_UNMAP port
  let k := ldKey port ld
  let d := s.ld port ld
  let due := match d.lastUnmap with
    | none => true
    | some t => decide (t + 1024 ≤ s.tick)
  if due then (s.setLd k { d with lastUnmap := some s.tick }).cxlEventLd k 1 0 1 [] else s

/-! ### QoS -/

/-- The QoS entries with VALID set, by number. -/
def State.qosValid (s : State) : List Nat :=
  (s.regs.filter (fun e => decide (R.QOS_KEY_VALID.key 0 ≤ e.1) && decide (e.1 < R.QOS_KEY_VALID.key 4096) &&
    decide ((e.1 - R.QOS_KEY_VALID.key 0) % 128 = 0))).map (fun e => (e.1 - R.QOS_KEY_VALID.key 0) / 128)

/-- The source ID of a request: the PBR ID in CXL 3.1 mode with port-based routing, otherwise 0 (R90). -/
def State.sourceId (s : State) (port sid : Nat) : Nat :=
  if s.rd R.HP_STAT_PROTO port = 3 ∧ bit s.host.pbr port then sid % 4096 else 0

/-- The default class of a logical device (QOS_LDCLS). -/
def State.ldClass (s : State) (port ld : Nat) : Nat := s.rd R.QOS_LDCLS_CLASS (2 * port + ld / 8) (ld % 8)

/-- The entry of a requester. -/
def State.qosFind (s : State) (port ld sid : Nat) : Option Nat :=
  s.qosValid.find? (fun e => decide (s.rd R.QOS_KEY_PORT e = port) && decide (s.rd R.QOS_KEY_LD e = ld) &&
    decide (s.rd R.QOS_KEY_SID e = sid))

/-- The entry a request runs under: found, or allocated with its logical device's class; none when the table is full,
which sets FULL and counts in QOS_OVF (R91). The lowest free entry is taken. The spec says of an entry that is allocated anew only
that it takes its class and VALID: it keeps the REQ_CAP, ACT_CAP, ACT_THR and PINNED that it held before.
[DESIGN CHOICE, unsafe: log 191] -/
def State.qosLookup (s : State) (port ld sid : Nat) : Option Nat × State :=
  match s.qosFind port ld sid with
  | some e => (some e, s)
  | none =>
    let used := s.qosValid
    match (List.range 4096).find? (fun e => !used.contains e) with
    | none => (none, (s.put R.QOS_CTL_FULL true).inc R.QOS_OVF_OVF)
    | some e =>
      let s := ((s.wr R.QOS_KEY_SID sid e).wr R.QOS_KEY_LD ld e).wr R.QOS_KEY_PORT port e
      let s := ((s.wr R.QOS_KEY_CLASS (s.ldClass port ld) e).put R.QOS_KEY_VALID true e)
      (some e, { s with host := { s.host with qosSpent := smSet 0 e 0 s.host.qosSpent } })

/-- The class of a request (R91, R92). -/
def State.reqClass (s : State) (qent : Option Nat) (port ld : Nat) : Nat :=
  match qent with
  | some e => s.rd R.QOS_KEY_CLASS e
  | none => s.ldClass port ld

/-- The urgency of a request by age and class (R92). -/
def State.urgency (s : State) (cls age : Nat) : Nat :=
  let t := s.rd R.QOS_CLASS_TARGET cls
  if t = 0 then 7 else min 7 (8 * age / t)

/-- Whether an entry has a token: no cap, or the bucket of 64 is not spent (R93). [DEDUCED, unsafe: log 58] -/
def State.hasToken (s : State) (qent : Option Nat) : Bool :=
  match qent with
  | none => true
  | some e => decide (s.rd R.QOS_CAP_REQ_CAP e = 0) || decide (smGet 0 s.host.qosSpent e + 10000 ≤ 64 * 10000)

/-- Spend a token of a capped entry. -/
def State.spendToken (s : State) (qent : Option Nat) : State :=
  match qent with
  | none => s
  | some e => if s.rd R.QOS_CAP_REQ_CAP e = 0 then s
    else { s with host := { s.host with qosSpent := smUpd 0 e (· + 10000) s.host.qosSpent } }

/-- THROT of an entry: 1 while any of its requests waits on a token or on an activate limit (R93). -/
def State.throtRefresh (s : State) (e : Nat) : State :=
  let b := s.host.trk.any (fun r => decide (r.qent = some e) && decide (r.stage = .waitToken)) ||
    s.dram.q.any (fun r => decide (r.qent = some e) && !s.rowHit r && !s.actAllowed r)
  let p := s.rd R.QOS_KEY_PORT e
  let was := s.on R.QOS_KEY_THROT e
  let s := s.put R.QOS_KEY_THROT b e
  if was = b then s
  else if b then s.inc R.HP_DLCUR_THROT_CNT p else s.sub R.HP_DLCUR_THROT_CNT 1 p

/-- THROT of every entry (R93). -/
def State.throtAll (s : State) : State := s.qosValid.foldl (fun s e => s.throtRefresh e) s

/-! ### Admission -/

/-- The oldest held store of both ports (R84). -/
def State.oldestHeld (s : State) : Option Req := s.host.trk.find? (fun r => decide (r.stage = .held))

/-- The test of R193 for a store that is not held (R33, R34, R41; the test is of the held set, not of the dirty bit): disabled gate, held page, someone held, room under G. -/
def State.admits (s : State) (page : Nat) : Bool :=
  !s.trk.gate || s.inHeld page ||
  (s.oldestHeld.isNone && decide (s.rd R.TRK_HELD_HELD + 1 ≤ s.rd R.LDG_GUAR_G))

/-- Admit a store: the page takes it (Table 5-2) and the request goes on to its bank queue. -/
def State.admitReq (s : State) (r : Req) : State :=
  (s.setReq { r with stage := .waitBank }).pageStore (r.dpa / 4096)

/-- Hold a store (R84, R193). -/
def State.holdReq (s : State) (r : Req) : State :=
  ((s.setReq { r with stage := .held, heldFor := 0 }).inc R.HP_HOLDS_HOLD_TOTAL r.port).trkRefresh

/-- Whether an earlier write to the same line stands in the tracker before request `id` (R83). -/
def State.earlierWrite (s : State) (r : Req) : Bool :=
  (s.host.trk.takeWhile (fun x => decide (x.id ≠ r.id))).any (fun x => x.op.isWrite && decide (x.dpa = r.dpa))

/-- From waiting for memory to the token bucket (R541, R93). -/
def State.goToken (s : State) (id : Nat) : State :=
  match s.req id with
  | none => s
  | some r => if r.stage = .waitReady ∧ s.on R.CVN_STAT_READY then s.setReq { r with stage := .waitToken } else s

/-- A request to a range marked offline: a read returns poison, a write is completed and discarded, and UNMAP counts it
(R140). -/
def State.answerOffline (s : State) (r : Req) : State :=
  let s := s.inc R.HP_ERR_UNMAP r.port
  if r.op = .rd then s.finishRead r [] true else s.finishWrite r

/-- A token in hand: an invalidate is answered (R82), and a request to an offline range (R140); a request to an unrestored page waits for its fetch; another read goes to the line check, a store to
admission (R93, R232, R193). -/
def State.goFetch (s : State) (id : Nat) : State :=
  match s.req id with
  | none => s
  | some r =>
    if r.stage ≠ .waitToken then s
    else if !s.hasToken r.qent then (match r.qent with | some e => s.throtRefresh e | none => s)
    else
      let s := s.spendToken r.qent
      let p := r.dpa / 4096
      if r.op = .inv then s.finishWrite r
      else if s.isOffline r.dpa then s.answerOffline r
      else if s.unrestored p then
        let s := s.setReq { r with stage := .waitFetch }
        if s.cvn.fetching.contains p then s else s.fetchStart p
      else
        let s := s.setReq { r with stage := .waitLine }
        match r.qent with
        | some e => if s.on R.QOS_KEY_THROT e then s.throtRefresh e else s
        | none => s

/-- A store meets the admission test (R193); a read goes on once no earlier write of its line waits (R83). -/
def State.goAdmit (s : State) (id : Nat) : State :=
  match s.req id with
  | none => s
  | some r =>
    if r.stage ≠ .waitLine then s
    else if r.op.isWrite then
      (if s.admits (r.dpa / 4096) then s.admitReq r else s.holdReq r)
    else if s.earlierWrite r then s
    else s.setReq { r with stage := .waitBank }

/-- A write enters its bank queue, where it is applied and completes (R32, R115). -/
def State.pushWrite (s : State) (r : Req) : State :=
  (s.dramPush r.dpa true r.data r.be r.psn (.host r.id) 1 r.qent).finishWrite r

/-- Into the bank queue when it has room (R115): a write then completes (R32), a read waits for its data. Writes of one
line keep their order (R83). A line marked offline reads as poison and discards writes (R140). A store that waited while Drift
took its page is a store to a clean page again: it meets the admission test and the page takes it (R32, R193). -/
def State.goBank (s : State) (id : Nat) : State :=
  match s.req id with
  | none => s
  | some r =>
    if r.stage ≠ .waitBank then s
    else if s.isOffline r.dpa then s.answerOffline r
    else if r.op.isWrite && s.earlierWrite r then s
    else if !s.dramRoom r.dpa then s
    else if r.op = .rd then
      (s.dramPush r.dpa false [] 0 false (.host r.id) r.urg r.qent).setReq { r with stage := .readQ }
    else if s.dirtyAt (r.dpa / 4096) || !s.on R.TRK_STAT_RUN then s.pushWrite r
    else if s.admits (r.dpa / 4096) then (s.pageStore (r.dpa / 4096)).pushWrite r
    else s.holdReq r

/-- One request goes as far as it can. [DEDUCED, safe: log 39] -/
def State.goReq (s : State) (id : Nat) : State := (((s.goToken id).goFetch id).goAdmit id).goBank id

/-- Every waiting request goes as far as it can, oldest first (R83, R84). CXL.mem held for an activation waits (R479). -/
def State.goAll (s : State) : State :=
  if s.host.cxlHold then s else (s.host.trk.map (·.id)).foldl (fun s id => s.goReq id) s

/-- Admit every held store without the test: the gate is disabled (R85, R192). -/
def State.admitAllHeld (s : State) : State :=
  let ids := (s.host.trk.filter (fun r => decide (r.stage = .held))).map (·.id)
  let s := ids.foldl (fun s id => match s.req id with | some r => s.admitReq r | none => s) s
  s.goAll.trkRefresh

/-- HOLD_OVER clears and the withheld credits return while no held store of the port is older than the limit (R86). -/
def State.holdOverClear (s : State) (port : Nat) : State :=
  if s.on R.HP_STAT_HOLD_OVER port &&
      !s.host.trk.any (fun r => decide (r.port = port) && decide (r.stage = .held) &&
        decide (s.rd R.HP_HOLD_HOLD_ACT port * 1000 < r.heldFor)) then
    let n := smGet 0 s.host.rwdKept port
    let s := s.put R.HP_STAT_HOLD_OVER false port
    let s := { s with host := { s.host with rwdKept := smSet 0 port 0 s.host.rwdKept,
                                            credFly := smUpd 0 (2 * port + 1) (· + n) s.host.credFly } }
    if n = 0 then s else s.emit (.credit port 0 n)
  else s

/-- The gate admits the oldest held store, if the held set is below G or its page is held, and with it every held store
to its page (R84, R193). [DEDUCED, unsafe: log 40] -/
def State.admitOldest (s : State) : State :=
  match s.oldestHeld with
  | none => s
  | some r =>
    let p := r.dpa / 4096
    if !s.trk.gate || s.inHeld p || decide (s.rd R.TRK_HELD_HELD + 1 ≤ s.rd R.LDG_GUAR_G) then
      let ids := (s.host.trk.filter (fun x => decide (x.stage = .held) && decide (x.dpa / 4096 = p))).map (·.id)
      let s := ids.foldl (fun s id => match s.req id with | some x => s.admitReq x | none => s) s
      ((s.goAll.trkRefresh).holdOverClear 0).holdOverClear 1
    else s

/-- A port serves CXL.mem: it exists, its link is in L0 or L1 with CXL negotiated, and PERST is released (R70, R71, R87). -/
def State.serving (s : State) (port : Nat) : Bool :=
  s.on R.HP_STAT_ACTIVE port && !bit s.host.perst port &&
  (decide (s.rd R.HP_STAT_LINK port = 2) || decide (s.rd R.HP_STAT_LINK port = 3)) &&
  decide (1 ≤ s.rd R.HP_STAT_PROTO port)

/-- Whether the host holds a credit of the kind: 640 Req and 384 RwD credits a port (R81). -/
def State.hasCredit (s : State) (port : Nat) (rwd : Bool) : Bool :=
  let k := 2 * port + b2n rwd
  if rwd then decide (smGet 0 s.host.rwdOut port - smGet 0 s.host.credFly k < 384)
  else decide (smGet 0 s.host.reqOut port - smGet 0 s.host.credFly k < 640)

/-- A request spends a credit. [DEDUCED, unsafe: log 53] -/
def State.spendCredit (s : State) (port : Nat) (rwd : Bool) : State :=
  if rwd then { s with host := { s.host with rwdOut := smUpd 0 port (· + 1) s.host.rwdOut } }
  else { s with host := { s.host with reqOut := smUpd 0 port (· + 1) s.host.reqOut } }

/-- A save runs, so an arriving request is abandoned (R96, R222). -/
def State.saving (s : State) : Bool := decide (s.cvn.code ≠ 0)

/-- The tracker entry that a request which arrives would take, under its QoS entry or its logical device's class (R91, R92). -/
def State.newReq (s : State) (port ld tag : Nat) (op : ReqOp) (data : List Byte) (be : Nat) (psn : Bool) (q : Option Nat) : Req :=
  { id := s.host.nextReq, port := port, ld := ld, tag := tag, op := op, dpa := 0, data := data, be := be, psn := psn,
    age := 0, heldFor := 0, cls := s.reqClass q port ld, urg := 0, qent := q, stage := .waitReady, expired := false, stalled := false }

/-- A request takes the tracker's last entry. -/
def State.addReq (s : State) (r : Req) : State :=
  { s with host := { s.host with trk := s.host.trk ++ [r], nextReq := s.host.nextReq + 1 } }

/-- A request is counted for its entry (QOS_THR). -/
def State.countReq (s : State) : Option Nat → State
  | some e => { s with host := { s.host with qosReq := smUpd 0 e (· + 1) s.host.qosReq } }
  | none => s

/-- A request that no decoder maps is answered: a read with poison (R77); it counts for its entry like any other (R91). -/
def State.answerUnmapped (s : State) (r : Req) : State :=
  let s := (((s.countReq r.qent).addReq r).trkRefresh).countUnmapped r.port r.ld
  if r.op = .rd then s.finishRead r [] true else s.finishWrite r

/-- A request with its device physical address enters the tracker under its QoS entry and goes as far as it can (R81, R91). -/
def State.enter (s : State) (r : Req) : State :=
  let s := ((s.countReq r.qent).addReq r).trkRefresh
  if s.host.cxlHold then s else s.goReq r.id

/-- A request arrives at a serving port with a credit: decode, QoS lookup, tracker entry, and as far as it can go
(R76, R77, R81, R91, R222). -/
def State.arrive (s : State) (port ld sid tag hpa : Nat) (op : ReqOp) (data : List Byte) (be : Nat) (psn : Bool) :
    State :=
  if !s.serving port || !s.hasCredit port op.isWrite then s
  else
    let (q, t) := (s.spendCredit port op.isWrite).qosLookup port ld (s.sourceId port sid)
    let r := t.newReq port ld tag op data be psn q
    if s.saving then ((t.countReq q).addReq r).abandonReq r
    else match s.resolve port ld hpa with
    | none => t.answerUnmapped r
    | some a => t.enter { r with dpa := a }

/-- Handle a port's uncompleted requests at a link reset: writes already queued are carried out, the others are discarded
(R87). `p` selects the requests. -/
def State.discard (s : State) (p : Req → Bool) : State :=
  let gone := s.host.trk.filter p
  let s := gone.foldl (fun s r => s.dropReq r) s
  let ids := gone.map (·.id)
  let keep := fun (x : DReq) => match x.src with
    | .host id => !ids.contains id || x.wr
    | _ => true
  let s := { s with dram := { s.dram with q := s.dram.q.filter keep, reading := s.dram.reading.filter keep } }
  (s.holdOverClear 0).holdOverClear 1

end Sys2Proof.Machine
end

