-- ==== Sys2Proof/Machine/FwOps.lean ====
section
/-!
DEFINITION. Firmware update, whose only stored formats are FMT and LV_FMT (R470): the slots read as images (R469, R471), verification (R475), the selection (R482, R483), the
course of an activation (R478 to R481), the download (R472 to R474), and how a mailbox command completes (R507).
-/
namespace Sys2Proof.Machine

/-! ### Mailbox completions (R507) -/

/-- Return codes, in the encoding of the CXL specification. -/
def rcSuccess : Nat := 0
def rcBackground : Nat := 1
def rcInvalidInput : Nat := 2
def rcUnsupported : Nat := 3
def rcBusy : Nat := 6
def rcTransferring : Nat := 8
def rcVerifyFailed : Nat := 10
def rcInvalidSlot : Nat := 11
def rcActFailed : Nat := 12
def rcColdReset : Nat := 13
def rcInvalidHandle : Nat := 14
def rcInvalidAddr : Nat := 15

/-- A mailbox command of mailbox `m` (Table 3-10's index of its LD) completes: counted, its error kept, and vector 0 of
function 0 of the LD raised (R507, R515, MBX map). -/
def State.mbxDone (s : State) (m opc rc : Nat) (payload : List Nat := []) : State :=
  let s := (s.inc R.MBX_CNT_DONE).emit (.mbx (m / 16) (m % 16) rc payload)
  let s := if rc ≤ 1 then s
    else (((s.wr R.MBX_LAST_OPCODE opc).wr R.MBX_LAST_RC rc).wr R.MBX_LAST_LD (m % 16)).wr R.MBX_LAST_PORT (m / 16)
  s.emit (.msix (m / 16) (m % 16) 0)

/-- Commands that waited for a save or an activation run again, oldest first, once neither holds them (R478, R480, R510). -/
def State.releaseWaiting (s : State) : State :=
  if s.cvn.code ≠ 0 ∨ s.fwu.act ≠ 0 ∨ !(s.roleRuns 0 || s.roleRuns 1) then s
  else { s.wr R.MBX_STAT_BUSY 0 with resumed := s.resumed ++ s.loq.waiting, loq := { s.loq with waiting := [] } }

/-! ### Images -/

/-- First sector of a firmware slot: 0 slot A, 1 slot B (Table 16-1, R469). -/
def fwSector (slot : Nat) : Nat := if slot = 0 then 4 else 260

/-- One 32-bit word of a firmware slot. -/
def State.fwWord (s : State) (slot k : Nat) : Nat := s.cflWord (fwSector slot * 16384 + k)

/-- The bytes of a range of words of a slot. -/
def State.fwBytes (s : State) (slot k n : Nat) : List Nat :=
  (List.range n).flatMap (fun i => leBytes 4 (s.fwWord slot (k + i)))

/-- Header fields of Table 19-1. -/
def State.fwBlocks (s : State) (slot : Nat) : Nat := s.fwWord slot 2
def State.fwFlags (s : State) (slot : Nat) : Nat := bits (s.fwWord slot 3) 0 16
def State.fwClass (s : State) (slot : Nat) : Nat := bits (s.fwFlags slot) 1 2
def State.fwBoot (s : State) (slot : Nat) : Bool := bit (s.fwFlags slot) 3
def State.fwSvn (s : State) (slot : Nat) : Nat := bits (s.fwWord slot 3) 16 16
def State.fwLvFmt (s : State) (slot : Nat) : Nat := bits (s.fwWord slot 11) 0 16

/-- The CRC of one block matches (R471). -/
def State.fwBlockOk (s : State) (slot b : Nat) : Bool :=
  decide (crc32c (s.fwBytes slot (1024 * b) 1023) = s.fwWord slot (1024 * b + 1023))

/-- The signed words, blocks 0 to N − 3, and the signature block in the contents of the last two blocks (R471). -/
def State.fwSigned (s : State) (slot : Nat) : List Nat :=
  (List.range (1024 * (s.fwBlocks slot - 2))).map (s.fwWord slot)
def State.fwSigBlock (s : State) (slot : Nat) : List Nat :=
  let b := 1024 * (s.fwBlocks slot - 2)
  (List.range 1023).map (fun k => s.fwWord slot (b + k)) ++ (List.range 353).map (fun k => s.fwWord slot (b + 1024 + k))

/-- First word of an Erg slot, and one word of its image (Table 16-1). -/
def ergSector (slot : Nat) : Nat := if slot = 0 then 196 else 452
def State.ergWord (s : State) (slot k : Nat) : Nat := s.cflWord (ergSector slot * 16384 + k)

/-- A firmware slot's image accepts an Erg format (Table 19-1). -/
def State.fwTakesErg (s : State) (slot fmt : Nat) : Bool :=
  decide (bits (s.fwWord slot 10) 0 16 ≤ fmt) && decide (fmt ≤ bits (s.fwWord slot 10) 16 16)

/-- The lengths and places of step 2 of Table 19-2. [DEDUCED, unsafe: log 171] -/
def State.fwHeaderOk (s : State) (slot : Nat) : Bool :=
  let n := s.fwBlocks slot
  let b := s.fwWord slot 12
  let c := s.fwWord slot 13
  decide (s.fwWord slot 0 = 0x52464245) && decide (bits (s.fwWord slot 1) 0 16 = 1) && decide (4 ≤ n) &&
  decide (n ≤ 3072) && decide (s.fwClass slot ≤ 2) && decide (s.fwSvn slot ≤ 63) &&
  (if s.fwBoot slot then decide (1 ≤ c) && decide (c ≤ 64) && decide (b + c ≤ n) else decide (b = 0) && decide (c = 0))

/-- Verification in the order of Table 19-2: the code of the first failure, or 0. `upTo`: the last step that runs. -/
def State.fwVerify (s : State) (slot upTo : Nat) : Nat :=
  let n := s.fwBlocks slot
  -- a block count that is out of range names no blocks: block 0 alone is checked before step 2 finds it
  let n1 := if 4 ≤ n ∧ n ≤ 3072 then n else 1
  if ¬ (List.range n1).all (s.fwBlockOk slot) then 0x01
  else if ¬ s.fwHeaderOk slot then 0x02
  else if bits (s.fwWord slot 1) 16 16 ≠ s.rd R.CAL_HWTYPE_HW_TYPE then 0x03
  else if bit (s.fwFlags slot) 0 ∧ ¬ (List.range 4).all (fun i => decide (s.fwWord slot (4 + i) = s.rd R.CAL_UID_UID i))
    then 0x04
  else if ¬ Config.ecdsaOk (s.fwSigned slot ++ s.fwSigBlock slot) then 0x05
  else if ¬ Config.mldsaOk (s.fwSigned slot ++ s.fwSigBlock slot) then 0x06
  else if ¬ Config.vendorKey (s.fwSigBlock slot) then 0x07
  else if upTo ≤ 7 then 0
  else if s.fwSvn slot < s.rd R.FWU_SVN_FLOOR then 0x08
  else if upTo ≤ 8 then 0
  else if ¬ s.fwTakesErg slot (bits (s.ergWord (s.rd R.ERG_STAT_BOOT_SLOT) 1) 0 16) then 0x09
  else if !s.fwu.trial && decide (s.fwLvFmt slot < s.rd R.FWU_FMT_LV_FMT) then 0x0A
  else 0

/-- The slot registers take the result of a verification (FWU map). -/
def State.fwResult (s : State) (slot verr : Nat) : State :=
  let s := (s.put R.FWU_SLOT_VALID (decide (verr = 0)) slot).wr R.FWU_SLOT_VERR verr slot
  let s := (s.wr R.FWU_SLOT_ACT_CLASS (s.fwClass slot) slot).put R.FWU_SLOT_BOOT (s.fwBoot slot) slot
  let s := s.wr R.FWU_SLOT_SVN (s.fwSvn slot) slot
  (s.wr R.FWU_REV_FR (s.fwWord slot 8) (2 * slot)).wr R.FWU_REV_FR (s.fwWord slot 9) (2 * slot + 1)

/-- A slot whose download was abandoned or is open (R473). -/
def State.fwUnverified (s : State) (slot : Nat) : State :=
  let s := (s.put R.FWU_SLOT_VALID false slot).wr R.FWU_SLOT_VERR 0x0D slot
  (s.wr R.FWU_REV_FR 0 (2 * slot)).wr R.FWU_REV_FR 0 (2 * slot + 1)

/-- Verify a slot up to a step and keep the result. -/
def State.fwCheck (s : State) (slot upTo : Nat) : Nat × State :=
  let v := s.fwVerify slot upTo
  (v, s.fwResult slot v)

/-- The status of a failed verification: code type 1 with Invalid Firmware Image for steps 1 to 7, Firmware Activation
Prohibited for steps 8 to 10 (Table 19-2, Table 10-10). -/
def fwStatus (verr : Nat) : Nat := if verr = 0 then 0 else if verr ≤ 7 then 0x07 else 0x13

/-! ### Selection and formats (R482, R483) -/

/-- An Erg slot holds an image whose format the other firmware slot's image accepts (R483). -/
def State.ergKept (s : State) (erg : Nat) : Bool :=
  decide (s.ergWord erg 0 = 0x31475245) && s.fwTakesErg (1 - s.fwu.run) (bits (s.ergWord erg 1) 0 16)

/-- The Erg slots that a trial protects: the last one that the fall-back image accepts (R483). -/
def State.ergProtected (s : State) (erg : Nat) : Bool :=
  s.fwu.trial && s.ergKept erg && !s.ergKept (1 - erg)

/-- FWU_SEL, FWU_SVN and FWU_FMT report the selection, the running image and the formats that stand. -/
def State.fwReport (s : State) : State :=
  let f := s.fwu
  let s := (s.wr R.FWU_SEL_RUN f.run).wr R.FWU_SEL_NEXT f.next
  let s := ((s.put R.FWU_SEL_TRIAL f.trial).wr R.FWU_SEL_TRIES f.tries).put R.FWU_SEL_PENDING (decide (f.next ≠ f.run))
  let onTrial := f.trial && decide (f.next = f.run)
  let s := s.wr R.FWU_SVN_RUN_SVN (s.fwSvn f.run)
  let s := s.wr R.FWU_FMT_LV_FMT (s.fwLvFmt (if onTrial then 1 - f.run else f.run))
  let dual := s.fwu.dual || (onTrial && decide (s.fwLvFmt 0 ≠ s.fwLvFmt 1))
  let s := { s with fwu := { s.fwu with dual := dual } }.put R.FWU_FMT_DUAL dual
  s.put R.FWU_FMT_ERG_PROT (s.ergProtected 0 || s.ergProtected 1)

/-- Write the selection: a learned-value entry (R423, R482). -/
def State.fwSelect (s : State) (run next : Nat) (trial : Bool) (tries : Nat) : State :=
  ({ s with fwu := { s.fwu with run := run, next := next, trial := trial, tries := tries } }.lvAppend).fwReport

/-- A slot is to be activated at the next W or C reset, or by an activation: NEXT names it. The running slot named again
keeps its own standing; another starts a trial (R478, R482). [DEDUCED, unsafe: log 173] -/
def State.fwTarget (s : State) (slot : Nat) : State :=
  if slot = s.fwu.run then s.fwSelect s.fwu.run slot (s.fwu.trial && decide (s.fwu.next = slot)) 0
  else s.fwSelect s.fwu.run slot true 0

/-! ### Download (R472 to R474) -/

/-- Complete NVMe downloads that wait, with Invalid Firmware Image. -/
def State.fwFailWaits (s : State) (p : Nat × List Nat → Bool) : State :=
  let gone := s.fwu.waits.filter p
  let s := { s with fwu := { s.fwu with waits := s.fwu.waits.filter (fun e => !p e) } }
  gone.foldl (fun s e => s.nvmFinish e.1 1 0x07) s

/-- The open download is abandoned (R473): the inactive slot is incomplete. -/
def State.fwAbandon (s : State) : State :=
  if s.rd R.FWU_STAT_STATE ≠ 1 then s
  else
    let s := s.fwFailWaits (fun _ => true)
    let s := { s with fwu := { s.fwu with part := [], blocks := [], erased := [] } }
    let s := ((s.wr R.FWU_STAT_STATE 0).wr R.FWU_STAT_OWNER 0).wr R.FWU_DLST_BLOCKS 0
    s.fwUnverified (1 - s.fwu.run)

/-- The download ends with a commit, the End action or a verification: what was programmed stays in the slot, and a block
that has not wholly arrived is lost. [DEDUCED, unsafe: log 186] -/
def State.fwClose (s : State) : State :=
  if s.rd R.FWU_STAT_STATE ≠ 1 then s
  else
    let s := s.fwFailWaits (fun _ => true)
    let s := { s with fwu := { s.fwu with part := [], blocks := [], erased := [] } }
    ((s.wr R.FWU_STAT_STATE 0).wr R.FWU_STAT_OWNER 0).wr R.FWU_DLST_BLOCKS 0

/-- The bytes of a block that have arrived. -/
def State.fwPart (s : State) (k : Nat) : Option Nat := match smGet 0 s.fwu.part k with | 0 => none | v + 1 => some v

/-- Data arrives from a path (FWU_STAT.OWNER): the first opens the download; another path's is refused while one is open
(R472, R473). Byte offset and bytes. [DEDUCED, unsafe: log 170] -/
def State.fwData (s : State) (owner off : Nat) (data : List Nat) : Bool × State :=
  let st := s.rd R.FWU_STAT_STATE
  if 2 ≤ st ∨ (st = 1 ∧ s.rd R.FWU_STAT_OWNER ≠ owner) ∨ 12582912 < off + data.length ∨ s.fwu.act ≠ 0 then (false, s)
  else
    let s := if st = 1 then s
      else ((s.wr R.FWU_STAT_STATE 1).wr R.FWU_STAT_OWNER owner).fwUnverified (1 - s.fwu.run)
    let m := (data.zip (List.range data.length)).foldl (fun m p => smSet 0 (off + p.2) (p.1 % 256 + 1) m) s.fwu.part
    (true, { s with fwu := { s.fwu with part := m, lastAt := s.tick } })

/-! ### Activation (R478 to R481) -/

/-- The class of an activation: the higher ACT_CLASS of the running and the target image (R478). -/
def State.actClassOf (s : State) (slot : Nat) : Nat := max (s.fwClass s.fwu.run) (s.fwClass slot)

/-- Step 1 of R478: admin fetch pauses, and every controller with the notice enabled receives it (R481). `tag`: NVMe tag
plus one; `mbx`: mailbox plus one. [DEDUCED, unsafe: log 172] -/
def State.actBegin (s : State) (slot cls tag mbx : Nat) : State :=
  let f := { s.fwu with act := 1, actSlot := slot, actClass := cls, actAt := s.tick, holdAt := s.tick, actTag := tag,
                        actMbx := mbx }
  let s := ({ s with fwu := f }.wr R.FWU_STAT_STATE 3).put R.NVC_STAT_ADMIN_PAUSE true
  s.fnIds.foldl (fun s f => if bit ((s.fn f).feat 0x0B 0) 9 then s.aen f 0x030102 else s) s

/-- Fetch and the mailbox resume, and the state of an activation clears. -/
def State.actClear (s : State) : State :=
  let s := { s with fwu := { s.fwu with act := 0, actTag := 0, actMbx := 0 },
                    nvm := { s.nvm with ioPause := false }, host := { s.host with cxlHold := false } }
  ((s.wr R.FWU_STAT_STATE 0).put R.NVC_STAT_ADMIN_PAUSE false).releaseWaiting.goAll

/-- Complete the Commit or the mailbox command that asked (R481): status code (type 1) or return code. -/
def State.actPost (s : State) (tag mbx sc rc : Nat) : State :=
  let s := if tag = 0 then s else s.nvmFinish (tag - 1) (if sc = 0 then 0 else 1) sc
  if mbx = 0 then s else (s.put R.MBX_STAT_DEVWIDE false).mbxDone (mbx - 1) 0x0202 rc

/-- The activation has ended: FWU_ACTT, the activation-complete event, and the completion (R481). -/
def State.actEnd (s : State) : State :=
  let f := s.fwu
  let ms := fun (t : Nat) => (s.tick - t) * 1000 / 32768
  let s := (s.wr R.FWU_ACTT_CLASS f.actClass).wr R.FWU_ACTT_TOTAL_MS (min 16383 (ms f.actAt))
  let s := s.wr R.FWU_ACTT_HOLD_MS (if f.act = 3 then min 200 (ms f.holdAt) else 0)
  (s.note 0x11 1).actClear.actPost f.actTag f.actMbx 0 rcSuccess

/-- The activation is refused: commands or operations remain (R336, R478). -/
def State.actRefuse (s : State) : State :=
  let f := s.fwu
  s.actClear.actPost f.actTag f.actMbx 0x12 rcActFailed

/-- Admin commands that run, the Commit itself and event requests apart. -/
def State.adminBusy (s : State) : Bool :=
  s.nvm.cmds.any (fun e => decide (e.2.sq = 0) && decide (e.2.opc ≠ 0x0C) && decide (e.1 + 1 ≠ s.fwu.actTag))

/-- Long operations that run. -/
def State.loqBusy (s : State) : Bool := s.loq.ents.any (fun e => e.2.used && !e.2.ended)

/-- The running image changes at the restart of the cores (R478 step 4). -/
def State.fwSwitch (s : State) : State :=
  { s with fwu := { s.fwu with run := s.fwu.actSlot } }.fwReport

/-- No core holds a semaphore or a code-flash bank: the point at which the cores stop for the target image (R478 step 4). -/
def State.coresFree (s : State) : Bool :=
  s.buf.sems.all (fun e => decide (e.2.holder = 0)) &&
  (List.range 2).all (fun b => decide (s.rd R.CFL_OWN_OWNER b = 0) || decide (s.rd R.CFL_OWN_OWNER b = 5))

/-- An activation goes on as soon as what it waits for has ended (R478 steps 2 to 5, R336); a save stands in its way
(R480). -/
def State.fwKick (s : State) : State :=
  if s.cvn.code ≠ 0 then s
  else
    let s := if s.fwu.act = 1 ∧ !s.adminBusy ∧ !s.loqBusy then
        let s := s.fwTarget s.fwu.actSlot
        if s.fwu.actClass = 0 then { s with fwu := { s.fwu with act := 4 } }
        else { s with fwu := { s.fwu with act := 2, holdAt := s.tick }, nvm := { s.nvm with ioPause := true } }
      else s
    if s.fwu.act = 4 ∧ s.coresFree then s.fwSwitch.actEnd
    else if s.fwu.act = 2 ∧ !s.nvm.cmds.any (fun e => decide (e.2.sq ≠ 0)) then
      let s := { s with fwu := { s.fwu with act := 3, holdAt := s.tick }, host := { s.host with cxlHold := true } }
      (s.wr R.FWU_STAT_STATE 4).fwSwitch
    else s

/-- A Caravan trigger meets an activation (R480): before the switch it stops, to restart at step 2 after the save; after
it the hold ends at once. -/
def State.actTrigger (s : State) : State :=
  if s.fwu.act = 3 then s.actEnd
  else if s.fwu.act = 2 ∨ s.fwu.act = 4 then
    { s with fwu := { s.fwu with act := 1 }, nvm := { s.nvm with ioPause := false } }
  else s

/-- After a save of code 3 or 4 a stopped activation waits anew (R480). -/
def State.actResume (s : State) : State :=
  if s.fwu.act = 1 then { s with fwu := { s.fwu with holdAt := s.tick } } else s

end Sys2Proof.Machine
end

