-- ==== Sys2Proof/Machine/OvlOps.lean ====
section
/-!
DEFINITION. The course of an OVL_SWITCH (R59 to R64, R236, R538): the batch of step 3 with the actions of R62, what holds it
back, and the end of a volatile overlay. LoqSt.ovlStep stands at 0 none, 1 waiting for the bulk restore, 4 waiting for the
blocks to apply, 5 held under R64, 9 stopped by a save.
-/
namespace Sys2Proof.Machine

/-- The mode tag of an overlay index; 0 with none (R58). -/
def State.ovlTag (s : State) (i : Nat) : Nat := match s.activeOvl i with | some o => o.tag | none => 0

/-- The bulk restore is over, or none runs: below SL3 (R236). -/
def State.bulkOver (s : State) : Bool :=
  if s.on R.BST_STAT_DONE && decide (s.level < 3) then true
  else s.on R.CVN_STAT_READY && (decide (s.rd R.CVN_STAT_RST_ST = 0) || decide (s.rd R.CVN_STAT_RST_ST = 5))

/-- The actions of R62: persistence is absent, every held page is promised, and the gate and the DevLoad levels are
disabled. -/
def State.enterVolatile (s : State) : State :=
  let pr := (s.heldPages 0 (2 ^ 36)).foldl (fun m p => smSet false p true m) s.trk.promised
  let s := { s with trk := { s.trk with promised := pr } }.put R.ERG_STAT_VOLATILE true
  (s.gateOff.wr R.LDG_GPUB_G_PUB 0).cxlEvent 1 4 0x0006 [2]

/-- A block that is Idle applies its RWS fields at once (R59 step 3). [DEDUCED, unsafe: log 18] -/
def State.applyIdle (s : State) : State :=
  let s := (List.range 2).foldl (fun s p => if s.heldNow p = 0 then
    (s.applyRws R.HP_HOLD_HOLD_LIM p).wr R.HP_HOLD_HOLD_ACT (s.rd R.HP_HOLD_HOLD_LIM p) p else s) s
  let s := if s.gau.aud = 0 then (s.applyRws R.GAU_AUD_DEPTH).applyRws R.GAU_AUD_AUD_PER else s
  if s.on R.TRK_STAT_RUN then s else s.applyRws R.DFT_AGE_EPOCH

/-- Step 3 of R59: the batch. A switch out of a volatile mode for another is then held under R64. -/
def State.ovlBatch (s : State) : State :=
  let new := s.loq.ovlNew
  let vol := s.on R.ERG_STAT_VOLATILE
  let s := if s.ovlTag new = 2 ∧ !vol then s.enterVolatile else s
  let s := ({ s with erg := { s.erg with polOvl := new } }.loadPolicy new false (fun _ => true)).applyIdle
  let s := { s with loq := { s.loq with ovlBegun := true, ovlStep := if vol && decide (s.ovlTag new ≠ 2) then 5 else 4 } }
  s.ledgerStart false

/-- A switch that waited for the bulk restore goes on (R236). [DEDUCED, unsafe: log 29] -/
def State.ovlKick (s : State) : State := if s.loq.ovlStep = 1 ∧ s.bulkOver ∧ s.cvn.code = 0 then s.ovlBatch else s

/-- Every block has applied the batch: no image-backed field has a pending value (R59 step 4). -/
def State.ovlApplied (s : State) : Bool :=
  policyMap.all (fun e => decide (e.fld.acc ≠ .rws) || decide (s.ap e.fld e.i e.j = s.rd e.fld e.i e.j))

/-- Leave volatile mode (R64): the gate and DevLoad are enabled, the promised bitmap is discarded, and persistence and G are
reported; a withdrawal of persistence stands (R300). -/
def State.leaveVolatile (s : State) : State :=
  let on := s.on R.CVN_STAT_READY && decide (3 ≤ s.level) && !s.on R.FTL_STAT_WITHDRAWN
  let s := { s with trk := { s.trk with promised := [], gate := on } }.put R.ERG_STAT_VOLATILE false
  let s := if on then s.wr R.LDG_GPUB_G_PUB (s.rd R.LDG_GUAR_G) else s
  (s.cxlEvent 1 4 0x0006 [s.persState]).closedClear

end Sys2Proof.Machine
end

