-- ==== Sys2Proof/Machine/Settle.lean ====
section
/-!
DEFINITION. What follows every command in the same step: levels and states that the manual gives as functions of other
state, without any management core (R29, R191, R192, R540, R321, R101, R446, R478), take their values, and the command
answers its next state. The queue of waiting commands is not a command's to change.
-/
namespace Sys2Proof.Machine

/-- Held stores are admitted while the gate is disabled (R85, R192). -/
def State.gateOpen (s : State) : State := if !s.trk.gate && s.oldestHeld.isSome then s.admitAllHeld else s

/-- HOLD_OVER and the withheld credits follow the held stores of each port (R86). -/
def State.holdFollow (s : State) : State := (s.holdOverClear 0).holdOverClear 1

/-- A datapath buffer that no mover works on any longer is free (R25, R345); operations and pages that waited for one go on. -/
def State.bufFollow (s : State) : State :=
  let used := (s.flash.ops ++ s.flash.extra ++ s.flash.dropped).map (·.buf) ++ s.dram.pages.map (·.buf) ++
    s.cvn.got.map (fun (e : Nat × Bool × Nat) => e.2.2) ++ s.ftl.xor.flatMap (fun e => e.2.2)
  let gone := s.buf.mine.filter (fun e => !used.contains e.1)
  let s := gone.foldl (fun s e => s.bufPut e) s
  if s.flash.extra.isEmpty then s else s.slotFill

/-- A namespace whose destage has ended is ready (R328); a switch that waited for the bulk restore goes on (R236); CAP
follows every fence (R446); the effective write modes follow (R321); an activation whose waits have ended goes on (R478);
held stores are admitted while the gate is disabled (R85, R192); HOLD_OVER clears where no held store is over the limit
(R86); the bulk restore and the bitmap cache's transfers go on (R145, R230), the parity of full stripes is issued (R269), a
checkpoint and the journal go on (R291, R292); buffers and decode lanes that are free are given (R255, R342); an audit ends at a Severe level (R375); and last the persistence state, the ledger level and the
health telemetry take the values their rules give (R191, R540, R101). -/
def State.settle (s : State) : State :=
  (s.nsReady.ovlKick.capRefresh.modeRefresh).fwKick.gateOpen.holdFollow.bitmapKick.bulkKick.parityKick.cpKick.journalKick.jwaitKick.bufFollow.laneFill.fillKick.throtAll.audSevere.refresh

/-- The state a command begins from: the responses of the last command are cleared. -/
def State.fresh (s : State) : State := { s with out := [] }

/-- The state a command leaves, of the state `t` that its own effect gives: `t` settles, and the commands that waited at
`s` still wait. -/
def State.after (s t : State) : State := { t.settle with pending := s.pending }

/-- A command that has its effect. [DEDUCED, unsafe: log 5] -/
def ok (s : State) (f : State → State) : Host.Outcome State Fault Refusal := .next (s.after (f s.fresh))

end Sys2Proof.Machine
end

