-- ==== Sys2Proof/Machine/Buffers.lean ====
section
/-!
DEFINITION. Datapath buffers (R25, R341 to R346) and hardware semaphores (R351, R352).
-/
namespace Sys2Proof.Machine

/-- BUFFER_REQUEST: a consumer asks for a buffer and gets one, or waits in its consumer's order (R339, R342). During a
save the management cores are denied buffers (R346). -/
def State.doBufferRequest (s : State) (k op : Nat) : State :=
  if k = 0 ∨ 9 < k ∨ (s.buf.save ∧ k = 8) then s
  else
    let s := { s with buf := { s.buf with live := smSet false (65536 * k + op % 65536) true s.buf.live } }
    if s.bufGrants k && !s.buf.wait.any (fun e => decide (e.1 = k)) then s.bufGive k op
    else { s with buf := { s.buf with wait := s.buf.wait ++ [(k, op % 65536)] } }

/-- An owner as an event carries it: consumer and tag. -/
def ownerBytes (o : Nat) : List Nat := leBytes 2 (o / 65536) ++ leBytes 2 (o % 65536)

/-- BUFFER_FREE: the owner's free; a double free and a foreign free change no book (R344). [DEDUCED, unsafe: log 181] -/
def State.doBufferFree (s : State) (b k op : Nat) : State :=
  match s.buf.own.find? (fun e => decide (e.1 = b)) with
  | none => { s with buf := { s.buf with dbl := inc32 s.buf.dbl } }.signal (.odber 0x0A 1) b (ownerBytes (65536 * k + op % 65536))
  | some e =>
    if e.2 = 65536 * k + op % 65536 then
      let own := s.buf.own.filter (fun x => decide (x.1 ≠ b))
      -- an operation without a buffer and without a waiting request has ended
      let ends := own.all (fun x => decide (x.2 ≠ e.2)) && !s.buf.wait.contains (k, op % 65536)
      { s with buf := { s.buf with own := own,
                                   live := if ends then smSet false e.2 false s.buf.live else s.buf.live } }.bufServe
    else { s with buf := { s.buf with foreign := inc32 s.buf.foreign } }.signal (.odber 0x0A 2) b
      (ownerBytes (65536 * k + op % 65536) ++ ownerBytes e.2)

/-- A host read whose slot the buffer `b` of a relocation holds takes the data from it: its own flash read, not yet begun, is not
needed (R343). `t` is the tag of its command. [DEDUCED, safe: log 222] -/
def State.handRead (s : State) (b t : Nat) : State :=
  let held := s.flash.ops.find? (fun o => decide (o.buf ≠ 0) && decide ((o.buf - 1) % 8192 = b) && decide (o.kind = .program) &&
    (match o.src with | .reloc _ => true | _ => false))
  match held.bind (fun o => match o.src with | .reloc a => some a | _ => none) with
  | none => s
  | some a =>
    match s.flash.ops.find? (fun q => decide (q.stage = .queued) && decide (q.addr = a) &&
        (match q.src with | .nvm u _ => decide (u = t) | _ => false)) with
    | none => s
    | some q => match q.src, s.slot a with
      | .nvm u k, some c => (s.endFop q).nvmReadDone u k (some (c.data, c.md))
      | _, _ => s

/-- HAND_OFF: FTL relocation passes a buffer to the NVMe engine under the receiver's cap (R343). -/
def State.doHandOff (s : State) (b op new : Nat) : State :=
  if s.buf.own.any (fun e => decide (e.1 = b) && decide (e.2 = 65536 * 3 + op % 65536)) && s.bufGrants 1 then
    let s := { s with buf := { s.buf with
      own := s.buf.own.map (fun (e : Nat × Nat) => if e.1 = b then (b, 65536 + new % 65536) else e) } }
    { s with buf := { s.buf with live := smSet false (65536 + new % 65536) true s.buf.live } }.bufServe.handRead b (new % 65536)
  else s

/-- A semaphore. -/
def State.sem (s : State) (n : Nat) : SemSt := smGet semInit s.buf.sems n

/-- Replace a semaphore. -/
def State.setSem (s : State) (n : Nat) (x : SemSt) : State :=
  { s with buf := { s.buf with sems := smSet semInit n x s.buf.sems } }

/-- SEMAPHORE_ACQUIRE: the cores that ask in one cycle, each of them running (R28); a free semaphore goes to the first of them in rotation, a held one
to none (R351). The grant reports OWNER_RESET (R352). -/
def State.doSemaphoreAcquire (s : State) (n : Nat) (cores : List Nat) : State :=
  let x := s.sem n
  if 64 ≤ n ∨ x.holder ≠ 0 then s
  else match ((List.range 4).map (fun i => (x.next + i) % 4)).find? (fun c => cores.contains c && s.coreRuns c) with
  | none => s
  | some c => (s.setSem n { x with holder := c + 1, next := (c + 1) % 4 }).emit (.granted (100 + c) (2 * n + b2n x.ownerReset))

/-- SEMAPHORE_RELEASE: the holder frees it and OWNER_RESET clears; a foreign release is ignored and counted (R351,
R352). -/
def State.doSemaphoreRelease (s : State) (n c : Nat) : State :=
  let x := s.sem n
  if !s.coreRuns c then s
  else if n < 64 ∧ x.holder = c + 1 then s.setSem n { x with holder := 0, ownerReset := false } else s.bookFault 12

/-- A core's reset releases the semaphores it holds and flags them (R352). -/
def State.semCoreReset (s : State) (c : Nat) : State :=
  (s.buf.sems.filter (fun e => decide (e.2.holder = c + 1))).foldl (fun s e =>
    (s.setSem e.1 { e.2 with holder := 0, ownerReset := true }).note 0x0A 4 (65536 * c + e.1)) s

/-- BUFFER_REQUEST (R342). -/
def execBufferRequest (who op : Nat) (s : State) : Host.Outcome State Fault Refusal := ok s (·.doBufferRequest who op)

/-- BUFFER_FREE (R344). -/
def execBufferFree (buf who op : Nat) (s : State) : Host.Outcome State Fault Refusal := ok s (·.doBufferFree buf who op)

/-- HAND_OFF (R343). -/
def execHandOff (buf op new : Nat) (s : State) : Host.Outcome State Fault Refusal := ok s (·.doHandOff buf op new)

/-- SEMAPHORE_ACQUIRE (R351). -/
def execSemaphoreAcquire (sem : Nat) (cores : List Nat) (s : State) : Host.Outcome State Fault Refusal :=
  ok s (·.doSemaphoreAcquire sem cores)

/-- SEMAPHORE_RELEASE (R351). -/
def execSemaphoreRelease (sem core : Nat) (s : State) : Host.Outcome State Fault Refusal :=
  ok s (·.doSemaphoreRelease sem core)

end Sys2Proof.Machine
end

