-- ==== Sys2Proof/Machine/Codeword.lean ====
section
/-!
DEFINITION. A codeword as it is programmed: the 32 B descriptor of its tenant (Tables 5-3, 9-4, R280), the bytes of the flash
page (R244, R245), and the parity of a stripe (R269).
-/
namespace Sys2Proof.Machine

/-- Bytes 0 to 27 of a slot's descriptor: of a staged page (Table 7-2), of the memory image (Table 5-3), of a namespace (Table 9-4), of the system area (R280). -/
def State.descHead (s : State) (c : SlotC) : List Nat :=
  if c.kind = 0x04 then
    let n := lbasPerSlot (s.ns (c.key / 2 ^ 40)).lbaf
    leBytes 4 (c.key / 2 ^ 40) ++ leBytes 8 c.gen ++ [c.kind, 0, if n = 8 then 9 else 12, n] ++ leBytes 8 (c.key % 2 ^ 40) ++ [0, 0, 0, 0]
  else if c.kind < 0x10 then
    leBytes 4 (if c.kind = 0x00 then 0xFFFFFFFF else c.key) ++ leBytes 8 c.gen ++
      [c.kind, b2n (decide (c.kind = 0x01) && decide (c.marks.length = 64)), 0, 0] ++
      leBytes 8 (c.marks.foldl (fun v l => setBitTo v l true) 0) ++ [0, 0, 0, 0]
  else if c.kind < 0x20 then
    let x := s.ns (c.key / 2 ^ 40)
    let n := lbasPerSlot x.lbaf
    leBytes 4 (c.key / 2 ^ 40) ++ leBytes 8 ((c.key % 2 ^ 40 - x.base * s.unitSlots) * n) ++
      [c.kind, 0, if n = 8 then 9 else 12, n] ++ leBytes 8 c.gen ++ [0, 0, 0, 0]
  else leBytes 4 c.key ++ leBytes 8 c.gen ++ [c.kind] ++ List.replicate 15 0

/-- The 4,096 payload bytes of a slot. -/
def SlotC.payload (c : SlotC) : List Nat := (List.range 4096).map (fun i => (smGet 0 c.data i).toNat)

/-- The descriptor: its head and the CRC-32C over payload and head (R162, R280). -/
def State.descriptor (s : State) (c : SlotC) : List Nat :=
  let h := s.descHead c
  h ++ leBytes 4 (crc32c (c.payload ++ h))

/-- The codeword at an address of 4,128 B of payload and metadata (R244, R245): scrambled with the sequence of its block, flash page and
codeword index, and 512 B of parity. The spec gives neither the polynomial of the scrambler nor the code.
[DESIGN CHOICE, safe: log 214] -/
def State.encode (s : State) (a : Nat) (m : List Nat) : List Nat :=
  let n := s.pageKib / 4
  let i := a % 2 ^ 28 % s.spb
  let d := m.zipIdx.map (fun (e : Nat × Nat) =>
    Nat.xor e.1 (Config.scramble (a % 2 ^ 28 / s.spb) (i / n) (i % n) e.2 % 256))
  d ++ (List.range 512).map (fun k => Config.ldpcParity d k % 256)

/-- Where a codeword goes: block, flash page and column; behind the last codeword of a page the spare area is filled with 0xFF
(R244). -/
def State.placed (s : State) (a : Nat) (m : List Nat) : List Nat :=
  let n := s.pageKib / 4
  let i := a % 2 ^ 28 % s.spb
  [a % 2 ^ 28 / s.spb, i / n, 4640 * (i % n)] ++ s.encode a m ++
    (if i % n + 1 = n then List.replicate (s.pageKib * 1024 + s.ergBase 0x04 41 0 - 4640 * n) 0xFF else [])

/-- Payload and metadata of a slot. -/
def State.slotBytes (s : State) (a : Nat) : Option (List Nat) := (s.slot a).map (fun c => c.payload ++ s.descriptor c)

/-- The parity unit at an address: at each codeword position the XOR of payload and metadata of the other members' slots (R269). -/
def State.parityBytes (s : State) (n a : Nat) : List Nat :=
  let b := s.sb n
  (List.range (2 ^ s.planesLog)).flatMap (fun pl => (List.range (s.unitSpan b.native)).flatMap (fun j =>
    let x := a + pl * s.spb + j
    let ms := (dataMembers n b).filterMap (fun c => s.slotBytes ((128 * c + x / 2 ^ 28 % 128) * 2 ^ 28 + x % 2 ^ 28))
    s.placed x (ms.foldl (fun v m => List.zipWith Nat.xor v m) (List.replicate 4128 0))))

/-- What a program carries to its die (R244, R269). -/
def State.progBytes (s : State) (o : FOp) : List Nat :=
  match o.src with
  | .parity n _ => s.parityBytes n o.addr
  | _ => match s.slotBytes o.addr with
    | some m => s.placed o.addr m
    | none => []

end Sys2Proof.Machine
end

