-- ==== Sys2Proof/Machine/Flash.lean ====
section
/-!
DEFINITION. The commands of the flash channels (R237 to R266, R270, R281, R287, R300): what a die starts and ends, decode
and recovery, suspend and resume, timeouts, reference probes, eye checks and group power.
-/
namespace Sys2Proof.Machine

/-! ### Results -/

/-- An unrecovered slot by tenant (R270): an image page neither dirty nor copying is rewritten from DRAM as class 3, one that
restore has not yet placed joins the lost set (R229); a namespace slot becomes Unrecovered; a system slot is read from its
mirror. -/
def State.unrecovered (s : State) (o : FOp) : State :=
  let s := s.inc R.FTL_REBLD_UNREC
  match s.slot o.addr with
  | some c =>
    if c.kind = 0x01 ∧ s.imgAt c.key = o.addr ∧ s.unplaced c.key then s.lostAdd c.key
    else if c.kind = 0x01 ∧ s.imgAt c.key = o.addr then s.imageStart c.key
    else if (c.kind = 0x10 ∨ c.kind = 0x11) ∧ s.nsEntry (c.key % 2 ^ 40) = o.addr then
      { s with ftl := { s.ftl with unrecSeen := true } }.setNsEntry (c.key % 2 ^ 40) 2
    else s
  | none => s

/-- A read of the bulk restore has ended: its page is ready to be written, and the buffer holds it (R229, R230). A slot that cannot be
read at all adds the page to the lost set. -/
def State.bulkRead (s : State) (p buf : Nat) (good : Bool) : State :=
  let s := if good || s.isLost p then s else s.lostAdd p
  { s with cvn := { s.cvn with got := s.cvn.got ++ [(p, good, buf)] } }

/-- The read of an on-touch fetch has ended: its page goes to DRAM at urgency 7, unless the bulk restore has placed it (R232). -/
def State.fetchRead (s : State) (p buf : Nat) (good : Bool) : State :=
  if !s.unrestored p || (s.pageJob (.bulk p)).isSome then s
  else
    let s := if good || s.isLost p then s else s.lostAdd p
    s.placePage (.fetch p) p 7 buf good

/-- A read's result goes to its requester: contents when it decoded or was rebuilt (R24, R284). A codeword reported as erased holds
nothing that was lost (R245). [DESIGN CHOICE, unsafe: log 198] -/
def State.readResult (s : State) (o : FOp) (good erased : Bool) : State :=
  let s := s.endFop o
  let s := if good || erased then s else s.unrecovered o
  match o.src with
  | .nvm t k => s.nvmReadDone t k (if good then (match s.slot o.addr with
      | some c => some (c.data, c.md)
      | none => some ([], [])) else none)
  | .reloc a =>
    if !good then s.setSlot a none |>.victimEmptied
    else
      let b := s.sb o.sb
      match s.assign (if b.tenant = 1 then 4 else 2) 1 with
      | (some d, s) =>
        let s := s.setSlot d (s.slot a)
        s.fIssue (addrDie d) .program 6 o.urgent (s.sbOf d) d (.reloc a) o.buf
      | (none, s) => s
  | .bulk p => s.bulkRead p o.buf good
  | .fetch p => s.fetchRead p o.buf good
  | _ => s

/-- Where a program has failed: its member is retired at the superblock's next erase, and the superblock is scheduled for rewrite
(R281). -/
def State.progFault (s : State) (o : FOp) : State :=
  let b := s.sb o.sb
  (s.setSb o.sb { b with retireNext := if b.retireNext.contains o.chan then b.retireNext
                                       else b.retireNext ++ [o.chan] }).rewriteSched o.sb

/-- A program that failed outside Drift (R281): its contents go to the next stripe of the same stream. -/
def State.nativeFail (s : State) (o : FOp) : State :=
  let b := s.sb o.sb
  let s := s.progFault o
  match o.src with
  | .destage n => s.destageFail n
  | _ =>
    match s.assign b.stream 1 with
    | (some d, s) =>
      let s := (s.setSlot d (s.slot o.addr)).setSlot o.addr none
      s.fIssue (addrDie d) o.kind o.cls o.urgent (s.sbOf d) d o.src o.buf
    | (none, s) => s.setSlot o.addr none

/-- A program of a save has ended; the save goes on by its own commands (R220). -/
def State.saveProgSet (s : State) (slot : Nat) (pass : Bool) : State :=
  { s with cvn := { s.cvn with progs := s.cvn.progs.map (fun x =>
    if x.slot = slot then { x with prog := if pass then 2 else 3 } else x) } }

/-- A slot of the image has been written: its GEN will be found (R164). -/
def State.genSeen (s : State) (a : Nat) : State :=
  match s.slot a with
  | some c => if c.kind < 0x10 ∧ s.drift.genTop ≤ c.gen then { s with drift := { s.drift with genTop := c.gen + 1 } } else s
  | none => s

/-- An anchor record that failed is appended again behind it (R281, R290). -/
def State.anchorFail (s : State) (o : FOp) : State :=
  let s := s.setSlot o.addr none
  { s with ftl := { s.ftl with cp := s.ftl.cp.map (fun (c : CpSt) => if c.stage = 3 then { c with stage := 2 } else c) } }

/-- A program's result goes to its requester (R159, R160, R220, R260, R276, R284). A parity unit that fails is not written again: the spec
names no slot for it. -/
def State.programResult (s : State) (o : FOp) (pass : Bool) : State :=
  let s := (if pass then s.genSeen o.addr else s).endFop o
  match o.src with
  | .snapshot n => if pass then (match s.slot o.addr with | some c => s.snapGot n c.key | none => s) else s.nativeFail o
  | .save a => let s := s.saveProgSet a pass
               if pass then s else s.progFault o
  | .parity n u =>
    if pass then s.xorEnd n u
    else ({ s with ftl := { s.ftl with noPar := s.ftl.noPar ++ [(n, u)] } }.xorEnd n u).progFault o
  | .drift p =>
    match s.copyAt p with
    | some c => s.setCopy p (some { c with prog := if pass then 2 else 3 })
    | none => s
  | .rewrite p =>
    if pass then (if !s.dirtyAt p && (s.copyAt p).isNone then s.setImg p o.addr else s) else s.nativeFail o
  | .destage n =>
    if pass then (match s.stgAt n with | some y => s.setStg n { y with dst := 2 } | none => s) else s.nativeFail o
  | .reloc a =>
    if pass then { s with ftl := { s.ftl with moves := s.ftl.moves ++ [(a, o.addr)] } } else s.nativeFail o
  | .fold u =>
    if pass then { s with ftl := { s.ftl with folds := s.ftl.folds.map (fun f =>
      if f.unit = u then { f with left := f.left - 1 } else f) } }
    else { s with ftl := { s.ftl with folds := s.ftl.folds.map (fun f =>
      if f.unit = u then { f with left := f.left - 1, touched := true } else f) } }
  | .system k => if pass then s else if k = 0x27 then s.anchorFail o else s.nativeFail o
  | _ => if pass then s else s.nativeFail o

/-- The last member of a superblock has been erased: it is free, its wear counts the erase, the members due for retirement
leave it, and the end is journaled (R272, R281, R285, R291). A plane-block of the anchor is only erased (R268, R290). -/
def State.eraseEnd (s : State) (n : Nat) : State :=
  if s.sbReserved n then
    { s with ftl := { s.ftl with slots := smErase (fun a => decide (s.sbOf a = n)) s.ftl.slots } }
  else
  let b := s.sb n
  let gone := b.retireNext
  let b := { b with state := 0, tenant := 3, stream := 0, wear := b.wear + s.eraseWear b.native, reads := 0, fill := 0,
                    rw := 0, erasing := false, native := false, group := 0, rebuilt := [],
                    rebuiltOnce := b.rebuiltOnce ++ b.rebuilt, sanitize := false, recAt := 0 }
  let s := s.setSb n b
  let s := { s with ftl := { s.ftl with slots := smErase (fun a => decide (s.sbOf a = n)) s.ftl.slots } }.stripesGone n
  let s := ((s.jot 3 [n]).retireMembers n gone).wearRefresh.freeRefresh
  s.eraseKick.stgKick.gcNext.snapFill

/-- One member's erase is over: with the last of them the superblock is free. -/
def State.eraseOver (s : State) (o : FOp) : State :=
  if s.flash.ops.any (fun x => decide (x.kind = .erase) && decide (x.sb = o.sb)) ||
     s.flash.extra.any (fun x => decide (x.kind = .erase) && decide (x.sb = o.sb)) then s
  else if (s.sb o.sb).state = 6 then s.freeRefresh.eraseKick
  else s.eraseEnd o.sb

/-- An operation that a die does not carry out is returned (R261): a read is served by stripe rebuild (R270, R297), a program
goes where a failed one goes, and the superblock of an erase goes on without the member. [DEDUCED, unsafe: log 119] -/
def State.opReturned (s : State) (o : FOp) : State :=
  match o.kind with
  | .read => if rebuilds o.kind o.src then s.setFop { o with stage := .decoding, step := 5, lane := false } else s.endFop o
  | .program => s.programResult o false
  | .erase => (s.endFop o).eraseOver o
  | _ => s.endFop o

/-- An operation that timed out on its die (R261); an erase so ended has failed, and its member is retired (R281). -/
def State.opFailed (s : State) (o : FOp) : State :=
  if o.kind = .erase then ((s.endFop o).retireMembers o.sb [o.chan]).eraseOver o else s.opReturned o

/-- Fence a die: it is recorded, its queued operations are returned, every superblock with a member on it is scheduled for
rewrite, and R_save is recomputed (R168, R261, R297). -/
def State.fenceDie (s : State) (c d : Nat) : State :=
  let k := dieKey c d
  let s := ((s.setDie k { s.die k with state := 2 }).fenceBit k).chanRefresh c
  let gone := (s.dieOps k).filter (fun o => decide (o.stage = .queued))
  let s := gone.foldl (fun s o => s.opReturned o) s
  let s := (s.sbList.filter (fun e => decide (s.blocksPer ≠ 0) && decide (e.1 / s.blocksPer = d) &&
    e.2.members.contains c)).foldl (fun s e => s.rewriteSched e.1) s
  (s.note 0x06 1 k).dieChanged

/-! ### Commands -/

/-- The offsets that a read needs: those of its group at steps 1 and 2, those of its retry entry at steps 3 and 4 (R253, R257). A
soft decode takes six more array reads at −3, −2, −1, +1, +2 and +3 times SOFT_STEP around them; of the three reads of a probe the
second and the third move its reference by −1 and +1 (R259). -/
def State.readOffs (s : State) (o : FOp) : List Int :=
  let r := s.refAt (dieKey o.chan o.die) (s.sb o.sb).group
  let base := if 3 ≤ o.step then s.retryOffs o.retry else r.offs
  let soft : Int := ([-3, -2, -1, 1, 2, 3] : List Int).getD (6 - o.left) 0 * s.rd R.FCC_DEC_SOFT_STEP
  if o.step = 2 ∨ o.step = 4 then base.map (· + soft)
  else match o.src with
    | .probe _ i => base.set r.next (base.getD r.next 0 + ([0, -1, 1] : List Int).getD i 0)
    | _ => base

/-- The read-offset feature of a die is set before a read only when the offsets differ from the ones last set (R257): feature address
and offsets in the die's own units (ROFF, Table 9-7). -/
def State.setOffs (s : State) (o : FOp) : State :=
  let k := dieKey o.chan o.die
  let v := s.readOffs o
  let x := s.die k
  let f := s.ergBase 0x04 51 0
  if (List.range 15).all (fun j => decide (x.offs.getD j 0 = v.getD j 0)) then s
  else (s.setDie k { x with offs := v }).emit
    (.issue 12 ([o.chan, o.die / 8, o.die % 8, f % 256] ++ v.map (fun i => toField 8 (i * (f / 256 % 256 : Nat)))))

/-- An operation goes to its die: the volume is selected and the logical unit addressed (R241), in pseudo-SLC mode behind the prefix
that the vendor table gives (R243); a read behind the offsets it needs (R257), a program with its codeword (R244). What a die
receives leaves the chip as `.issue 1 [channel, volume, logical unit, operation, prefix]`, a read-offset feature as `.issue 12` and
a codeword as `.issue 14`. -/
def State.opOut (s : State) (o : FOp) : State :=
  let s := if o.kind = .read then s.setOffs o else s
  let s := s.emit (.issue 1 [o.chan, o.die / 8, o.die % 8, o.id, if (s.sb o.sb).native then 0 else s.ergBase 0x04 50 0])
  if o.kind = .program then s.emit (.issue 14 ([o.chan, o.die / 8, o.die % 8] ++ s.progBytes o)) else s

/-- DIE_DISPATCH: a ready die of a powered channel takes its next operation (R248, R249), which is `id`: `busy` are the percentages of
the channel's time that the classes took. What was issued to a fenced die since is returned (R261). -/
def State.doDieDispatch (s : State) (c d id : Nat) (busy : List Nat) : State :=
  let k := dieKey c d
  if (s.die k).state = 2 then ((s.dieOps k).filter (fun o => decide (o.stage = .queued))).foldl (fun s o => s.opReturned o) s
  else if !s.dieUp k || (s.dieRunning k).isSome || decide (s.rd R.FCH_STAT_STATE c ≠ 2) then s
  else match s.diePick k busy with
  | none => s
  | some o =>
    if o.id ≠ id ∨ ((s.dieSuspended k).isSome ∧ s.rd R.FCC_SUS_SUS_RD_MAX ≤ (s.die k).served) then s
    else
      let s := s.setFop { o with stage := .running }
      (if (s.dieSuspended k).isSome then s.setDie k { s.die k with served := (s.die k).served + 1 } else s).opOut o

/-- FLASH_READ_DONE: the array read ends and the die is free. A soft read is over with the last of its six array reads; then the
codeword goes to decode. The data of a read that a trigger found in progress is discarded (R211). The superblock's read count may
schedule it for rewrite (R253, R287). [DESIGN CHOICE, safe: log 100] -/
def State.doFlashReadDone (s : State) (id : Nat) : State :=
  match s.fop id with
  | none => s
  | some o =>
    if o.stage ≠ .running ∨ o.kind ≠ .read then s
    else
      let k := dieKey o.chan o.die
      let x := s.die k
      let s := s.setDie k { x with reads := satInc 32 x.reads }
      let s := if o.src = .gone then s.endFop o
        else if 1 < o.left then s.setFop { o with stage := .queued, left := o.left - 1 }
        else s.setFop { o with stage := .decoding, left := 0, lane := false }
      let b := s.sb o.sb
      let b := { b with reads := b.reads + 1 }
      let s := s.setSb o.sb b
      let s := s.setRef k b.group { s.refAt k b.group with readSince := true }
      let lim := 1024 * (if b.native then s.rd R.FTL_RDLIM_RL_NAT else s.rd R.FTL_RDLIM_RL_SLC)
      if lim < b.reads then s.rewriteSched o.sb else s

/-- A hard decode has succeeded: the running mean of its die and group takes its corrected bits (R258). -/
def State.hardMean (s : State) (k g nb : Nat) : State :=
  let r := s.refAt k g
  s.setRef k g { r with mean := meanStep r.mean nb }

/-- The iterations of a hard decode, whatever its result (FCHn_DITER). -/
def State.decodeIters (s : State) (o : FOp) (iters : Nat) : State :=
  if o.step ≠ 1 ∧ o.step ≠ 3 then s
  else
    let k := dieKey o.chan o.die
    s.setDie k { s.die k with iter := (iters :: (s.die k).iter).take 65536 }

/-- A successful decode: the counters of the die, the running mean, the adopted retry offsets, and the rewrite conditions
(R256, R258, R262, R287). -/
def State.decodeGood (s : State) (o : FOp) (nb : Nat) : State :=
  let k := dieKey o.chan o.die
  let x := s.die k
  let g := (s.sb o.sb).group
  let s := s.setDie k { x with bitsMax := max x.bitsMax (min nb 65535) }
  let s := if o.step = 1 ∨ o.step = 3 then
      let s := s.hardMean k g nb
      s.setRef k g { s.refAt k g with recent := o.addr + 1 }
    else s
  let s := if 3 ≤ o.step then s.setRef k g { s.refAt k g with offs := (s.retryOffs o.retry).map s.offClamp } else s
  let s := if 2 ≤ o.step then
      let s := if (s.sb o.sb).tenant = 0 ∧ o.soft then { s with ftl := { s.ftl with corrPers := min (s.ftl.corrPers + 1) (2 ^ 32 - 1) } } else s
      s.rewriteSched o.sb
    else if s.rd R.FTL_RWR_CB_LIM < nb then s.rewriteSched o.sb else s
  s.readResult o true false

/-- A probe's decode: it is one of its die's hard decodes (R258, R259). -/
def State.probeDecoded (s : State) (o : FOp) (good : Bool) (nb : Nat) : State :=
  let k := dieKey o.chan o.die
  let x := s.die k
  (if good then (s.setDie k { x with bitsMax := max x.bitsMax (min nb 65535) }).hardMean k (s.sb o.sb).group nb else s).endFop o

/-- The next step of R253 after a decode that failed, or none: soft decode, then each retry entry up to the smaller of
RETRY_MAX and RETRY_N, hard (3) and, if enabled, soft (4). -/
def State.nextStep (s : State) (o : FOp) : Option (Nat × Nat) :=
  let soft := s.on R.FCC_DEC_SOFT_EN
  let n := min (s.rd R.FCC_DEC_RETRY_MAX) (s.ergBase 0x04 52 0)
  let entry := fun k => if k ≤ n then some (3, k) else none
  if o.step = 1 then (if soft then some (2, 0) else entry 1)
  else if o.step = 2 then entry 1
  else if o.step = 3 ∧ soft then some (4, o.retry)
  else entry (o.retry + 1)

/-- The stripe rebuild of an uncorrectable codeword (R270): counted, its superblock scheduled for rewrite, and a block
that needs a rebuild in two erase cycles is retired at the next erase (R296). -/
def State.stripeRebuild (s : State) (o : FOp) : State :=
  let b := s.sb o.sb
  let twice := b.rebuiltOnce.contains o.chan
  let b := { b with rebuilt := if b.rebuilt.contains o.chan then b.rebuilt else b.rebuilt ++ [o.chan],
                    retireNext := if twice && !b.retireNext.contains o.chan then b.retireNext ++ [o.chan] else b.retireNext }
  let s := (s.setSb o.sb b).inc R.FTL_REBLD_REBUILT
  let s := if b.tenant = 0 then { s with ftl := { s.ftl with corrPers := min (s.ftl.corrPers + 1) (2 ^ 32 - 1) } } else s
  s.rewriteSched o.sb

/-- DECODE_DONE: a decode step ends. `ok`: it decoded and its metadata check passed (R254); `erased`: fewer than 64 zero
bits (R245); `bits`, `iters`: what the cluster reports; `rebuild`: the stripe rebuild of R270 succeeds if it comes to
that; `desc`: the step failed by its page check, a descriptor mismatch (R356). A decode needs its lane (R255), and a hard one ends
within ITER_MAX iterations (R253); a stripe whose running parity was lost cannot be rebuilt (R270). A read that its die did not carry out has come to the rebuild at once (R297). -/
def State.doDecodeDone (s : State) (id : Nat) (good erased : Bool) (nb iters : Nat) (rebuild desc : Bool) : State :=
  match s.fop id with
  | none => s
  | some o =>
    if o.stage ≠ .decoding ∨ (o.step < 5 ∧ !o.lane) then s
    else
    let rebuild := rebuild && !s.ftl.noPar.contains (o.sb, s.stripeOf o.addr)
    let good := good && (o.soft || decide (o.step = 5) || decide (iters ≤ s.rd R.FCC_DEC_ITER_MAX))
    let iters := min iters (s.rd R.FCC_DEC_ITER_MAX)
    let s := if desc && !good && !erased then s.inc R.CRC_DPERR_PG_ERR else s
    if o.step = 5 then (if rebuild then (s.stripeRebuild o).readResult o true false else s.readResult o false false)
    else
    let s := if erased then s else s.decodeIters o iters
    match o.src with
    | .probe _ _ => s.probeDecoded o (good && !erased) nb
    | _ =>
      if erased then s.readResult o false true
      else if good then s.decodeGood o nb
      else match s.nextStep o with
      | some (st, r) =>
        let k := dieKey o.chan o.die
        let x := s.die k
        let x := if st = 2 ∨ (st = 4 ∧ o.step = 3 ∧ o.retry = 0) then { x with soft := satInc 32 x.soft } else x
        let x := if st = 3 ∧ r = 1 then { x with retry := satInc 32 x.retry } else x
        (s.setDie k x).setFop { o with stage := .queued, step := st, retry := r, lane := false,
                                       left := if st = 2 ∨ st = 4 then 6 else 1 }
      | none =>
        let k := dieKey o.chan o.die
        let x := s.die k
        let s := s.setDie k { x with unc := satInc 32 x.unc }
        if rebuild then (s.stripeRebuild o).readResult o true false else s.readResult o false false

/-- FLASH_PROGRAM_DONE: a program ends; its time, in 0.1 µs, enters the die's means (R166, R260, R262). -/
def State.doFlashProgramDone (s : State) (id : Nat) (pass : Bool) (time : Nat) : State :=
  match s.fop id with
  | none => s
  | some o =>
    if o.stage ≠ .running ∨ o.kind ≠ .program then s
    else
      let k := dieKey o.chan o.die
      let x := s.die k
      let native := (s.sb o.sb).native
      let win := x.win3.filter (fun e => decide (s.tick < e.1 + cdiv (s.rd R.FCC_LIM_DRIFT_WIN * 32768) 1000000))
      let x := { x with progs := satInc 32 x.progs, pfail := if pass then x.pfail else satInc 16 x.pfail,
                        win3 := if o.cls = 3 then (s.tick, time) :: win else win,
                        tprog := if native then (cdiv time 10 :: x.tprog).take 256 else x.tprog }
      let s := s.setDie k x
      let s := if native then s
        else { s with drift := { s.drift with tprog := smUpd [] k (fun m => (time :: m).take 256) s.drift.tprog } }.tprogReg k
      s.programResult o pass

/-- FLASH_ERASE_DONE: one member's erase ends; a failure retires the member at once (R260, R281). -/
def State.doFlashEraseDone (s : State) (id : Nat) (pass : Bool) (time : Nat) : State :=
  match s.fop id with
  | none => s
  | some o =>
    if o.stage ≠ .running ∨ o.kind ≠ .erase then s
    else
      let k := dieKey o.chan o.die
      let x := s.die k
      let s := s.setDie k { x with erases := satInc 32 x.erases, efail := if pass then x.efail else satInc 16 x.efail,
                                   tbers := (time :: x.tbers).take 256 }
      let s := s.endFop o
      (if pass then s else s.retireMembers o.sb [o.chan]).eraseOver o

/-- PERSISTENCE_RETURN: the pool holds a save with GC_ST to spare and the held set is no more than G, so the gate is
enabled and persistence is reported (R64, R300). -/
def State.doPersistenceReturn (s : State) : State :=
  if s.on R.FTL_STAT_WITHDRAWN && !s.imageShort (s.rd R.FTL_GCTH_GC_ST) &&
      decide (s.rd R.TRK_HELD_HELD ≤ s.rd R.LDG_GUAR_G) then
    let s := s.put R.FTL_STAT_WITHDRAWN false
    let s := if s.on R.ERG_STAT_VOLATILE then s
      else { s with trk := { s.trk with gate := true, promised := [] } }.wr R.LDG_GPUB_G_PUB (s.rd R.LDG_GUAR_G)
    ((s.cxlEvent 1 4 0x0006 [s.persState]).closedClear).note 0x07 2
  else s

/-- SUSPEND: `id`, a queued read of class 1 or 2, suspends the die's program or erase once it has run long enough and may be
suspended again (R250). `ran` is the time in µs since its start or last resume. -/
def State.doSuspend (s : State) (c d id ran : Nat) : State :=
  let k := dieKey c d
  match s.dieRunning k with
  | none => s
  | some o =>
    let prog := decide (o.kind = .program)
    let want := (s.dieOps k).any (fun x => decide (x.id = id) && decide (x.stage = .queued) && decide (x.kind = .read) &&
      (decide (x.cls = 1) || decide (x.cls = 2)))
    let can := if prog then s.on R.FCC_SUS_PSUS_EN && s.on R.FCH_GEO0_PSUS c && decide (s.rd R.FCC_SUST_SUS_MIN_P ≤ ran) &&
        decide (o.susp < s.rd R.FCC_SUS_PSUS_MAX)
      else s.on R.FCC_SUS_ESUS_EN && s.on R.FCH_GEO0_ESUS c && decide (s.rd R.FCC_SUST_SUS_MIN_E ≤ ran) &&
        decide (o.susp < s.rd R.FCC_SUS_ESUS_MAX)
    if want && can && s.suspendable k o && (s.dieSuspended k).isNone && !s.on R.FCC_STAT_SAVE then
      let x := s.die k
      let x := { x with served := 0, psus := if prog then satInc 16 x.psus else x.psus,
                        esus := if prog then x.esus else satInc 16 x.esus }
      (s.setFop { o with stage := .suspended, susp := o.susp + 1 }).setDie k x
    else s

/-- RESUME: the suspended operation resumes when SUS_RD_MAX reads were served or none is queued (R251). A save of code 1
or 2 never resumes an erase, a save of code 3 or 4 only after its valid mark (R211, R252). -/
def State.doResume (s : State) (c d : Nat) : State :=
  let k := dieKey c d
  match s.dieSuspended k, s.dieRunning k with
  | some o, none =>
    let more := (s.dieOps k).any (fun x => decide (x.stage = .queued) && decide (x.kind = .read) &&
      (decide (x.cls = 1) || decide (x.cls = 2)))
    if (more && decide ((s.die k).served < s.rd R.FCC_SUS_SUS_RD_MAX) && !s.on R.FCC_STAT_SAVE && !s.flash.stopping) ||
       (s.on R.FCC_STAT_SAVE && decide (o.kind = .erase)) then s
    else s.setFop { o with stage := .running }
  | _, _ => s

/-- DIE_TIMEOUT: the logical unit is reset and the operation fails with Timeout; the die is fenced when it does not answer
or has timed out too often in this boot (R261). A suspended operation is reported failed as well (R252). -/
def State.doDieTimeout (s : State) (c d : Nat) (answered : Bool) : State :=
  let k := dieKey c d
  match s.dieRunning k with
  | none => s
  | some o =>
    let x := s.die k
    let s := s.setDie k { x with tmo := satInc 4 x.tmo }
    let s := s.opFailed o
    let s := match s.dieSuspended k with | some p => s.opFailed p | none => s
    if !answered || decide (s.rd R.FCC_LIM_DTMO_FENCE ≤ (s.die k).tmo) then s.fenceDie c d else s

/-- PROBE_DUE: a group whose mean exceeds PROBE_TRIG, or whose period has passed with a read since, gets the three class 7
reads of a probe while TRK_EN is 1 (R258, R259). -/
def State.doProbeDue (s : State) (c d g : Nat) : State :=
  let k := dieKey c d
  let r := s.refAt k g
  let due := decide (16 * s.rd R.FCC_RRT_PROBE_TRIG < r.mean) ||
    (r.readSince && decide (r.last + s.rd R.FCC_RRT2_PROBE_PER ≤ s.tick))
  if s.dieUp k && s.on R.FCC_RRT_TRK_EN && due && !r.probing && decide (r.recent ≠ 0) && decide (g < 16) then
    let s := s.setRef k g { r with probing := true }
    (List.range 3).foldl (fun s i => s.fIssue k .read 7 false (s.sbOf (r.recent - 1)) (r.recent - 1) (.probe g i)) s
  else s

/-- PROBE_DONE: the three reads are decoded (`good`: every decode succeeded) with c0, c− and c+ corrected bits; reference
j moves one step toward the lower when that is at least HYST below c0, ties toward −1 (R259). -/
def State.doProbeDone (s : State) (c d g : Nat) (good : Bool) (c0 cm cp : Nat) : State :=
  let k := dieKey c d
  let r := s.refAt k g
  if !r.probing || decide (16 ≤ g) then s
  else
    let j := r.next
    let n := refCount g s.bpc
    let lo := min cm cp
    let step : Int := if lo + s.rd R.FCC_RRT_HYST ≤ c0 then (if cm ≤ cp then -1 else 1) else 0
    let offs := if good then r.offs.set j (s.offClamp (r.offs.getD j 0 + step)) else r.offs
    s.setRef k g { r with offs := offs, probing := false, probes := satInc 16 r.probes, last := s.tick,
                          readSince := false, next := (j + 1) % n, failed := if good then r.failed else r.failed + 1 }

/-- The next lower extended rate, or 0 below 4,000 MT/s (Table 8-1, R239). -/
def xtBelow (r : Nat) : Nat := if 4400 < r then 4400 else if 4000 < r then 4000 else 0

/-- The declared volumes of a channel. -/
def State.volumes (s : State) (c : Nat) : List Nat := (List.range 16).filter (bit (s.rd R.FCH_POP_VOLS c))

/-- The read eye of the next volume is checked; with the last one the round is over and its period begins anew (R240). The check
leaves the chip as `.issue 13 [channel, volume]`. [DEDUCED, unsafe: log 212] -/
def State.eyeNext (s : State) (c : Nat) : State :=
  let v := smGet 0 s.flash.xtVol c
  match (s.volumes c).filter (fun x => decide (v ≤ x)) with
  | [] => { s with flash := { s.flash with xtVol := smSet 0 c 0 s.flash.xtVol, xtAt := smSet 0 c s.tick s.flash.xtAt } }
  | x :: rest =>
    let f := if rest.isEmpty then { s.flash with xtVol := smSet 0 c 0 s.flash.xtVol, xtAt := smSet 0 c s.tick s.flash.xtAt }
      else { s.flash with xtVol := smSet 0 c (x + 1) s.flash.xtVol }
    { s with flash := f }.emit (.issue 13 [c, x])

/-- A round of eye checks is due or has begun: XT_RETRAIN ticks have passed, in service or while its group slept, or `moved`: the
channel's junction sensor has moved 8 °C since the last training (R240). -/
def State.eyeDue (s : State) (c : Nat) (moved : Bool) : Bool :=
  moved || decide (smGet 0 s.flash.xtVol c ≠ 0) || decide (smGet 0 s.flash.xtAt c + s.rd R.FCC_XT_XT_RETRAIN ≤ s.tick)

/-- EYE_CHECK: a channel in extended timing checks the read eye of its next volume when a check is due; a failed check runs a full
training of that volume, and a failed training steps the channel down until the next cold boot, with R_save
recomputed (R168, R239, R240). -/
def State.doEyeCheck (s : State) (c : Nat) (eye : EyeResult) (moved : Bool) : State :=
  if !s.on R.FCH_XTST_XT_ON c || decide (s.rd R.FCH_STAT_STATE c ≠ 2) || !s.eyeDue c moved then s
  else
    let s := (s.inc R.FCH_XTST_CHECKS c).eyeNext c
    if eye = .passed then s
    else
      let s := s.inc R.FCH_XTST_RETRAINS c
      if eye = .trained then s
      else
        let low := xtBelow (s.rd R.FCH_STAT_RATE c)
        let s := s.inc R.FCH_XTST_STEPS c
        (if low ≠ 0 then s.wr R.FCH_STAT_RATE low c
         else ((s.wr R.FCH_STAT_RATE (smGet 0 s.flash.baseRate c) c).put R.FCH_XTST_XT_ON false c).wr R.FCH_STAT_MODE
          (smGet 0 s.flash.baseMode c) c).dieChanged

/-- Channels of a group that exist and are not fenced. -/
def State.grpChans (s : State) (g : Nat) : List Nat :=
  (List.range 4).map (· + 4 * g) |>.filter (fun c => decide (2 ≤ s.rd R.FCH_STAT_STATE c))

/-- GROUP_POWER_DOWN: a group whose channels hold no command slot, idle for GRP_IDLE, switches off (R265). -/
def State.doGroupPowerDown (s : State) (g : Nat) : State :=
  let cs := s.grpChans g
  if s.on R.FCC_PWR_PD_EN && bit (s.rd R.FCC_STAT_GRP_ON) g && cs.all (fun c => decide (s.slotsUsed c = 0)) &&
      !s.on R.FCC_STAT_SAVE && decide (g < 8) then
    let s := (s.wr R.FCC_STAT_GRP_ON (setBitTo (s.rd R.FCC_STAT_GRP_ON) g false)).pdGroup g false
    cs.foldl (fun s c => s.wr R.FCH_STAT_STATE 4 c) s
  else s

/-- Power a group up (R265, R266). -/
def State.groupOn (s : State) (g : Nat) : State :=
  let s := (s.wr R.FCC_STAT_GRP_ON (setBitTo (s.rd R.FCC_STAT_GRP_ON) g true)).pdGroup g true
  let s := { s with flash := { s.flash with waking := setBitTo s.flash.waking g false } }
  (List.range 4).foldl (fun s i => if s.rd R.FCH_STAT_STATE (4 * g + i) = 4 then s.wr R.FCH_STAT_STATE 2 (4 * g + i) else s) s

/-- GROUP_WAKE: a powered-down group with an operation waiting is on again and its channels serve (R265). -/
def State.doGroupWake (s : State) (g : Nat) : State :=
  if bit s.flash.waking g && !bit (s.rd R.FCC_STAT_GRP_ON) g && decide (g < 8) then s.groupOn g else s

/-- DIE_DISPATCH (R248). -/
def execDieDispatch (chan die id : Nat) (busy : List Nat) (s : State) : Host.Outcome State Fault Refusal :=
  ok s (·.doDieDispatch chan die id busy)

/-- FLASH_READ_DONE (R253). -/
def execFlashReadDone (id : Nat) (s : State) : Host.Outcome State Fault Refusal := ok s (·.doFlashReadDone id)

/-- DECODE_DONE (R253). -/
def execDecodeDone (id : Nat) (good erased : Bool) (nb iters : Nat) (rebuild desc : Bool) (s : State) :
    Host.Outcome State Fault Refusal := ok s (·.doDecodeDone id good erased nb iters rebuild desc)

/-- FLASH_PROGRAM_DONE (R260). -/
def execFlashProgramDone (id : Nat) (pass : Bool) (time : Nat) (s : State) : Host.Outcome State Fault Refusal :=
  ok s (·.doFlashProgramDone id pass time)

/-- FLASH_ERASE_DONE (R260). -/
def execFlashEraseDone (id : Nat) (pass : Bool) (time : Nat) (s : State) : Host.Outcome State Fault Refusal :=
  ok s (·.doFlashEraseDone id pass time)

/-- PERSISTENCE_RETURN (R300). -/
def execPersistenceReturn (s : State) : Host.Outcome State Fault Refusal := ok s (·.doPersistenceReturn)

/-- SUSPEND (R250). -/
def execSuspend (chan die id ran : Nat) (s : State) : Host.Outcome State Fault Refusal :=
  ok s (·.doSuspend chan die id ran)

/-- RESUME (R251). -/
def execResume (chan die : Nat) (s : State) : Host.Outcome State Fault Refusal := ok s (·.doResume chan die)

/-- DIE_TIMEOUT (R261). -/
def execDieTimeout (chan die : Nat) (answered : Bool) (s : State) : Host.Outcome State Fault Refusal :=
  ok s (·.doDieTimeout chan die answered)

/-- PROBE_DUE (R258). -/
def execProbeDue (chan die group : Nat) (s : State) : Host.Outcome State Fault Refusal :=
  ok s (·.doProbeDue chan die group)

/-- PROBE_DONE (R259). -/
def execProbeDone (chan die group : Nat) (good : Bool) (c0 cm cp : Nat) (s : State) :
    Host.Outcome State Fault Refusal := ok s (·.doProbeDone chan die group good c0 cm cp)

/-- EYE_CHECK (R240). -/
def execEyeCheck (chan : Nat) (eye : EyeResult) (moved : Bool) (s : State) : Host.Outcome State Fault Refusal :=
  ok s (·.doEyeCheck chan eye moved)

/-- GROUP_POWER_DOWN (R265). -/
def execGroupPowerDown (grp : Nat) (s : State) : Host.Outcome State Fault Refusal := ok s (·.doGroupPowerDown grp)

/-- GROUP_WAKE (R265). -/
def execGroupWake (grp : Nat) (s : State) : Host.Outcome State Fault Refusal := ok s (·.doGroupWake grp)

end Sys2Proof.Machine
end

