-- ==== Sys2Proof/Machine/Ftl.lean ====
section
/-!
DEFINITION. The commands of flash translation (R275, R276, R282 to R292, R301): checkpoints, garbage collection,
relocation, wear levelling, media scan, block groups, folds, destage confirmation and health records.
-/
namespace Sys2Proof.Machine

/-- The open sequence of the oldest superblock still open (REPLAY_FROM, R292). -/
def State.oldestOpen (s : State) : Nat :=
  (s.sbList.filter (fun e => decide (e.2.state = 1))).foldl (fun m e => min m e.2.openSeq) s.ftl.openSeq

/-- Begin a checkpoint: the journal position, REPLAY_FROM, and the map chunks changed since the last one; what it writes follows as
`cpKick` gives (R292). [DEDUCED, unsafe: log 121] -/
def State.cpBegin (s : State) : State :=
  let c : CpSt := { seq := s.rd R.FTL_CSEQ_CSEQ + 1, from0 := s.oldestOpen, jpos := s.ftl.jpos,
                    wb := (s.nvm.nss.filter (fun e => !e.2.effWt)).map (·.1),
                    offs := s.flash.refs.map (fun e => (e.1, e.2.offs)), tags := s.ftl.chunks, todo := s.chunkIds s.ftl.chunks,
                    dirs := [], stage := 0 }
  let f := { s.ftl with cp := some c, chunks := [], cpDue := false, cpSlots := 0, cpTick := s.tick, mapChanged := false }
  { s with ftl := f }.put R.FTL_STAT_CP_BUSY true

/-- CHECKPOINT_START: CP_GIB of slots have been programmed since the last start, or CP_TICKS have passed with a change; a
trigger during a checkpoint starts the next when it completes (R292). -/
def State.doCheckpointStart (s : State) : State :=
  if decide (s.rd R.FTL_CP_CP_GIB * 262144 ≤ s.ftl.cpSlots) ||
     (s.ftl.mapChanged && decide (s.ftl.cpTick + s.rd R.FTL_CPT_CP_TICKS ≤ s.tick)) then
    if s.ftl.cp.isSome then { s with ftl := { s.ftl with cpDue := true } } else s.cpBegin
  else s

/-- CHECKPOINT_COMPLETE: the anchor record is confirmed; victims whose last move came before this checkpoint began are
erased, and a further checkpoint that is due begins (R285, R290, R292). -/
def State.doCheckpointComplete (s : State) : State :=
  match s.ftl.cp with
  | none => s
  | some c =>
    if c.stage ≠ 4 then s
    else
    let f := { s.ftl with cp := none, root := some c, journal := s.ftl.journal.drop (s.ftl.journal.length - (s.ftl.jpos - c.jpos)) }
    let s := ({ s with ftl := f }.put R.FTL_STAT_CP_BUSY false).wr R.FTL_CSEQ_CSEQ c.seq
    let due := s.sbList.filter (fun e => decide (e.2.state = 3) && !e.2.erasing && decide (e.2.movedSeq ≤ c.jpos))
    let s := due.foldl (fun s e => s.startErase e.1) s
    if s.ftl.cpDue then s.cpBegin else s

/-- GC_START: F is below GC_ST, so garbage collection takes victims until F reaches GC_STOP (R282). A superblock that a Format
or Sanitize waits for is taken as well. -/
def State.doGcStart (s : State) : State :=
  if 3 ≤ s.level ∧ s.eraseNext.isSome then s.gcNext
  else if s.on R.FTL_STAT_GC_ACT || decide (s.rd R.FTL_GCTH_GC_ST ≤ s.rd R.FTL_FREE_F) || decide (s.level < 3) then s
  else (s.put R.FTL_STAT_GC_ACT true).gcNext

/-- RELOCATION_MOVE: the relocated copy is programmed; the entry moves if it still points to the source, otherwise the
copy is dead, and the move is journaled (R284). -/
def State.doRelocationMove (s : State) (src : Nat) : State :=
  match s.ftl.moves.find? (fun e => decide (e.1 = src)) with
  | none => s
  | some e =>
    let dst := e.2
    let s := { s with ftl := { s.ftl with moves := s.ftl.moves.filter (fun x => decide (x.1 ≠ src)) } }
    let s : State := match s.slot src with
      | none => s.setSlot dst none
      | some c =>
        if c.kind = 0x01 then
          if s.imgAt c.key = src then (s.setImg c.key dst).jot 4 [0, c.key, src, dst] else s.setSlot dst none
        else if c.kind = 0x10 ∨ c.kind = 0x11 then
          let x := c.key % 2 ^ 40
          let held := s.nvm.stg.filter (fun e => decide (e.2.prev = src))
          let s := { s with nvm := { s.nvm with
            stg := s.nvm.stg.map (fun (e : Nat × StgSt) => if e.2.prev = src then (e.1, { e.2 with prev := dst }) else e) } }
          if s.nsEntry x = src then (s.setNsEntry x dst).jot 4 [1, c.key, src, dst]
          else if held.isEmpty then s.setSlot dst none
          else s.jot 4 [1, c.key, src, dst]
        else (s.setSlot src none).jot 4 [2, c.key, src, dst]
    s.victimEmptied

/-- WEAR_LEVELLING_START: the spread exceeds WL_SPREAD, so the least-worn closed superblock is relocated, and others after it
until the spread is 7/8 of that (R286). -/
def State.doWearLevellingStart (s : State) : State := s.wlNext

/-- Ticks in an hour. -/
def hourTicks : Nat := 3600 * 32768

/-- MEDIA_SCAN: once per SCAN_PER hours, one codeword of each stripe of every closed superblock, the member in rotation,
is read at class 7 (R288). -/
def State.doMediaScan (s : State) : State :=
  if s.tick < s.ftl.scanTick + s.rd R.FTL_SCAN_SCAN_PER * hourTicks ∨ s.level < 3 then s
  else
    let s := { s with ftl := { s.ftl with scanTick := s.tick, scanNext := s.ftl.scanNext + 1 } }
    let turn := s.ftl.scanNext
    (s.sbList.filter (fun e => decide (e.2.state = 2))).foldl (fun s e =>
      let b := e.2
      let dm := b.members.length - 1
      let per := s.stripeSlots b
      let stripes := if per = 0 then 0 else cdiv (s.sbSlots b) per
      (List.range stripes).foldl (fun s u =>
        let a := s.slotAddr e.1 b (u * per + (turn + u) % (if dm = 0 then 1 else dm))
        if (s.slot a).isSome then s.fIssue (addrDie a) .read 7 false e.1 a (.scan e.1) else s) s) s

/-- The block group of a superblock by mode and seconds since close (Table 9-5). -/
def ageGroup (native : Bool) (sec : Nat) : Nat :=
  let h := 3600
  let d := 86400
  if native then
    4 + (([600, h, 6 * h, d, 3 * d, 7 * d, 14 * d, 30 * d, 90 * d, 180 * d, 365 * d]).filter (fun x => decide (x ≤ sec))).length
  else (([h, d, 30 * d]).filter (fun x => decide (x ≤ sec))).length

/-- BLOCK_GROUP_AGE: a closed superblock passes a boundary and reads use the older group from then on (R289). -/
def State.doBlockGroupAge (s : State) (n : Nat) : State :=
  let b := s.sb n
  if b.state = 2 ∧ b.group < ageGroup b.native ((s.tick - b.closeTick) / 32768) then
    s.setSb n { b with group := ageGroup b.native ((s.tick - b.closeTick) / 32768) }
  else s

/-- The namespace that holds a coarse index. -/
def State.nsOfUnit (s : State) (i : Nat) : Nat :=
  match s.nvm.nss.find? (fun e => decide (e.2.base ≤ i) && decide (i < e.2.base + e.2.units)) with
  | some e => e.1
  | none => 0

/-- FOLD_START: while the groups in use exceed FOLD_HI percent, until FOLD_LO, the oldest-written split unit is copied as a
whole unit into the namespace relocation stream (R275). A unit that holds a Staged or Unrecovered entry is passed over. -/
def State.doFoldStart (s : State) : State :=
  let used := s.ftl.groups.length * 100
  let mx := s.groupsMax
  let go := decide (s.rd R.FTL_CP_FOLD_HI * mx < used) || decide (s.ftl.splitWait ≠ 0) ||
    (s.ftl.folding && decide (s.rd R.FTL_CP_FOLD_LO * mx < used))
  if !go then s
  else
    let u := s.unitSlots
    match s.ftl.groups.find? (fun e => !s.ftl.folds.any (fun f => decide (f.unit = e.2)) &&
        (List.range u).all (fun i => decide (s.fineAt e.1 i ≠ 1) && decide (s.fineAt e.1 i ≠ 2))) with
    | none => s
    | some (g, i) =>
      match s.assign 4 u with
      | (none, s) => s
      | (some a, s) =>
        let s := (List.range u).foldl (fun s e =>
          let c := match s.slot (s.fineAt g e) with
            | some c => c
            | none => { kind := 0x10, key := s.nsOfUnit i * 2 ^ 40 + i * u + e, gen := s.nvm.wseq, data := [],
                        md := cellsOf (List.replicate 512 255), marks := [] }
          (s.setSlot (a + e) (some c)).fIssue (addrDie a) .program 6 (s.on R.FTL_STAT_GC_URGENT) (s.sbOf a) (a + e) (.fold i)) s
        let f : FoldSt := { unit := i, group := g, touched := false, dst := a, left := u }
        { s with ftl := { s.ftl with folds := s.ftl.folds ++ [f], folding := true } }

/-- FOLD_SWAP: the copy is complete; unless a write has touched the unit, the group is replaced by a whole entry in one
step, otherwise the fold is abandoned (R275). -/
def State.doFoldSwap (s : State) (i : Nat) : State :=
  match s.ftl.folds.find? (fun f => decide (f.unit = i)) with
  | none => s
  | some f =>
    if f.left ≠ 0 then s
    else
      let u := s.unitSlots
      let s := { s with ftl := { s.ftl with folds := s.ftl.folds.filter (fun x => decide (x.unit ≠ i)) } }
      let s : State := if f.touched then (List.range u).foldl (fun s e => s.setSlot (f.dst + e) none) s
        else
          let s := (s.setCoarse i (4 * (f.dst / u) + 1)).freeGroup f.group
          { s with ftl := { s.ftl with splitWait := s.ftl.splitWait - 1 } }.freeRefresh
      if s.ftl.groups.length * 100 ≤ s.rd R.FTL_CP_FOLD_LO * s.groupsMax
      then { s with ftl := { s.ftl with folding := false } } else s

/-- HEALTH_RECORD: every 24 h the lifetime counters are recorded (R301). -/
def State.doHealthRecord (s : State) : State :=
  if s.tick < s.ftl.healthTick + 24 * hourTicks ∨ s.level < 3 then s
  else
    { s with ftl := { s.ftl with healthTick := s.tick } }.healthWrite

/-- CHECKPOINT_START (R292). -/
def execCheckpointStart (s : State) : Host.Outcome State Fault Refusal := ok s (·.doCheckpointStart)

/-- CHECKPOINT_COMPLETE (R292). -/
def execCheckpointComplete (s : State) : Host.Outcome State Fault Refusal := ok s (·.doCheckpointComplete)

/-- GC_START (R282). -/
def execGcStart (s : State) : Host.Outcome State Fault Refusal := ok s (·.doGcStart)

/-- RELOCATION_MOVE (R284). -/
def execRelocationMove (src : Nat) (s : State) : Host.Outcome State Fault Refusal := ok s (·.doRelocationMove src)

/-- WEAR_LEVELLING_START (R286). -/
def execWearLevellingStart (s : State) : Host.Outcome State Fault Refusal := ok s (·.doWearLevellingStart)

/-- MEDIA_SCAN (R288). -/
def execMediaScan (s : State) : Host.Outcome State Fault Refusal := ok s (·.doMediaScan)

/-- BLOCK_GROUP_AGE (R289). -/
def execBlockGroupAge (sb : Nat) (s : State) : Host.Outcome State Fault Refusal := ok s (·.doBlockGroupAge sb)

/-- FOLD_START (R275). -/
def execFoldStart (s : State) : Host.Outcome State Fault Refusal := ok s (·.doFoldStart)

/-- FOLD_SWAP (R275). -/
def execFoldSwap (unit : Nat) (s : State) : Host.Outcome State Fault Refusal := ok s (·.doFoldSwap unit)

/-- DESTAGE_CONFIRM (R276). -/
def execDestageConfirm (stg : Nat) (s : State) : Host.Outcome State Fault Refusal :=
  ok s (fun s => (s.destageConfirm stg).stgKick)

/-- HEALTH_RECORD (R301). -/
def execHealthRecord (s : State) : Host.Outcome State Fault Refusal := ok s (·.doHealthRecord)

end Sys2Proof.Machine
end

