-- ==== Sys2Proof/Machine/Gauge.lean ====
section
/-!
DEFINITION. The backup energy gauge (R364 to R380): the pack profile, state of charge, deliverable energy, pack identity
and state, capacity audits, save power and learned values.
-/
namespace Sys2Proof.Machine

/-! ### Pack profile (R366) -/

/-- Word `k` of the tables: OCV words 0 to 127, then RES words, from the image or from the CAL entries (R366). -/
def State.gauWord (s : State) (k : Nat) : Nat :=
  if s.on R.GAU_STAT_TBL_SRC then (smGet (false, []) s.erg.calNow (0x400 + k / 64)).2.getD (k % 64) 0
  else s.gp (30 + k) 0

/-- Value `n` of the tables, two per word, low half first. -/
def State.gauHalf (s : State) (n : Nat) : Nat := bits (s.gauWord (n / 2)) (16 * (n % 2)) 16

/-- OCV(j, k) in mV and RES(j, k, c) in mΩ. -/
def State.ocv (s : State) (j k : Nat) : Nat := s.gauHalf (8 * j + k)
def State.resT (s : State) (j k c : Nat) : Nat := s.gauHalf (256 + 4 * (8 * j + k) + c)

/-- Table point j. -/
def gauPoint (j : Nat) : Nat := j * 65536 / 31

/-- The rate class of x mA: class c for x up to I_CLS(c+1), 3 above I_CLS3. -/
def State.rateClass (s : State) (x : Nat) : Nat :=
  if x ≤ s.gp 7 0 then 0 else if x ≤ s.gp 8 0 then 1 else if x ≤ s.gp 9 0 then 2 else 3

/-- TEMPk, °C in Q12.4. -/
def State.tempK (s : State) (k : Nat) : Int := s16 (bits (s.gp (22 + k) 0) 0 16)

/-- The columns that bracket a temperature: 7 alone from TEMP7, 0 alone below TEMP0 (R367, R368). [DEDUCED, unsafe: log 131] -/
def State.cols (s : State) (t : Int) : List Nat :=
  if s.tempK 7 ≤ t then [7]
  else match (List.range 7).find? (fun k => decide (s.tempK k ≤ t) && decide (t < s.tempK (k + 1))) with
    | some k => [k, k + 1]
    | none => [0]

/-- The highest point below s, or point 0. -/
def segBelow (soc : Nat) : Nat := ((List.range 31).reverse.find? (fun j => decide (gauPoint j < soc))).getD 0

/-- OCV of column k interpolated at a state of charge, rounded down. -/
def State.ocvAt (s : State) (soc k : Nat) : Nat :=
  let j := ((List.range 31).reverse.find? (fun j => decide (gauPoint j ≤ soc))).getD 0
  let a := s.ocv j k
  let b := s.ocv (j + 1) k
  let d := gauPoint (j + 1) - gauPoint j
  ((a : Int) + ((b : Int) - (a : Int)) * ((soc - gauPoint j : Nat) : Int) / (d : Int)).toNat

/-- The state of charge at which column k equals v. -/
def State.socCol (s : State) (v k : Nat) : Nat :=
  if v ≤ s.ocv 0 k then 0
  else if s.ocv 31 k ≤ v then 65536
  else
    let j := ((List.range 31).reverse.find? (fun j => decide (s.ocv j k ≤ v))).getD 0
    gauPoint j + (v - s.ocv j k) * (gauPoint (j + 1) - gauPoint j) / (s.ocv (j + 1) k - s.ocv j k)

/-- soc_v: the lower of the bracketing columns' results. -/
def State.socV (s : State) (v : Nat) (t : Int) : Nat := (s.cols t).foldl (fun m k => min m (s.socCol v k)) 65536

/-- The last sample. -/
def State.gauV (s : State) : Nat := s.rd R.GAU_MEAS_V
def State.gauT (s : State) : Int := s16 (s.rd R.GAU_MEAS_T)

/-- Power drawn from the pack at the sled save power in use, mW (R368). -/
def State.packPower (s : State) : Nat := cdiv (s.rd R.LDG_PUSE_P * 1000) (s.gp 4 1000)

/-! ### Deliverable energy (R368) -/

/-- Integer square root, rounded down, by bits from the highest. -/
def isqrt (n : Nat) : Nat :=
  (List.range 40).reverse.foldl (fun r k => if (r + 2 ^ k) * (r + 2 ^ k) ≤ n then r + 2 ^ k else r) 0

/-- The inner repeat of R368: the loaded voltage of a segment, none when the pack cannot carry the power. -/
def State.loadedV (s : State) (j k o pp : Nat) : Nat → Nat → Option Nat
  | 0, _ => none
  | f + 1, c =>
    let r := cdiv (s.resT j k c * s.rd R.GAU_RF_RFAC) 1000
    if o * o < 4 * r * pp then none
    else
      let v := (o + isqrt (o * o - 4 * r * pp)) / 2
      if c < s.rateClass (cdiv (pp * 1000) v) then s.loadedV j k o pp f (c + 1) else some v

/-- The energy of one column, segment by segment, from soc down. -/
def State.eCol (s : State) (k pp : Nat) : Nat → Nat → Nat → Nat
  | 0, _, e => e
  | f + 1, soc, e =>
    if soc = 0 then e
    else
      let j := segBelow soc
      let q := (soc - gauPoint j) * s.rd R.GAU_QL_Q_L / 65536
      let o := s.ocv j k
      match s.loadedV j k o pp 4 (s.rateClass (cdiv (pp * 1000) o)) with
      | none => e
      | some v =>
        if v < s.gp 3 0 then e
        else s.eCol k pp f (gauPoint j) (e + v * q * s.gp 4 1000 * 1024 / 1000000000)

/-- The pack is in a state the ledger may use: Unknown or Known (R370). -/
def State.packOn (s : State) : Bool := decide (s.rd R.GAU_STAT_PSTATE = 1) || decide (s.rd R.GAU_STAT_PSTATE = 2)

/-- e_g in grains (R368). -/
def State.deliverable (s : State) : Nat :=
  if !s.packOn || decide (s.gauT < s.tempK 0) then 0
  else
    let pp := s.packPower
    let es := (s.cols s.gauT).map (fun k => s.eCol k pp 32 (s.rd R.GAU_SOC_SOC) 0)
    es.foldl min (es.headD 0) * s.rd R.GAU_RF_DERATE / 1000

/-- The learned values are written to the code flash, outside a save and with main power present (R378). -/
def State.lrnWrite (s : State) : State :=
  if s.seq.main && decide (s.cvn.code = 0) then
    let l := { s.gau.learned with soc := s.rd R.GAU_SOC_SOC }
    let s := { s with gau := { s.gau with learned := l, lvFlash := some l, lrnDue := false } }
    (s.lvAppend).wr R.GAU_LRNT_TICK s.tick
  else { s with gau := { s.gau with lrnDue := true } }

/-- ESTIMATE (R365, R368): due at the periodic phase or on a trigger; the estimate goes to the ledger and starts a
recomputation (R186), and the first one of a cold boot sets the ledger's start values (R189). During a countdown an
estimate below it replaces it (R200). -/
def State.doEstimate (s : State) : State :=
  let per := s.rd R.GAU_SMP_EST_INT
  if s.on R.GAU_STAT_HIB || !(s.gau.estDue || decide (per ≠ 0 ∧ s.tick % per = 512 % per)) then s
  else
    -- values that a save left in the island are written before the ledger's first recomputation (R378)
    let s := if !s.ledger.started && s.gau.lrnDue then s.lrnWrite else s
    let e := min s.deliverable (2 ^ 32 - 1)
    let s := (s.wr R.GAU_EG_E_G e).wr R.LDG_EGAU_E_G e
    let s := { s with gau := { s.gau with estDue := false, socEst := s.rd R.GAU_SOC_SOC, tEst := s.gauT } }
    let s := if s.on R.LDG_STAT_CDN_ACT && decide (e < s.rd R.LDG_CDN_CDN) then (s.wr R.LDG_CDN_CDN e).cdnpNow else s
    let s := if s.ledger.started then s
      else { s.wr R.LDG_EUSE_E_USE e with ledger := { s.ledger with started := true, tLast := s.tick } }
    s.ledgerStart false

/-! ### Pack state (Table 13-2) -/

/-- Something about the gauge changed that asks for an estimate at once (R365). -/
def State.estNow (s : State) : State := { s with gau := { s.gau with estDue := true } }

/-- SOC_REP takes the whole percent of soc at once (R372). -/
def State.repNow (s : State) : State :=
  { s.wr R.GAU_SOC_SOC_REP (s.rd R.GAU_SOC_SOC * 100 / 65536) with gau := { s.gau with repAt := s.tick } }

/-- The deliverable energy is 0 at once, before any estimate (R369, R370). -/
def State.egZero (s : State) : State := (s.wr R.GAU_EG_E_G 0).wr R.LDG_EGAU_E_G 0

/-- The pack enters a state: a write of the learned values falls due, an estimate is made at once, the change is recorded
and is an alert cause (R365, R370, R378, Table 15-6). -/
def State.packEnter (s : State) (st cause : Nat) : State :=
  let s := (s.wr R.GAU_STAT_PSTATE st).wr R.GAU_STAT_FCAUSE cause
  let s := { s with gau := { s.gau with lrnDue := true, causeGone := 0 } }
  let s := if st = 0 ∨ st = 3 then
      { s.egZero.wr R.GAU_SOC_SOC_REP 0 with gau := { s.gau with repAt := s.tick } }
    else s.repNow
  ((s.estNow).note 0x0C (10 + st) cause).alert 4

/-- The serial of the pack now present, plus one; 0 when it was not read. -/
def State.packSer (s : State) : Nat := if s.on R.GAU_ID_SER_OK then s.rd R.GAU_SER_SER + 1 else 0

/-- The serial counts only while PACK_TWI names a device (Table 13-2). -/
def State.serKnown (s : State) : Bool :=
  decide (s.gp 6 0 ≠ 0) && decide (s.packSer ≠ 0) && decide (s.packSer = s.gau.learned.ser)

/-- The second Absent row of Table 13-2: an Unknown pack starts from the rated values, derated, with an audit due. -/
def State.packUnknown (s : State) : State :=
  let q := s.gp 2 0
  let s := ((s.wr R.GAU_QL_Q_L q).wr R.GAU_RF_RFAC 1000).wr R.GAU_RF_DERATE 500
  let s := { s with gau := { s.gau with audDue := true, audRetry := 0, learned :=
    { s.gau.learned with qL := q, rfac := 1000, ser := s.packSer, id := s.rd R.GAU_ID_ID_CODE } } }
  s.packEnter 1 0

/-- A pack arrives: the Absent rows of Table 13-2. -/
def State.packArrive (s : State) : State :=
  let id := s.rd R.GAU_ID_ID_CODE
  if id = 0 ∨ id = 15 then s.packEnter 0 0
  else if id ≠ s.gp 5 0 then s.packEnter 3 1
  else
    let s := s.wr R.GAU_SOC_SOC (s.socV s.gauV s.gauT)
    let s := { s with gau := { s.gau with hist := [(s.tick, s.gauV)] } }
    if s.serKnown then
      let l := s.gau.learned
      ((((s.wr R.GAU_QL_Q_L l.qL).wr R.GAU_RF_RFAC l.rfac).wr R.GAU_RF_DERATE 1000)).packEnter 2 0
    else s.packUnknown

/-- The fault that the present sample shows in a pack in use, or 0: 2 thermistor, 3 above T_HOT, 4 another ID code. -/
def State.packFault (s : State) : Nat :=
  let id := s.rd R.GAU_ID_ID_CODE
  if s.gau.ntcBad then 2
  else if s16 (bits (s.gp 14 0x3C0) 0 16) < s.gauT then 3
  else if id ≠ 0 ∧ id ≠ 15 ∧ id ≠ s.gp 5 0 then 4
  else 0

/-- The cause of a fault is still present. -/
def State.causeStays (s : State) : Bool :=
  let id := s.rd R.GAU_ID_ID_CODE
  let mism := decide (id ≠ 0 ∧ id ≠ 15 ∧ id ≠ s.gp 5 0)
  match s.rd R.GAU_STAT_FCAUSE with
  | 2 => s.gau.ntcBad
  | 3 => decide (s16 (bits (s.gp 14 0x3C0) 0 16) < s.gauT)
  | 5 => true
  | _ => mism

/-- The pack-state rows that a sample decides (R370, R371). -/
def State.packStep (s : State) : State :=
  let id := s.rd R.GAU_ID_ID_CODE
  match s.rd R.GAU_STAT_PSTATE with
  | 0 => if id = 0 ∨ id = 15 then s else s.packArrive
  | 3 =>
    if s.causeStays then { s with gau := { s.gau with causeGone := 0 } }
    else if s.gau.causeGone = 0 then { s with gau := { s.gau with causeGone := s.tick + 1 } }
    else s
  | _ =>
    if id = 0 ∨ id = 15 then s.packEnter 0 0
    else if s.packFault ≠ 0 then s.packEnter 3 s.packFault
    else s

/-- FAULT_CAUSE_CLEARED (R370): the cause has been absent for 32,768 ticks, and the pack is treated as arriving. -/
def State.doFaultCauseCleared (s : State) : State :=
  let g := s.gau.causeGone
  if s.rd R.GAU_STAT_PSTATE = 3 ∧ g ≠ 0 ∧ g - 1 + 32768 ≤ s.tick ∧ !s.causeStays then s.packArrive else s

/-- A field of the pack profile that asks for the pack to be taken as new changes between two overlays (Table 13-2). -/
def State.packChanged (s : State) (a b : Nat) : Bool :=
  [0, 2, 5].any (fun i => decide ((s.inForce a 0x12 i).map (fun v => if i = 0 then v % 256 else v) ≠
    (s.inForce b 0x12 i).map (fun v => if i = 0 then v % 256 else v)))

/-- An OVL_SWITCH changed CHEM, ID_CODE or Q_R (last row of Table 13-2): seen as its batch is written, and at the next sample
where a wait or a reset came between. -/
def State.packPolicyCheck (s : State) : State :=
  if s.gau.polOvl = s.erg.polOvl then s
  else
    let new := s.packChanged s.gau.polOvl s.erg.polOvl
    let s := { s with gau := { s.gau with polOvl := s.erg.polOvl } }
    if new && s.packOn then s.packUnknown else s

/-! ### Capacity audits (R373 to R376) -/

/-- The first condition of R373 that does not hold, in its order, or 0. -/
def State.audBar (s : State) : Nat :=
  let t := s.gauT
  if !s.on R.GAU_AUD_AUD_EN || decide (32 ≤ s.gp 10 0xFF) then 1
  else if !s.packOn then 2
  else if !s.seq.main || decide (s.cvn.code ≠ 0) then 3
  else if s.ledgerLevel ≠ 0 then 4
  else if t < s16 (bits (s.gp 17 0x140) 0 16) ∨ s16 (bits (s.gp 18 0x230) 0 16) < t then 5
  else if s.rd R.GAU_SOC_SOC < 52429 then 6
  else 0

/-- Start an audit, by itself or for a long-operation entry (R373, R374 step 1). -/
def State.audStart (s : State) (loq : Nat) : State :=
  { s with gau := { s.gau with aud := 1, audAt := s.tick, audQ := 0, audLoq := loq, audDue := false } }.put
    R.GAU_STAT_AUD_BUSY true

/-- AUDIT_START (R373): a due audit starts when every condition holds; otherwise it is retried at the next EST_INT.
[DEDUCED, unsafe: log 129] -/
def State.doAuditStart (s : State) : State :=
  let due := s.gau.audDue || decide (s.gau.learned.audTick + s.ap R.GAU_AUD_AUD_PER * 2831155200 ≤ s.tick)
  if s.gau.aud = 0 ∧ due ∧ s.gau.audRetry ≤ s.tick ∧ s.audBar = 0 then s.audStart 0 else s

/-- CAP_AUDIT (R373): Busy while an audit runs; Not Started when a condition fails, its result word being a value that
the manual does not code. [DESIGN CHOICE, safe: log 130] -/
def State.capAudit (s : State) (e : Nat) : State :=
  if s.gau.aud ≠ 0 then s.loqEnd e loBusy 0
  else if s.audBar ≠ 0 then
    let (v, s) := s.free
    s.loqEnd e loNotStarted v
  else s.audStart (e + 1)

/-- The pack is at rest: v has moved by no more than REST_DV over the last REST_T ticks (R367). -/
def State.atRest (s : State) : Bool :=
  let from0 := s.tick - s.rd R.GAU_REST_REST_T
  let vs := s.gau.hist.map (fun (x : Nat × Nat) => x.2)
  decide (s.rd R.GAU_REST_REST_T ≤ s.tick) && s.gau.hist.any (fun (x : Nat × Nat) => decide (x.1 ≤ from0)) &&
  decide (vs.foldl max 0 - vs.foldl min (vs.headD 0) ≤ s.rd R.GAU_THR_REST_DV)

/-- Add a sample to the rest window, keeping those of the last REST_T ticks and the one before them. -/
def State.restSample (s : State) : State :=
  let from0 := s.tick - s.rd R.GAU_REST_REST_T
  let h := (s.tick, s.gauV) :: s.gau.hist
  let keep := h.takeWhile (fun (x : Nat × Nat) => decide (from0 < x.1))
  let s := { s with gau := { s.gau with hist := keep ++ (h.drop keep.length).take 1 } }
  s.put R.GAU_STAT_REST s.atRest

/-- AUDIT_REST_REACHED (R374 steps 1, 2, 5 and 6). -/
def State.doAuditRestReached (s : State) : State :=
  if !s.on R.GAU_STAT_REST then s
  else if s.gau.aud = 1 then
    let so := s.socV s.gauV s.gauT
    let s := (s.wr R.GAU_SOC_SOC so)
    { s with gau := { s.gau with aud := 2, audAt := s.tick, audSoc0 := so, audO0 := s.gauV } }.audLoad true
  else if s.gau.aud = 4 then
    let s1 := s.socV s.gauV s.gauT
    let s := s.wr R.GAU_SOC_SOC s1
    if s.gau.audSoc0 < s1 + 1311 then s.audDisq 7
    else
      let q := min (s.gp 2 0) (s.gau.audQ * 65536 / (s.gau.audSoc0 - s1))
      let s := (s.wr R.GAU_QL_Q_L q).wr R.GAU_RF_RFAC s.gau.audRf
      let l := s.gau.learned
      let pp := cdiv l.sumS (l.n * s.gau.audRf)
      let pm := cdiv (pp * s.gp 4 1000) 1000
      let s := { s with gau := { s.gau with learned :=
        { l with qL := q, rfac := s.gau.audRf, audTick := s.tick, pMeas := if l.n = 0 then l.pMeas else pm,
                 pSer := s.rd R.ERG_SER_SERIAL (s.rd R.ERG_STAT_BOOT_SLOT) } } }
      let s := if l.n = 0 then s else ((s.wr R.GAU_PSAV_P_PACK pp).wr R.LDG_PMEAS_P_MEAS pm).ledgerStart false
      let s := ((s.put R.GAU_AUDST_LAST_PASS true).wr R.GAU_AUDST_LAST_CAUSE 0).inc R.GAU_AUDST_PASSES
      let s := s.wr R.GAU_AUDT_TICK s.tick
      let s := if s.rd R.GAU_STAT_PSTATE = 1 then (s.wr R.GAU_RF_DERATE 1000).packEnter 2 0 else s
      (s.estNow).audEnd loPassed 0
  else s

/-- AUDIT_LOAD_SAMPLE (R374 step 2): 64 ticks after the load connects, r_m and RFAC_new. [DEDUCED, unsafe: log 230] -/
def State.doAuditLoadSample (s : State) (v : Nat) : State :=
  if s.gau.aud ≠ 2 ∨ s.tick < s.gau.audAt + 64 then s
  else
    let rl := s.gp 11 1
    let rm := cdiv ((s.gau.audO0 - v) * rl) v
    let k := (s.cols s.gauT).headD 0
    let c := s.rateClass (cdiv (v * 1000) rl)
    let rf := cdiv (rm * 1000) (s.resT (segBelow s.gau.audSoc0) k c)
    let s := s.wr R.GAU_MEAS_V v
    { s with gau := { s.gau with aud := 3, audAt := s.tick, audRf := rf } }

/-- What a sample does to an audit: the causes of Table 13-3 in their order, the charge counted while the load is on, and
its release at DEPTH (R374 steps 3 and 4, R375). -/
def State.audSample (s : State) : State :=
  if s.gau.aud = 0 then s
  else
    let t := s.gauT
    let v := s.gauV
    let rl := s.gp 11 1
    let i := v * 1000 / rl
    let loaded := decide (s.gau.aud = 2) || decide (s.gau.aud = 3)
    let resting := decide (s.gau.aud = 1) || decide (s.gau.aud = 4)
    if t < s16 (bits (s.gp 17 0x140) 0 16) ∨ s16 (bits (s.gp 18 0x230) 0 16) < t then s.audDisq 1
    else if loaded ∧ (i < s.gp 19 0 ∨ s.gp 20 0xFFFFFFFF < i) then s.audDisq 2
    else if !s.packOn then s.audDisq 4
    else if s.ledgerLevel = 3 then s.audDisq 5
    else if v ≤ s.gp 3 0 then s.audDisq 6
    else if resting ∧ s.gau.audAt + 4 * s.rd R.GAU_REST_REST_T < s.tick then s.audDisq 7
    else if s.gau.aud = 3 then
      let dq := v * s.rd R.GAU_SMP_SMP_INT * 1000 / (rl * 32768)
      let s := { s with gau := { s.gau with audQ := s.gau.audQ + dq } }
      let s := s.wr R.GAU_SOC_SOC (s.rd R.GAU_SOC_SOC - cdiv (dq * 65536) (s.rd R.GAU_QL_Q_L))
      if s.ap R.GAU_AUD_DEPTH * s.rd R.GAU_QL_Q_L / 100 ≤ s.gau.audQ then
        { s with gau := { s.gau with aud := 4, audAt := s.tick, hist := [] } }.audLoad false
      else s
    else s

/-! ### Sampling (R364, R367) -/

/-- The idle rule: soc falls to soc_v whenever that is lower; at rest it takes soc_v in either direction (R367). -/
def State.idleRule (s : State) : State :=
  let sv := s.socV s.gauV s.gauT
  if sv < s.rd R.GAU_SOC_SOC ∨ s.on R.GAU_STAT_REST then s.wr R.GAU_SOC_SOC sv else s

/-- COLD follows the temperature, and a cold pack has no deliverable energy from this sample on (R369). -/
def State.coldNow (s : State) : State :=
  if s.gauT < s.tempK 0 then (s.put R.GAU_STAT_COLD true).egZero else s.put R.GAU_STAT_COLD false

/-- A fall of the state of charge by FALL_TRIG or of the temperature by 1 °C since the last estimate asks for one (R365). -/
def State.estFall (s : State) : State :=
  if s.rd R.GAU_SOC_SOC + s.rd R.GAU_THR_FALL_TRIG ≤ s.gau.socEst ∨ s.gauT + 16 ≤ s.gau.tEst then s.estNow else s

/-- The serial device answers: PACK_TWI names it, and TWI1 is not in Clearing, Wait or Faulted (R416, Table 15-7). -/
def State.serReads (s : State) : Bool := decide (s.gp 6 0 ≠ 0) && decide (s.rd R.TWI_STAT_STATE 1 < 3)

/-- One sample of voltage, temperature, identity and serial: it is recorded, the pack state follows, soc follows the idle
rule or the audit's count, and the triggers of an estimate are noted (R364 to R371). -/
def State.gauSample (s : State) (v t id ser : Nat) (serOk ntcBad : Bool) : State :=
  let s := ((s.wr R.GAU_MEAS_V v).wr R.GAU_MEAS_T t).wr R.GAU_ID_ID_CODE id
  let rdSer := serOk && s.serReads
  let s := (s.put R.GAU_ID_SER_OK rdSer).wr R.GAU_SER_SER (if rdSer then ser else 0)
  let s := { s with gau := { s.gau with ntcBad := ntcBad } }
  let s := (s.restSample).packPolicyCheck.packStep
  let s := if !s.packOn then s
    else if s.gau.aud ≠ 0 ∨ s.cvn.code = 1 ∨ s.cvn.code = 2 then s
    else s.idleRule
  s.audSample.coldNow.estFall

/-- GAUGE_SAMPLE (R364): with main power present, or during a save. -/
def State.doGaugeSample (s : State) (v t id ser : Nat) (serOk ntcBad : Bool) : State :=
  if s.seq.main || decide (s.cvn.code ≠ 0) then s.gauSample v t id ser serOk ntcBad else s

/-- HIBERNATION_SAMPLE (R379): while main power is absent and no save runs. [DEDUCED, safe: log 133] -/
def State.doHibernationSample (s : State) (v t id ser : Nat) (serOk ntcBad : Bool) : State :=
  if s.on R.GAU_STAT_HIB then s.gauSample v t id ser serOk ntcBad else s

/-- ISNS_WAKE (R379): the comparator wakes the gauge for one sample; a wake that finds the pack Known or Unknown with
main power absent records a pack-drain event. -/
def State.doIsnsWake (s : State) (v t id ser : Nat) (serOk ntcBad : Bool) : State :=
  if !s.on R.GAU_STAT_HIB then s
  else
    let s := s.gauSample v t id ser serOk ntcBad
    if s.packOn && !s.seq.main then
      s.signal (.fixed 0x0C01 2) 0xFFFFFFFF (leBytes 2 v ++ leBytes 2 t ++ leBytes 4 (s.rd R.GAU_SOC_SOC))
    else s

/-- SOC_REP_STEP (R372): one percentage point toward soc every 983,040 ticks. -/
def State.doSocRepStep (s : State) : State :=
  if s.packOn && decide (s.gau.repAt + 983040 ≤ s.tick) then
    let want := s.rd R.GAU_SOC_SOC * 100 / 65536
    let r := s.rd R.GAU_SOC_SOC_REP
    let s := s.wr R.GAU_SOC_SOC_REP (if r < want then r + 1 else if want < r then r - 1 else r)
    { s with gau := { s.gau with repAt := s.tick } }
  else s

/-! ### A save (R367, R377) -/

/-- The charge counted at one tick of a save, for the last sample (R367). -/
def State.saveSoc (s : State) : State :=
  let soc := s.rd R.GAU_SOC_SOC
  let j := segBelow soc
  let v := s.gauV
  let c := s.rateClass (cdiv (s.packPower * 1000) v)
  let i := (s.cols s.gauT).foldl (fun m k =>
    let r := cdiv (s.resT j k c * s.rd R.GAU_RF_RFAC) 1000
    max m (cdiv ((s.ocvAt soc k - v) * 1000) r)) 0
  s.wr R.GAU_SOC_SOC (soc - cdiv (i * 65536) (32768 * s.rd R.GAU_QL_Q_L))

/-- The sums of R377 at one tick of a save: n, and S in mW × 1,000. [DEDUCED, unsafe: log 132] -/
def State.saveSum (s : State) : State :=
  let soc := s.rd R.GAU_SOC_SOC
  let k := (s.cols s.gauT).headD 0
  let v := s.gauV
  let c := s.rateClass (cdiv (s.packPower * 1000) v)
  let d := v * (s.ocvAt soc k - v) * 1000 / s.resT (segBelow soc) k c
  { s with gau := { s.gau with accS := s.gau.accS + (if s.packOn then d else 0), accN := s.gau.accN + 1 } }

/-- The sums begin, at the trigger of a save of code 1 or 2 or at the conversion tick (R377). -/
def State.saveSumStart (s : State) : State :=
  { s with gau := { s.gau with accS := 0, accN := 0, accKnown := decide (s.rd R.GAU_STAT_PSTATE = 2) } }

/-- At the valid mark of a qualifying save, p_pack and P_MEAS (R377); the learned values are to be written (R378). -/
def State.saveSumEnd (s : State) : State :=
  let g := s.gau
  let s := { s with gau := { s.gau with lrnDue := true } }
  if 328 ≤ g.accN ∧ g.accKnown then
    let pp := cdiv g.accS (g.accN * s.rd R.GAU_RF_RFAC)
    let pm := cdiv (pp * s.gp 4 1000) 1000
    let ser := s.rd R.ERG_SER_SERIAL (s.rd R.ERG_STAT_BOOT_SLOT)
    let s := { s with gau := { s.gau with learned :=
      { s.gau.learned with sumS := g.accS, n := g.accN, pMeas := pm, pSer := ser } } }
    ((s.wr R.GAU_PSAV_P_PACK pp).wr R.LDG_PMEAS_P_MEAS pm).ledgerStart false
  else s

/-! ### Learned values (R378) -/

/-- LEARNED_VALUE_WRITE (R378): due every 24 h or on a listed event, outside a save and with main power present. -/
def State.doLearnedValueWrite (s : State) : State :=
  let due := s.gau.lrnDue || decide (s.rd R.GAU_LRNT_TICK + 2831155200 ≤ s.tick)
  if due && s.seq.main && decide (s.cvn.code = 0) then s.lrnWrite else s

/-- Main power returned: the gauge leaves hibernation and owes its first estimate (R380). -/
def State.gauWake (s : State) : State := (s.put R.GAU_STAT_HIB false).estNow

/-- Main power is gone and no save runs: the gauge hibernates (R379). -/
def State.gauSleep (s : State) : State := s.put R.GAU_STAT_HIB true

/-! ### The commands -/

/-- GAUGE_SAMPLE (R364). -/
def execGaugeSample (v : Nat) (t : Nat) (id : Nat) (ser : Nat) (serOk : Bool) (ntcBad : Bool) (s : State) :
    Host.Outcome State Fault Refusal := ok s (·.doGaugeSample v t id ser serOk ntcBad)

/-- ESTIMATE (R368). -/
def execEstimate (s : State) : Host.Outcome State Fault Refusal := ok s (·.doEstimate)

/-- FAULT_CAUSE_CLEARED (R370). -/
def execFaultCauseCleared (s : State) : Host.Outcome State Fault Refusal := ok s (·.doFaultCauseCleared)

/-- SOC_REP_STEP (R372). -/
def execSocRepStep (s : State) : Host.Outcome State Fault Refusal := ok s (·.doSocRepStep)

/-- AUDIT_START (R373). -/
def execAuditStart (s : State) : Host.Outcome State Fault Refusal := ok s (·.doAuditStart)

/-- AUDIT_REST_REACHED (R374). -/
def execAuditRestReached (s : State) : Host.Outcome State Fault Refusal := ok s (·.doAuditRestReached)

/-- AUDIT_LOAD_SAMPLE (R374). -/
def execAuditLoadSample (v : Nat) (s : State) : Host.Outcome State Fault Refusal := ok s (·.doAuditLoadSample v)

/-- LEARNED_VALUE_WRITE (R378). -/
def execLearnedValueWrite (s : State) : Host.Outcome State Fault Refusal := ok s (·.doLearnedValueWrite)

/-- HIBERNATION_SAMPLE (R379). -/
def execHibernationSample (v : Nat) (t : Nat) (id : Nat) (ser : Nat) (serOk : Bool) (ntcBad : Bool) (s : State) :
    Host.Outcome State Fault Refusal := ok s (·.doHibernationSample v t id ser serOk ntcBad)

/-- ISNS_WAKE (R379). -/
def execIsnsWake (v : Nat) (t : Nat) (id : Nat) (ser : Nat) (serOk : Bool) (ntcBad : Bool) (s : State) :
    Host.Outcome State Fault Refusal := ok s (·.doIsnsWake v t id ser serOk ntcBad)

end Sys2Proof.Machine
end

