-- ==== Sys2Proof/Machine/Nvme.lean ====
section
/-!
DEFINITION. The commands of the NVMe service (R302 to R337): doorbells and fetch, range locks and staging, queues, admin
and I/O commands, power states and resets. The firmware commands stand in Firmware.lean.
-/
namespace Sys2Proof.Machine

/-! ### Doorbells and fetch -/

/-- A doorbell in PS3 returns the function to its most recent operational state (R332). -/
def State.psWake (s : State) (f : Nat) : State :=
  let x := s.fn f
  if x.ps = 3 then s.setFn f { x with ps := x.lastOp } else s

/-- SQ_DOORBELL: a new tail; an invalid queue or value raises the error event (R305). -/
def State.doSqDoorbell (s : State) (f q tail : Nat) : State :=
  let x := s.fn f
  if !x.en then s
  else match x.sqs.find? (fun e => decide (e.1 = q)) with
  | none => s.aen f 0x010000
  | some e =>
    if e.2.size ≤ tail then s.aen f 0x010100
    else (s.setFn f { x with sqs := x.sqs.map (fun y => if y.1 = q then (q, { y.2 with tail := tail }) else y) }).psWake f

/-- CQ_HEAD_DOORBELL: completion entries are consumed (book 7, R347). -/
def State.doCqHeadDoorbell (s : State) (f q head : Nat) : State :=
  let x := s.fn f
  if !x.en then s
  else match x.cqs.find? (fun e => decide (e.1 = q)) with
  | none => s.aen f 0x010000
  | some e =>
    if e.2.size ≤ head then s.aen f 0x010100
    else (s.setFn f { x with cqs := x.cqs.map (fun y => if y.1 = q then (q, { y.2 with head := head }) else y) }).psWake f

/-- Submission queues of a function from which a command may be fetched (R304, R306, R324, R331, R336). -/
def State.sqReady (s : State) (f : Nat) : List (Nat × SqSt) :=
  let x := s.fn f
  if !x.rdy || decide (s.level ≠ 4) || decide (x.ps = 3) || decide (s.cmdMax ≤ s.fnInfl f) then []
  else x.sqs.filter (fun e => decide (e.2.head ≠ e.2.tail) && !e.2.stalled &&
    (if e.1 = 0 then !s.on R.NVC_STAT_ADMIN_PAUSE else !s.nvm.ioPause))

/-- The next queue number in rotation after `n`. -/
def rotNext (n : Nat) (qs : List Nat) : Option Nat :=
  match qs.filter (fun q => decide (n < q)) with
  | q :: m => some (m.foldl min q)
  | [] => match qs with
    | q :: m => some (m.foldl min q)
    | [] => none

/-- The arbitration of CC.AMS within a function (R305): round robin over all queues, or the admin queue, then urgent
queues, then the weighted classes while they have credits left; the queue and the credits that remain. -/
def sqArbitrate (x : FnSt) (ready : List (Nat × SqSt)) : Option (Nat × List Nat) :=
  let ids := ready.map (·.1)
  if 0 < x.burst ∧ ids.contains x.next then some (x.next, x.wrr)
  else if !x.ams then (rotNext x.next ids).map (fun q => (q, x.wrr))
  else if ids.contains 0 then some (0, x.wrr)
  else
    let cls := fun (p : Nat) => (ready.filter (fun e => decide (e.2.prio = p))).map (·.1)
    match rotNext x.next (cls 0) with
    | some q => some (q, x.wrr)
    | none =>
      let w := x.feat 0x01 0
      let full := [bits w 24 8 + 1, bits w 16 8 + 1, bits w 8 8 + 1]
      let go := fun (c : List Nat) => (List.range 3).findSome? (fun i =>
        if c.getD i 0 = 0 then none else (rotNext x.next (cls (i + 1))).map (fun q => (q, c.set i (c.getD i 0 - 1))))
      match go x.wrr with
      | some r => some r
      | none => go full

/-- The lowest free tag. [DESIGN CHOICE, unsafe: log 104] -/
def State.freeTag (s : State) : Nat :=
  ((List.range (s.nvm.cmds.length + 1)).find? (fun t => !s.nvm.cmds.any (fun e => decide (e.1 = t)))).getD 0

/-- The opcodes implemented (Table 10-2); any other completes with Invalid Command Opcode (R307). [PRESUMED, unsafe: log 110] -/
def adminOpcodes : List Nat :=
  [0x00, 0x01, 0x02, 0x04, 0x05, 0x06, 0x08, 0x09, 0x0A, 0x0C, 0x0D, 0x10, 0x11, 0x15, 0x80, 0x84]
def nvmOpcodes : List Nat := [0x00, 0x01, 0x02, 0x04, 0x05, 0x08, 0x09, 0x0C]

/-- COMMAND_FETCH: the engine takes the next function in rotation that has a command ready, then a queue by the function's
arbitration, up to the burst, and gives the command a tag (R304, R305). The operands are what the queue's entry holds.
[DEDUCED, unsafe: log 232] -/
def State.doCommandFetch (s : State) (opc cid nsid slba nlb : Nat) : State :=
  if s.nvm.stopped || decide (16384 ≤ s.nvm.cmds.length) then s
  else
    let fs := s.fnIds.filter (fun f => decide (s.sqReady f ≠ []))
    let f? := if fs.contains s.nvm.rr && decide (0 < (s.fn s.nvm.rr).burst) then some s.nvm.rr else rotNext s.nvm.rr fs
    match f? with
    | none => s
    | some f =>
      let x := s.fn f
      match sqArbitrate x (s.sqReady f) with
      | none => s
      | some (q, wrr) =>
        let ab := bits (x.feat 0x01 0) 0 3
        let left := if 0 < x.burst ∧ x.next = q then x.burst - 1 else (if ab = 7 then 16384 else 2 ^ ab) - 1
        let sqs := x.sqs.map (fun e => if e.1 = q then (q, { e.2 with head := (e.2.head + 1) % e.2.size }) else e)
        let t := s.freeTag
        let c : CmdSt :=
          { fn := f, sq := q, cid := cid, opc := opc, nsid := nsid, slba := slba, nlb := nlb, order := s.nvm.order,
            wseq := 0, wt := false, data := [], md := [], prot := [], need := [], got := [], begun := false, stgs := [],
            ranges := [], stage := .fetched, args := [], att := (s.ns nsid).ctrls.contains f,
            cq := (match x.sqs.find? (fun e => decide (e.1 = q)) with | some e => e.2.cq | none => 0) }
        let s := s.setFn f { x with sqs := sqs, next := q, burst := left, wrr := wrr }
        let s := { s with nvm := { s.nvm with cmds := s.nvm.cmds ++ [(t, c)], order := s.nvm.order + 1, rr := f } }
        if (if q = 0 then adminOpcodes else nvmOpcodes).contains opc then s.nvmRefresh else s.nvmRefresh.nvmFinish t 0 1

/-- RANGE_LOCK_GRANT: freed entries go to stalled commands, oldest fetch first; a command whose overlap has ended proceeds
(R323, R324). -/
def State.doRangeLockGrant (s : State) : State :=
  (s.nvm.cmds.filter (fun e => decide (e.2.stage = .waitLock))).foldl (fun s e => s.nvmStart e.1) s

/-! ### Admin commands -/

/-- Run `f` on a fetched admin command of opcode `opc`, while the core that owns the NVMe engine runs (R26, R28). A virtual function's PF-only command completes with Invalid Command
Opcode (R307). -/
def State.admin (s : State) (t opc : Nat) (pf : Bool) (f : CmdSt → State) : State :=
  match s.cmd t with
  | none => s
  | some c =>
    if c.sq ≠ 0 ∨ c.opc ≠ opc ∨ c.stage ≠ .fetched ∨ !s.roleRuns 1 then s
    else if pf && !isPf c.fn then s.nvmFinish t 0 1
    else f c

/-- DELETE_IO_SUBMISSION_QUEUE: waiting and running commands complete with Command Aborted due to SQ Deletion; a command
with a program issued completes with its own status (Table 10-9). -/
def State.doDeleteSq (s : State) (t qid : Nat) : State :=
  s.admin t 0x00 false (fun c =>
    let x := s.fn c.fn
    if qid = 0 ∨ !x.sqs.any (fun e => decide (e.1 = qid)) then s.nvmFinish t 1 1
    else
      let mine := s.nvm.cmds.filter (fun e => decide (e.2.fn = c.fn) && decide (e.2.sq = qid) &&
        decide (e.2.stage ≠ .programming))
      let s := mine.foldl (fun s e =>
        ((s.restoreAll e.1).bufDrop (65536 + e.1)).nvmDone e.1 0 8) s
      let x := s.fn c.fn
      (s.setFn c.fn { x with sqs := x.sqs.filter (fun e => decide (e.1 ≠ qid)) }).nvmFinish t 0 0)

/-- CREATE_IO_SUBMISSION_QUEUE within the allotment (R303). -/
def State.doCreateSq (s : State) (t qid size cqid prio : Nat) (pc : Bool) : State :=
  s.admin t 0x01 false (fun c =>
    let x := s.fn c.fn
    if qid = 0 ∨ s.fnQp c.fn < qid ∨ x.sqs.any (fun e => decide (e.1 = qid)) then s.nvmFinish t 1 1
    else if size < 2 ∨ s.mqes < size then s.nvmFinish t 1 2
    else if !pc then s.nvmFinish t 0 2
    else if cqid = 0 ∨ !x.cqs.any (fun e => decide (e.1 = cqid)) then s.nvmFinish t 1 0
    else
      let q : SqSt := { size := size, cq := cqid, prio := prio % 4, head := 0, tail := 0, stalled := false }
      (s.setFn c.fn { x with sqs := x.sqs ++ [(qid, q)] }).nvmFinish t 0 0)

/-- DELETE_IO_COMPLETION_QUEUE: not while a submission queue uses it (R303). -/
def State.doDeleteCq (s : State) (t qid : Nat) : State :=
  s.admin t 0x04 false (fun c =>
    let x := s.fn c.fn
    if qid = 0 ∨ !x.cqs.any (fun e => decide (e.1 = qid)) then s.nvmFinish t 1 1
    else if x.sqs.any (fun e => decide (e.2.cq = qid)) then s.nvmFinish t 1 0x0C
    else (s.setFn c.fn { x with cqs := x.cqs.filter (fun e => decide (e.1 ≠ qid)) }).nvmFinish t 0 0)

/-- CREATE_IO_COMPLETION_QUEUE within the allotment (R303). -/
def State.doCreateCq (s : State) (t qid size vec : Nat) (ien pc : Bool) : State :=
  s.admin t 0x05 false (fun c =>
    let x := s.fn c.fn
    if qid = 0 ∨ s.fnQp c.fn < qid ∨ x.cqs.any (fun e => decide (e.1 = qid)) then s.nvmFinish t 1 1
    else if size < 2 ∨ s.mqes < size then s.nvmFinish t 1 2
    else if !pc then s.nvmFinish t 0 2
    else if ien && decide (s.fnVec c.fn ≤ vec) then s.nvmFinish t 1 8
    else
      let q : CqSt := { size := size, ien := ien, vec := vec, head := 0, tail := 0 }
      (s.setFn c.fn { x with cqs := x.cqs ++ [(qid, q)] }).nvmFinish t 0 0)

/-- The Critical Warning byte (Table 10-5). -/
def State.critWarn (s : State) : Nat :=
  b2n (s.on R.FTL_STAT_SPARE_LOW) +
  2 * b2n (decide (s.rd R.PWR_STAT_STAGE = 4) || s.nvm.fns.any (fun e => decide (0 < e.2.feat 0x04 0) &&
    decide ((e.2.feat 0x04 0 * 16 : Int) < s16 (s.rd R.PWR_THERM_TJ) + 273 * 16))) +
  4 * b2n (s.ftl.unrecSeen || s.nvm.nss.any (fun e => e.2.lossStg || e.2.lossUnk)) +
  8 * b2n (s.on R.FTL_STAT_NS_RO) +
  16 * b2n (decide (s.rd R.GAU_STAT_PSTATE ≠ 2) || s.on R.FTL_STAT_WITHDRAWN)

/-- The C0h log: header, then an entry for each namespace attached to the controller (Table 10-4). -/
def State.modeLog (s : State) (f : Nat) : List Nat :=
  [s.rd R.LDG_STAT_STG_OFF, s.persState, 0, s.rd R.NVC_SWCNT_SWITCHES, s.nvm.lastMode] ++
  (s.nvm.nss.filter (fun e => e.2.ctrls.contains f)).flatMap (fun e =>
    [e.1, b2n e.2.cfgWt, b2n e.2.effWt, e.2.cause,
     b2n e.2.lossStg + 2 * b2n e.2.lossUnk + 4 * b2n (s.on R.FTL_STAT_NS_RO), e.2.last])

/-- A log page (Table 10-4), as its fields in order. -/
def State.logPage (s : State) (f lid : Nat) : Option (List Nat) :=
  match lid with
  | 0x01 => some (s.fn f).errs.flatten
  | 0x02 => some [s.critWarn, s.rd R.PWR_THERM_TJ, s.rd R.FTL_AVAIL_AVAIL, s.rd R.FTL_AVAIL_SPARE_WARN,
                  s.rd R.FTL_LIFE_PCT_USED, s.nvm.unsafeShut, s.nvm.mediaErr]
  | 0x03 => some ((s.rd R.FWU_SEL_RUN + 1 + (if s.on R.FWU_SEL_PENDING then 16 * (s.rd R.FWU_SEL_NEXT + 1) else 0)) ::
      (List.range 4).map (fun k => if s.on R.FWU_SLOT_VALID (k / 2) then s.rd R.FWU_REV_FR k else 0))
  | 0x04 => some (s.fn f).changed
  | 0x05 => some ((List.range 4096).map (Config.standardByte 5))
  | 0x81 => some [s.nvm.sanStatus, b2n (decide (s.nvm.sanitize ≠ 0))]
  | 0xC0 => some (s.modeLog f)
  | 0xC1 => some (s.nvm.lostLbas.flatMap (fun e => [e.1, e.2.2, e.2.1]))
  | _ => none

/-- GET_LOG_PAGE: a supported page, or Invalid Log Page (R309). Reading the Changed Namespace List empties it. -/
def State.doGetLogPage (s : State) (t lid : Nat) : State :=
  s.admin t 0x02 false (fun c => match s.logPage c.fn lid with
    | none => s.nvmFinish t 1 9
    | some d =>
      let s := if lid = 4 then s.setFn c.fn { s.fn c.fn with changed := [] } else s
      s.nvmFinish t 0 0 d)

/-- Identify data for a supported CNS (Table 10-2, R308), as its fields in order; bytes that the NVMe specification fixes
are not repeated here. A namespace: NSZE, NCAP, NUSE (R310), its format (R312), DLFEAT (R325), NMIC, NAWUN and NAWUPF, and the number
of the last format. A controller: MDTS, CAP.MPSMAX, CAP.MQES, CAP.MPSMIN, NN, VWC, ACL, OACS, ONCS, SQES, CQES, NPSS, the controller
ID, AERL, AWUN and AWUPF, the firmware fields (R308), then CAP.TO, CAP.NSSRS, CAP.CQR and CAP.DSTRD (R303). -/
def State.identify (s : State) (f cns nsid : Nat) : Option (List Nat) :=
  let x := s.ns nsid
  let aw := [1048576 / lbaBytes x.lbaf - 1, 4096 / lbaBytes x.lbaf - 1]
  let nsd := [x.size, x.size, x.size, x.lbaf, b2n x.ext, x.pit, b2n x.pil, 0x09, 1] ++ aw ++ [6]
  match cns with
  | 0x00 | 0x05 => some (if x.ctrls.contains f then nsd else [])
  | 0x11 => some (if x.units = 0 then [] else nsd)
  | 0x01 | 0x06 => some [8, 4, s.mqes - 1, 0, 1024, 0, 3, 0x0E, 0xCF, 0x66, 0x44, 3, f, 3,
                         1048576 / lbaBytes x.lbaf - 1, 4096 / lbaBytes x.lbaf - 1,
                         s.rd R.FWU_REV_FR (2 * s.rd R.FWU_SEL_RUN), s.rd R.FWU_REV_FR (2 * s.rd R.FWU_SEL_RUN + 1), 0x14, 1, 12,
                         4, 0, 1, 0]
  | 0x02 => some ((s.nvm.nss.filter (fun e => decide (nsid < e.1) && e.2.ctrls.contains f)).map (·.1))
  | 0x03 => some [nsid, b2n (s.nsUp nsid)]
  | 0x10 => some ((s.nvm.nss.filter (fun e => decide (nsid < e.1))).map (·.1))
  | 0x12 => some x.ctrls
  | 0x13 => some s.fnIds
  | _ => none

/-- IDENTIFY (R308). -/
def State.doIdentify (s : State) (t cns : Nat) : State :=
  s.admin t 0x06 false (fun c => match s.identify c.fn cns c.nsid with
    | none => s.nvmFinish t 0 2
    | some d => s.nvmFinish t 0 0 d)

/-- ABORT: a target found before execution completes with Command Abort Requested and leaves every LBA unchanged; every
other target leaves Dword 0 bit 0 at 1 (R330). Abort completes itself at once, so none stays outstanding.
[DEDUCED, unsafe: log 108] -/
def State.doAbort (s : State) (t sq cid : Nat) : State :=
  s.admin t 0x08 false (fun c =>
    let s := s.inc R.NVC_ABRT_ABRT_REQ
    match s.nvm.cmds.find? (fun e => decide (e.2.fn = c.fn) && decide (e.2.sq = sq) && decide (e.2.cid = cid) &&
        decide (e.1 ≠ t)) with
    | none => s.nvmFinish t 0 0 [1]
    | some e =>
      if e.2.begun ∨ e.2.stage = .programming then s.nvmFinish t 0 0 [1]
      else
        let s := s.inc R.NVC_ABRT_ABRT_HIT
        let s := ((s.restoreAll e.1).reopenNs e.2).bufDrop (65536 + e.1)
        let x := s.fn e.2.fn
        let s := s.setFn e.2.fn { x with aers := x.aers.filter (fun a => decide (a ≠ e.1)) }
        ((s.nvmFinish e.1 0 7)).nvmFinish t 0 0 [0])

/-- Features of controller scope (Table 10-3). -/
def ctrlFeats : List Nat := [0x01, 0x02, 0x04, 0x07, 0x08, 0x09, 0x0A, 0x0B, 0x0E, 0xC1]

/-- SET_FEATURES: a feature without a row of its own (Table 10-3). No feature is saveable; a controller feature named with
a namespace is refused; Error Recovery does not take DULBE. -/
def State.doSetFeatures (s : State) (t fid v : Nat) (save : Bool) : State :=
  s.admin t 0x09 false (fun c =>
    let x := s.fn c.fn
    if save then s.nvmFinish t 1 0x0D
    else if [0x01, 0x04, 0x08, 0x09, 0x0A, 0x0B, 0xC1].contains fid then
      if c.nsid ≠ 0 ∧ c.nsid ≠ 0xFFFFFFFF then s.nvmFinish t 1 0x0F
      else (s.setFn c.fn (x.setFeat fid v)).nvmFinish t 0 0
    else if fid = 0x07 then
      let q := s.fnQp c.fn - 1
      let v := min (bits v 0 16) q + 65536 * min (bits v 16 16) q
      (s.setFn c.fn (x.setFeat fid v)).nvmFinish t 0 0 [v]
    else if fid = 0x0E then (s.setFn c.fn ((x.setFeat fid v).setFeat 0x10E s.tick)).nvmFinish t 0 0
    else if fid = 0x05 then
      if bit v 16 then s.nvmFinish t 0 2
      else if !s.nsUp c.nsid then s.nvmFinish t 0 0x0B
      else (s.setFn c.fn (x.setFeat (0x1000000 + c.nsid) v)).nvmFinish t 0 0
    else s.nvmFinish t 0 2)

/-- POWER_MANAGEMENT: an operational state is in force at once; PS3 begins its entry, and the completion is posted when the
function next holds no command (R331, R332). -/
def State.doPowerManagement (s : State) (t ps : Nat) : State :=
  s.admin t 0x09 false (fun c =>
    let x := s.fn c.fn
    if 3 < ps then s.nvmFinish t 0 2
    else if ps < 3 then (s.setFn c.fn { x with ps := ps, lastOp := ps }).nvmFinish t 0 0
    else (s.setFn c.fn { x with psEntry := t + 1 }).setCmd t { c with stage := .waitCmds, begun := true })

/-- CONFIGURED_WRITE_MODE: feature C0h of a namespace; the effective mode follows when the step settles (R315, R316). -/
def State.doConfiguredWriteMode (s : State) (t v : Nat) : State :=
  s.admin t 0x09 false (fun c =>
    if !s.nsUp c.nsid then s.nvmFinish t 0 0x0B
    else if 1 < v then s.nvmFinish t 0 2
    else (s.setNs c.nsid { s.ns c.nsid with cfgWt := decide (v = 1) }).nvmFinish t 0 0)

/-- LOSS_ACKNOWLEDGE: feature C2h clears the namespace's loss flags (R327). -/
def State.doLossAcknowledge (s : State) (t : Nat) : State :=
  s.admin t 0x09 false (fun c =>
    if !s.nsUp c.nsid then s.nvmFinish t 0 0x0B
    else (s.setNs c.nsid { s.ns c.nsid with lossStg := false, lossUnk := false }).nvmRefresh.nvmFinish t 0 0)

/-- GET_FEATURES (Table 10-3): C2h is Set only. -/
def State.doGetFeatures (s : State) (t fid : Nat) : State :=
  s.admin t 0x0A false (fun c =>
    let x := s.fn c.fn
    let q := s.fnQp c.fn - 1
    if fid = 0x02 then s.nvmFinish t 0 0 [x.ps]
    else if fid = 0x07 then s.nvmFinish t 0 0 [x.feat 0x07 (q + 65536 * q)]
    else if fid = 0x0E then s.nvmFinish t 0 0 [x.feat 0x0E 0 + (s.tick - x.feat 0x10E 0) * 1000 / 32768]
    else if fid = 0x05 then s.nvmFinish t 0 0 [x.feat (0x1000000 + c.nsid) 0]
    else if fid = 0xC0 then
      if s.nsUp c.nsid then s.nvmFinish t 0 0 [b2n (s.ns c.nsid).cfgWt] else s.nvmFinish t 0 0x0B
    else if fid = 0xC1 then s.nvmFinish t 0 0 [x.feat 0xC1 3]
    else if ctrlFeats.contains fid then s.nvmFinish t 0 0 [x.feat fid 0]
    else s.nvmFinish t 0 2)

/-- ASYNCHRONOUS_EVENT_REQUEST: up to four stand; a waiting event completes one at once (R308). -/
def State.doAsyncEventRequest (s : State) (t : Nat) : State :=
  s.admin t 0x0C false (fun c =>
    let x := s.fn c.fn
    if 4 ≤ x.aers.length then s.nvmFinish t 1 5
    else match x.events with
    | w :: m => (s.setFn c.fn { x with events := m }).nvmFinish t 0 0 [w]
    | [] => (s.setFn c.fn { x with aers := x.aers ++ [t] }).setCmd t { c with stage := .waitCmds })

/-- AEN_COALESCE_END: 1,024 ticks after the last write-mode event, one pending event is raised (R321).
[DEDUCED, unsafe: log 113] -/
def State.doAenCoalesceEnd (s : State) (f : Nat) : State :=
  if (s.fn f).modePend && decide ((s.fn f).modeAt + 1023 ≤ s.tick) then s.modeEvent f else s

/-! ### Namespaces -/

/-- Coarse units of the namespace pool (NS_POOL in GiB). -/
def State.poolUnits (s : State) : Nat := s.ergBase 0x04 48 0 * 262144 / s.unitSlots

/-- Move a namespace's coarse entries to a new base: entries, not data (R310). -/
def State.moveNs (s : State) (n base : Nat) : State :=
  let x := s.ns n
  let es := (List.range x.units).map (fun i => s.coarseAt (x.base + i))
  let u := s.unitSlots
  let s := (List.range x.units).foldl (fun s i => s.setCoarse (x.base + i) 0) s
  let s := (List.range x.units).foldl (fun s i => s.setCoarse (base + i) (es.getD i 0)) s
  let slots := s.ftl.slots.map (fun e => (e.1, e.2.map (fun (c : SlotC) =>
    if (c.kind = 0x10 ∨ c.kind = 0x11) ∧ c.key / 2 ^ 40 = n then { c with key := c.key + base * u - x.base * u } else c)))
  let groups := s.ftl.groups.map (fun e => if x.base ≤ e.2 ∧ e.2 < x.base + x.units then (e.1, e.2 + base - x.base) else e)
  let folds := s.ftl.folds.map (fun (f : FoldSt) =>
    if x.base ≤ f.unit ∧ f.unit < x.base + x.units then { f with unit := f.unit + base - x.base } else f)
  ({ s with ftl := { s.ftl with slots := slots, groups := groups, folds := folds } }).setNs n { x with base := base }

/-- Close the gaps of the coarse map, namespaces in order of their bases (R310). -/
def State.closeGaps (s : State) : State :=
  let order := s.nvm.nss.foldl (fun (m : List (Nat × NsSt)) e =>
    (m.takeWhile (fun y => decide (y.2.base ≤ e.2.base))) ++ e :: m.dropWhile (fun y => decide (y.2.base ≤ e.2.base))) []
  (order.foldl (fun (p : State × Nat) e => (p.1.moveNs e.1 p.2, p.2 + e.2.units)) (s, 0)).1

/-- A contiguous free range of coarse indexes: the lowest start among 0 and the ends of namespaces. -/
def State.freeRange (s : State) (units : Nat) : Option Nat :=
  let starts := 0 :: s.nvm.nss.map (fun e => e.2.base + e.2.units)
  (starts.foldl (fun m k => setIns k m) []).find? (fun b => decide (b + units ≤ s.poolUnits) &&
    s.nvm.nss.all (fun e => decide (e.2.base + e.2.units ≤ b) || decide (b + units ≤ e.2.base)))

/-- NAMESPACE_MANAGEMENT: creation rounds the size up to coarse units and takes a contiguous range; deletion completes the
namespace's fetched commands first (R310, R311). [DEDUCED, safe: log 114] -/
def State.doNamespaceManagement (s : State) (t : Nat) (del : Bool) (size lbaf : Nat) (ext : Bool) (pit : Nat)
    (pil : Bool) : State :=
  s.admin t 0x0D true (fun c =>
    if del then
      let x := s.ns c.nsid
      if x.units = 0 ∨ x.closed ≠ 0 then s.nvmFinish t 0 0x0B
      else ((s.setNs c.nsid { x with closed := 2 }).setCmd t { c with stage := .waitCmds }).nvmKick
    else if 6 < lbaf then s.nvmFinish t 1 0x0A
    else if size = 0 ∨ 3 < pit ∨ (pit ≠ 0 ∧ piBytes lbaf = 0) then s.nvmFinish t 0 2
    else
      let per := s.unitSlots * lbasPerSlot lbaf
      let units := cdiv size per
      let used := (s.nvm.nss.map (fun e => e.2.units)).sum
      if s.poolUnits < used + units then s.nvmFinish t 1 0x15
      else match (List.range 1024).find? (fun i => !s.nsUp (i + 1)) with
      | none => s.nvmFinish t 1 0x16
      | some i =>
        let s := if (s.freeRange units).isNone then s.closeGaps else s
        match s.freeRange units with
        | none => s.nvmFinish t 1 0x15
        | some b =>
          let n := i + 1
          let s := (s.setNs n { nsInit with size := units * per, base := b, units := units, lbaf := lbaf, ext := ext,
                                            pit := pit, pil := pil, ready := s.on R.FTL_STAT_MAP_NS }).jot 6 [n]
          (s.account).nvmFinish t 0 0 [n])

/-- NAMESPACE_ATTACHMENT with its notices (R311). -/
def State.doNamespaceAttachment (s : State) (t : Nat) (detach : Bool) (ctrls : List Nat) : State :=
  s.admin t 0x15 true (fun c =>
    let x := s.ns c.nsid
    if x.units = 0 then s.nvmFinish t 0 0x0B
    else if ctrls = [] ∨ ctrls.any (fun f => !s.fnPresent f) then s.nvmFinish t 1 0x1C
    else if detach then
      if ctrls.any (fun f => !x.ctrls.contains f) then s.nvmFinish t 1 0x1A
      else
        let s := s.setNs c.nsid { x with ctrls := x.ctrls.filter (fun f => !ctrls.contains f) }
        (s.nsChanged c.nsid ctrls).nvmFinish t 0 0
    else if ctrls.any (fun f => x.ctrls.contains f) then s.nvmFinish t 1 0x18
    else
      let s := s.setNs c.nsid { x with ctrls := ctrls.foldl (fun m f => setIns f m) x.ctrls }
      (s.nsChanged c.nsid ctrls).nvmFinish t 0 0)

/-- FORMAT_NVM with SES 0 or 1: it waits for the namespace's commands, deallocates it and applies the format (R314). -/
def State.doFormatNvm (s : State) (t lbaf : Nat) (ext : Bool) (pit : Nat) (pil : Bool) (ses : Nat) : State :=
  s.admin t 0x80 false (fun c =>
    let x := s.ns c.nsid
    if x.units = 0 ∨ !x.ctrls.contains c.fn ∨ x.closed ≠ 0 then s.nvmFinish t 0 0x0B
    else if 1 < ses then s.nvmFinish t 0 2
    else if 6 < lbaf ∨ (pit ≠ 0 ∧ piBytes lbaf = 0) ∨ 3 < pit then s.nvmFinish t 1 0x0A
    else if s.nvm.sanitize ≠ 0 then s.nvmFinish t 0 0x1D
    else
      let s := s.setNs c.nsid { x with closed := 1 }
      (s.setCmd t { c with stage := .waitCmds, args := [lbaf, b2n ext, pit, b2n pil, ses] }).nvmKick)

/-- SANITIZE_BLOCK_ERASE: every namespace is deallocated and every superblock that held namespace data is erased, other
tenants' slots relocated first; fetched I/O commands end with Sanitize In Progress; the command completes and the end is reported by a notice (R315).
[DEDUCED, unsafe: log 115] -/
def State.doSanitizeBlockErase (s : State) (t action : Nat) : State :=
  s.admin t 0x84 true (fun _ =>
    if action ≠ 2 then s.nvmFinish t 0 2
    else if s.nvm.sanitize ≠ 0 then s.nvmFinish t 0 0x1D
    else
      let sbs := s.nsSbs none
      let s := { s with nvm := { s.nvm with sanitize := 100001, sanStatus := 2 } }
      let s := (s.nvm.cmds.filter (fun e => decide (e.2.sq ≠ 0))).foldl (fun s e =>
        ((s.restoreAll e.1).bufDrop (65536 + e.1)).nvmDone e.1 0 0x1D) s
      let s := (s.nvm.nss.map (·.1)).foldl (fun s n => s.deallocNs n) s
      let s := sbs.foldl (fun s n =>
        let s := (s.closeOf n).rewriteSched n
        s.setSb n { s.sb n with sanitize := true }) s
      let s := { s with ftl := { s.ftl with eraseWait := s.ftl.eraseWait ++ [(100000, sbs)] } }
      ((s.nvmFinish t 0 0).eraseKick.gcNext))

/-! ### I/O commands -/

/-- Run `f` on a fetched I/O command of opcode `opc`. -/
def State.io (s : State) (t opc : Nat) (f : CmdSt → State) : State :=
  match s.cmd t with
  | none => s
  | some c => if c.sq = 0 ∨ c.opc ≠ opc ∨ c.stage ≠ .fetched then s else f c

/-- FLUSH completes once every earlier write-class command of its namespace has posted its completion (R320). -/
def State.doFlush (s : State) (t : Nat) : State :=
  s.io t 0x00 (fun c =>
    if c.nsid ≠ 0xFFFFFFFF ∧ s.nvmGate c ≠ 0 then s.nvmFinish t 0 (s.nvmGate c)
    else (s.setCmd t { c with stage := .waitCmds }).nvmKick)

/-- WRITE: range locks, staging in the effective mode, checks, completion (R313, R316 to R319). A PCIe error on the
transfer completes it with Data Transfer Error. [DESIGN CHOICE, safe: log 111] -/
def State.doWrite (s : State) (t : Nat) (data md : List Byte) (prot : List Nat) (dtErr : Bool) : State :=
  s.io t 0x01 (fun c =>
    if dtErr then s.nvmFinish t 0 4
    else (s.setCmd t { c with data := data, md := md, prot := prot }).nvmStart t)

/-- READ, COMPARE and VERIFY (R313, R325, R326). -/
def State.doRead (s : State) (t opc : Nat) (data md : List Byte) (prot : List Nat) : State :=
  s.io t opc (fun c => (s.setCmd t { c with data := data, md := md, prot := prot }).nvmStart t)

/-- WRITE_UNCORRECTABLE and WRITE_ZEROES (R326). -/
def State.doMapCmd (s : State) (t opc : Nat) : State := s.io t opc (fun _ => s.nvmStart t)

/-- Pairs (first LBA, count) of a flat list. -/
def pairs : List Nat → List (Nat × Nat)
  | a :: b :: m => (a, b) :: pairs m
  | _ => []

/-- DATASET_MANAGEMENT: up to 256 ranges; without Deallocate it changes nothing (Table 10-2, R326). -/
def State.doDatasetManagement (s : State) (t : Nat) (dealloc : Bool) (ranges : List Nat) : State :=
  s.io t 0x09 (fun c =>
    let rs := pairs ranges
    if 256 < rs.length then s.nvmFinish t 0 2
    else if !dealloc then s.nvmFinish t 0 (s.nvmGate c)
    else (s.setCmd t { c with ranges := rs }).nvmStart t)

/-! ### Resets and power -/

/-- Tear down every command of a function: unfetched ones are discarded, the others end without a completion (Table
10-9). -/
def State.fnTear (s : State) (f : Nat) : State :=
  ((s.nvm.cmds.filter (fun e => decide (e.2.fn = f))).map (·.1)).foldl (fun s t => s.nvmTear t) s

/-- The function as a controller reset leaves it. -/
def State.fnReset (s : State) (f : Nat) : State :=
  let s := s.fnTear f
  let x := s.fn f
  ((s.setFn f { fnInit with changed := x.changed, errCnt := x.errCnt, errs := x.errs }).nvmRefresh).nvmKick

/-- CONTROLLER_ENABLE: the function becomes ready when the device serves SL4 after boot; before boot ends it waits, below
SL4 it reports CFS (R306). The admin queues have their largest size until the host narrows them. -/
def State.doControllerEnable (s : State) (f : Nat) (ams : Bool) : State :=
  let x := s.fn f
  if !s.fnPresent f || x.en then s
  else
    let sq : SqSt := { size := 4096, cq := 0, prio := 0, head := 0, tail := 0, stalled := false }
    let cq : CqSt := { size := 4096, ien := true, vec := 0, head := 0, tail := 0 }
    s.setFn f { x with en := true, rdy := s.on R.BST_STAT_DONE && decide (s.level = 4), shst := false, shutReq := false,
                       ams := ams, sqs := [(0, sq)], cqs := [(0, cq)] }

/-- SHUTDOWN: complete when the function holds no fetched command (R335). -/
def State.doShutdown (s : State) (f : Nat) : State :=
  let x := s.fn f
  if !x.en then s else (s.setFn f { x with shutReq := true }).nvmKick

/-- The general check-value engines that the host claimed through a function that is reset are released (R363). -/
def State.crcHostRelease (s : State) (p : Nat → Bool) : State :=
  (List.range 8).foldl (fun s i =>
    let v := smGet 0 s.buf.crcVia i
    if v ≠ 0 ∧ p (v - 1) ∧ s.rd R.CRC_GE_OWN_OWNER i = 5 then
      ({ s with buf := { s.buf with crcVia := smSet 0 i 0 s.buf.crcVia } }.wr R.CRC_GE_OWN_OWNER 0 i).put
        R.CRC_GE_OWN_OWNER_RST true i
    else s) s

/-- FLR: of a memory-device function (`fn` 0) it resets its F fields and MSI-X table and leaves CXL.mem alone; of an NVMe
function (`fn` − 1 is its controller ID) it tears its commands down and resets it (R87, R335, R515). -/
def State.flrNow (s : State) (port ld fn : Nat) : State :=
  let m := if fn = 0 then ldKey port ld else 1000 + (fn - 1)
  let s := { s with host := { s.host with msixOff := setIns m s.host.msixOff } }
  if fn = 0 then s.crcHostRelease (fun k => decide (k = ldKey port ld))
  else if s.fnPresent (fn - 1) then s.fnReset (fn - 1) else s

/-- FLR: deferred while a save runs (R206). Deferred resets are (kind, number): 0 warm, 1 function-level, 2 PERST, 3 link
down, 4 CXL reset. -/
def State.doFlr (s : State) (port ld fn : Nat) : State :=
  if s.cvn.code = 0 then s.flrNow port ld fn
  else { s with cvn := { s.cvn with deferred := s.cvn.deferred ++ [(1, 65536 * fn + ldKey port ld)] } }

/-- The Set Features commands of a function that wait for its PS3 entry, by tag (R332). -/
def State.psEntries (s : State) (f : Nat) : List Nat :=
  (s.nvm.cmds.filter (fun e => decide (e.2.fn = f) && decide (e.2.sq = 0) && decide (e.2.opc = 9) &&
    decide (e.2.stage = .waitCmds))).map (·.1)

/-- PS3_ENTRY_DONE: the function holds no command, so its completion is posted in PS3 (R332). -/
def State.doPs3EntryDone (s : State) (f : Nat) : State :=
  let x := s.fn f
  let es := s.psEntries f
  if x.psEntry ≠ 0 ∧ s.fnInfl f = x.aers.length + es.length then
    es.foldl (fun s t => s.nvmFinish t 0 0) (s.setFn f { x with ps := 3, psEntry := 0 })
  else s

/-- PS3_ENTRY_TIMEOUT: after 1 s the completion is posted in the most recent operational state (R332). -/
def State.doPs3EntryTimeout (s : State) (f : Nat) : State :=
  let x := s.fn f
  if x.psEntry ≠ 0 then (s.psEntries f).foldl (fun s t => s.nvmFinish t 0 0) (s.setFn f { x with ps := x.lastOp, psEntry := 0 })
  else s

/-! ### The commands -/

/-- SQ_DOORBELL (R305). -/
def execSqDoorbell (fn : Nat) (sq : Nat) (tail : Nat) (s : State) :
    Host.Outcome State Fault Refusal := ok s (·.doSqDoorbell fn sq tail)

/-- COMMAND_FETCH (R304). -/
def execCommandFetch (opc : Nat) (cid : Nat) (nsid : Nat) (slba : Nat) (nlb : Nat) (s : State) :
    Host.Outcome State Fault Refusal := ok s (·.doCommandFetch opc cid nsid slba nlb)

/-- RANGE_LOCK_GRANT (R324). -/
def execRangeLockGrant (s : State) : Host.Outcome State Fault Refusal := ok s (·.doRangeLockGrant)

/-- STAGING_PAGE_GRANT (R318). -/
def execStagingPageGrant (s : State) : Host.Outcome State Fault Refusal := ok s (·.stgKick)

/-- DELETE_IO_SUBMISSION_QUEUE (R333). -/
def execDeleteIoSubmissionQueue (tag : Nat) (qid : Nat) (s : State) :
    Host.Outcome State Fault Refusal := ok s (·.doDeleteSq tag qid)

/-- CREATE_IO_SUBMISSION_QUEUE (R303). -/
def execCreateIoSubmissionQueue (tag : Nat) (qid : Nat) (size : Nat) (cqid : Nat) (prio : Nat) (pc : Bool) (s : State) :
    Host.Outcome State Fault Refusal := ok s (·.doCreateSq tag qid size cqid prio pc)

/-- DELETE_IO_COMPLETION_QUEUE (R303). -/
def execDeleteIoCompletionQueue (tag : Nat) (qid : Nat) (s : State) :
    Host.Outcome State Fault Refusal := ok s (·.doDeleteCq tag qid)

/-- CREATE_IO_COMPLETION_QUEUE (R303). -/
def execCreateIoCompletionQueue (tag : Nat) (qid : Nat) (size : Nat) (vec : Nat) (ien : Bool) (pc : Bool) (s : State) :
    Host.Outcome State Fault Refusal := ok s (·.doCreateCq tag qid size vec ien pc)

/-- GET_LOG_PAGE (R309). -/
def execGetLogPage (tag : Nat) (lid : Nat) (s : State) :
    Host.Outcome State Fault Refusal := ok s (·.doGetLogPage tag lid)

/-- IDENTIFY (R308). -/
def execIdentify (tag : Nat) (cns : Nat) (s : State) : Host.Outcome State Fault Refusal := ok s (·.doIdentify tag cns)

/-- ABORT (R330). -/
def execAbort (tag : Nat) (sq : Nat) (cid : Nat) (s : State) :
    Host.Outcome State Fault Refusal := ok s (·.doAbort tag sq cid)

/-- SET_FEATURES (R308). -/
def execSetFeatures (tag : Nat) (fid : Nat) (value : Nat) (save : Bool) (s : State) :
    Host.Outcome State Fault Refusal := ok s (·.doSetFeatures tag fid value save)

/-- POWER_MANAGEMENT (R332). -/
def execPowerManagement (tag : Nat) (ps : Nat) (s : State) :
    Host.Outcome State Fault Refusal := ok s (·.doPowerManagement tag ps)

/-- CONFIGURED_WRITE_MODE (R316). -/
def execConfiguredWriteMode (tag : Nat) (value : Nat) (s : State) :
    Host.Outcome State Fault Refusal := ok s (·.doConfiguredWriteMode tag value)

/-- LOSS_ACKNOWLEDGE (R327). -/
def execLossAcknowledge (tag : Nat) (s : State) : Host.Outcome State Fault Refusal := ok s (·.doLossAcknowledge tag)

/-- GET_FEATURES (R308). -/
def execGetFeatures (tag : Nat) (fid : Nat) (s : State) :
    Host.Outcome State Fault Refusal := ok s (·.doGetFeatures tag fid)

/-- ASYNCHRONOUS_EVENT_REQUEST (R308). -/
def execAsynchronousEventRequest (tag : Nat) (s : State) :
    Host.Outcome State Fault Refusal := ok s (·.doAsyncEventRequest tag)

/-- AEN_COALESCE_END (R321). -/
def execAenCoalesceEnd (fn : Nat) (s : State) : Host.Outcome State Fault Refusal := ok s (·.doAenCoalesceEnd fn)

/-- NAMESPACE_MANAGEMENT (R310). -/
def execNamespaceManagement (tag : Nat) (del : Bool) (size : Nat) (lbaf : Nat) (ext : Bool) (pit : Nat) (pil : Bool) (s : State) :
    Host.Outcome State Fault Refusal := ok s (·.doNamespaceManagement tag del size lbaf ext pit pil)

/-- NAMESPACE_ATTACHMENT (R311). -/
def execNamespaceAttachment (tag : Nat) (detach : Bool) (ctrls : List Nat) (s : State) :
    Host.Outcome State Fault Refusal := ok s (·.doNamespaceAttachment tag detach ctrls)

/-- FORMAT_NVM (R314). -/
def execFormatNvm (tag : Nat) (lbaf : Nat) (ext : Bool) (pit : Nat) (pil : Bool) (ses : Nat) (s : State) :
    Host.Outcome State Fault Refusal := ok s (·.doFormatNvm tag lbaf ext pit pil ses)

/-- SANITIZE_BLOCK_ERASE (R315). -/
def execSanitizeBlockErase (tag : Nat) (action : Nat) (s : State) :
    Host.Outcome State Fault Refusal := ok s (·.doSanitizeBlockErase tag action)

/-- FLUSH (R320). -/
def execFlush (tag : Nat) (s : State) : Host.Outcome State Fault Refusal := ok s (·.doFlush tag)

/-- WRITE (R317). -/
def execWrite (tag : Nat) (data : List Byte) (md : List Byte) (prot : List Nat) (dtErr : Bool) (s : State) :
    Host.Outcome State Fault Refusal := ok s (·.doWrite tag data md prot dtErr)

/-- READ (R325). -/
def execRead (tag : Nat) (prot : List Nat) (s : State) :
    Host.Outcome State Fault Refusal := ok s (·.doRead tag 0x02 [] [] prot)

/-- WRITE_UNCORRECTABLE (R326). -/
def execWriteUncorrectable (tag : Nat) (s : State) : Host.Outcome State Fault Refusal := ok s (·.doMapCmd tag 0x04)

/-- COMPARE (R307). -/
def execCompare (tag : Nat) (data : List Byte) (md : List Byte) (prot : List Nat) (s : State) :
    Host.Outcome State Fault Refusal := ok s (·.doRead tag 0x05 data md prot)

/-- WRITE_ZEROES (R326). -/
def execWriteZeroes (tag : Nat) (s : State) : Host.Outcome State Fault Refusal := ok s (·.doMapCmd tag 0x08)

/-- DATASET_MANAGEMENT (R326). -/
def execDatasetManagement (tag : Nat) (dealloc : Bool) (ranges : List Nat) (s : State) :
    Host.Outcome State Fault Refusal := ok s (·.doDatasetManagement tag dealloc ranges)

/-- VERIFY (R307). -/
def execVerify (tag : Nat) (prot : List Nat) (s : State) :
    Host.Outcome State Fault Refusal := ok s (·.doRead tag 0x0C [] [] prot)

/-- CONTROLLER_RESET (R335). -/
def execControllerReset (fn : Nat) (s : State) : Host.Outcome State Fault Refusal := ok s (·.fnReset fn)

/-- SHUTDOWN (R335). -/
def execShutdown (fn : Nat) (s : State) : Host.Outcome State Fault Refusal := ok s (·.doShutdown fn)

/-- FLR (R335). -/
def execFlr (port : Nat) (ld : Nat) (fn : Nat) (s : State) :
    Host.Outcome State Fault Refusal := ok s (·.doFlr port ld fn)

/-- PS3_ENTRY_DONE (R332). -/
def execPs3EntryDone (fn : Nat) (s : State) : Host.Outcome State Fault Refusal := ok s (·.doPs3EntryDone fn)

/-- PS3_ENTRY_TIMEOUT (R332). -/
def execPs3EntryTimeout (fn : Nat) (s : State) : Host.Outcome State Fault Refusal := ok s (·.doPs3EntryTimeout fn)

/-- CONTROLLER_ENABLE (R306). -/
def execControllerEnable (fn : Nat) (ams : Bool) (s : State) :
    Host.Outcome State Fault Refusal := ok s (·.doControllerEnable fn ams)

/-- CQ_HEAD_DOORBELL (R347). -/
def execCqHeadDoorbell (fn : Nat) (cq : Nat) (head : Nat) (s : State) :
    Host.Outcome State Fault Refusal := ok s (·.doCqHeadDoorbell fn cq head)

end Sys2Proof.Machine
end

