-- ==== Sys2Proof/Machine/Reset.lean ====
section
/-!
DEFINITION. What a reset restores (R19, R65, R450): the register fields by reset letter, and the state behind them that
each scope clears and keeps; the conventional reset of a port (R87); the loss of a cold reset.
-/
namespace Sys2Proof.Machine

/-! ### Fields -/

/-- Restore one field instance to its reset value, applied at once (R19, R536). -/
def State.resetInst (s : State) (f : Fld) (i j : Nat) : State :=
  let s := s.wr f (f.reset i) i j
  if f.acc = .rws then s.applyRws f i j else s

/-- Restore every instance of a field. -/
def State.resetFld (s : State) (f : Fld) : State :=
  (List.range f.n).foldl (fun s i => (List.range f.n2).foldl (fun s j => s.resetInst f i j) s) s

/-- Fields whose A letter names a constant of the part or a value that outlives the reset: identity, unit ID, fuses, and
the tick counter, which resumes (R450, R476). -/
def heldThroughA : List Fld :=
  [R.TOP_ID_HW_TYPE, R.TOP_ID_STEP, R.TOP_ID_PART, R.TOP_ID_GRADE, R.CAL_UID_UID, R.CAL_HWTYPE_HW_TYPE,
   R.FWU_SVN_FLOOR, R.CFL_WIN_LV_ACT]

/-- Whether a reset of scope `sc` restores fields of letter `l`: F by F, W, C and A; W by W, C and A; C by C and A; L by
L, C and A; S and A by A only; a dash by none (R19, R453). -/
def scopeHas (sc lt : RstL) : Bool :=
  match lt, sc with
  | .n, _ => false
  | .a, .a => true
  | .s, .a => true
  | .c, .a | .c, .c => true
  | .w, .a | .w, .c | .w, .w => true
  | .l, .a | .l, .c | .l, .l => true
  | .f, .a | .f, .c | .f, .w | .f, .f => true
  | _, _ => false

/-- Restore the fields of a scope; image-backed fields then take the image's value under the active overlay when an image
is in force (R65). -/
def State.resetFields (s : State) (sc : RstL) : State :=
  let ovl := s.rd R.ERG_STAT_ACT_OVL
  let fs := allFlds.filter (fun f => scopeHas sc f.rst && !heldThroughA.contains f)
  let s := fs.foldl (fun s f => s.resetFld f) s
  if s.erg.loaded then s.loadPolicy ovl true (fun e => scopeHas sc e.fld.rst) else s

/-- Restore the fields marked L of one port (R19). -/
def State.resetPort (s : State) (p : Nat) : State :=
  (allFlds.filter (fun f => decide (f.rst = .l))).foldl (fun s f => s.resetInst f p 0) s

/-! ### Ports (R87) -/

/-- A conventional reset of a port: its requests are discarded but for writes already queued, its decoders return to
reset, its functions' commands end under Table 10-9, and its fields marked L are restored. -/
def State.linkReset (s : State) (p : Nat) : State :=
  let wq := (s.dram.q.filter (fun x => x.wr)).filterMap (fun x => match x.src with | .host id => some id | _ => none)
  let s := s.discard (fun r => decide (r.port = p) && !wq.contains r.id)
  let s := (s.ldKeys.filter (fun k => decide (k / 16 = p))).foldl (fun s k =>
    s.setLd k { smGet ldInit s.host.lds k with decs := [] }) s
  let s := (s.fnIds.filter (fun f => decide (s.fnPort f = p))).foldl (fun s f => s.fnReset f) s
  let s := { s with host := { s.host with
    reqOut := smSet 0 p 0 s.host.reqOut, rwdOut := smSet 0 p 0 s.host.rwdOut, rwdKept := smSet 0 p 0 s.host.rwdKept,
    credFly := smSet 0 (2 * p + 1) 0 (smSet 0 (2 * p) 0 s.host.credFly) } }
  (s.crcHostRelease (fun k => decide (k / 16 = p))).resetPort p

/-- A CXL Reset of one logical device: its requests and decoders only (R87). -/
def State.ldReset (s : State) (k : Nat) : State :=
  let wq := (s.dram.q.filter (fun x => x.wr)).filterMap (fun x => match x.src with | .host id => some id | _ => none)
  let s := s.discard (fun r => decide (ldKey r.port r.ld = k) && !wq.contains r.id)
  s.setLd k { smGet ldInit s.host.lds k with decs := [] }

/-- A port whose link is down enters link training when it is ready and its PERST is released (R87, R444). -/
def State.linkTrain (s : State) (p : Nat) : State :=
  if p < 2 ∧ s.on R.HP_STAT_ACTIVE p ∧ bit s.host.ready p ∧ !bit s.host.perst p ∧ s.rd R.HP_STAT_LINK p = 0 then
    s.wr R.HP_STAT_LINK 1 p else s

/-- Defer a reset until the running save ends (R206). -/
def State.deferReset (s : State) (kind n : Nat) : State :=
  { s with cvn := { s.cvn with deferred := s.cvn.deferred ++ [(kind, n)] } }

/-! ### Code flash (R432, R433) -/

/-- The code-flash queue and ring are cleared; a program stops part way, and an erase
that ran or was suspended leaves its flag set (R432). -/
def State.cflClear (s : State) (cold : Bool) : State :=
  let run := s.cfl.queue.filter (fun d => decide (d.op = 1) && decide (d.stage = 1))
  let s := run.foldl (fun s d => s.cflStopped d cold) s
  let s := { s with cfl := { s.cfl with queue := [], cnt := 0, phase := 1 } }
  ((s.wr R.CFL_STAT_B0_ST 0).wr R.CFL_STAT_B1_ST 0).wr R.CFL_DQST_USED 0

/-- The flag scan: every sector whose unfinished-erase flag is set is reported (R433). -/
def State.flagScan (s : State) : State :=
  (List.range 512).foldl (fun s k =>
    if s.flagged k then
      let e := s.rd R.CFL_EINT_EINT (k / 32)
      let s := (s.wr R.CFL_EINT_EINT (Nat.lor e (2 ^ (k % 32))) (k / 32)).put R.CFL_STAT_EINT_FOUND true
      s.signal (.fixed 0x0F01 3) 0xFFFFFFFF (leBytes 2 k ++ [0, 0] ++ leBytes 4 (s.rd R.CFL_ECNT_ECNT k))
    else s) s

/-! ### Two-wire ports (R417) -/

/-- A reset of the ports: transfers end with Aborted, messages in assembly are dropped; A0 and the alert state survive
(R417). [DEDUCED, unsafe: log 151] -/
def State.twiClear (s : State) : State :=
  let busy := (List.range 2).filter (fun p => (smGet none s.twi.run p).isSome)
  let s := { s with twi := { s.twi with asm := [], run := [], queue := [], mux := 0, waitAt := [] } }
  let s := (List.range 2).foldl (fun s p => (s.wr R.TWI_STAT_STATE 0 p).wr R.TWI_STAT_CLR_TRY 0 p) s
  busy.foldl (fun s p => s.wr R.TWI_LAST_STATUS 7 p) s

/-! ### Cold reset -/

/-- An event of the hardware, which outlives the management domain (R458). -/
def EvReport.hard (r : EvReport) : Bool := match r.typ with | .fixed _ _ => true | .odber _ _ => false

/-- The state of the chip outside the island, the code flash and the NAND, as a cold reset leaves it (R450). Each
chapter's persistent records stay: the retirement records, the maps and slots, the save and its record, the loss record,
the namespaces, the CAL store, the recorder's slots, the firmware selection. -/
def State.coldClear (s : State) : State :=
  let lds := s.host.lds.map (fun (e : Nat × Ld) => (e.1, { ldInit with extents := e.2.extents, shutdown := e.2.shutdown }))
  { s with
    mem := [], poison := [], latch := [], resumed := [],
    host := { hostInit with hostTime := s.host.hostTime, winAt := s.tick, offline := s.host.offline, perst := s.host.perst,
                            perstAt := s.host.perstAt,
                            lds := lds.filter (fun e => decide (e.2 ≠ ldInit)) },
    dram := { dramInit with retired := s.dram.retired, serials := s.dram.serials, spareBad := s.dram.spareBad,
                            ceTotal := s.dram.ceTotal, retLater := s.dram.retLater },
    trk := trkInit,
    drift := { driftInit with snapNum := s.drift.snapNum, snaps := s.drift.snaps, genTop := s.drift.genTop },
    ledger := ledgerInit,
    cvn := { cvnInit with manifest := s.cvn.manifest, record := s.cvn.record, loss := s.cvn.loss,
                          dirtyShut := s.cvn.dirtyShut, ssn := s.cvn.ssn, sanMark := s.cvn.sanMark },
    loq := loqInit,
    erg := { s.erg with loaded := false, base := [], ovls := [], calNow := [] },
    flash := { flashInit with
      dies := s.flash.dies.map (fun (e : Nat × DieSt) =>
        (e.1, { dieInit with retired := e.2.retired, fencedBefore := decide (e.2.state = 2) })),
      refs := match s.ftl.root with
        | some c => (c.offs.map (fun e => (e.1, { refInit with offs := e.2 }))).filter (fun e => decide (e.2 ≠ refInit))
        | none => [] },
    ftl := { s.ftl with folds := [], folding := false, splitWait := 0, cp := none, cpDue := false, victim := 0,
                        root := match s.ftl.cp with | some c => if c.stage = 4 then some c else s.ftl.root | none => s.ftl.root,
                        chunks := match s.ftl.cp with
                          | some c => if c.stage = 4 then s.ftl.chunks else c.tags.foldl (fun m v => setIns v m) s.ftl.chunks
                          | none => s.ftl.chunks,
                        jflushed := s.ftl.jpos, jconf := s.ftl.jpos, jwait := [],
                        life := s.flash.dies.map (fun (e : Nat × DieSt) => (e.1, s.lifeSums e.1)),
                        victimWl := false, moves := [], eraseWait := s.ftl.eraseWait.filter (fun e => decide (e.1 = 100000)),
                        unrecSeen := false, opens := [], xor := [], parDue := [],
                        noPar := s.ftl.noPar ++ s.ftl.xor.map (fun e => (e.1, e.2.1)) },
    nvm := { nvmInit with nss := s.nvm.nss.map (fun (e : Nat × NsSt) => (e.1, { e.2 with ready := false, closed := 0 })),
                          lostLbas := s.nvm.lostLbas, sanitize := s.nvm.sanitize, sanStatus := s.nvm.sanStatus,
                          unsafeShut := s.nvm.unsafeShut, mediaErr := s.nvm.mediaErr, wseq := s.nvm.wseq },
    buf := bufInit,
    evr := { s.evr with queue := [], seen := [], supp := [], latch := none, fetching := false, twiFetching := false,
                        reports := s.evr.reports.filter EvReport.hard },
    twi := { s.twi with eid := 0, miConf := [] },
    boot := { bootInit with cause := s.boot.cause },
    fwu := { s.fwu with part := [], blocks := [], erased := [], waits := [], act := 0, actTag := 0, actMbx := 0 },
    pwr := { pwrInit with xtal := s.pwr.xtal } }

/-- The map entry that replay gives one staged slot of a namespace, when power ends before its destage is confirmed: the
newest destage that had passed, else what stood before the staging (R276, R293). -/
def State.stgReplay (s : State) (ns slot : Nat) : State :=
  let es := (s.nvm.stg.filter (fun e => decide (e.2.ns = ns) && decide (e.2.slot = slot))).map (·.2)
  let old := (es.map (·.prev)).find? (fun v => decide (v ≠ 1))
  let v := match es.filter (fun y => decide (y.dst = 2)) with
    | [] => old.getD 0
    | y :: ys => (ys.foldl (fun a b => if a.wseq < b.wseq then b else a) y).addr
  if s.nsEntry (s.devSlot (s.ns ns) slot) = 1 then s.setNsEntry (s.devSlot (s.ns ns) slot) v else s

/-- The map entries of every staged slot, as replay will give them. -/
def State.stgLost (s : State) : State := s.nvm.stg.foldl (fun s e => s.stgReplay e.2.ns e.2.slot) s

/-- Cold reset is asserted: everything but the island, the code flash and the NAND is lost, and the device stands at SL0
until its release (R442, R450). An audit is disqualified (Table 13-3). `cause`: 0 A, 1 main power-on, 2 CHIP_RST_N.
[DEDUCED, unsafe: log 137] -/
def State.coldAssert (s : State) (cause : Nat) : State :=
  let s := s.audDisq 8
  -- a program that had not ended leaves its slot incomplete (R38, R163)
  let torn := ((s.flash.ops ++ s.flash.extra ++ s.flash.dropped).filter (fun o => decide (o.kind = .program))).map (·.addr)
  let s := torn.foldl (fun s a => s.setSlot a none) s.saveTorn
  let s := (s.stgLost.cflClear true).twiClear
  let s := { s with boot := { s.boot with cause := cause } }
  s.coldClear.resetFields .c

/-- The island is cleared as well: an A reset (R450). Learned values reload from code flash, and the counter starts
again from the RC oscillator. -/
def State.alwaysClear (s : State) : State :=
  let lv := s.gau.lvFlash.getD learnedInit
  let s := { s with gau := { gauInit with learned := lv, lvFlash := s.gau.lvFlash } }
  let s := { s with
    seq := { seqInit with log := s.seq.logSaved, logSaved := s.seq.logSaved },
    twi := { twiInit with pins := s.twi.pins },
    evr := { s.evr with ret := [], lossCnt := 0, lossTick := 0, reports := [] },
    pwr := pwrInit,
    host := { s.host with hostTime := none } }
  let s := s.resetFields .a
  match s.gau.lvFlash with
  | some l => ((s.wr R.GAU_SOC_SOC l.soc).wr R.GAU_QL_Q_L l.qL).wr R.GAU_RF_RFAC l.rfac
  | none => s

/-- Run the resets that a save deferred, oldest first (R206); a warm reset is left to its own operation. -/
def State.deferredStep (s : State) (d : Nat × Nat) : State :=
  match d.1 with
  | 1 => s.flrNow (d.2 % 65536 / 16) (d.2 % 16) (d.2 / 65536)
  | 2 => (s.linkReset d.2).linkTrain d.2
  | 3 => (s.linkReset d.2).linkTrain d.2
  | 4 => s.ldReset d.2
  | _ => s

end Sys2Proof.Machine
end

