-- ==== Sys2Proof/Machine/Sequencer.lean ====
section
/-!
DEFINITION. The power sequencer and supervisor (R381 to R397), the always-on island's supplies (R526, R450) and
CHIP_RST_N (R451).
-/
namespace Sys2Proof.Machine

/-! ### The retained table -/

/-- A flag of a rail's table entry: 0 EN, 1 BOOT, 2 INPUT, 3 GAUGE, 4 NOPG, 5 SHED. -/
def State.railFlag (s : State) (n k : Nat) : Bool := bit (s.rd R.SEQ_RFLG_FLAGS n) k

/-- A rail that sequences drive: EN 1, INPUT 0, GAUGE 0 (R385). -/
def State.railDriven (s : State) (n : Nat) : Bool := s.railFlag n 0 && !s.railFlag n 2 && !s.railFlag n 3

/-- SEQ_EN[n] is driven; rail n is good; rail n failed. -/
def State.railOn (s : State) (n : Nat) : Bool := bit (s.rd R.SEQ_ON_RAILS) n
def State.railGood (s : State) (n : Nat) : Bool := bit (s.rd R.SEQ_GOOD_RAILS) n
def State.railFailed (s : State) (n : Nat) : Bool := bit (s.rd R.SEQ_FAIL_RAILS) n

/-- Rail `n` lists rail `d` in its DEP. -/
def State.dependsOn (s : State) (n d : Nat) : Bool := bit (s.rd R.SEQ_RDEP_DEP n) d

/-- The 32 rails. -/
def rails : List Nat := List.range 32

/-- A mask of rails. -/
def railMask (p : Nat → Bool) : Nat := (rails.filter p).foldl (fun m n => m + 2 ^ n) 0

/-- The sequencer's state (Table 14-3): 0 Off, 1 Up phase 1, 2 Up phase 2, 3 On, 4 Down. -/
def State.seqState (s : State) : Nat := s.rd R.SEQ_STAT_STATE

/-- The rails that depend on a rail directly or through other rails (R386). -/
def State.dependants (s : State) (n : Nat) : List Nat :=
  (List.range 32).foldl (fun (l : List Nat) _ =>
    rails.filter (fun m => l.contains m || s.dependsOn m n || l.any (fun d => s.dependsOn m d))) []

/-- Write one entry of the retained table. -/
def State.seqEntry (s : State) (n dly dep th ovf : Nat) : State :=
  let s := (s.wr R.SEQ_RDLY_ON_DLY (bits dly 0 16) n).wr R.SEQ_RDLY_OFF_DLY (bits dly 16 16) n
  let s := (s.wr R.SEQ_RDEP_DEP dep n).wr R.SEQ_RTH_OFF_TH (bits th 0 16) n
  let s := s.wr R.SEQ_RTH_UV_TH (bits th 16 16) n
  (s.wr R.SEQ_RFLG_OV_TH (bits ovf 0 16) n).wr R.SEQ_RFLG_FLAGS (bits ovf 16 8) n

/-- The bootstrap table: rails 0 to 7 in ascending order, 328 ticks apart, each after the one before (R384). -/
def State.seqBootstrap (s : State) : State :=
  let s := rails.foldl (fun s n =>
    if n < 8 then s.seqEntry n (n * 328) (if n = 0 then 0 else 2 ^ (n - 1)) 0 (0xFFFF + 3 * 65536)
    else s.seqEntry n 0 0 0 0xFFFF) s
  s.wr R.SEQ_GLB_PG_TMO 328

/-- Section 0x05 of the image in force is written into retention (R384). -/
def State.seqLoad (s : State) : State :=
  let g := fun (i d : Nat) => s.ergBase 0x05 i d
  let s' := rails.foldl (fun t n =>
    t.seqEntry n (g (4 * n) 0) (g (4 * n + 1) 0) (g (4 * n + 2) 0) (g (4 * n + 3) 0xFFFF)) s
  let s' := (s'.wr R.SEQ_GLB_PG_TMO (g 128 328)).wr R.SEQ_GLB_OFF_WAIT (g 129 3277)
  let s' := (s'.wr R.SEQ_TIM_T_MIN_OFF (g 130 3277)).wr R.SEQ_TIM_FLT_HOLD (g 131 3277)
  let s' := (s'.wr R.SEQ_FLTC_FLT_IN (bits (g 132 1) 0 2)).wr R.SEQ_FLTC_TRIP_N (bits (g 134 3) 0 4)
  let s' := s'.wr R.SEQ_FMASK_FLT_MASK (g 133 0)
  { s' with seq := { s'.seq with tblOk := true } }

/-! ### Driving rails -/

/-- Drive or release SEQ_EN[n]. -/
def State.railDrive (s : State) (n : Nat) (on : Bool) : State :=
  let s := (s.wr R.SEQ_ON_RAILS (setBitTo (s.rd R.SEQ_ON_RAILS) n on)).emit (.issue 1 [n, b2n on])
  if on then { s with seq := { s.seq with enAt := smSet 0 n s.tick s.seq.enAt } }
  else
    let s := s.wr R.SEQ_GOOD_RAILS (setBitTo (s.rd R.SEQ_GOOD_RAILS) n false)
    { s with seq := { s.seq with offAt := smSet 0 n s.tick s.seq.offAt, offs := smSet 0 n 0 s.seq.offs } }

/-- Put rails on the list of those to be turned off in off order, from this tick (R386, R391, R394). -/
def State.offList (s : State) (ns : List Nat) : State :=
  let ns := ns.filter (fun n => s.railOn n && s.railDriven n)
  { s with seq := { s.seq with
      offs := ns.foldl (fun m n => smSet 0 n (s.tick + 1) m) s.seq.offs,
      wasOn := Nat.lor s.seq.wasOn (railMask (fun n => ns.contains n)) } }

/-- Release every rail that the gauge drives: in the first tick of a down-sequence, a trip or a collapse (R392). -/
def State.releaseGauge (s : State) : State :=
  (rails.filter (fun n => s.railFlag n 3 && s.railOn n)).foldl (fun s n => s.railDrive n false) s

/-- Start a down-sequence of every rail (R387, R388). -/
def State.startDown (s : State) : State :=
  if s.seqState = 0 ∨ s.seqState = 4 then s
  else
    let s := (s.releaseGauge).wr R.SEQ_STAT_STATE 4
    let s := { s with seq := { s.seq with start := s.tick, wasOn := 0, offs := [], snap := false, logged := false } }
    s.offList rails

/-- The sequencing-fault log: the first failure of a sequence is an entry, later ones are counted (R397). -/
def State.seqLog (s : State) (rail cause phase : Nat) : State :=
  let s := s.alert 5
  if s.seq.logged then s.inc R.SEQ_FLOG_MORE
  else
    let e : SeqLog := { rail := rail, cause := cause, phase := phase, tick := s.tick }
    let lg := (e :: s.seq.log).take 16
    let powered := !s.boot.inReset
    let s := { s with seq := { s.seq with logged := true, log := lg,
                                          logSaved := if powered then lg else s.seq.logSaved } }
    let s := ((s.wr R.SEQ_FLOG_RAIL rail).wr R.SEQ_FLOG_CAUSE cause).wr R.SEQ_FLOG_PHASE phase
    let s := (s.wr R.SEQ_FLOG_MORE 0).wr R.SEQ_FLOGT_TICK s.tick
    s.signal (.fixed 0x0D03 3) rail [rail, cause, phase]

/-- A rail has failed in an up-sequence (R386). -/
def State.railFail (s : State) (n cause : Nat) : State :=
  let deps := s.dependants n
  let s := (s.railDrive n false).wr R.SEQ_FAIL_RAILS (setBitTo (s.rd R.SEQ_FAIL_RAILS) n true)
  let waiting := deps.filter (fun d => !s.railOn d)
  let s := { s with seq := { s.seq with dropped := Nat.lor s.seq.dropped (railMask (fun d => waiting.contains d)) } }
  (s.offList deps).seqLog n cause (if s.seqState = 2 then 1 else 0)

/-! ### Up-sequences -/

/-- The conditions of an up-sequence: main power, PWR_FAIL_N high, T_MIN_OFF since the last down-sequence, SEQ_FLT_N high
(Table 14-3, R542). -/
def State.canStart (s : State) : Bool :=
  decide (s.seqState = 0) && s.seq.main && !s.seq.pwrFail && !s.seq.fltLow && !s.on R.SEQ_STAT_FLT_DRV &&
  (decide (s.seq.endAt = 0) || decide (s.seq.endAt - 1 + s.rd R.SEQ_TIM_T_MIN_OFF ≤ s.tick))

/-- Start phase 1 when the conditions hold, from the retained table or, when it is missing, the bootstrap table (R384). -/
def State.startIfReady (s : State) : State :=
  if !s.canStart then s
  else
    let boot := !s.seq.tblOk
    let s := if boot then s.seqBootstrap else s
    let s := ((s.put R.SEQ_STAT_BOOTSTRAP boot).wr R.SEQ_STAT_STATE 1).put R.SEQ_STAT_ON_LATCH false
    let s := s.wr R.SEQ_FAIL_RAILS 0
    { s with seq := { s.seq with start := s.tick, wasOn := 0, offs := [], dropped := 0, logged := false, snap := false,
                                 oow := [], pgLow := [], phase2Ready := false },
             boot := { s.boot with p1done := false, p1bad := false } }

/-- Start phase 2 from the image's table once the image is validated (R384, Table 14-3). -/
def State.startPhase2 (s : State) : State :=
  let s := s.seqLoad
  if s.seqState = 1 ∧ s.boot.p1done then
    { s.wr R.SEQ_STAT_STATE 2 with seq := { s.seq with start := s.tick, phase2Ready := true } }
  else { s with seq := { s.seq with phase2Ready := true } }

/-- The rails of the running phase. -/
def State.phaseRail (s : State) (n : Nat) : Bool :=
  s.railDriven n && (if s.seqState = 1 then s.railFlag n 1 else decide (s.seqState = 2) && !s.railFlag n 1)

/-- RAIL_ENABLE (R385). [DESIGN CHOICE, safe: log 135] -/
def State.doRailEnable (s : State) (n : Nat) : State :=
  if n < 32 ∧ s.phaseRail n ∧ !s.railOn n ∧ !s.railFailed n ∧ !bit s.seq.dropped n ∧
     s.seq.start + s.rd R.SEQ_RDLY_ON_DLY n ≤ s.tick ∧ rails.all (fun d => !s.dependsOn n d || s.railGood d)
  then s.railDrive n true else s

/-- PG_TIMEOUT (R386): a rail not good within PG_TMO of its enable has failed. -/
def State.doPgTimeout (s : State) (n : Nat) : State :=
  if n < 32 ∧ s.phaseRail n ∧ s.railOn n ∧ !s.railGood n ∧
     smGet 0 s.seq.enAt n + s.rd R.SEQ_GLB_PG_TMO ≤ s.tick then s.railFail n 1 else s

/-- PHASE_END (R385): every rail of the phase is good or has failed; phase 1 lets cold reset be released, phase 2 brings
the sequencer On. -/
def State.doPhaseEnd (s : State) : State :=
  let ended := rails.all (fun n => !s.phaseRail n || s.railGood n || s.railFailed n || bit s.seq.dropped n)
  if !ended then s
  else if s.seqState = 1 then
    let bad := rails.any (fun n => s.phaseRail n && (s.railFailed n || bit s.seq.dropped n))
    let s := { s with boot := { s.boot with p1done := true, p1bad := bad } }
    -- an image validated already lets phase 2 start at once
    if s.seq.phase2Ready then s.startPhase2 else s
  else if s.seqState = 2 then
    -- a boot that waits for phase 2 goes on (Table 17-2)
    let s := s.wr R.SEQ_STAT_STATE 3
    if s.rd R.BST_STAT_STAGE = 7 then s.stage8 else s
  else s

/-! ### Down-sequences -/

/-- Every rail that lists `n` in its DEP and was on reads below its own OFF_TH (R387). -/
def State.dependantsOff (s : State) (n : Nat) : Bool :=
  rails.all (fun m => !(s.dependsOn m n && bit s.seq.wasOn m) || decide (s.rd R.SEQ_RDG_LAST m < s.rd R.SEQ_RTH_OFF_TH m))

/-- RAIL_DISABLE (R387). -/
def State.doRailDisable (s : State) (n : Nat) : State :=
  let st := smGet 0 s.seq.offs n
  if n < 32 ∧ st ≠ 0 ∧ s.railOn n ∧ st - 1 + s.rd R.SEQ_RDLY_OFF_DLY n ≤ s.tick ∧ s.dependantsOff n
  then s.railDrive n false else s

/-- OFF_WAIT_EXPIRY (R387): the rail is disabled anyway, and an off-order fault names the rail still above its
threshold. -/
def State.doOffWaitExpiry (s : State) (n : Nat) : State :=
  let st := smGet 0 s.seq.offs n
  if n < 32 ∧ st ≠ 0 ∧ s.railOn n ∧ st - 1 + s.rd R.SEQ_RDLY_OFF_DLY n + s.rd R.SEQ_GLB_OFF_WAIT ≤ s.tick ∧
     !s.dependantsOff n then
    let bad := (rails.find? (fun m => s.dependsOn m n && bit s.seq.wasOn m &&
      decide (s.rd R.SEQ_RTH_OFF_TH m ≤ s.rd R.SEQ_RDG_LAST m))).getD n
    (s.railDrive n false).seqLog bad 3 0
  else s

/-- DOWN_SEQUENCE_END (R387, R388): the chip is without its rails and in cold reset; the gauge hibernates when main power
is absent; SEQ_FLT_N is held for FLT_HOLD more ticks. -/
def State.doDownSequenceEnd (s : State) : State :=
  let gone := rails.all (fun n => !s.railDriven n || (!s.railOn n &&
    (!bit s.seq.wasOn n || decide (s.rd R.SEQ_RDG_LAST n < s.rd R.SEQ_RTH_OFF_TH n) ||
      decide (smGet 0 s.seq.offAt n + s.rd R.SEQ_GLB_OFF_WAIT ≤ s.tick))))
  if s.seqState ≠ 4 ∨ !gone then s
  else
    let s := s.coldAssert 1
    let s := s.wr R.SEQ_STAT_STATE 0
    let s := { s with seq := { s.seq with endAt := s.tick + 1, offs := [], wasOn := 0, snap := false,
                                          holdAt := if s.on R.SEQ_STAT_FLT_DRV then s.tick + s.rd R.SEQ_TIM_FLT_HOLD + 1
                                                    else 0 } }
    if s.seq.main then s else s.gauSleep

/-- T_MIN_OFF_EXPIRY (R389): a latched on request, or main power that stands, starts phase 1. -/
def State.doTMinOffExpiry (s : State) : State := s.startIfReady

/-! ### Supervision (R393 to R396) -/

/-- The cause by which a rail's reading or power-good is out of window: 0 under, 1 over, 2 SEQ_PG low, none. -/
def State.railOut (s : State) (n pg : Nat) : Option Nat :=
  let v := s.rd R.SEQ_RDG_LAST n
  if v < s.rd R.SEQ_RTH_UV_TH n then some 0
  else if s.rd R.SEQ_RFLG_OV_TH n < v then some 1
  else if !s.railFlag n 4 && !s.railFlag n 2 && !bit pg n then some 2
  else none

/-- A trip: snapshot, counts, the two records of one group, and the action of Table 14-4 (R394). -/
def State.trip (s : State) (n cause : Nat) : State :=
  let s := ((s.inc R.SEQ_TRIPC_COUNT).alert 5).releaseGauge
  if s.seqState = 4 ∧ s.seq.snap then s
  else
    let s := (s.wr R.SEQ_TRIPC_RAIL n).wr R.SEQ_TRIPC_CAUSE cause
    let s := rails.foldl (fun s m => s.wr R.SEQ_SNAP_MV (s.rd R.SEQ_RDG_LAST m) m) s
    let rd := fun (a : Nat) => (List.range 16).flatMap (fun k => leBytes 2 (s.rd R.SEQ_RDG_LAST (a + k)))
    let s := s.signal (.fixed 0x0D01 3) n ([n, cause, 0, 0] ++ rd 0) 1
    let s := s.signal (.fixed 0x0D02 3) n ([0, 0, 0, 0] ++ rd 16) 2
    let act := bits (s.rd R.SEQ_RFLG_FLAGS n) 6 2
    if s.seqState = 4 then { s with seq := { s.seq with snap := true } }
    else if s.seqState ≠ 3 ∨ s.railFlag n 2 ∨ act = 0 then s
    else if act = 1 then s.offList (n :: s.dependants n)
    else
      let s := s.startDown
      let s := { s with seq := { s.seq with snap := true } }
      if act = 3 then (s.put R.SEQ_STAT_FLT_DRV true).emit (.issue 2 [1]) else s

/-- One rail in one scan: good or not, out of window or not, and its trip at the count that makes one (R385, R386,
R394). [DEDUCED, unsafe: log 134] -/
def State.scanRail (s : State) (n pg : Nat) : State :=
  if !s.railFlag n 0 || s.railFlag n 3 then s
  else
    let was := s.railGood n
    let v := s.rd R.SEQ_RDG_LAST n
    let good := s.railOn n && (if s.railFlag n 4 then decide (s.rd R.SEQ_RTH_UV_TH n ≤ v) else bit pg n)
    let s := if s.railFlag n 2 then s else s.wr R.SEQ_GOOD_RAILS (setBitTo (s.rd R.SEQ_GOOD_RAILS) n good)
    if s.phaseRail n ∧ s.railOn n ∧ was ∧ !good then s.railFail n 2
    else
      let c := smGet 0 s.seq.oow n
      let p := smGet 0 s.seq.pgLow n
      let watched := s.railFlag n 2 || (s.railOn n && (decide (3 ≤ s.seqState) || was || decide (c ≠ 0) || decide (p ≠ 0)))
      if !watched then { s with seq := { s.seq with oow := smSet 0 n 0 s.seq.oow, pgLow := smSet 0 n 0 s.seq.pgLow } }
      else
        let o := s.railOut n pg
        let c' := if o = some 0 ∨ o = some 1 then c + 1 else 0
        let p' := if !s.railFlag n 4 && !s.railFlag n 2 && !bit pg n then p + 1 else 0
        let s := { s with seq := { s.seq with oow := smSet 0 n c' s.seq.oow, pgLow := smSet 0 n p' s.seq.pgLow } }
        if c' = s.rd R.SEQ_FLTC_TRIP_N then s.trip n (o.getD 0)
        else if p' = 2 then s.trip n 2
        else s

/-- An external fault: SEQ_FLT_N low for two scans while the device does not drive it (R396). -/
def State.externalFault (s : State) : State :=
  match s.rd R.SEQ_FLTC_FLT_IN with
  | 1 => (((s.put R.SEQ_STAT_EXT_FLT true).alert 5).note 0x0D 1).startDown
  | 2 => (((s.put R.SEQ_STAT_EXT_FLT true).alert 5).note 0x0D 1).offList
      (rails.filter (fun n => bit (s.rd R.SEQ_FMASK_FLT_MASK) n))
  | _ => s

/-- The level of SEQ_FLT_N in a scan (R396). -/
def State.faultLine (s : State) (low : Bool) : State :=
  if s.on R.SEQ_STAT_FLT_DRV then s
  else
    let c := if low then s.seq.fltCnt + 1 else 0
    let s := { s with seq := { s.seq with fltLow := low, fltCnt := c } }
    if c = 2 then s.externalFault else s

/-- FAULT_SCAN (R393): the readings of the 32 monitors in mV, the power-good levels and SEQ_FLT_N. The scan does not run in
state Off; the level of the line, which an up-sequence waits for (Table 14-3), is taken there too. [DEDUCED, safe: log 226] -/
def State.doFaultScan (s : State) (readings : List Nat) (pg : Nat) (fltLow : Bool) : State :=
  if s.seqState = 0 then
    if s.on R.SEQ_STAT_FLT_DRV then s
    else
      let s := { s with seq := { s.seq with fltLow := fltLow } }
      if fltLow then s else s.startIfReady
  else
    let s := (rails.filter (fun n => s.railFlag n 0)).foldl (fun s n => s.wr R.SEQ_RDG_LAST (readings.getD n 0) n) s
    (rails.foldl (fun s n => s.scanRail n pg) s).faultLine fltLow

/-- TELEMETRY_AVERAGE (R393). -/
def State.doTelemetryAverage (s : State) (avgs : List Nat) : State :=
  if s.seqState = 0 then s
  else (rails.filter (fun n => s.railFlag n 0)).foldl (fun s n => s.wr R.SEQ_RDG_AVG (avgs.getD n 0) n) s

/-- SEQ_FLT_N is released; a line no one holds lets an up-sequence start (R396). -/
def State.fltRelease (s : State) : State :=
  let s := { s.put R.SEQ_STAT_FLT_DRV false with seq := { s.seq with holdAt := 0, fltCnt := 0 } }
  (s.emit (.issue 2 [0])).startIfReady

/-- FLT_HOLD_EXPIRY (R396). -/
def State.doFltHoldExpiry (s : State) : State :=
  if s.on R.SEQ_STAT_FLT_DRV ∧ s.seq.holdAt ≠ 0 ∧ s.seq.holdAt - 1 ≤ s.tick then s.fltRelease else s

/-- SEQ_FLT_N_RELEASE (R396): another sequencer releases the line. -/
def State.doSeqFltNRelease (s : State) : State :=
  { s with seq := { s.seq with fltLow := false, fltCnt := 0 } }.startIfReady

/-- SEQUENCER_SUPPLY_COLLAPSE (R395): every output is released; the record of a down-sequence that had not ended goes to
the retention buffer when VBAT_AON powers the island. -/
def State.doSequencerSupplyCollapse (s : State) : State :=
  let pay := leBytes 4 (s.rd R.SEQ_ON_RAILS) ++ leBytes 4 (s.rd R.SEQ_GOOD_RAILS)
  let s := if s.seq.vbat ∧ s.seqState = 4 then s.signal (.fixed 0x0D04 4) 0xFFFFFFFF pay else s
  let s := ((s.wr R.SEQ_ON_RAILS 0).wr R.SEQ_GOOD_RAILS 0).wr R.SEQ_STAT_STATE 0
  let s := { s with seq := { s.seq with offs := [], wasOn := 0, snap := false } }
  s.coldAssert 1

/-! ### Supplies and CHIP_RST_N -/

/-- MAIN_POWER_ON (R388, R389, R380): the return of main power is an on request; the gauge leaves hibernation. -/
def State.doMainPowerOn (s : State) : State :=
  if s.seq.main then s
  else
    let s := { s with seq := { s.seq with main := true } }.gauWake
    let s := if s.seqState = 4 then s.put R.SEQ_STAT_ON_LATCH true else s
    s.startIfReady

/-- MAIN_POWER_LOSS (R526): VSTBY is below 1.60 V and the island runs from VBAT_AON without losing state; an audit is
disqualified (Table 13-3). [DEDUCED, unsafe: log 136] -/
def State.doMainPowerLoss (s : State) : State :=
  if !s.seq.main then s
  else
    let s := { s with seq := { s.seq with main := false } }.audDisq 3
    if s.cvn.code = 0 then s.gauSleep else s

/-- ALWAYS_ON_RESET (R450): both supplies are gone, and the island is cleared. -/
def State.doAlwaysOnReset (s : State) : State := (s.coldAssert 0).alwaysClear

/-- VBAT_AON_RETURN (R486): the island starts at SL0 with the tick counter on the RC oscillator; without main power the
gauge hibernates. -/
def State.doVbatAonReturn (s : State) : State :=
  if s.seq.vbat then s
  else
    let s := { s with seq := { s.seq with vbat := true } }
    if s.seq.main then s else s.gauSleep

/-- PWR_FAIL_N_RELEASE (R542). -/
def State.doPwrFailNRelease (s : State) : State :=
  { s with seq := { s.seq with pwrFail := false } }.startIfReady

/-- Cold reset asserted by CHIP_RST_N: the rails keep their state, and the falling edge is an on request (R389). -/
def State.chipReset (s : State) : State :=
  let p1 := s.boot.p1done
  let bad := s.boot.p1bad
  let s := s.coldAssert 2
  let b := { s.boot with p1done := p1, p1bad := bad }
  let s := { s with boot := b }
  (if s.seqState = 4 then s.put R.SEQ_STAT_ON_LATCH true else s).startIfReady

/-- CHIP_RST_N_ASSERT (R389, R451): during a save of code 1 or 2 it is ignored, during one of code 3 or 4 it is latched;
otherwise the chip is in cold reset. -/
def State.doChipRstNAssert (s : State) : State :=
  match s.cvn.code with
  | 0 => s.chipReset
  | 1 => s
  | 2 => s
  | _ => { s with cvn := { s.cvn with coldLatched := true } }

/-! ### The commands -/

/-- MAIN_POWER_ON (R388). -/
def execMainPowerOn (s : State) : Host.Outcome State Fault Refusal := ok s (·.doMainPowerOn)

/-- MAIN_POWER_LOSS (R526). -/
def execMainPowerLoss (s : State) : Host.Outcome State Fault Refusal := ok s (·.doMainPowerLoss)

/-- ALWAYS_ON_RESET (R450). -/
def execAlwaysOnReset (s : State) : Host.Outcome State Fault Refusal := ok s (·.doAlwaysOnReset)

/-- RAIL_ENABLE (R385). -/
def execRailEnable (rail : Nat) (s : State) : Host.Outcome State Fault Refusal := ok s (·.doRailEnable rail)

/-- PG_TIMEOUT (R386). -/
def execPgTimeout (rail : Nat) (s : State) : Host.Outcome State Fault Refusal := ok s (·.doPgTimeout rail)

/-- PHASE_END (R385). -/
def execPhaseEnd (s : State) : Host.Outcome State Fault Refusal := ok s (·.doPhaseEnd)

/-- RAIL_DISABLE (R387). -/
def execRailDisable (rail : Nat) (s : State) : Host.Outcome State Fault Refusal := ok s (·.doRailDisable rail)

/-- OFF_WAIT_EXPIRY (R387). -/
def execOffWaitExpiry (rail : Nat) (s : State) : Host.Outcome State Fault Refusal := ok s (·.doOffWaitExpiry rail)

/-- DOWN_SEQUENCE_END (R388). -/
def execDownSequenceEnd (s : State) : Host.Outcome State Fault Refusal := ok s (·.doDownSequenceEnd)

/-- T_MIN_OFF_EXPIRY (R389). -/
def execTMinOffExpiry (s : State) : Host.Outcome State Fault Refusal := ok s (·.doTMinOffExpiry)

/-- FAULT_SCAN (R393). -/
def execFaultScan (readings : List Nat) (pg : Nat) (fltLow : Bool) (s : State) :
    Host.Outcome State Fault Refusal := ok s (·.doFaultScan readings pg fltLow)

/-- TELEMETRY_AVERAGE (R393). -/
def execTelemetryAverage (avgs : List Nat) (s : State) :
    Host.Outcome State Fault Refusal := ok s (·.doTelemetryAverage avgs)

/-- FLT_HOLD_EXPIRY (R396). -/
def execFltHoldExpiry (s : State) : Host.Outcome State Fault Refusal := ok s (·.doFltHoldExpiry)

/-- SEQUENCER_SUPPLY_COLLAPSE (R395). -/
def execSequencerSupplyCollapse (s : State) : Host.Outcome State Fault Refusal := ok s (·.doSequencerSupplyCollapse)

/-- CHIP_RST_N_ASSERT (R451). -/
def execChipRstNAssert (s : State) : Host.Outcome State Fault Refusal := ok s (·.doChipRstNAssert)

/-- PWR_FAIL_N_RELEASE (R542). -/
def execPwrFailNRelease (s : State) : Host.Outcome State Fault Refusal := ok s (·.doPwrFailNRelease)

/-- SEQ_FLT_N_RELEASE (R396). -/
def execSeqFltNRelease (s : State) : Host.Outcome State Fault Refusal := ok s (·.doSeqFltNRelease)

/-- VBAT_AON_RETURN (R486). -/
def execVbatAonReturn (s : State) : Host.Outcome State Fault Refusal := ok s (·.doVbatAonReturn)

end Sys2Proof.Machine
end

