-- ==== Sys2Proof/Machine/Recorder.lean ====
section
/-!
DEFINITION. The event recorder (R455 to R468): an event becomes a record, the committer programs records into the
circular pool and the permanent sector, and records are read out through EVR_SEL and TWI0.
-/
namespace Sys2Proof.Machine

/-! ### Records -/

/-- The TYPE of an event (Table 18-3, Table 18-4). -/
def EvType.num : EvType → Nat
  | .fixed t _ => t
  | .odber src k => src * 256 + Config.evCode k % 256

/-- The severity of an event (Table 18-4, Table 18-2). The model names an event of Odber whose severity the manual states by
256 × (severity + 1) and above. -/
def EvType.sev : EvType → Nat
  | .fixed _ v => v
  | .odber _ k => if k < 256 then Config.evSev k % 5 else k / 256 - 1

/-- The bytes 0 to 57 of a record (Table 18-1); Odber's own records carry their instance in bytes 0 to 3 of the payload
(R460). -/
def recBody (r : EvRecord) (seq : Nat) : List Nat :=
  let pay := match r.typ with
    | .fixed _ _ => r.payload
    | .odber _ _ => leBytes 4 r.inst ++ r.payload
  leBytes 2 r.typ.num ++ [r.sev, r.flags] ++ leBytes 6 r.tick ++ leBytes 4 r.boot ++ leBytes 4 seq ++
    (pay ++ List.replicate 40 0).take 40

/-- The 64 bytes of a record with its CRC and its mark (Table 18-1). -/
def recBytes (r : EvRecord) (seq : Nat) : List Nat :=
  let b := recBody r seq
  b ++ leBytes 4 (crc32c b) ++ [0xC3, 0x5A]

/-- The count of a type in a list of counts. -/
def seenOf (m : List (EvType × Nat)) (t : EvType) : Nat :=
  match m.find? (fun e => decide (e.1.num = t.num)) with
  | some e => e.2
  | none => 0

/-- Add one to the count of a type. -/
def seenAdd (m : List (EvType × Nat)) (t : EvType) : List (EvType × Nat) :=
  (t, seenOf m t + 1) :: m.filter (fun e => decide (e.1.num ≠ t.num))

/-- Types that are never suppressed: SEV 4, and 0x0001 and 0x0002 (R461). -/
def neverSuppressed (t : EvType) : Bool := decide (t.sev = 4) || decide (t.num = 1) || decide (t.num = 2)

/-! ### Stores -/

/-- EVR_STAT.RET_CNT and QUSE report the two stores. -/
def State.evrRefresh (s : State) : State :=
  (s.wr R.EVR_STAT_RET_CNT s.evr.ret.length).wr R.EVR_STAT_QUSE s.evr.queue.length

/-- A record is discarded: counted, and the tick of the first loss kept (R462). [DEDUCED, unsafe: log 168] -/
def State.recLost (s : State) (r : EvRecord) : State :=
  let s := s.inc R.EVR_OVF_OVF
  { s with evr := { s.evr with lossCnt := s.evr.lossCnt + 1,
                               lossTick := if s.evr.lossCnt = 0 then r.tick else s.evr.lossTick } }

/-- A record enters a store and may be an alert cause (R465). -/
def State.recAlert (s : State) (r : EvRecord) : State :=
  if s.rd R.EVR_CFG_ALERT_SEV ≤ r.sev then s.alert 1 else s

/-- The newest record of severity below 4 leaves a full retention buffer. -/
def dropNewestLow : List EvRecord → Option (EvRecord × List EvRecord)
  | [] => none
  | r :: m =>
    match dropNewestLow m with
    | some (x, m') => some (x, r :: m')
    | none => if r.sev < 4 then some (r, m) else none

/-- A record enters the retention buffer (R462). -/
def State.recRetain (s : State) (r0 : EvRecord) : State :=
  let r := { r0 with flags := r0.flags + 1 }
  let put := fun (s : State) (m : List EvRecord) =>
    (({ s with evr := { s.evr with ret := m ++ [r] } }.alert 2).recAlert r).evrRefresh
  if s.evr.ret.length < 32 then put s s.evr.ret
  else if r.sev = 4 then
    match dropNewestLow s.evr.ret with
    | some (x, m) => put (s.recLost x) m
    | none => s.recLost r
  else s.recLost r

/-- A record enters the commit queue. -/
def State.recQueue (s : State) (r : EvRecord) : State :=
  ({ s with evr := { s.evr with queue := s.evr.queue ++ [r] } }.recAlert r).evrRefresh

/-- The records of one group enter one store together, so that no other record comes between them: the commit queue
while the management domain is powered and it has room, otherwise the retention buffer (R459, R462). An
erase-interrupted sector goes to retention (R433), and so does an event that was raised while only VBAT_AON powered the device
(R31). -/
def State.recEnter (s : State) (rs : List EvRecord) : State :=
  let scan := rs.any (fun r => decide (r.typ = .fixed 0x0F01 3) || bit r.flags 1)
  if !s.boot.inReset && !scan && decide (s.evr.queue.length + rs.length ≤ 1024) then
    rs.foldl (fun s r => s.recQueue r) s
  else rs.foldl (fun s r => s.recRetain r) s

/-! ### From event to record -/

/-- The record of a report. -/
def recOf (r : EvReport) : EvRecord :=
  { typ := r.typ, sev := r.typ.sev,
    flags := 2 * b2n r.vbat + (if r.grp = 1 then 4 else if r.grp = 2 then 8 else 0),
    tick := r.tick, boot := r.boot, inst := r.inst, payload := r.payload }

/-- The 0x0002 record of a suppressed type (R461, Table 18-4). -/
def State.suppRecord (s : State) (e : EvType × Nat) : EvRecord :=
  { typ := .fixed 2 1, sev := 1, flags := 2 * b2n (!s.seq.main), tick := s.tick, boot := s.rd R.BST_BOOTN_BOOT_CNT,
    inst := 0xFFFFFFFF, payload := leBytes 2 e.1.num ++ [0, 0] ++ leBytes 4 e.2 ++ leBytes 6 s.evr.winAt }

/-- RATE_WINDOW_END (R461): a window of 32,768 ticks has ended; each type suppressed in it raises one 0x0002 record. -/
def State.doRateWindowEnd (s : State) : State :=
  if s.tick / 32768 = s.evr.winAt / 32768 then s
  else
    let s := (s.evr.supp.reverse).foldl (fun s e => s.recEnter [s.suppRecord e]) s
    { s with evr := { s.evr with seen := [], supp := [], winAt := s.tick / 32768 * 32768 } }

/-- A report can become a record: the island and the recorder raise the fixed types in hardware (R458), and Odber's own events
need the core that owns the block, which receives the report and records it (R26, R28, R30). -/
def State.reportable (s : State) (r : EvReport) : Bool :=
  match r.typ with
  | .fixed _ _ => true
  | .odber src _ => s.coreRuns (s.ownerOf src)

/-- EVENT_RAISE: the oldest event reported whose owner can record it, with the members of its group, becomes a record, unless its type has had
RATE_MAX records in this window; a group counts once (R459, R461, R462). The owner's core runs at F1 or faster (R492).
[DEDUCED, unsafe: log 169] -/
def State.doEventRaise (s : State) : State :=
  let s := s.doRateWindowEnd
  let before := s.evr.reports.takeWhile (fun x => !s.reportable x)
  match s.evr.reports.drop before.length with
  | [] => s
  | r :: rest =>
    let mem := if r.grp = 1 then rest.takeWhile (fun x => decide (x.grp = 2)) else []
    let s := { s with evr := { s.evr with reports := before ++ rest.drop mem.length } }
    if !neverSuppressed r.typ && decide (s.rd R.EVR_CFG_RATE_MAX ≤ seenOf s.evr.seen r.typ) then
      let s := s.inc R.EVR_SUPP_SUPP
      { s with evr := { s.evr with supp := seenAdd s.evr.supp r.typ } }
    else
      let s := { s with evr := { s.evr with seen := seenAdd s.evr.seen r.typ } }
      (s.recEnter ((r :: mem).map recOf)).fsRaise (s.ownerOf (r.typ.num / 256))

/-! ### The committer -/

/-- The slot of a sequence number in the circular pool (R457). -/
def poolSlot (seq : Nat) : Nat := seq % 29696

/-- Write a slot of the pool, and of the permanent sector while SEQ is below 1,024 (R457) unless a save has frozen that sector's
protection (R435); EVR_NEXT moves on, and CFL_WIN names the sector being filled and the one that holds the oldest live record (R422). -/
def State.slotWrite (s : State) (seq : Nat) (v : EvSlot) : State :=
  let s := { s with evr := { s.evr with
    pool := smSet none (poolSlot seq) (some v) s.evr.pool,
    perm := if seq < 1024 && !s.wpFrozen 456 then smSet none seq (some v) s.evr.perm else s.evr.perm } }
  let s := (s.wr R.EVR_NEXT_SEQ (seq + 1)).put R.EVR_STAT_PERM_FULL (decide (1023 < seq + 1))
  let k := seq / 1024
  (s.wr R.CFL_WIN_NEWEST (k % 29)).wr R.CFL_WIN_OLDEST ((k - min k 16) % 29)

/-- An erase of a code-flash sector queued by the committer (R422, R463). -/
def State.poolErase (s : State) (sector : Nat) : State :=
  let d : CflDesc := { id := s.cfl.next, op := 2, sus := false, tag := 0, addr := sector * 65536, src := 0, count := 0,
                       ba := 0, by0 := 5, stage := 0, susps := 0, data := [], status := 0, pulses := 0, endAddr := 0 }
  let s := { s with cfl := { s.cfl with queue := s.cfl.queue ++ [d], next := s.cfl.next + 1 } }
  s.wr R.CFL_DQST_USED s.cfl.queue.length

/-- Whether a sector is erase-interrupted (R433). -/
def State.eint (s : State) (sector : Nat) : Bool := bit (s.rd R.CFL_EINT_EINT (sector / 32)) (sector % 32)

/-- The committer owns or can claim bank 1 (R424, R463). [DEDUCED, unsafe: log 153] -/
def State.committerBank (s : State) : Bool :=
  decide (s.rd R.CFL_OWN_OWNER 1 = 0) || decide (s.rd R.CFL_OWN_OWNER 1 = 5)

/-- The committer's bank ownership shows in CFL_OWN1 and EVR_STAT.COMMIT. -/
def State.committerOwns (s : State) (b : Bool) : State :=
  ((s.wr R.CFL_OWN_OWNER (if b then 5 else 0) 1).put R.CFL_OWN_OWNER_RESET (b && s.on R.CFL_OWN_OWNER_RESET 1) 1).put
    R.EVR_STAT_COMMIT b

/-- The committer releases the bank once both stores are empty and its own operations have ended (R463). -/
def State.committerRelease (s : State) : State :=
  if s.rd R.CFL_OWN_OWNER 1 = 5 ∧ s.evr.ret = [] ∧ s.evr.queue = [] ∧ s.evr.lossCnt = 0 ∧
     !s.cfl.queue.any (fun d => decide (d.by0 = 5)) then s.committerOwns false else s

/-- The next record to commit (R463): retention, the overflow record, the commit queue. -/
def State.nextRecord (s : State) : Option EvRecord :=
  match s.evr.ret with
  | r :: _ => some r
  | [] =>
    if s.evr.lossCnt ≠ 0 then
      some { typ := .fixed 1 2, sev := 2, flags := 0, tick := s.tick, boot := s.rd R.BST_BOOTN_BOOT_CNT,
             inst := 0xFFFFFFFF, payload := leBytes 4 s.evr.lossCnt ++ leBytes 6 s.evr.lossTick }
    else s.evr.queue.head?

/-- The record committed leaves its store (R463, R464). -/
def State.recordGone (s : State) : State :=
  let e := if s.evr.ret ≠ [] then { s.evr with ret := s.evr.ret.drop 1 }
    else if s.evr.lossCnt ≠ 0 then { s.evr with lossCnt := 0, lossTick := 0 }
    else { s.evr with queue := s.evr.queue.drop 1 }
  { s with evr := e }.evrRefresh

/-- The erase on bank 1, running or suspended, if any. -/
def State.erase1 (s : State) : Option CflDesc :=
  s.cfl.queue.find? (fun d => decide (256 ≤ d.addr / 65536) && decide (d.op = 2) && (decide (d.stage = 1) || decide (d.stage = 2)))

/-- Program the record into the next slot. `good`: both operations completed OK; otherwise the slot is torn and the record
stays to be committed into a new slot (R456, R457, R464). A sector that begins takes its place as the newest, and the one
that leaves the window is erased at once (R422). [DEDUCED, unsafe: log 167] -/
def State.commitOne (s : State) (r : EvRecord) (good : Bool) : State :=
  let seq := s.rd R.EVR_NEXT_SEQ
  let s := s.slotWrite seq { seq := seq, torn := !good, record := r }
  let s := if good then s.recordGone else s
  if seq % 1024 = 0 ∧ 17 * 1024 ≤ seq then s.poolErase (459 + (seq / 1024 - 17) % 29) else s

/-- RECORD_COMMIT (R463): from the end of stage 1, while main power is present, the committer claims bank 1, waiting while
another owner holds it, and commits the next record, through its own pool erase by suspend (R431). A sector flagged
under R433 is erased before its first slot is written. A full descriptor queue makes it wait (R427), and so does a sector whose
protection WP_LOCK holds (R435). -/
def State.doRecordCommit (s : State) (good : Bool) : State :=
  match s.nextRecord with
  | none => s.committerRelease
  | some r =>
    if !s.seq.main || decide (s.rd R.BST_STAT_STAGE < 2) ||
       s.wpFrozen (459 + poolSlot (s.rd R.EVR_NEXT_SEQ) / 1024) then s
    else if !s.committerBank || decide (64 ≤ s.cfl.queue.length) then s
    else
      let s := s.committerOwns true
      let sector := 459 + poolSlot (s.rd R.EVR_NEXT_SEQ) / 1024
      match s.erase1 with
      | some d =>
        if d.addr / 65536 = sector ∨ 32 ≤ d.susps ∨ d.by0 = 0 then s
        else
          let q := s.cfl.queue.map (fun x => if x.id = d.id then { x with susps := x.susps + 1 } else x)
          ({ s with cfl := { s.cfl with queue := q } }.commitOne r good).committerRelease
      | none =>
        if s.rd R.CFL_STAT_B1_ST ≠ 0 then s
        else if s.eint sector && decide (s.rd R.EVR_NEXT_SEQ % 1024 = 0) then
          if s.cfl.queue.any (fun d => decide (d.by0 = 5) && decide (d.addr / 65536 = sector)) then s
          else s.poolErase sector
        else (s.commitOne r good).committerRelease

/-! ### Readout -/

/-- The record that an area and an index name, with EVR_RD.RESULT: 0 valid, 1 never written or empty, 2 left the window,
3 torn (R466). A retained record has no SEQ yet: its bytes are an open value. -/
def State.recordAt (s : State) (area index : Nat) : State × (Nat × Option EvSlot) :=
  match area with
  | 0 =>
    match s.evr.ret[index]? with
    | some r =>
      let (v, s) := s.free
      (s, 0, some { seq := v, torn := false, record := r })
    | none => (s, 1, none)
  | 1 =>
    match smGet none s.evr.perm index with
    | some x => if x.torn then (s, 3, none) else (s, 0, some x)
    | none => (s, 1, none)
  | 2 =>
    let n := s.rd R.EVR_NEXT_SEQ
    let i := index % 16384
    if n ≤ i then (s, 1, none)
    else
      let seq := i + (n - 1 - i) / 16384 * 16384
      match smGet none s.evr.pool (poolSlot seq) with
      | none => (s, 2, none)
      | some x => if x.seq ≠ seq then (s, 2, none) else if x.torn then (s, 3, none) else (s, 0, some x)
  | _ => (s, 1, none)

/-- The index after one in its area (R466, R467). [DEDUCED, unsafe: log 165] -/
def nextIndex (area index : Nat) : Nat :=
  match area with
  | 0 => (index + 1) % 32
  | 1 => (index + 1) % 1024
  | _ => (index + 1) % 16384

/-- Start a prefetch for EVR_SEL (R467). -/
def State.evrPrefetch (s : State) : State :=
  { (s.put R.EVR_RD_READY false) with evr := { s.evr with fetching := true } }

/-- Start a prefetch for TWI0's own pointer (R467). -/
def State.twiPrefetch (s : State) (area index : Nat) : State :=
  { s with evr := { s.evr with twiArea := area, twiIndex := index, twiFetching := true, twiLatch := none } }

/-- The prefetch for EVR_SEL completes: EVR_DATA shows the record, or zeros (R467). [DESIGN CHOICE, safe: log 166] -/
def State.evrLatch (s : State) : State :=
  let (s, res, x) := s.recordAt (s.rd R.EVR_SEL_AREA) (s.rd R.EVR_SEL_INDEX)
  let bs := match x with
    | some v => recBytes v.record v.seq
    | none => []
  let s := (List.range 16).foldl (fun s k =>
    s.wr R.EVR_DATA_WORD (ofLe ((bs.drop (4 * k)).take 4)) k) s
  let s := { s with evr := { s.evr with fetching := false, latch := x } }
  (s.wr R.EVR_RD_RESULT res).put R.EVR_RD_READY true

/-- The prefetch for TWI0 completes. -/
def State.twiLatchRec (s : State) : State :=
  let (s, r) := s.recordAt s.evr.twiArea s.evr.twiIndex
  { s with evr := { s.evr with twiFetching := false, twiLatch := some r } }

/-- PREFETCH_DONE (R467): the record named stands in its latch. -/
def State.doPrefetchDone (s : State) (twi : Bool) : State :=
  if twi then (if s.evr.twiFetching then s.twiLatchRec else s)
  else if s.evr.fetching then s.evrLatch else s

/-- The recorder scan at an A or C reset (R464): the next SEQ follows the highest in any slot not wholly erased, and a
torn slot of that SEQ is reported. [DEDUCED, unsafe: log 175] -/
def State.recorderScan (s : State) : State :=
  let all := (s.evr.pool ++ s.evr.perm).filterMap (fun e => e.2)
  match all.foldl (fun (b : Option EvSlot) x =>
      match b with
      | none => some x
      | some y => if y.seq < x.seq then some x else b) none with
  | none => s
  | some x =>
    let s := s.wr R.EVR_NEXT_SEQ (x.seq + 1)
    let s := s.put R.EVR_STAT_PERM_FULL (decide (1023 < x.seq + 1))
    let k := x.seq / 1024
    let s := (s.wr R.CFL_WIN_NEWEST (k % 29)).wr R.CFL_WIN_OLDEST ((k - min k 16) % 29)
    if x.torn then
      (s.inc R.EVR_TORN_TORN).signal (.fixed 3 1) 0xFFFFFFFF (leBytes 4 x.seq)
    else s

/-- The highest timestamp and boot count committed to the recorder (R450, BST_BOOTN). -/
def State.recorderMax (s : State) : Nat × Nat :=
  ((s.evr.pool ++ s.evr.perm).filterMap (fun e => e.2)).foldl (fun (m : Nat × Nat) x =>
    if x.torn then m else (max m.1 x.record.tick, max m.2 x.record.boot)) (0, 0)

/-- An EVR_SEL write (R466): an area or an index outside its range is rejected. -/
def State.evrSel (s : State) (area index : Nat) : State :=
  let area := area % 4
  let index := index % 65536
  if area = 3 ∨ (area = 0 ∧ 31 < index) ∨ (area = 1 ∧ 1023 < index) then s.put R.EVR_STAT_CFG_REJ true
  else ((s.wr R.EVR_SEL_AREA area).wr R.EVR_SEL_INDEX index).evrPrefetch

/-- EVR_RD.ADV: the next index of the area, and its prefetch (R467, R468). -/
def State.evrAdv (s : State) : State :=
  (s.wr R.EVR_SEL_INDEX (nextIndex (s.rd R.EVR_SEL_AREA) (s.rd R.EVR_SEL_INDEX))).evrPrefetch

/-! ### The commands -/

/-- EVENT_RAISE (R462). -/
def execEventRaise (s : State) : Host.Outcome State Fault Refusal := ok s (·.doEventRaise)

/-- RATE_WINDOW_END (R461). -/
def execRateWindowEnd (s : State) : Host.Outcome State Fault Refusal := ok s (·.doRateWindowEnd)

/-- RECORD_COMMIT (R463). -/
def execRecordCommit (good : Bool) (s : State) : Host.Outcome State Fault Refusal := ok s (·.doRecordCommit good)

/-- PREFETCH_DONE (R467). -/
def execPrefetchDone (twi : Bool) (s : State) : Host.Outcome State Fault Refusal := ok s (·.doPrefetchDone twi)

end Sys2Proof.Machine
end

