-- ==== Sys2Proof/Machine/CodeFlash.lean ====
section
/-!
DEFINITION. The descriptor queue of the in-package code flash (R424 to R431, R435, R437): claims, pushes, operations of the
two banks, the completion ring and the reads that banks refuse.
-/
namespace Sys2Proof.Machine

/-- The bank of a descriptor: by its address, bank 0 for a selection (R420, R437). -/
def CflDesc.bank (d : CflDesc) : Nat := if d.op = 3 then 0 else d.addr / 2 ^ 24

/-- What a bank does (CFL_STAT.B0_ST, B1_ST). -/
def State.bankSt (s : State) (b : Nat) : Nat := if b = 0 then s.rd R.CFL_STAT_B0_ST else s.rd R.CFL_STAT_B1_ST

/-- Set what a bank does. -/
def State.setBankSt (s : State) (b v : Nat) : State :=
  if b = 0 then s.wr R.CFL_STAT_B0_ST v else s.wr R.CFL_STAT_B1_ST v

/-- Replace the descriptor queue; CFL_DQST.USED counts it. -/
def State.setDq (s : State) (q : List CflDesc) : State :=
  { s with cfl := { s.cfl with queue := q } }.wr R.CFL_DQST_USED q.length

/-- Replace one descriptor. -/
def State.setDesc (s : State) (d : CflDesc) : State :=
  s.setDq (s.cfl.queue.map (fun x => if x.id = d.id then d else x))

/-- The first waiting descriptor of a bank, unless a completion of the bank is held (R428). -/
def State.nextDesc (s : State) (b : Nat) : Option CflDesc :=
  if s.cfl.queue.any (fun d => decide (d.bank = b) && decide (d.stage = 3)) then none
  else s.cfl.queue.find? (fun d => decide (d.bank = b) && decide (d.stage = 0))

/-- The descriptor of a bank that runs an operation, and its erase, running or suspended. -/
def State.runDesc (s : State) (b op : Nat) : Option CflDesc :=
  s.cfl.queue.find? (fun d => decide (d.bank = b) && decide (d.op = op) && (decide (d.stage = 1) || decide (d.stage = 2)))

/-- Write one completion at the tail of the ring, and free its descriptor (R429, Table 16-3). -/
def State.cflPost (s : State) (d : CflDesc) : State :=
  let t := s.rd R.CFL_CRHEAD_TAIL
  let w0 := d.tag % 65536 + d.status * 2 ^ 16 + d.pulses % 32 * 2 ^ 20 + s.cfl.phase * 2 ^ 25
  let s := (s.wr R.CFL_CR_ENTRY w0 (2 * t)).wr R.CFL_CR_ENTRY (d.endAddr % 2 ^ 25) (2 * t + 1)
  let s := s.wr R.CFL_CRHEAD_TAIL ((t + 1) % 64)
  let s := { s with cfl := { s.cfl with cnt := s.cfl.cnt + 1,
                                        phase := if t = 63 then 1 - s.cfl.phase else s.cfl.phase } }
  s.setDq (s.cfl.queue.filter (fun x => decide (x.id ≠ d.id)))

/-- Held completions are posted in the order in which their operations ended, while the ring has room (R428). -/
def State.cflDrain (s : State) : State :=
  (s.cfl.queue.filter (fun d => decide (d.stage = 3))).foldl (fun s d =>
    if s.cfl.cnt < 64 then s.cflPost d else s) s

/-- An operation ends: its completion is posted, or held when the ring is full (R428). The committer's own operations
have no tag of a pusher and are posted alike. -/
def State.cflEnd (s : State) (d : CflDesc) (status pulses endAddr : Nat) : State :=
  let d := { d with stage := 3, status := status, pulses := pulses, endAddr := endAddr }
  -- a descriptor that ends goes behind those held before it
  let s := s.setDq (s.cfl.queue.filter (fun x => decide (x.id ≠ d.id)) ++ [d])
  if s.cfl.cnt < 64 then s.cflPost d else s

/-- An owned requester of a path: MCn is n + 1; a host or TWI0 is none. -/
def cflWho : Path → Option Nat
  | .core n => some (n + 1)
  | _ => none

/-- CFL_OWNn.CLAIM (R424): a free bank is granted to a management core; other claims are rejected. -/
def State.cflClaim (s : State) (p : Path) (b : Nat) : State :=
  match cflWho p with
  | some w => if s.rd R.CFL_OWN_OWNER b = 0 then (s.wr R.CFL_OWN_OWNER w b).emit (.granted w b)
              else s.put R.CFL_STAT_CFG_REJ true
  | none => s.put R.CFL_STAT_CFG_REJ true

/-- CFL_OWNn.RELEASE (R424, R425): by the owner only; queued operations are not affected. -/
def State.cflRelease (s : State) (p : Path) (b : Nat) : State :=
  if cflWho p = some (s.rd R.CFL_OWN_OWNER b) then
    (s.wr R.CFL_OWN_OWNER 0 b).put R.CFL_OWN_OWNER_RESET false b
  else s

/-- Whether the fields of a descriptor lie in Table 16-2. -/
def descOk (w : Nat → Nat) : Bool :=
  let op := bits (w 0) 0 4
  decide (1 ≤ op) && decide (op ≤ 3) && decide (bits (w 0) 5 11 = 0) && decide (bits (w 1) 25 7 = 0) &&
  decide (bits (w 3) 10 22 = 0) &&
  (match op with
   | 1 => decide (w 1 % 256 = 0) && decide (w 2 % 4 = 0) && decide (1 ≤ bits (w 3) 0 9) && decide (bits (w 3) 0 9 ≤ 256)
   | 2 => decide (w 1 % 65536 = 0) && decide (w 2 = 0)
   | _ => decide (bits (w 1) 0 25 = 0) && decide (w 2 = 0))

/-- A rejected push (R427). -/
def State.pushReject (s : State) (why : Nat) : State := (s.wr R.CFL_DQST_REJ_WHY why).put R.CFL_STAT_CFG_REJ true

/-- CFL_DQPUSH.PUSH (R427). [DEDUCED, unsafe: log 154] -/
def State.cflPush (s : State) (p : Path) : State :=
  let w := fun (k : Nat) => s.rd R.CFL_DQ_WORD k
  let op := bits (w 0) 0 4
  let addr := bits (w 1) 0 25
  let count := bits (w 3) 0 9
  let bank := if op = 3 then 0 else addr / 2 ^ 24
  if 64 ≤ s.cfl.queue.length then s.pushReject 1
  else if cflWho p ≠ some (s.rd R.CFL_OWN_OWNER bank) then s.pushReject 2
  else if !descOk w then s.pushReject 3
  else if op = 1 ∧ 256 < addr / 256 % 256 + count then s.pushReject 4
  else
    let d : CflDesc := { id := s.cfl.next, op := op, sus := bit (w 0) 4, tag := bits (w 0) 16 16, addr := addr,
                         src := w 2, count := count, ba := bits (w 3) 9 1, by0 := s.rd R.CFL_OWN_OWNER bank, stage := 0,
                         susps := 0, data := [], status := 0, pulses := 0, endAddr := 0 }
    { s with cfl := { s.cfl with next := s.cfl.next + 1 } }.setDq (s.cfl.queue ++ [d])

/-- CFL_CRHEAD.HEAD (R429): rejected past the unconsumed entries; held completions then find room. -/
def State.cflHead (s : State) (head : Nat) : State :=
  let n := (head % 64 + 64 - s.rd R.CFL_CRHEAD_HEAD) % 64
  if n ≤ s.cfl.cnt then
    { s.wr R.CFL_CRHEAD_HEAD (head % 64) with cfl := { s.cfl with cnt := s.cfl.cnt - n } }.cflDrain
  else s.put R.CFL_STAT_CFG_REJ true

/-- CFL_CTL.WP_LOCK: accepted from MC0 only (R435). -/
def State.wpLock (s : State) (p : Path) : State :=
  if p = .core 0 then s.put R.CFL_STAT_WP_LOCK true else s.put R.CFL_STAT_CFG_REJ true

/-- Step 1 of a save of code 1 or 2: every sector outside the window and the learned values is protected, and the bits are
frozen (R435). -/
def State.wpSave (s : State) : State :=
  let s := (List.range 16).foldl (fun s e =>
    s.wr R.CFL_WP_WP ((List.range 32).foldl (fun m b =>
      if 457 ≤ 32 * e + b ∧ 32 * e + b < 488 then m else m + 2 ^ b) 0) e) s
  s.put R.CFL_STAT_WP_LOCK true

/-! ### Operations of a bank -/

/-- A PROGRAM starts (R430, R435): write-protected, erase-interrupted and not-erased targets end it at once. `st` is the
bank's state while it runs: 1, or 4 in a suspended erase. -/
def State.programStart (s : State) (d : CflDesc) (data : List Nat) (st : Nat) : State :=
  let sec := d.addr / 65536
  let d := { d with data := data }
  if s.protectedSector sec then s.cflEnd d 3 0 d.addr
  else if s.eint sec then s.cflEnd d 5 0 d.addr
  else if s.notErased (d.addr / 4) (pageWords data 0) then s.cflEnd d 4 0 d.addr
  else (s.setDesc { d with stage := 1 }).setBankSt d.bank st

/-- After a program in a suspended erase: the erase resumes unless a further program with SUS 1 is next (R431). An erase
that outlives its owner lets none go before it (R425). -/
def State.eraseResume (s : State) (b : Nat) : State :=
  match s.runDesc b 2 with
  | none => s.setBankSt b 0
  | some e =>
    let more := match s.nextDesc b with
      | some d => decide (d.op = 1) && d.sus && decide (d.addr / 65536 ≠ e.addr / 65536) && decide (e.by0 ≠ 0)
      | none => false
    if more then s.setBankSt b 3 else (s.setDesc { e with stage := 1 }).setBankSt b 2

/-- A program starts in the suspended erase of bank `b`; one that ends at once lets the erase resume (R431).
[DEDUCED, unsafe: log 184] -/
def State.programSus (s : State) (b : Nat) (d : CflDesc) (data : List Nat) : State :=
  let s := s.programStart d data 4
  if (s.runDesc b 1).isSome then s else s.eraseResume b

/-- PROGRAM: the PROGRAM at the head of a bank starts when the bank is idle, or with SUS 1 suspends the bank's erase unless
it has been suspended 32 times, or continues for an owner that was reset (R425, R428, R431). `data` is what core SRAM holds
at SRC. -/
def State.doProgram (s : State) (b : Nat) (data : List Byte) : State :=
  let data := data.map (·.toNat)
  match s.nextDesc b with
  | none => s
  | some d =>
    if d.op ≠ 1 then s
    else if s.bankSt b = 0 then s.programStart d data 1
    else
      match s.runDesc b 2 with
      | none => s
      | some e =>
        if !d.sus ∨ e.by0 = 0 then s
        else if d.addr / 65536 = e.addr / 65536 then
          let s := s.cflEnd d 6 0 d.addr
          if s.bankSt b = 3 then s.eraseResume b else s
        else if s.bankSt b = 3 then s.programSus b d data
        else if s.bankSt b = 2 ∧ e.susps < 32 then
          ((s.setDesc { e with stage := 2, susps := e.susps + 1 }).setBankSt b 3).programSus b d data
        else s

/-- The first page from `i` that cannot be programmed, if any, below `n`. -/
def State.firstBad (s : State) (d : CflDesc) (n : Nat) : Option Nat :=
  (List.range n).find? (fun i => s.notErased (d.addr / 4 + 64 * i) (pageWords d.data i))

/-- CFL_PROGRAM_DONE (R430): the pages are written in turn; one that fails verify (`fail` − 1) or is not erased ends the
operation with its status. `pulses` is the most that any page used. -/
def State.doCflProgramDone (s : State) (b pulses fail : Nat) : State :=
  match s.runDesc b 1 with
  | none => s
  | some d =>
    let s :=
      match s.firstBad d d.count with
      | some i =>
        if fail ≠ 0 ∧ fail - 1 < i then
          (((s.cflPages d (fail - 1)).cflPartial (d.addr / 4 + 64 * (fail - 1)) (pageWords d.data (fail - 1))).put
            R.CFL_STAT_FAIL_P true).cflEnd d 1 8 (d.addr + 256 * (fail - 1))
        else (s.cflPages d i).cflEnd d 4 pulses (d.addr + 256 * i)
      | none =>
        if fail ≠ 0 ∧ fail - 1 < d.count then
          (((s.cflPages d (fail - 1)).cflPartial (d.addr / 4 + 64 * (fail - 1)) (pageWords d.data (fail - 1))).put
            R.CFL_STAT_FAIL_P true).cflEnd d 1 8 (d.addr + 256 * (fail - 1))
        else (s.cflPages d d.count).cflEnd d 0 pulses (d.addr + 256 * (d.count - 1))
    s.eraseResume b

/-- ERASE (R430, R435): the ERASE at the head of an idle bank starts. -/
def State.doErase (s : State) (b : Nat) : State :=
  match s.nextDesc b with
  | none => s
  | some d =>
    if d.op ≠ 2 ∨ s.bankSt b ≠ 0 then s
    else if (if d.by0 = 5 then s.wpFrozen (d.addr / 65536) else s.protectedSector (d.addr / 65536)) then s.cflEnd d 3 0 d.addr
    else ((s.eraseStart (d.addr / 65536)).setDesc { d with stage := 1 }).setBankSt b 2

/-- CFL_ERASE_DONE (R430): the erase verifies, or fails after 24 pulses with its flag left set. -/
def State.doCflEraseDone (s : State) (b pulses : Nat) (pass : Bool) : State :=
  match s.runDesc b 2 with
  | none => s
  | some d =>
    if d.stage ≠ 1 then s
    else
      let s := s.setBankSt b 0
      let s := if pass then (s.eraseOk (d.addr / 65536)).cflEnd d 0 pulses d.addr
        else (s.put R.CFL_STAT_FAIL_E true).cflEnd d 2 24 d.addr
      s.committerRelease

/-- SELECT (R437): the next word of the active row, with SEQ one higher; a full row makes the other row active.
[DEDUCED, unsafe: log 155] -/
def State.doSelect (s : State) : State :=
  match s.nextDesc 0 with
  | none => s
  | some d =>
    if d.op ≠ 3 ∨ s.bankSt 0 ≠ 0 then s
    else if s.cfl.selAny ∧ s.cfl.selSeq = 0xFFFF then s.cflEnd d 8 0 0
    else
      (s.selectWord d.ba).cflEnd d 0 0 0

/-- BANK_READ (R426): a read of a busy bank, or of the sector whose erase is suspended, is a bus fault. -/
def State.doBankRead (s : State) (core addr : Nat) : State :=
  let a := addr % 2 ^ 25
  let b := a / 2 ^ 24
  let sec := match s.runDesc b 2 with
    | some e => decide (e.addr / 65536 = a / 65536)
    | none => false
  if !s.coreRuns core then s
  else if s.bankSt b = 0 || (decide (s.bankSt b = 3) && !sec) then s.emit (.coreData core a (s.cflWord (a / 4)))
  else (s.inc R.CFL_BFLT_BFLT).emit (.busFault b a)

/-! ### The commands -/

/-- PROGRAM (R430). -/
def execProgram (bank : Nat) (data : List Byte) (s : State) :
    Host.Outcome State Fault Refusal := ok s (·.doProgram bank data)

/-- CFL_PROGRAM_DONE (R430). -/
def execCflProgramDone (bank : Nat) (pulses : Nat) (fail : Nat) (s : State) :
    Host.Outcome State Fault Refusal := ok s (·.doCflProgramDone bank pulses fail)

/-- ERASE (R430). -/
def execErase (bank : Nat) (s : State) : Host.Outcome State Fault Refusal := ok s (·.doErase bank)

/-- CFL_ERASE_DONE (R430). -/
def execCflEraseDone (bank : Nat) (pulses : Nat) (pass : Bool) (s : State) :
    Host.Outcome State Fault Refusal := ok s (·.doCflEraseDone bank pulses pass)

/-- SELECT (R437). -/
def execSelect (s : State) : Host.Outcome State Fault Refusal := ok s (·.doSelect)

/-- BANK_READ (R426). -/
def execBankRead (core : Nat) (addr : Nat) (s : State) :
    Host.Outcome State Fault Refusal := ok s (·.doBankRead core addr)

end Sys2Proof.Machine
end

