-- ==== Sys2Proof/Machine/DcOps.lean ====
section
/-!
DEFINITION. Dynamic capacity (R78 to R80, R151): an extent is a run of blocks of 256 MiB of device physical address; adding
one, releasing one, and the forced removal of those that a range taken offline overlaps.
-/
namespace Sys2Proof.Machine

/-- Pages of a block of 256 MiB. -/
def blockPages : Nat := 65536

/-- Whether a tracker entry addresses a run of blocks (R79). -/
def State.dcAddressed (s : State) (e : Nat × Nat) : Bool :=
  s.host.trk.any (fun r => decide (e.1 * blockPages ≤ r.dpa / 4096) && decide (r.dpa / 4096 < (e.1 + e.2) * blockPages))

/-- Whether two runs of blocks overlap. -/
def dcOverlap (a b : Nat × Nat) : Bool := decide (max a.1 b.1 < min (a.1 + a.2) (b.1 + b.2))

/-- Steps 2 and 3 of R79: the range leaves tracking in one step and is deallocated in the memory image. -/
def State.dcDealloc (s : State) (e : Nat × Nat) : State :=
  (s.releaseRange (e.1 * blockPages) (e.2 * blockPages)).imgDealloc (e.1 * blockPages) (e.2 * blockPages)

/-- A Dynamic Capacity Event (Table 3-6): 0 added, 1 released, 2 forcibly removed. -/
def State.dcEvent (s : State) (k what : Nat) (e : Nat × Nat) : State := s.cxlEventLd k 3 3 what [e.1, e.2]

/-- The extents that overlap a range of pages are forcibly removed from every logical device (R80, R140): they leave the
extent list with an event, and R79 applies to their ranges. -/
def State.dcForced (s : State) (first n : Nat) : State :=
  s.ldKeys.foldl (fun s k =>
    let d := smGet ldInit s.host.lds k
    let hit := fun (e : Nat × Nat) =>
      decide (max (e.1 * blockPages) first < min ((e.1 + e.2) * blockPages) (first + n))
    let gone := d.extents.filter hit
    let s := s.setLd k { d with extents := d.extents.filter (fun e => !hit e), releasing := d.releasing ++ gone }
    gone.foldl (fun s e => s.dcEvent k 2 e) s) s

/-- A DRAM Event of a rank, in the logs of the logical devices whose range its device addresses meet (R99, Table 3-6): 0 its
retirement starts, 1 its migration has ended or, of severity Warning, a spare has failed, 2 a record is cleared. -/
def State.rankEvent (s : State) (log what c r : Nat) : State :=
  let o := s.rankRange r
  if o.2 = 0 then s.cxlEvent log 1 what [c, r] else s.cxlEventIn (o.1 * 4096) (o.2 * 4096) log 1 what [c, r]

/-- Step 5 of R140: a General Media Event with the part of the range of rank `r` that lies in each logical device's static
capacity. -/
def State.staticLost (s : State) (r : Nat) : State :=
  let o := s.rankRange r
  s.ldKeys.foldl (fun s k =>
    let b := s.ldBase (k / 16) (k % 16) / 4096
    let n := s.ldCap (k / 16) (k % 16) / 4096
    if max b o.1 < min (b + n) (o.1 + o.2) then
      s.cxlEventLd k 2 0 3 [max b o.1 * 4096, (min (b + n) (o.1 + o.2) - max b o.1) * 4096] else s) s

/-- EXTENT_RELEASE_PROCEED (R79): the first release of a logical device that no tracker entry addresses is completed. -/
def State.doExtentReleaseProceed (s : State) (port ld : Nat) : State :=
  let k := ldKey port ld
  let d := s.ld port ld
  match d.releasing.find? (fun e => !s.dcAddressed e) with
  | none => s
  | some e =>
    let s := (s.setLd k { d with releasing := d.releasing.erase e }).dcDealloc e
    if s.isOffline (e.1 * blockPages * 4096) then s else s.dcEvent k 1 e

end Sys2Proof.Machine
end

