-- ==== Sys2Proof/Machine/Firmware.lean ====
section
/-!
DEFINITION. Firmware update as its commands: download, commit, activation and confirmation (R472 to R484, R336).
-/
namespace Sys2Proof.Machine

/-- FIRMWARE_IMAGE_DOWNLOAD (R472, R473): offset and length in bytes are multiples of 4,096; the command completes when its
blocks are programmed (R474). PF A owns as 1, PF B as 2. -/
def State.doFirmwareImageDownload (s : State) (tag off : Nat) (data : List Byte) : State :=
  s.admin tag 0x11 true (fun c =>
    if off % 4096 ≠ 0 ∨ data.length % 4096 ≠ 0 ∨ data.length = 0 then s.nvmFinish tag 0 2
    else match s.fwData (c.fn + 1) off (data.map (·.toNat)) with
    | (false, s) => s.nvmFinish tag 0 2
    | (true, s) =>
      let bs := (List.range (data.length / 4096)).map (· + off / 4096)
      let s := s.setCmd tag { c with stage := .running }
      { s with fwu := { s.fwu with waits := s.fwu.waits ++ [(tag, bs)] } })

/-- A block is programmed at its offset, its sector erased before the first block of this download (R474). -/
def State.fwProgram (s : State) (block : Nat) (bs : List Nat) : State :=
  let sec := fwSector (1 - s.fwu.run) + block / 16
  let s := if s.fwu.erased.contains sec then s
    else { s.sectorErase sec with fwu := { s.fwu with erased := setIns sec s.fwu.erased } }
  let s := s.cflProgram (fwSector (1 - s.fwu.run) * 16384 + 1024 * block)
    ((List.range 1024).map (fun k => ofLe ((bs.drop (4 * k)).take 4)))
  let s := { s with fwu := { s.fwu with blocks := setIns block s.fwu.blocks } }
  s.wr R.FWU_DLST_BLOCKS s.fwu.blocks.length

/-- A block stands programmed: downloads that waited for it alone complete (R474). -/
def State.fwBlockDone (s : State) (block : Nat) : State :=
  let ws := s.fwu.waits.map (fun (e : Nat × List Nat) => (e.1, setDel block e.2))
  let s := { s with fwu := { s.fwu with waits := ws.filter (fun e => !e.2.isEmpty) } }
  (ws.filter (fun e => e.2.isEmpty)).foldl (fun s e => s.nvmFinish e.1 0 0) s

/-- FIRMWARE_BLOCK_RECEIVED (R474): all bytes of a block have arrived; its CRC decides whether it is programmed or
discarded. A block sent again is accepted with the same content, and abandons the download with another. A block of a
sector that WP_LOCK protects is not programmed (R435). -/
def State.doFirmwareBlockReceived (s : State) (block : Nat) : State :=
  let bs? := (List.range 4096).map (fun k => s.fwPart (4096 * block + k))
  if s.rd R.FWU_STAT_STATE ≠ 1 ∨ 3072 ≤ block ∨ bs?.any (fun b => b.isNone) then s
  else
    let bs := bs?.map (fun b => b.getD 0)
    let s := { s with fwu := { s.fwu with part := smErase (fun k => decide (k / 4096 = block)) s.fwu.part } }
    if crc32c (bs.take 4092) ≠ ofLe (bs.drop 4092) then
      (s.inc R.FWU_DLST_CRC_ERR).fwFailWaits (fun e => e.2.contains block)
    else if s.fwu.blocks.contains block then
      (if s.fwBytes (1 - s.fwu.run) (1024 * block) 1024 = bs then s.fwBlockDone block else s.fwAbandon)
    else if s.wpFrozen (fwSector (1 - s.fwu.run) + block / 16) then s
    else (s.fwProgram block bs).fwBlockDone block

/-- DOWNLOAD_IDLE_TIMEOUT (R473): 1,966,080 ticks without data. -/
def State.doDownloadIdleTimeout (s : State) : State :=
  if s.fwu.lastAt + 1966080 ≤ s.tick then s.fwAbandon else s

/-- FIRMWARE_COMMIT (R477): Table 19-3. NVMe slot 1 is A and 2 is B (R469); slot 0 leaves the choice to the device, which
takes the inactive slot. [PRESUMED, unsafe: log 116] -/
def State.doFirmwareCommit (s : State) (tag action slot : Nat) : State :=
  s.admin tag 0x10 true (fun c =>
    let sl := if slot = 0 then 1 - s.fwu.run else slot - 1
    if 4 ≤ action then s.nvmFinish tag 0 2
    else if 2 < slot ∨ (action ≠ 2 ∧ sl = s.fwu.run) then s.nvmFinish tag 1 0x06
    else if action ≠ 0 ∧ s.fwu.act ≠ 0 then s.nvmFinish tag 1 0x13
    else
      let (v, s) := s.fwClose.fwCheck sl (if action = 0 then 7 else 10)
      if v ≠ 0 then s.nvmFinish tag 1 (fwStatus v)
      else if action = 0 then s.nvmFinish tag 0 0
      else if action ≠ 3 then (s.fwTarget sl).nvmFinish tag 0 0
      else if s.actClassOf sl = 2 then (s.fwTarget sl).nvmFinish tag 1 0x0B
      else (s.setCmd tag { c with stage := .running }).actBegin sl (s.actClassOf sl) (tag + 1) 0)

/-- ACTIVATION_WAIT_EXPIRY (R336, R478): 1 s has passed and something still runs. -/
def State.doActivationWaitExpiry (s : State) : State :=
  if s.cvn.code = 0 ∧ (s.fwu.act = 1 ∨ s.fwu.act = 2) ∧ s.fwu.holdAt + 32768 ≤ s.tick then s.actRefuse else s

/-- CXL_HOLD_END (R479): the hold ends, waiting requests are served, fetch resumes and the Commit is posted. -/
def State.doCxlHoldEnd (s : State) : State := if s.fwu.act = 3 then s.actEnd else s

/-- Odber writes the boot block of the running image into the inactive boot area, verifies it and selects it (R484),
unless WP_LOCK protects it (R435). The area takes the blocks whole: 64 of them fill its four sectors. -/
def State.writeBootArea (s : State) : State :=
  let ba := 1 - s.rd R.CFL_SEL_BA_ACT
  let sec := if ba = 0 then 0 else 256
  if (List.range 4).any (fun k => s.wpFrozen (sec + k)) then s
  else
  let s := (List.range 4).foldl (fun s k => s.sectorErase (sec + k)) s
  let b := s.fwWord s.fwu.run 12
  let n := min (s.fwWord s.fwu.run 13) 64
  let s := s.cflProgram (sec * 16384) ((List.range (1024 * n)).map (fun k => s.fwWord s.fwu.run (1024 * b + k)))
  if s.cfl.selAny ∧ s.cfl.selSeq = 0xFFFF then s else s.selectWord ba

/-- The trial image is confirmed (R484). `raise`: FW_CONFIRM with RAISE_SVN. -/
def State.fwConfirm (s : State) (raise : Bool) : State :=
  if !s.fwu.trial ∨ s.fwu.next ≠ s.fwu.run then s
  else
    let s := s.fwSelect s.fwu.run s.fwu.run false 0
    let s := if s.fwBoot s.fwu.run then s.writeBootArea else s
    let s := if raise then s.wr R.FWU_SVN_FLOOR (max (s.rd R.FWU_SVN_FLOOR) (s.rd R.FWU_SVN_RUN_SVN)) else s
    s.note 0x11 2

/-! ### The commands -/

/-- FIRMWARE_COMMIT (R477). -/
def execFirmwareCommit (tag : Nat) (action : Nat) (slot : Nat) (s : State) :
    Host.Outcome State Fault Refusal := ok s (·.doFirmwareCommit tag action slot)

/-- ACTIVATION_WAIT_EXPIRY (R336). -/
def execActivationWaitExpiry (s : State) : Host.Outcome State Fault Refusal := ok s (·.doActivationWaitExpiry)

/-- CXL_HOLD_END (R479). -/
def execCxlHoldEnd (s : State) : Host.Outcome State Fault Refusal := ok s (·.doCxlHoldEnd)

/-- FIRMWARE_IMAGE_DOWNLOAD (R472). -/
def execFirmwareImageDownload (tag : Nat) (off : Nat) (data : List Byte) (s : State) :
    Host.Outcome State Fault Refusal := ok s (·.doFirmwareImageDownload tag off data)

/-- FIRMWARE_BLOCK_RECEIVED (R474). -/
def execFirmwareBlockReceived (block : Nat) (s : State) :
    Host.Outcome State Fault Refusal := ok s (·.doFirmwareBlockReceived block)

/-- DOWNLOAD_IDLE_TIMEOUT (R473). -/
def execDownloadIdleTimeout (s : State) : Host.Outcome State Fault Refusal := ok s (·.doDownloadIdleTimeout)

end Sys2Proof.Machine
end

