-- ==== Sys2Proof/Machine/Boot.lean ====
section
/-!
DEFINITION. Boot and the watchdogs (R438 to R448, R454): the stages of Table 17-2 from the release of cold reset to the
pack wait, the slices, the core checks, the choice of boot area, firmware and Erg image (R482, R52, R65), what hardware
initialisation finds (R107, R132, R142, R143, R242), and the end of boot.
-/
namespace Sys2Proof.Machine

/-- Milliseconds since the release of cold reset. -/
def State.sinceRelease (s : State) : Nat := (s.tick - s.boot.relAt) * 1000 / 32768

/-- The stage of Table 17-2 in progress. [DEDUCED, unsafe: log 159] -/
def State.stage (s : State) : Nat := s.rd R.BST_STAT_STAGE

/-! ### Release and self-test -/

/-- The slices of the EB7416 that cover absent units (R438). -/
def absent7416 : List Nat := [4, 5, 10, 11, 12, 13, 16, 17]

/-- COLD_RESET_RELEASE (R442): phase 1 has ended, CHIP_RST_N is high. The boot count rises, after an A reset from the
recorder's highest (BST_BOOTN), and the tick counter then resumes above the highest committed timestamp (R450). VBOOT is
written (R495), the flag scan and the recorder scan run, the address pins are sampled (R399), and self-test begins.
[DESIGN CHOICE, safe: log 142] -/
def State.doColdResetRelease (s : State) (pins : Nat) : State :=
  if !s.boot.inReset || !s.boot.p1done || !s.seq.main then s
  else
    let m := s.recorderMax
    let a := decide (s.boot.cause = 0)
    let s := if a then s.wr R.PWR_TICK_TICK (max s.tick (m.1 + 1)) else s
    let s := s.wr R.BST_BOOTN_BOOT_CNT ((if a then max (s.rd R.BST_BOOTN_BOOT_CNT) m.2 else s.rd R.BST_BOOTN_BOOT_CNT) + 1)
    let s := (s.wr R.BST_RST_TYPE s.boot.cause).wr R.BST_RST_SRC 0
    -- entries made while the code flash had no power are committed to it now (R397)
    let s := { s with seq := { s.seq with logSaved := s.seq.log } }
    let b := { s.boot with inReset := false, relAt := s.tick, bud := s.rd R.BST_CFG_BUD,
                           packWait := s.rd R.BST_CFG_PACK_WAIT }
    let s := { s with boot := b, twi := { s.twi with pins := pins % 8 } }
    let s := if a then s.wr R.TWI_STAT_OWN_ADDR (0x68 + pins % 8) 0 else s
    let s := (s.wr R.CFL_SEL_SEQ s.cfl.selSeq).wr R.CFL_SEL_BA_NEXT s.cfl.selBa
    let s := ([24, 25, 26, 27, 28, 29, 30, 31, 36, 37, 38].foldl (fun s n => s.pdSet n true) s).audDisq 8
    let s := s.flagScan.recorderScan
    let s := s.avsAsk Config.vboot
    let s := s.wr R.BST_ABS_SLICES (if s.on R.TOP_ID_PART then (absent7416.map (2 ^ ·)).sum else 0)
    s.wr R.BST_STAT_STAGE 2

/-- The batch of a slice (Table 17-1). -/
def sliceBatch (k : Nat) : Nat :=
  if k ≤ 3 ∨ k = 22 ∨ k = 23 then 1
  else if k = 4 ∨ k = 5 ∨ (14 ≤ k ∧ k ≤ 17) ∨ k = 21 then 2
  else if k ≤ 11 then 3
  else 4

/-- The slices that this part has. [DEDUCED, safe: log 158] -/
def State.slices (s : State) : List Nat := (List.range 24).filter (fun k => !bit (s.rd R.BST_ABS_SLICES) k)

/-- A slice's first run has ended. -/
def State.firstRun (s : State) (k : Nat) : Bool := bit s.boot.ended k || bit s.boot.rerun k

/-- A slice runs now: in its batch when the batches before it have ended, or in the rerun batch, six at a time in
ascending order (R439). -/
def State.sliceRuns (s : State) (k : Nat) : Bool :=
  decide (s.stage = 2) && s.slices.contains k && !bit s.boot.ended k &&
  (if bit s.boot.rerun k then
    s.slices.all s.firstRun && (((List.range 24).filter (bit s.boot.rerun)).take 6).contains k
   else s.slices.all (fun j => decide (sliceBatch k ≤ sliceBatch j) || s.firstRun j))

/-- The channels of a flash group, or of an LDPC cluster pair, are fenced. -/
def State.fenceChans (s : State) (lo n : Nat) : State :=
  (List.range n).foldl (fun s i =>
    (s.wr R.FCC_CHFENCE_FENCE (setBitTo (s.rd R.FCC_CHFENCE_FENCE) (lo + i) true)).wr R.FCH_STAT_STATE 1 (lo + i)) s

/-- The units of a fenced slice are fenced (Table 17-1, R237). -/
def State.fenceUnits (s : State) (k : Nat) : State :=
  if 6 ≤ k ∧ k ≤ 13 then s.fenceChans (4 * (k - 6)) 4
  else if 14 ≤ k ∧ k ≤ 17 then
    let c := k - 14
    let o := if c % 2 = 0 then c + 1 else c - 1
    let s := (s.wr R.FCC_STAT_CLS_FENCE (setBitTo (s.rd R.FCC_STAT_CLS_FENCE) c true)).put R.FCC_CLS_FENCED true c
    if s.on R.FCC_CLS_FENCED o then
      ((s.put R.FCC_CLS_SHARED false c).put R.FCC_CLS_SHARED false o).fenceChans (16 * (c / 2)) 16
    else s.put R.FCC_CLS_SHARED true o
  else s

/-- A run of a slice has ended: it passes, waits for the rerun batch, or is fenced after its second failure (R438); with
the last, self-test ends and the core checks begin. -/
def State.sliceEnd (s : State) (k : Nat) (pass : Bool) : State :=
  let again := bit s.boot.rerun k
  let s :=
    if pass then
      let s := s.wr R.BST_PASS_SLICES (setBitTo (s.rd R.BST_PASS_SLICES) k true)
      let s := if again then s.wr R.BST_RERUN_SLICES (setBitTo (s.rd R.BST_RERUN_SLICES) k true) else s
      { s with boot := { s.boot with ended := setBitTo s.boot.ended k true, rerun := setBitTo s.boot.rerun k false } }
    else if again then
      let s := (s.wr R.BST_FENCE_SLICES (setBitTo (s.rd R.BST_FENCE_SLICES) k true)).fenceUnits k
      { s with boot := { s.boot with ended := setBitTo s.boot.ended k true, rerun := setBitTo s.boot.rerun k false } }
    else { s with boot := { s.boot with rerun := setBitTo s.boot.rerun k true } }
  if s.slices.all (bit s.boot.ended) then s.wr R.BST_STAT_STAGE 3 else s

/-- The registers of a slice's last run. -/
def State.sliceRegs (s : State) (k sig us pats : Nat) (late : Bool) : State :=
  let s := (s.wr R.BST_SIG_SIG sig k).wr R.BST_TIME_RUN_US (min us 65535) k
  (s.wr R.BST_TIME_PATS pats k).put R.BST_TIME_OVERRUN late k

/-- SLICE_DONE (R438): `pass` says that the signature equals the expected one; a run longer than BUD does not pass. -/
def State.doSliceDone (s : State) (k : Nat) (pass : Bool) (sig us pats : Nat) : State :=
  if s.sliceRuns k then (s.sliceRegs k sig us pats false).sliceEnd k (pass && decide (us ≤ s.boot.bud * 1000)) else s

/-- SLICE_BUDGET_EXPIRY (R439). -/
def State.doSliceBudgetExpiry (s : State) (k sig pats : Nat) : State :=
  if s.sliceRuns k then (s.sliceRegs k sig (s.boot.bud * 1000) pats true).sliceEnd k false else s

/-! ### Cores -/

/-- The roles go to their own cores, or to the lowest-numbered healthy core (R27). -/
def State.roles (s : State) : State :=
  let low := ((List.range 4).find? s.coreUp).getD 0
  (List.range 4).foldl (fun s k =>
    if s.coreUp k then (s.wr R.TOP_ROLE_CORE k 0 k).put R.TOP_ROLE_MOVED false 0 k
    else (s.wr R.TOP_ROLE_CORE low 0 k).put R.TOP_ROLE_MOVED true 0 k) s

/-- CORE_CHECK_DONE (R440): after slice 22 passes; when all four have ended, a device with a core goes on to stage 4. -/
def State.doCoreCheckDone (s : State) (n : Nat) (pass : Bool) : State :=
  if s.stage ≠ 3 ∨ 4 ≤ n ∨ bit s.boot.checked n ∨ s.sliceFenced 22 then s
  else
    let s := { s with boot := { s.boot with checked := setBitTo s.boot.checked n true } }
    let s := if pass then s.wr R.BST_CORE_PASS (setBitTo (s.rd R.BST_CORE_PASS) n true)
      else (s.wr R.BST_CORE_FENCED (setBitTo (s.rd R.BST_CORE_FENCED) n true)).pdSleep (24 + n)
    if s.boot.checked ≠ 15 then s
    else
      let s := s.pdSleep 38
      if s.rd R.BST_CORE_FENCED = 15 then s else s.roles.wr R.BST_STAT_STAGE 4

/-- Descriptors of the core `c` that have not started complete with Aborted, behind the completions held before; what runs
or is suspended goes on for no owner (R425). -/
def State.cflAborted (s : State) (c : Nat) : State :=
  let mine := fun (d : CflDesc) => decide (d.by0 = c + 1) && decide (d.stage = 0)
  { s with cfl := { s.cfl with queue :=
      (s.cfl.queue.filter (fun d => !mine d)).map (fun (d : CflDesc) =>
        if d.by0 = c + 1 ∧ d.stage ≠ 3 then { d with by0 := 0 } else d) ++
      (s.cfl.queue.filter mine).map (fun (d : CflDesc) =>
        { d with stage := 3, status := 7, pulses := 0, endAddr := d.addr }) } }

/-- A suspended erase that outlived its owner resumes when no program runs in it (R425). -/
def State.cflOrphan (s : State) (b : Nat) : State :=
  if s.bankSt b ≠ 3 then s
  else
    match s.runDesc b 2 with
    | some e => if e.by0 = 0 then s.eraseResume b else s
    | none => s

/-- The management core `c` is reset alone: its semaphores, its code-flash banks and its check-value engines are released
(R352, R353, R363, R425). -/
def State.coreClear (s : State) (c : Nat) : State :=
  let s := s.semCoreReset c
  let s := (List.range 2).foldl (fun s b =>
    if s.rd R.CFL_OWN_OWNER b = c + 1 then (s.wr R.CFL_OWN_OWNER 0 b).put R.CFL_OWN_OWNER_RESET true b else s) s
  let s := (List.range 8).foldl (fun s i =>
    if s.rd R.CRC_GE_OWN_OWNER i = c + 1 then (s.wr R.CRC_GE_OWN_OWNER 0 i).put R.CRC_GE_OWN_OWNER_RST true i else s) s
  (List.range 2).foldl (fun s b => s.cflOrphan b) (s.cflAborted c)

/-- A core is fenced in service: its role moves (R27, R454). -/
def State.fenceCore (s : State) (n : Nat) : State :=
  (s.wr R.BST_CORE_FENCED (setBitTo (s.rd R.BST_CORE_FENCED) n true)).roles.note 0x10 1 n

/-- WATCHDOG_EXPIRY (R454): a core reset, while the data path keeps running (R28); what the core held is released, and after WDT_LIM resets within an hour the core
is fenced. -/
def State.doWatchdogExpiry (s : State) (n : Nat) : State :=
  if 4 ≤ n ∨ !s.coreUp n ∨ bit s.boot.down n ∨ s.boot.inReset ∨ s.level = 0 then s
  else
    let ts := (s.tick :: smGet [] s.boot.wdt n).filter (fun t => decide (s.tick < t + 117964800))
    let s := (s.coreClear n).cflDrain
    let s := s.wr R.BST_WDTC_CNT (min 255 (s.rd R.BST_WDTC_CNT 0 n + 1)) 0 n
    let s := { s with boot := { s.boot with wdt := smSet [] n ts s.boot.wdt, down := setBitTo s.boot.down n true } }
    if s.rd R.BST_WDT_WDT_LIM ≤ ts.length then (s.fenceCore n).pdSleep (24 + n) else s.note 0x10 2 n

/-- CORE_RESTART (R454): a core that was reset runs again from the verified image. -/
def State.doCoreRestart (s : State) (n : Nat) : State :=
  if n < 4 ∧ bit s.boot.down n ∧ s.coreUp n then
    { s with boot := { s.boot with down := setBitTo s.boot.down n false } }
  else s

/-! ### Boot area and firmware -/

/-- A boot area lies in a sector whose erase did not end, and is invalid (R434). -/
def State.areaFlagged (s : State) (ba : Nat) : Bool :=
  (List.range 4).any (fun k => s.flagged ((if ba = 0 then 0 else 256) + k))

/-- BOOT_AREA_VERIFY (R442, R443): `ok0` and `ok1` say which areas verify. The area that the selection names is tried
first, then the other; with neither the device serves SL0. [DEDUCED, unsafe: log 157] -/
def State.doBootAreaVerify (s : State) (ok0 ok1 : Bool) : State :=
  if s.stage ≠ 4 then s
  else
    let good := fun (ba : Nat) => (if ba = 0 then ok0 else ok1) && !s.areaFlagged ba
    let first := if s.cfl.selAny then s.cfl.selBa else 0
    if good first then (s.wr R.CFL_SEL_BA_ACT first).wr R.BST_STAT_STAGE 5
    else if good (1 - first) then ((s.wr R.CFL_SEL_BA_ACT (1 - first)).wr R.BST_STAT_STAGE 5).note 0x10 3
    else s.setBad 0

/-- Odber runs from a slot: SL1 is reached (R447). -/
def State.odberRuns (s : State) : State :=
  let s := s.roles.wr R.BST_STAT_STAGE 6
  if s.level = 0 then (s.setLevel 1).wr R.BST_BTIME_T_SL1 (min 65535 s.sinceRelease) else s

/-- ODBER_LOAD (R482): a trial counts a try; at the third, or when NEXT fails steps 1 to 8, the other slot is loaded. With
no slot that verifies, the boot block serves SL1 alone (R443). -/
def State.doOdberLoad (s : State) : State :=
  if s.stage ≠ 5 ∨ s.boot.bootBlock then s
  else
    let f := s.fwu
    let tries := if f.trial then f.tries + 1 else f.tries
    let (v, s) := if f.trial && decide (3 ≤ tries) then (1, s) else s.fwCheck f.next 8
    if v = 0 then (s.fwSelect f.next f.next f.trial tries).odberRuns
    else
      let (v, s) := s.fwCheck (1 - f.next) 8
      if v = 0 then
        ((s.fwSelect (1 - f.next) (1 - f.next) false 0).put R.FWU_STAT_FALLBACK true).note 0x11 3 |>.odberRuns
      else
        let s := { s.setBad 1 with boot := { (s.setBad 1).boot with bootBlock := true } }
        if s.level = 0 then (s.setLevel 1).wr R.BST_BTIME_T_SL1 (min 65535 s.sinceRelease) else s

/-! ### The Erg image -/

/-- An Erg slot whose four sectors read wholly erased. [DESIGN CHOICE, unsafe: log 27] -/
def State.ergErased (s : State) (slot : Nat) : Bool :=
  !s.cfl.arr.any (fun e => decide (ergSector slot ≤ e.1 / 16384) && decide (e.1 / 16384 < ergSector slot + 4))

/-- The image's fields as the state keeps them: 65,536 × section + index to value plus one (R44). -/
def imgBase (w : Nat → Nat) : List (Nat × Nat) :=
  ((imgDir w).filter (fun d => decide (d.id < 0x20))).foldl (fun m d =>
    (List.range (d.len / 4)).foldl (fun m i => smSet 0 (65536 * d.id + i) (w (d.off / 4 + i) + 1) m) m) []

/-- The structural sections of a field list. -/
def structOf (m : List (Nat × Nat)) : List (Nat × Nat) := m.filter (fun e => decide (e.1 < 65536 * 7))

/-- One section of a field list. -/
def secOf (id : Nat) (m : List (Nat × Nat)) : List (Nat × Nat) := m.filter (fun e => decide (e.1 / 65536 = id))

/-- A field of a field list, or a default. -/
def fieldOf (m : List (Nat × Nat)) (sec idx d : Nat) : Nat := match smGet 0 m (65536 * sec + idx) with | 0 => d | v + 1 => v

/-- The structural sections that differ, bit n for section 1 + n (ERG_DIFF). -/
def structDiff (old new : List (Nat × Nat)) : Nat :=
  (List.range 6).foldl (fun v n => if secOf (n + 1) old = secOf (n + 1) new then v else v + 2 ^ n) 0

/-- The required loss mask of a change of structure (R54, Table 2-4). -/
def State.lossMask (s : State) (old new : List (Nat × Nat)) : Nat :=
  let d := structDiff old new
  let mem := bit d 2 && decide (hostMemOf (fieldOf new) < hostMemOf (fieldOf old))
  let pop := bit d 3 && (List.range 32).any (fun c => decide (fieldOf old 4 (4 + c) 0 ≠ fieldOf new 4 (4 + c) 0))
  let unit := fun (m : List (Nat × Nat)) => if fieldOf m 4 42 0 = 0 then 16 else 64
  let used := (s.nvm.nss.map (fun e => e.2.units)).sum * unit old
  let ns := bit d 3 && (decide (unit old ≠ unit new) || decide (fieldOf new 4 48 0 * 262144 < used))
  if pop then 7 else b2n ns + 2 * b2n mem

/-- The loss check of R56 on a slot's image, after its validation: the code, 0 when it may boot. -/
def State.ergCheck (s : State) (slot : Nat) : Nat :=
  let w := s.ergWord slot
  if s.ergErased slot then 0x0D
  else
    let v := s.validateErg w
    if v ≠ 0 then v
    else match s.erg.recStruct with
    | none => 0
    | some old => if Nat.land (s.lossMask old (structOf (imgBase w))) (7 - bits (imgByte w 0x24) 0 3) ≠ 0 then 0x0C else 0

/-- The slot registers take the result of a validation (ERG map). -/
def State.ergResult (s : State) (slot verr : Nat) : State :=
  let w := s.ergWord slot
  let s := (s.put R.ERG_SLOT_VALID (decide (verr = 0)) slot).wr R.ERG_SLOT_VERR verr slot
  if verr = 0x0D then
    let s := (s.put R.ERG_SLOT_KEY false slot).put R.ERG_SLOT_UNIT_BOUND false slot
    (s.wr R.ERG_SLOT_OVL_CNT 0 slot).wr R.ERG_SER_SERIAL 0 slot
  else
    let s := (s.put R.ERG_SLOT_KEY (bit (w 3) 17) slot).put R.ERG_SLOT_UNIT_BOUND (bit (w 3) 16) slot
    (s.wr R.ERG_SLOT_OVL_CNT (imgOverlays w).length slot).wr R.ERG_SER_SERIAL (w 8) slot

/-- The overlay that boots (R65): OVL_DEF for a newly selected image or when the recorded index names no overlay of it,
otherwise the recorded one; 15 for none. -/
def State.bootOvl (s : State) (dig : Nat) (ovls : List Overlay) (dflt : Nat) : Nat :=
  let has := fun (k : Nat) => ovls.any (fun o => decide (o.index = k))
  let d := if dflt = 0xFF then 15 else dflt
  if s.erg.recDigest ≠ some dig then d
  else if 15 ≤ s.erg.recOvl ∨ has s.erg.recOvl then min 15 s.erg.recOvl else d

/-- The registers of the DRAM partition and decode take section 0x03 (Table 4-5). -/
def State.loadDram (s : State) : State :=
  let g := s.ergBase
  let s := s.wr R.DRM_HOSTSZ_HOST_SZ (hostMemOf g)
  let s := (s.wr R.DRM_STAT_WAYS ((Nat.log2 (2 * (chansOf g).length)))).wr R.DRM_STAT_GRP_BASE 0
  let s := (List.range 4).foldl (fun s k =>
    let lo := g 3 (26 + 2 * k) 0
    let hi := g 3 (27 + 2 * k) 0
    let s := (s.wr R.DRM_CHM_LO_MASK_LO (bits lo 6 26) k).wr R.DRM_CHM_HI_MASK_HI (bits hi 0 16) k
    (s.wr R.DRM_CHM_HI_PIVOT (bits hi 16 5) k).put R.DRM_CHM_HI_EN (bit hi 31) k) s
  let s := (List.range 8).foldl (fun s k =>
    let lo := g 3 (34 + 2 * k) 0
    let hi := g 3 (35 + 2 * k) 0
    (((s.wr R.DRM_BKM_LO_MASK_LO (bits lo 6 26) k).wr R.DRM_BKM_HI_MASK_HI (bits hi 0 6) k).put R.DRM_BKM_HI_EN
      (bit hi 31) k)) s
  (chansOf g).foldl (fun s c =>
    let v := g 3 (2 + c) 0
    let a := g 3 (10 + c) 0
    let b := g 3 (18 + c) 0
    let rk := bits v 0 3
    let s := (s.wr R.DCH_GEO_RANKW (if rk ≤ 1 then 0 else if rk = 2 then 1 else 2) c).put R.DCH_GEO_DPC2 (bit v 14) c
    let s := (s.wr R.DCH_GEO_TYPE (bits v 15 2) c).wr R.DCH_GEO_RANK_GIB (bits v 3 9) c
    let s := (s.wr R.DCH_CARVE0_CV_MAP (bits a 0 13) c).wr R.DCH_CARVE0_CV_FMAP (bits a 16 13) c
    let s := (s.wr R.DCH_CARVE1_CV_TRK (bits b 0 13) c).wr R.DCH_CARVE1_CV_STG (bits b 16 13) c
    (s.wr R.DCH_HOST_H ((chanHost g c).getD 0) c).put R.DCH_HOST_SPARE (bit a 31) c) s

/-- The registers of the flash channels take section 0x04 (Table 9-7). -/
def State.loadFlash (s : State) : State :=
  let g := s.ergBase
  let s := s.wr R.FCC_XT_XT_MAX (g 4 43 0)
  (List.range 32).foldl (fun s c =>
    let v := if s.hasFch c then g 4 (4 + c) 0 else 0
    let s := (s.wr R.FCH_POP_VOLS (bits v 0 16) c).wr R.FCH_POP_LUNS (bits v 16 4) c
    if v = 0 then s
    else
      let s := (s.wr R.FCH_GEO0_PAGE_KIB (g 4 36 0) c).wr R.FCH_GEO0_PLANES (g 4 37 0) c
      let s := (s.wr R.FCH_GEO0_BPC (g 4 38 0) c).wr R.FCH_GEO0_SPARE_B (g 4 41 0) c
      (s.wr R.FCH_GEO1_PAGES (g 4 39 0) c).wr R.FCH_GEO1_BLOCKS (g 4 40 0) c) s

/-- The registers of the ports, NVMe and the two-wire ports take sections 0x01, 0x02 and 0x06 (Tables 3-10, 10-1,
15-2). -/
def State.loadPorts (s : State) : State :=
  let g := s.ergBase
  let b := decide (g 1 0 0 ≠ 0)
  let s := (s.put R.HP_STAT_ACTIVE (!s.sliceFenced 0) 0).put R.HP_STAT_ACTIVE (b && !s.sliceFenced 1) 1
  let s := if !s.on R.HP_STAT_ACTIVE 0 && !s.on R.HP_STAT_ACTIVE 1 then s.setBad 3 else s
  let s := if b then s else s.wr R.LOQ_CTL_HPORT 0
  let s := [(0, s.on R.HP_STAT_ACTIVE 0), (1, s.on R.HP_STAT_ACTIVE 1)].foldl (fun s (e : Nat × Bool) =>
    if e.2 then s.pdSet e.1 true else s) s
  let s := ((s.wr R.NVC_FCFG0_VF_A (g 2 0 0)).wr R.NVC_FCFG0_VF_B (g 2 1 0)).wr R.NVC_FCFG0_QP_PF (g 2 2 256)
  let s := ((s.wr R.NVC_FCFG0_QP_VF (g 2 3 16)).wr R.NVC_FCFG1_CMD_MAX_F (g 2 6 4096)).wr R.NVC_FCFG1_MQES (g 2 7 16384)
  let s := ((s.wr R.NVC_FCFG2_VEC_PF (g 2 4 257)).wr R.NVC_FCFG2_VEC_VF (g 2 5 17)).wr R.NVC_STG_STG_TOTAL (stagingOf g)
  let s := (s.wr R.TWI_STAT_OWN_ADDR (g 6 0 0x68 + s.twi.pins) 0).wr R.TWI_STAT_RATE (g 6 1 0) 0
  let s := ((s.wr R.TWI_STAT_STRETCH (g 6 2 1) 0).wr R.TWI_STAT_RATE (g 6 4 2) 1)
  let s := { s with twi := { s.twi with eid := g 6 3 0 } }
  (List.range 2).foldl (fun s p =>
    let v := g 6 (15 + p) 0x0A03
    ((s.wr R.TWI_POL_RETRY_N (bits v 0 4) p).wr R.TWI_POL_RETRY_INT (bits v 8 8) p).wr R.TWI_POL_ARB_MAX (g 6 17 8) p) s

/-- Fine groups that the slice holds beyond the image fine map and the superblock table (R275). -/
def State.fineGroups (s : State) : Nat :=
  let ents := ((chansOf s.ergBase).map (fun c => s.rd R.DCH_CARVE0_CV_FMAP c)).sum * 134217728 / 5
  (ents - s.hostPages - 4 * s.sbCount) / s.unitSlots

/-- The carve-outs that R110 requires: bit 6 tracking, bit 7 coarse map and staging (BootSt.bad); the fine-map slice must hold
the image map and the superblock table, and each channel a unit of staging while a namespace is configured for write-back.
[DEDUCED, unsafe: log 34] -/
def State.checkCarves (s : State) : State :=
  let g := s.ergBase
  let cs := chansOf g
  let units := fun (f : Fld) => (cs.map (fun c => s.rd f c)).sum
  let raw := ((List.range 32).map (fun c => ((List.range 128).filter (s.dieDeclared c)).length)).sum *
    s.blocksPer * 2 ^ s.planesLog * s.pagesPer * s.pageKib
  let coarse := cdiv (cdiv raw (4 * s.unitSlots) * 5) 134217728
  let trk := cdiv (2 * cdiv s.hostPages 8) 134217728
  let s := if units R.DCH_CARVE1_CV_TRK < trk then s.setBad 6 else s
  let s := if units R.DCH_CARVE0_CV_FMAP * 134217728 / 5 < s.hostPages + 4 * s.sbCount then s.setBad 6 else s
  let wb := s.nvm.nss.any (fun e => decide (e.2.units ≠ 0) && !e.2.cfgWt)
  let s := if wb && cs.any (fun c => decide (s.rd R.DCH_CARVE1_CV_STG c = 0)) then s.setBad 7 else s
  if units R.DCH_CARVE0_CV_MAP < coarse then s.setBad 7 else s

/-- The factory tables in the CAL store hold ten entries of 64 words without a zero value (R366). -/
def State.calTablesOk (s : State) : Bool :=
  (List.range 10).all (fun k =>
    let ws := (smGet (false, []) s.erg.calNow (0x400 + k)).2
    decide (ws.length = 64) && ws.all (fun v => decide (bits v 0 16 ≠ 0) && decide (bits v 16 16 ≠ 0)))

/-- The pack profile takes effect: the source of the tables; without valid tables the pack is in Fault with cause 5 for this
boot (R366, R370). -/
def State.loadPack (s : State) : State :=
  let cal := bit (s.pol 0x12 0 0) 8
  let s := s.put R.GAU_STAT_TBL_SRC cal
  let ok := !cal || s.calTablesOk
  let s := { s with gau := { s.gau with tblOk := ok, polOvl := s.erg.polOvl } }
  let s := if !ok then s.packEnter 3 5
    else if s.rd R.GAU_STAT_PSTATE = 3 ∧ s.rd R.GAU_STAT_FCAUSE = 5 then s.packArrive else s
  s.estNow

/-- P_MEAS is reloaded at cold boot, and discarded when the image's SERIAL is not the one it was measured under (R183). -/
def State.loadPMeas (s : State) (slot : Nat) : State :=
  let l := s.gau.learned
  let pm := if l.pSer = s.rd R.ERG_SER_SERIAL slot then l.pMeas else 0
  { s with gau := { s.gau with learned := { l with pMeas := pm } } }.wr R.LDG_PMEAS_P_MEAS pm

/-- The rated guarantee that the device reports: every input is that of the base image with the overlay applied at this cold
boot (R185). -/
def State.ratedNow (s : State) (gmax : Nat) : Nat :=
  let p := s.pol 0x11 0 0
  let r := ratedRate (s.pol 0x11 5 0)
  guarantee (s.pol 0x12 1 0) (s.pol 0x11 1 0) (fixEnergy p (s.pol 0x11 2 0)) (pageCost p r) r gmax

/-- The phase 2 duration of the GPF DVSEC in ms: the largest manifest of the image's host memory and staging, and G_R pages of
save stream, at R_RATED, and T_FIX, rounded up (R97, Table 7-4). [DEDUCED, unsafe: log 70] -/
def State.gpfDuration (s : State) (hostPages stg : Nat) : Nat :=
  let bytes := 33 * 4096 + 0x100000 + 16 * stg + 256 * cdiv hostPages 2048 + 4101 * s.ftl.gRated
  let rr := s.pol 0x11 5 0 * 1000000
  cdiv (1000 * (32768 * bytes + s.pol 0x11 2 0 * rr)) (32768 * rr)

/-- With phase 2 up already stage 8 begins at once (Table 17-2). -/
def State.afterErg (s : State) : State := if s.seqState = 3 then s.stage8 else s.wr R.BST_STAT_STAGE 7

/-- The image of a slot is applied (R52, R54, R57, R65): its structure and policy load, a change of structure is a
reformation, CAL values take effect, and phase 2 starts. -/
def State.ergApply (s : State) (slot : Nat) : State :=
  let w := s.ergWord slot
  let m := imgBase w
  let ovls := imgOverlays w
  let dig := Config.sha384 (imgSigned w)
  let ovl := s.bootOvl dig ovls (imgByte w 0x26)
  let loss := match s.erg.recStruct with | none => 0 | some old => s.lossMask old (structOf m)
  let diff := match s.erg.recStruct with | none => 0 | some old => structDiff old (structOf m)
  let e := { s.erg with loaded := true, base := m, ovls := ovls, recOvl := ovl, polOvl := ovl,
                        recDigest := some dig, reformMark := s.erg.reformMark || decide (diff ≠ 0), calNow := s.erg.cal }
  let s := { s with erg := e }
  let tag : Nat := match s.activeOvl ovl with | some o => o.tag | none => 0
  let s := (s.wr R.ERG_STAT_BOOT_SLOT slot).wr R.ERG_STAT_ACT_OVL ovl
  let s := (s.wr R.ERG_STAT_ACT_MODE tag).put R.ERG_STAT_VOLATILE (decide (tag = 2))
  let s := if tag = 2 then s.gateOff else s
  let s := ((s.wr R.ERG_DIFF_SEC_DIFF diff).put R.ERG_STAT_REFORMED (decide (diff ≠ 0))).wr R.ERG_STAT_REFORM_LOSS loss
  let s := (s.wr R.CAL_STAT_ENTRIES s.erg.cal.length).wr R.CAL_STAT_USER_ENTRIES (s.erg.cal.filter (fun e => e.2.1)).length
  let s := ((s.loadPolicy ovl true (fun _ => true)).lvAppend).loadDram.loadFlash.loadPorts
  let s := (s.wr R.FTL_FGRP_GROUPS s.fineGroups 1).checkCarves.loadPack
  let s := { s with ftl := { s.ftl with gRated := s.ratedNow (imgHostMem w * 65536 + imgStaging w) } }
  let s := { s with host := { s.host with gpfMs := s.gpfDuration (imgHostMem w * 65536) (imgStaging w),
                                          gpfMw := s.pol 0x11 0 0 } }
  let s := (s.loadPMeas slot).gmaxSet.wr R.LDG_GRATED_G_R s.ftl.gRated
  s.startPhase2.afterErg

/-- ERG_VALIDATION (R52): the slot that NEXT_SLOT names, then the other; with neither the device serves SL1. A warm reset
reloads the image in use and checks nothing again (R452). [DEDUCED, unsafe: log 31] [DEDUCED, unsafe: log 161] -/
def State.doErgValidation (s : State) : State :=
  if s.stage ≠ 6 ∨ s.unitBad 2 then s
  else if s.boot.warm then s.wr R.BST_STAT_STAGE 11
  else
    let a := s.rd R.ERG_SEL_NEXT_SLOT
    let v := s.ergCheck a
    let s := s.ergResult a v
    if v = 0 then s.ergApply a
    else
      let s := (s.put R.ERG_STAT_FALLBACK true).note 0x13 1 a
      let v := s.ergCheck (1 - a)
      let s := s.ergResult (1 - a) v
      if v = 0 then s.ergApply (1 - a) else s.setBad 2

/-! ### Hardware initialisation -/

/-- The highest data rate of a channel's population in units of 100 MT/s (Table 4-1). -/
def State.popRate (s : State) (c : Nat) : Nat :=
  if s.rd R.DCH_GEO_TYPE c = 1 then 88 else if s.rd R.DCH_GEO_TYPE c = 0 ∧ s.on R.DCH_GEO_DPC2 c then 56 else 64

/-- The rank position that a retirement record concerns: 4c + r; the record of a lost carve-out, under 32 + c, names its rank. -/
def recPos (e : Nat × Nat) : Nat := if e.1 < 32 then e.1 else 4 * (e.1 - 32) + e.2 % 4

/-- Records against the serial numbers found (R142): one that names another DIMM is cleared with an event, and so is what is
known of a spare that failed and of a trigger that waits for this boot. [DEDUCED, unsafe: log 162] -/
def State.serialCheck (s : State) (found : List Nat) : State :=
  let same := fun (k : Nat) => decide (smGet 0 s.dram.serials k = found.getD k 0)
  let gone := s.dram.retired.filter (fun e => !same (recPos e))
  let d := { s.dram with
    retired := s.dram.retired.filter (fun e => same (recPos e)), retLater := s.dram.retLater.filter same,
    spareBad := (List.range 8).foldl (fun v c => if same (4 * c + s.spareRank c) then v else setBitTo v c false) s.dram.spareBad,
    serials := (List.range 32).foldl (fun m k => smSet 0 k (found.getD k 0) m) s.dram.serials }
  gone.foldl (fun s e => s.rankEvent 0 2 (recPos e / 4) (recPos e % 4)) { s with dram := d }

/-- A retirement that a save or restore put off runs at this cold boot (R135, R139): the free spare takes the rank; without one
the rank is Offline and its range lost, or its channel is fenced where it holds a carve-out (R140, R141). -/
def State.lateRetire (s : State) (k : Nat) : State :=
  let c := k / 4
  let r := k % 4
  let st := fun (r : Nat) => smGet 0 s.dram.retired (4 * c + r)
  let keep := fun (key v : Nat) => { s with dram := { s.dram with retired := smSet 0 key v s.dram.retired } }
  let spare := s.spareRank c
  if st r ≠ 0 then s
  else if s.on R.DCH_HOST_SPARE c && decide (r = spare) then
    { s with dram := { s.dram with spareBad := setBitTo s.dram.spareBad c true } }.rankEvent 1 1 c r
  else
    let s' := keep k 1
    if s.on R.DCH_HOST_SPARE c && !bit s.dram.spareBad c && (List.range 4).all (fun x => decide (st x = 0)) then
      s'.rankEvent 1 0 c r
    else if s.holdsCarve c r then (keep (32 + c) (4 + r)).rankEvent 1 0 c r
    else ((keep k 3).rankEvent 1 0 c r).staticLost r

/-- The ranks of a channel after training (R132, R139): a rank recorded as retiring or retired is replaced by the spare, and
a rank that fails training takes a free spare, with the events of R136; a spare that fails is out of service with an event
(R142). Whether the channel can serve. -/
def State.chanTrain (s : State) (c : Nat) (rankBad : List Nat) : Bool × State :=
  let spare := s.spareRank c
  let has := s.on R.DCH_HOST_SPARE c
  let s := (List.range 4).foldl (fun s r =>
    let v := smGet 0 s.dram.retired (4 * c + r)
    let v := if v = 1 then 2 else v
    let s := { s with dram := { s.dram with retired := smSet 0 (4 * c + r) v s.dram.retired } }
    s.wr R.DCH_RANK_STATE v c r) s
  let bad := ((List.range 4).filter (fun r => rankBad.contains (4 * c + r)))
  let s := if has && bad.contains spare && !bit s.dram.spareBad c then
      { s with dram := { s.dram with spareBad := setBitTo s.dram.spareBad c true } }.rankEvent 1 1 c spare
    else s
  let used := (List.range 4).any (fun r => decide (s.rd R.DCH_RANK_STATE c r = 2))
  let free := has && !used && !bit s.dram.spareBad c
  let need := bad.filter (fun r => !(has && decide (r = spare)) && decide (s.rd R.DCH_RANK_STATE c r = 0))
  match need with
  | [] => (!(used && bit s.dram.spareBad c), s.put R.DCH_STAT_SPARE_FREE free c)
  | [r] =>
    if free then
      let s := { s with dram := { s.dram with retired := smSet 0 (4 * c + r) 2 s.dram.retired } }.wr R.DCH_RANK_STATE 2 c r
      (true, (((s.put R.DCH_STAT_SPARE_FREE false c).rankEvent 1 0 c r).rankEvent 0 1 c r))
    else (false, s)
  | _ => (false, s)

/-- Serving fewer channels than the interleave (R143): the largest aligned power-of-two group of healthy channels, the
lowest such; the device holds no more than SL2, and without any channel no more than SL1. -/
def State.degrade (s : State) : State :=
  let up := fun (c : Nat) => decide (s.rd R.DCH_STAT_STATE c = 2)
  let grp := [8, 4, 2, 1].findSome? (fun n =>
    ((List.range (8 / n)).find? (fun k => (List.range n).all (fun i => up (k * n + i)))).map (fun k => (k * n, n)))
  match grp with
  | none => ((s.put R.DRM_STAT_DEGRADED true).wr R.DRM_HOSTSZ_HOST_SZ 0).setBad 9
  | some (b, n) =>
    let s := ((s.put R.DRM_STAT_DEGRADED true).wr R.DRM_STAT_GRP_BASE b).wr R.DRM_STAT_WAYS (Nat.log2 (2 * n))
    let s := (List.range 4).foldl (fun s k =>
      s.put R.DRM_CHM_HI_EN (decide (k < s.rd R.DRM_STAT_WAYS)) k) s
    (s.wr R.DRM_HOSTSZ_HOST_SZ (s.rd R.DCH_HOST_H b * n / 2)).setBad 4

/-- The population found in a channel is the one that section 0x03 declares: rank count, rank capacity and 3DS height, of x4
devices, and one DIMM where they are MRDIMMs (R105, R107). -/
def State.popOk (s : State) (h : HwFound) (c : Nat) : Bool :=
  let g := s.ergBase 3 (2 + c) 0
  decide (h.ranks.getD c 0 = bits g 0 3) && decide (h.rankGib.getD c 0 = bits g 3 9) &&
  decide (h.cidw.getD c 0 = bits g 12 2) && bit h.x4 c && !(decide (bits g 15 2 = 1) && bit g 14)

/-- The highest rate that a channel's population, its DIMMs and the image permit (R106). -/
def State.chanRate (s : State) (h : HwFound) (c : Nat) : Nat :=
  min (s.ergBase 3 0 88) (min (s.popRate c) (h.dramRate.getD c 0))

/-- A populated channel of the interleave that may serve if it trains: as declared, its slice passed, no carve-out lost on it
(R141), and a rate of 4,800 MT/s or more; the spec gives no rate below that. [DESIGN CHOICE, unsafe: log 192] -/
def State.chanSound (s : State) (h : HwFound) (pop c : Nat) : Bool :=
  bit pop c && (chansOf s.ergBase).contains c && s.popOk h c && !s.sliceFenced (2 + c / 2) && decide (48 ≤ s.chanRate h c) &&
  decide (smGet 0 s.dram.retired (32 + c) = 0)

/-- The registers that a channel's population gives. -/
def State.chanFound (s : State) (h : HwFound) (c rate : Nat) : State :=
  let s := (s.wr R.DCH_GEO_COLW (h.colw.getD c 0) c).wr R.DCH_GEO_CIDW (h.cidw.getD c 0) c
  ((s.wr R.DCH_GEO_ROWW (h.roww.getD c 0) c).wr R.DCH_GEO_RATE rate c).put R.DCH_REF_RFM_REQ (bit h.rfm c) c

/-- The ranges that are offline under the decode in use: those of the ranks recorded Offline in the channels of the group
(R140, R142, R143). [DEDUCED, unsafe: log 202] -/
def State.offlineNow (s : State) : State :=
  let base := s.rd R.DRM_STAT_GRP_BASE
  let n := 2 ^ (s.rd R.DRM_STAT_WAYS - 1)
  let ks := s.dram.retired.filter (fun e => decide (e.2 = 3) && decide (base ≤ e.1 / 4) && decide (e.1 / 4 < base + n))
  { s with host := { s.host with offline := (ks.map (fun e => s.rankRange (e.1 % 4))).eraseDups } }

/-- The scrub of every line begins with this boot (R131). -/
def State.scrubBoot (s : State) : State :=
  { s with dram := { s.dram with scrubAt := [], scrubDone := false, scrubFrom := s.tick } }

/-- DRAM training and its outcome (R105 to R107, R132, R139, R142, R143). All channels that can serve run at one rate, the
lowest of theirs (R106). The extents of a range that is offline are forcibly removed (R80), but in a boot with fewer channels, which changes
nothing of the memory image (R143). -/
def State.dramBoot (s : State) (h : HwFound) : State :=
  let cs := chansOf s.ergBase
  let pop := if s.on R.TOP_ID_PART then h.dramPop % 16 else h.dramPop % 256
  let s := (s.wr R.DRM_STAT_CH_POP pop).serialCheck h.serials
  let late := s.dram.retLater
  let s : State := late.foldl (fun (s : State) k => s.lateRetire k)
    { s with dram := { s.dram with retLater := [], sbRef := h.refSb } }
  let rate := (cs.filter (s.chanSound h pop)).foldl (fun m c => min m (s.chanRate h c)) (s.ergBase 3 0 88)
  let s := (List.range 8).foldl (fun s c =>
    let s := s.chanFound h c rate
    if !bit pop c then s.wr R.DCH_STAT_STATE 0 c
    else
      let sound := s.chanSound h pop c
      let (ok, s) := s.chanTrain c h.rankBad
      if ok && sound then s.wr R.DCH_STAT_STATE 2 c
      else (s.wr R.DCH_STAT_STATE 1 c).wr R.DRM_STAT_CH_FENCE (setBitTo (s.rd R.DRM_STAT_CH_FENCE) c true)) s
  let s := ([2, 3, 4, 5, 22].foldl (fun s n => s.pdSet n true) s).scrubBoot
  if cs.all (fun c => decide (s.rd R.DCH_STAT_STATE c = 2)) then
    let s := s.offlineNow
    s.host.offline.foldl (fun s o => s.dcForced o.1 o.2) s
  else s.degrade.gmaxSet.offlineNow

/-- The declared geometry is one that the device accepts: a page holds its codewords, and a plane-block at least 256 slots
(R244, R267). -/
def State.geometryOk (s : State) : Bool :=
  decide (s.pageKib / 4 * 4640 ≤ s.pageKib * 1024 + s.ergBase 0x04 41 0) && decide (256 ≤ s.spb)

/-- A die is retired: the blocks that hold data narrow their superblock at its next erase (R296, R297). -/
def State.dieOut (s : State) (c d : Nat) : State :=
  (s.sbList.filter (fun e => decide (s.blocksPer ≠ 0) && decide (e.1 / s.blocksPer = d) && e.2.members.contains c)).foldl
    (fun s e => if (1 ≤ e.2.state ∧ e.2.state ≤ 3) ∧ !e.2.retireNext.contains c
      then s.setSb e.1 { e.2 with retireNext := e.2.retireNext ++ [c] } else s) s

/-- A copy of an extended timing descriptor that the device may use: signature, version, and CRC-16 with polynomial 0x8005 and
initial value 0x4F4E (Table 8-2). -/
def xtValid (d : List Nat) : Bool :=
  decide (d.length = 64) && decide (d.take 5 = [0x45, 0x42, 0x58, 0x54, 1]) &&
  decide ((d.take 62).foldl (crcByteN 16 0x8005) 0x4F4E = ofLe (d.drop 62))

/-- The descriptor of a die: the first copy whose CRC matches. -/
def xtOf (h : HwFound) (k : Nat) : Option (List Nat) := (smGet [] h.xtDesc k).find? xtValid

/-- The declared pseudo-SLC program time of a die: of its descriptor, else of the vendor table (R243). -/
def slcTimeOf (h : HwFound) (k : Nat) : Nat :=
  match xtOf h k with
  | some d => ofLe ((d.drop 8).take 2)
  | none => h.tProgSlc.getD (k / 128) 0

/-- A declared die in discovery (R242, Table 8-3). A die fenced at two cold boots in a row is retired (R297); the superblocks
with a member on a fenced die are scheduled for rewrite. -/
def State.dieBoot (s : State) (c d : Nat) (h : HwFound) : State :=
  let k := dieKey c d
  let x := s.die k
  if h.dies.contains k && !x.retired && s.geometryOk then s.setDie k { x with state := 1, slcTime := slcTimeOf h k, offs := [] }
  else
    let s := (s.setDie k { x with state := 2, retired := x.retired || x.fencedBefore, slcTime := slcTimeOf h k, offs := [] }).fenceBit k
    let s := if x.fencedBefore && !x.retired then s.dieOut c d else s
    (s.sbList.filter (fun e => decide (s.blocksPer ≠ 0) && decide (e.1 / s.blocksPer = d) && e.2.members.contains c)).foldl
      (fun s e => s.rewriteSched e.1) s

/-- The dies of a channel that are in service. -/
def State.diesUp (s : State) (c : Nat) : List Nat := ((List.range 128).map (dieKey c)).filter s.dieUp

/-- The base mode of a channel and the extended rate that its dies and XT_MAX permit (R239): every die has a valid descriptor of the
same base mode; the rate is the lowest of theirs and XT_MAX, rounded down to one of Table 8-1; 0 where there is none. -/
def State.xtFound (s : State) (h : HwFound) (c : Nat) : Nat × Nat :=
  let ds := (s.diesUp c).map (xtOf h)
  match ds with
  | some d :: _ =>
    let base := d.getD 5 0
    if ds.all (fun e => match e with | some x => decide (x.getD 5 0 = base) | none => false) ∧ (base = 2 ∨ base = 3) then
      let r := ds.foldl (fun m e => match e with | some x => min m (ofLe ((x.drop 6).take 2)) | none => m) (s.rd R.FCC_XT_XT_MAX)
      (base, if r < 4000 then 0 else if r < 4400 then 4000 else if r < 4800 then 4400 else 4800)
    else (base, 0)
  | _ => (2, 0)

/-- The extended rates from a rate down. -/
def xtRates (r : Nat) : List Nat := [4800, 4400, 4000].filter (fun x => decide (x ≤ r))

/-- The interface mode of a channel (R238, R239): in extended timing the highest rate at which training passes, each failed one a step
down; else the declared or base mode at the highest rate that every die declares and the mode permits.
[DESIGN CHOICE, safe: log 213] -/
def State.chanMode (s : State) (h : HwFound) (c : Nat) : State :=
  let declared := bits (s.ergBase 4 (c / 8) 0) (4 * (c % 8)) 4
  let (b, x) := s.xtFound h c
  let base := if declared = 4 then b else declared
  let std := (s.diesUp c).foldl (fun m k => min m (smGet 0 h.dieRate k)) (Config.modeRate base)
  let s := { s with flash := { s.flash with baseRate := smSet 0 c std s.flash.baseRate, baseMode := smSet 0 c base s.flash.baseMode,
                                            xtAt := smSet 0 c s.tick s.flash.xtAt } }
  let ok := fun (r : Nat) => bit (h.xtTrain.getD c 0) ((r - 4000) / 400)
  let tried := if declared = 4 ∧ x ≠ 0 then (xtRates x).takeWhile (fun r => !ok r) else []
  let s := s.wr R.FCH_XTST_STEPS tried.length c
  match (if declared = 4 ∧ x ≠ 0 then (xtRates x).find? ok else none) with
  | some r => ((s.put R.FCH_XTST_XT_ON true c).wr R.FCH_STAT_MODE 4 c).wr R.FCH_STAT_RATE r c
  | none => (s.wr R.FCH_STAT_MODE base c).wr R.FCH_STAT_RATE std c

/-- NAND discovery and training (R239 to R243, Table 8-3); fenced groups and clusters stay fenced. -/
def State.flashBoot (s : State) (h : HwFound) : State :=
  let s := (List.range 32).foldl (fun s c =>
    let ds := (List.range 128).filter (s.dieDeclared c)
    let s := ds.foldl (fun s d => s.dieBoot c d h) s
    if ds.isEmpty then s
    else
      let s := if bit (s.rd R.FCC_CHFENCE_FENCE) c then s else s.wr R.FCH_STAT_STATE 2 c
      let s := (s.chanMode h c).chanRefresh c
      let s := (s.put R.FCH_GEO0_PSUS (bit h.psus c) c).put R.FCH_GEO0_ESUS (bit h.esus c) c
      let s := (s.wr R.FCH_TDECL0_TR (h.tRead.getD c 0) c).wr R.FCH_TDECL0_TPROG_SLC
        ((s.diesUp c).foldl (fun m k => max m (s.die k).slcTime) 0) c
      (s.wr R.FCH_TDECL1_TPROG (h.tProg.getD c 0) c).wr R.FCH_TDECL1_TBERS (h.tErase.getD c 0) c) s
  let s := h.extra.foldl (fun s k => (s.setDie k { s.die k with state := 3 }).note 0x06 2 k) s
  let s := (List.range 8).foldl (fun s g => if (s.grpChans g).isEmpty then s else s.groupOn g) s
  s.wr R.FTL_DIES_DIES_RET (s.flash.dies.filter (fun e => e.2.retired)).length

/-- A device that cannot reach SL3 zeroes its host memory and serves SL2 with memory ready; without DRAM or a port it stays
below (R143, R446, R447, R448). -/
def State.serveSl2 (s : State) : State :=
  let s := s.wr R.BST_STAT_STAGE 11
  if (s.capOf true).1 = 2 then
    let s := { s with mem := [], poison := [] }
    (s.put R.CVN_STAT_READY true).trackOff.setLevel 2 |>.goAll
  else s

/-- HARDWARE_INIT_DONE (R442 stage 8): DRAM, flash and their domains are up; a device that can reach SL3 waits for its pack,
any other serves what its units permit (R49, R143). Where a warm reset began boot anew, the flash channels end what they had first
(R263, R453). -/
def State.doHardwareInitDone (s : State) (h : HwFound) : State :=
  if s.stage ≠ 8 ∨ (s.flash.stopping ∧ !s.flash.ops.isEmpty) then s
  else
    let s := ({ s with flash := { s.flash with stopping := false }, cvn := { s.cvn with unread := h.unread } }.dramBoot h).flashBoot h
    let s := [18, 19, 20, 21, 23].foldl (fun s n => s.pdSet n true) s
    let s := s.account
    let s : State := { s.wr R.BST_STAT_STAGE 9 with boot := { s.boot with waitAt := s.tick } }
    if (s.capOf true).1 < 3 then s.serveSl2 else s

/-- HOST_PORT_READY (R444): a port of the image is ready to train, and trains once its PERST is released. -/
def State.doHostPortReady (s : State) (port : Nat) : State :=
  if s.boot.inReset ∨ 2 ≤ port ∨ !s.on R.HP_STAT_ACTIVE port then s
  else
    let s := { s with host := { s.host with ready := setBitTo s.host.ready port true } }
    if bit s.host.perst port ∨ s.rd R.HP_STAT_LINK port ≠ 0 then s else s.wr R.HP_STAT_LINK 1 port

/-- BOOT_END (R445, R447): with the namespace maps loaded the device reaches SL4; boot ends when CUR equals CAP. TRIES is
cleared (R482), the structure in force is recorded (R57), and the record of the boot is raised. [DEDUCED, unsafe: log 160] -/
def State.doBootEnd (s : State) : State :=
  if s.boot.inReset ∨ s.on R.BST_STAT_DONE ∨ s.boot.warm then s
  else
    let cap := (s.capOf true).1
    let s := if s.level = 3 ∧ cap = 4 ∧ s.on R.CVN_STAT_READY ∧ s.on R.FTL_STAT_MAP_IMG then
        ((s.put R.FTL_STAT_MAP_NS true).put R.NVC_STAT_RUN true).setLevel 4 else s
    if s.level ≠ cap then s
    else
      let s := s.put R.BST_STAT_DONE true
      let s := s.wr R.BST_BTIME_T_END (min 65535 (s.sinceRelease / 10))
      let s := if s.fwu.tries = 0 then s else s.fwSelect s.fwu.run s.fwu.next s.fwu.trial 0
      let s := if s.erg.loaded ∧ !s.erg.reformMark then
          (if s.erg.recStruct = some (structOf s.erg.base) then s
           else { s with erg := { s.erg with recStruct := some (structOf s.erg.base) } }.digestWrite) else s
      s.signal (.fixed 0x1001 0) 0xFFFFFFFF
        (leBytes 4 (s.rd R.BST_RST_TYPE + 8 * s.rd R.BST_RST_SRC) ++
         leBytes 4 (s.level + 8 * s.rd R.BST_SL_CAP + 256 * s.rd R.BST_SL_LIMIT) ++
         leBytes 4 (s.rd R.BST_BTIME_T_SL1 + 65536 * s.rd R.BST_BTIME_T_END))

/-! ### The commands -/

/-- COLD_RESET_RELEASE (R442). -/
def execColdResetRelease (pins : Nat) (s : State) :
    Host.Outcome State Fault Refusal := ok s (·.doColdResetRelease pins)

/-- SLICE_DONE (R438). -/
def execSliceDone (slice : Nat) (pass : Bool) (sig : Nat) (us : Nat) (pats : Nat) (s : State) :
    Host.Outcome State Fault Refusal := ok s (·.doSliceDone slice pass sig us pats)

/-- SLICE_BUDGET_EXPIRY (R439). -/
def execSliceBudgetExpiry (slice : Nat) (sig : Nat) (pats : Nat) (s : State) :
    Host.Outcome State Fault Refusal := ok s (·.doSliceBudgetExpiry slice sig pats)

/-- CORE_CHECK_DONE (R440). -/
def execCoreCheckDone (core : Nat) (pass : Bool) (s : State) :
    Host.Outcome State Fault Refusal := ok s (·.doCoreCheckDone core pass)

/-- BOOT_AREA_VERIFY (R442). -/
def execBootAreaVerify (ok0 : Bool) (ok1 : Bool) (s : State) :
    Host.Outcome State Fault Refusal := ok s (·.doBootAreaVerify ok0 ok1)

/-- ODBER_LOAD (R482). -/
def execOdberLoad (s : State) : Host.Outcome State Fault Refusal := ok s (·.doOdberLoad)

/-- ERG_VALIDATION (R52). -/
def execErgValidation (s : State) : Host.Outcome State Fault Refusal := ok s (·.doErgValidation)

/-- HARDWARE_INIT_DONE (R442). -/
def execHardwareInitDone (found : HwFound) (s : State) :
    Host.Outcome State Fault Refusal := ok s (·.doHardwareInitDone found)

/-- HOST_PORT_READY (R444). -/
def execHostPortReady (port : Nat) (s : State) : Host.Outcome State Fault Refusal := ok s (·.doHostPortReady port)

/-- BOOT_END (R445). -/
def execBootEnd (s : State) : Host.Outcome State Fault Refusal := ok s (·.doBootEnd)

/-- WATCHDOG_EXPIRY (R454). -/
def execWatchdogExpiry (core : Nat) (s : State) : Host.Outcome State Fault Refusal := ok s (·.doWatchdogExpiry core)

/-- CORE_RESTART (R454). -/
def execCoreRestart (core : Nat) (s : State) : Host.Outcome State Fault Refusal := ok s (·.doCoreRestart core)

end Sys2Proof.Machine
end

