-- ==== Sys2Proof/Machine/Twi.lean ====
section
/-!
DEFINITION. The two-wire ports (R398 to R419): the command codes and alerts of TWI0, MCTP and NVMe-MI (R413, R414),
controller transfers with their retries and statuses (R409), time-outs (R405 to R407) and bus clear (R416).
-/
namespace Sys2Proof.Machine

/-! ### Serving TWI0 -/

/-- A save of code 1 or 2 has begun (R418). -/
def State.saveHard (s : State) : Bool := decide (s.cvn.code = 1) || decide (s.cvn.code = 2)

/-- A command code is refused: not acknowledged and counted (R408, R410, R418). -/
def State.twiRefuse (s : State) : State := (s.inc R.TWI_CNT2_CMD_NACK 0).emit .twiNack

/-- The first address at A0: with main power and the fast path asleep, stretch mode wakes it and serves, no-stretch mode
wakes it and refuses the address; with no supply nothing answers (R408). -/
def State.twiAddress (s : State) (f : State → State) : State :=
  if !s.seq.main && !s.seq.vbat then s
  else if s.seq.main && s.on R.TWI_STAT_SLEEP 0 then
    if s.on R.TWI_STAT_STRETCH 0 then f (s.pdWake 29)
    else ((s.pdWake 29).inc R.TWI_CNT2_WAKE_NACK 0).emit .twiNack
  else f s

/-- The fast path serves codes above 0x09: main power, SL1, and no save of code 1 or 2 (R408, R410, R418).
[DEDUCED, unsafe: log 144] -/
def State.fastPath (s : State) : Bool := s.seq.main && decide (1 ≤ s.level) && !s.saveHard

/-- A write with a PEC that does not match is discarded and counted (R411). -/
def State.twiPec (s : State) (pec : Bool) (f : State → State) : State :=
  if pec then f s else (s.inc R.TWI_CNT1_PEC_ERR 0).emit .twiNack

/-- IDENT (Table 15-5, code 0x00). -/
def State.doIdent (s : State) : State :=
  s.twiAddress (fun s => s.emit (.twi 0
    ([Config.standardByte 0 0 % 256, Config.standardByte 0 1 % 256] ++ leBytes 2 (s.rd R.CAL_HWTYPE_HW_TYPE) ++
     [0xB0, s.level, 0, 0] ++ (List.range 4).flatMap (fun k => leBytes 4 (s.rd R.CAL_UID_UID k)))))

/-- STATUS (Table 15-5, code 0x01). -/
def State.doStatus (s : State) : State :=
  s.twiAddress (fun s => s.emit (.twi 0
    [s.level, s.rd R.SEQ_STAT_STATE, s.rd R.GAU_STAT_PSTATE, s.rd R.EVR_STAT_RET_CNT, s.rd R.TWI0_ALERT_CAUSE,
     s.persState, 0, 0]))

/-- Clear alert causes (R412). -/
def State.alertClear (s : State) (mask : Nat) : State :=
  (s.wr R.TWI0_ALERT_CAUSE (s.rd R.TWI0_ALERT_CAUSE - Nat.land (s.rd R.TWI0_ALERT_CAUSE) mask)).alertRefresh

/-- ALERT_ACK (Table 15-5, code 0x02). -/
def State.doAlertAck (s : State) (mask : Nat) (pec : Bool) : State :=
  s.twiAddress (fun s => s.twiPec pec (fun s => s.alertClear (mask % 256)))

/-- ALERT_RESPONSE (R412): while it drives TWI_ALERT_N the device answers with A0; if it wins the arbitration it releases
the line until a cause newly sets. -/
def State.doAlertResponse (s : State) (won : Bool) : State :=
  if !s.on R.TWI0_ALERT_ASSERTED then s
  else if won then
    ({ s with twi := { s.twi with acked := true } }.alertRefresh).emit (.twi 0 [2 * s.rd R.TWI_STAT_OWN_ADDR 0])
  else s

/-- REC_SEL (Table 15-5, code 0x08): the pointer of TWI0 moves and a prefetch starts (R467). [DEDUCED, unsafe: log 143] -/
def State.doRecSel (s : State) (area index : Nat) (pec : Bool) : State :=
  s.twiAddress (fun s => s.twiPec pec (fun s => s.twiPrefetch (area % 256) (index % 65536)))

/-- REC_READ (Table 15-5, code 0x09): one record or count 0, then the next index. In no-stretch mode the read address is
not acknowledged until the latch is ready; in stretch mode the port stretches until it is (R467). An area other than 0
needs main power and SL1. -/
def State.doRecRead (s : State) : State :=
  s.twiAddress (fun s =>
    if s.evr.twiArea ≠ 0 ∧ (!s.seq.main ∨ s.level = 0) then s.twiRefuse
    else if s.evr.twiLatch = none ∧ !s.on R.TWI_STAT_STRETCH 0 then
      { s with evr := { s.evr with twiFetching := true } }.emit .twiNack
    else
      let s := if s.evr.twiLatch = none then s.twiLatchRec else s
      let s := match s.evr.twiLatch with
        | some (_, some x) => s.emit (.twi 64 (recBytes x.record x.seq))
        | _ => s.emit (.twi 0 [])
      s.twiPrefetch s.evr.twiArea (nextIndex s.evr.twiArea s.evr.twiIndex))

/-- FAST_PATH_WAKE (R408): an address meets a sleeping fast path. -/
def State.doFastPathWake (s : State) : State :=
  if s.seq.main && s.on R.TWI_STAT_SLEEP 0 then s.twiAddress (fun s => s) else s

/-! ### MCTP (R413) -/

/-- A message in assembly is discarded and counted. -/
def State.mctpDrop (s : State) (src tag : Nat) : State :=
  { s with twi := { s.twi with asm := s.twi.asm.filter (fun m => decide (¬ (m.src = src ∧ m.tag = tag))) } }.inc
    R.TWI_CNT2_MCTP_DROP 0

/-- Little-endian number of a run of bytes of a message. -/
def msgLe (d : List Nat) (off n : Nat) : Nat := ofLe ((d.drop off).take n)

/-- The command that a message carries: control commands under DSP0236, NVMe-MI requests and the vendor messages of R415;
none for a message whose type, command or vendor ID is not implemented. -/
def mctpDecode (d : List Nat) : Option Instr :=
  let b := fun (i : Nat) => d.getD i 0
  match b 0 % 128 with
  | 0x00 =>
    match b 2 with
    | 1 => some (.setEndpointId (b 4))
    | 2 => some .getEndpointId
    | 3 => some .getEndpointUuid
    | 4 => some (.getMctpVersionSupport (b 3))
    | 5 => some .getMessageTypeSupport
    | 6 => some (.getVendorDefinedMessageSupport (b 3))
    | _ => none
  | 0x04 =>
    if b 1 / 8 % 16 = 1 then
      match b 4 with
      | 0 => some (.readNvmeMiDataStructure (b 11) (b 10) (msgLe d 8 2))
      | 1 => some (.nvmSubsystemHealthStatusPoll (bit (b 15) 7))
      | 2 => some (.controllerHealthStatusPoll (msgLe d 8 2) (b 10 + 1))
      | 3 => some (.configurationSet (b 8) (msgLe d 9 7))
      | 4 => some (.configurationGet (b 8))
      | _ => none
    else if b 1 / 8 % 16 = 2 then some (.nvmeAdminTunnel (msgLe d 6 2) (b 4) (msgLe d 8 4) (msgLe d 44 4))
    else none
  | 0x7E =>
    if b 1 = Config.standardByte 0 0 % 256 ∧ b 2 = Config.standardByte 0 1 % 256 then
      match b 3 with
      | 1 => some (.registerRead (msgLe d 4 4) (b 8))
      | 2 => some (.registerWrite (msgLe d 4 4) (msgLe d 8 4))
      | 3 => some (.longOperationIssue (b 4) ((List.range 6).map (fun k => msgLe d (8 + 4 * k) 4)))
      | 4 => some (.completionRingRead (b 4))
      | _ => none
    else none
  | _ => none

/-- A complete message is processed in arrival order; an unimplemented one is answered with its error: completion code
0x05 for a control command, Invalid for a vendor opcode (R413, Table 21-3), Invalid Opcode for NVMe-MI. -/
def State.mctpMessage (s : State) (d : List Nat) : State :=
  match mctpDecode d with
  | some i => { s with resumed := s.resumed ++ [i] }
  | none =>
    match d.getD 0 0 % 128 with
    | 0x00 => s.emit (.twi 5 [])
    | 0x04 => s.emit (.twi 3 [])
    | 0x7E => s.emit (.twi 2 [])
    | _ => s.inc R.TWI_CNT2_MCTP_DROP 0

/-- One packet joins its message (R413): 64 B of payload at most, at most 4 messages in assembly, 4,224 B a message, and
100 ms between packets. [DEDUCED, unsafe: log 145] [DEDUCED, unsafe: log 147] -/
def State.mctpPacket (s : State) (src tag : Nat) (som eom : Bool) (data : List Nat) : State :=
  let old := s.twi.asm.find? (fun m => decide (m.src = src) && decide (m.tag = tag))
  let s := if som && old.isSome then s.mctpDrop src tag else s
  let cur : Option (List Nat) := if som then some [] else
    match old with
    | some m => some m.data
    | none => none
  match cur with
  | none => s
  | some d0 =>
    let d := d0 ++ data
    let late := !som && decide ((old.map (·.tick)).getD 0 + 3277 ≤ s.tick)
    if decide (64 < data.length) || decide (4224 < d.length) || late then s.mctpDrop src tag
    else
      let rest := s.twi.asm.filter (fun m => decide (¬ (m.src = src ∧ m.tag = tag)))
      if eom then { s with twi := { s.twi with asm := rest } }.mctpMessage d
      else if 4 ≤ rest.length then s.mctpDrop src tag
      else { s with twi := { s.twi with asm := rest ++ [{ src := src, tag := tag, data := d, tick := s.tick }] } }

/-- MCTP (Table 15-5, code 0x0F). -/
def State.doMctp (s : State) (src tag : Nat) (som eom : Bool) (data : List Byte) (pec : Bool) : State :=
  s.twiAddress (fun s =>
    if !s.fastPath then s.twiRefuse
    else s.twiPec pec (fun s => s.mctpPacket src tag som eom (data.map (·.toNat))))

/-- MCTP_ASSEMBLY_TIMEOUT (R413): more than 100 ms since the message's last packet. -/
def State.doMctpAssemblyTimeout (s : State) (src tag : Nat) : State :=
  if s.twi.asm.any (fun m => decide (m.src = src) && decide (m.tag = tag) && decide (m.tick + 3277 ≤ s.tick)) then
    s.mctpDrop src tag
  else s

/-- A message over TWI0 is processed: while the fast path serves, and not during a firmware activation, when it waits
(R478), nor while the core that owns the ports does not run (R28). -/
def State.mctpServe (s : State) (i : Instr) (f : State → State) : State :=
  if !s.fastPath then s.twiRefuse
  else if decide (s.fwu.act ≠ 0) || !s.roleRuns 0 then { s with loq := { s.loq with waiting := s.loq.waiting ++ [i] } }
  else f s

/-- An NVMe-MI message is processed; the boot block runs none, and the message is discarded (R443). -/
def State.miServe (s : State) (i : Instr) (f : State → State) : State :=
  s.mctpServe i (fun s => if s.boot.bootBlock then s.inc R.TWI_CNT2_MCTP_DROP 0 else f s)

/-- The endpoint ID in use: T0_EID, or the one assigned (R413). -/
def State.eidNow (s : State) : Nat :=
  let t := s.ergBase 0x06 3 0
  if t ≠ 0 then t else s.twi.eid

/-- SET_ENDPOINT_ID (R413): a static T0_EID rejects the assignment; 0 and 0xFF are invalid data. -/
def State.doSetEndpointId (s : State) (eid : Nat) : State :=
  s.mctpServe (.setEndpointId eid) (fun s =>
    if eid = 0 ∨ 255 ≤ eid then s.emit (.twi 2 [])
    else if s.ergBase 0x06 3 0 ≠ 0 then s.emit (.twi 0 [0x10, s.eidNow, 0])
    else { s with twi := { s.twi with eid := eid } }.emit (.twi 0 [0, eid, 0]))

/-- GET_ENDPOINT_ID (R413). -/
def State.doGetEndpointId (s : State) : State :=
  s.mctpServe .getEndpointId (fun s =>
    s.emit (.twi 0 [s.eidNow, b2n (decide (s.ergBase 0x06 3 0 ≠ 0)), 0]))

/-- GET_ENDPOINT_UUID (R413). -/
def State.doGetEndpointUuid (s : State) : State :=
  s.mctpServe .getEndpointUuid (fun s => s.emit (.twi 0 ((List.range 16).map (fun k => Config.standardByte 3 k % 256))))

/-- The message types (R413). -/
def mctpTypes : List Nat := [0x00, 0x04, 0x7E]

/-- GET_MCTP_VERSION_SUPPORT (R413): DSP0236 1.3 for the base and for control. [PRESUMED, unsafe: log 146] -/
def State.doGetMctpVersionSupport (s : State) (mtype : Nat) : State :=
  s.mctpServe (.getMctpVersionSupport mtype) (fun s =>
    if mtype = 255 ∨ mtype = 0 then s.emit (.twi 0 [1, 0xF1, 0xF3, 0xF0, 0])
    else if mctpTypes.contains mtype then
      s.emit (.twi 0 (1 :: (List.range 4).map (fun k => Config.standardByte 2 (4 * mtype + k) % 256)))
    else s.emit (.twi 0x80 []))

/-- GET_MESSAGE_TYPE_SUPPORT (R413). -/
def State.doGetMessageTypeSupport (s : State) : State :=
  s.mctpServe .getMessageTypeSupport (fun s => s.emit (.twi 0 (mctpTypes.length :: mctpTypes)))

/-- GET_VENDOR_DEFINED_MESSAGE_SUPPORT (R413, R415): one set, the PCI vendor ID. -/
def State.doGetVendorDefinedMessageSupport (s : State) (set : Nat) : State :=
  s.mctpServe (.getVendorDefinedMessageSupport set) (fun s =>
    if set ≠ 0 then s.emit (.twi 2 [])
    else s.emit (.twi 0 [0xFF, 0, Config.standardByte 0 0 % 256, Config.standardByte 0 1 % 256, 0, 0]))

/-! ### NVMe-MI (R414) -/

/-- READ_NVME_MI_DATA_STRUCTURE: subsystem, port, controller list, controller and optional-command structures; bytes that
the NVMe-MI specification fixes are open values. -/
def State.doReadNvmeMiDataStructure (s : State) (dtype port ctrl : Nat) : State :=
  s.miServe (.readNvmeMiDataStructure dtype port ctrl) (fun s =>
    if dtype = 2 then
      let l := s.fnIds.filter (fun c => decide (ctrl ≤ c))
      s.emit (.twi 0 (l.length :: l))
    else if dtype = 3 ∧ ¬ s.fnIds.contains ctrl then s.emit (.twi 4 [])
    else if dtype ≤ 4 then
      s.emit (.twi 0 ((List.range 32).map (fun k => Config.standardByte (16 + dtype) (32 * port + k) % 256)))
    else s.emit (.twi 4 []))

/-- NVM_SUBSYSTEM_HEALTH_STATUS_POLL: port activity, the critical warnings inverted, temperature and drive life; the
composite controller status is the NVMe-MI specification's own and an open value. -/
def State.doNvmSubsystemHealthStatusPoll (s : State) (clear : Bool) : State :=
  s.miServe (.nvmSubsystemHealthStatusPoll clear) (fun s =>
    let (v, s) := s.free
    s.emit (.twi 0 [0x30 + 8 * b2n (s.on R.HP_STAT_ACTIVE 0) + 4 * b2n (s.on R.HP_STAT_ACTIVE 1), 255 - s.critWarn,
                    s.rd R.PWR_THERM_TJ, s.rd R.FTL_LIFE_PCT_USED, v % 65536]))

/-- CONTROLLER_HEALTH_STATUS_POLL: for each controller from `ctrl`, its number, ready and failure status, temperature,
life, spare and warnings. -/
def State.doControllerHealthStatusPoll (s : State) (ctrl count : Nat) : State :=
  s.miServe (.controllerHealthStatusPoll ctrl count) (fun s =>
    let l := (s.fnIds.filter (fun c => decide (ctrl ≤ c))).take count
    let cfs := s.on R.BST_STAT_DONE && decide (s.level < 4)
    s.emit (.twi 0 (l.length :: l.flatMap (fun c =>
      [c, b2n (s.fn c).rdy + 2 * b2n cfs + 8 * b2n (s.fn c).shst, s.rd R.PWR_THERM_TJ, s.rd R.FTL_LIFE_PCT_USED,
       s.rd R.FTL_AVAIL_AVAIL, s.critWarn]))))

/-- CONFIGURATION_SET: 1 bus frequency, 2 health-status clear, 3 the MCTP transmission unit, which is 64 B only. -/
def State.doConfigurationSet (s : State) (id value : Nat) : State :=
  s.miServe (.configurationSet id value) (fun s =>
    if (id = 1 ∧ value % 16 ≠ 0 ∧ value % 16 ≤ 3) ∨ id = 2 then
      { s with twi := { s.twi with miConf := smSet 0 id value s.twi.miConf } }.emit (.twi 0 [])
    else if id = 3 ∧ value % 65536 = 64 then s.emit (.twi 0 [])
    else s.emit (.twi 4 []))

/-- CONFIGURATION_GET. -/
def State.doConfigurationGet (s : State) (id : Nat) : State :=
  s.miServe (.configurationGet id) (fun s =>
    match id with
    | 1 => s.emit (.twi 0 [if smGet 0 s.twi.miConf 1 = 0 then s.rd R.TWI_STAT_RATE 0 + 1 else smGet 0 s.twi.miConf 1])
    | 2 => s.emit (.twi 0 [0])
    | 3 => s.emit (.twi 0 [64])
    | _ => s.emit (.twi 4 []))

/-- A Get Features answer for the tunnel (Table 10-3). -/
def State.featureOf (s : State) (f fid nsid : Nat) : Option Nat :=
  let x := s.fn f
  let q := s.fnQp f - 1
  if fid = 0x02 then some x.ps
  else if fid = 0x07 then some (x.feat 0x07 (q + 65536 * q))
  else if fid = 0x0E then some (x.feat 0x0E 0 + (s.tick - x.feat 0x10E 0) * 1000 / 32768)
  else if fid = 0x05 then some (x.feat (0x1000000 + nsid) 0)
  else if fid = 0xC0 then (if s.nsUp nsid then some (b2n (s.ns nsid).cfgWt) else none)
  else if fid = 0xC1 then some (x.feat 0xC1 3)
  else if ctrlFeats.contains fid then some (x.feat fid 0) else none

/-- NVME_ADMIN_TUNNEL: Identify, Get Log Page for 01h, 02h, 03h, C0h and C1h, and Get Features; other opcodes return Invalid
Command Opcode (R414). -/
def State.doNvmeAdminTunnel (s : State) (ctrl opc nsid arg : Nat) : State :=
  s.miServe (.nvmeAdminTunnel ctrl opc nsid arg) (fun s =>
    if ¬ s.fnIds.contains ctrl then s.emit (.twi 4 [])
    else
      match opc with
      | 0x06 =>
        match s.identify ctrl (arg % 256) nsid with
        | some d => s.emit (.cqe ctrl 0 0 0 0 d)
        | none => s.emit (.cqe ctrl 0 0 0 2 [])
      | 0x02 =>
        if [0x01, 0x02, 0x03, 0xC0, 0xC1].contains (arg % 256) then
          s.emit (.cqe ctrl 0 0 0 0 ((s.logPage ctrl (arg % 256)).getD []))
        else s.emit (.cqe ctrl 0 0 1 9 [])
      | 0x0A =>
        match s.featureOf ctrl (arg % 256) nsid with
        | some v => s.emit (.cqe ctrl 0 0 0 0 [v])
        | none => s.emit (.cqe ctrl 0 0 0 2 [])
      | _ => s.emit (.cqe ctrl 0 0 0 1 []))

/-! ### Controller transfers (R409) -/

/-- A transfer ends with one status of Table 15-4. -/
def State.xferEnd (s : State) (x : TwiXfer) (status : Nat) : State :=
  let s := ((s.wr R.TWI_LAST_STATUS status x.port).wr R.TWI_LAST_ADDR x.addr x.port).wr R.TWI_LAST_TRIES x.tries x.port
  let s := if status = 0 then s.inc R.TWI_CNT0_XFER_OK x.port else if status = 1 then s.inc R.TWI_CNT0_NORESP x.port else s
  { s with twi := { s.twi with run := smSet none x.port none s.twi.run } }

/-- The bus carries a transfer of an idle port as far as it goes without a time-out or a retry: the multiplexer's segment
(R401), arbitration (R404), the address and the data. It ends, or stays in progress. -/
def State.xferRun (s : State) (x : TwiXfer) : State :=
  let n := s.rd R.TWI_POL_RETRY_N x.port
  let mux := s.ergBase 0x06 5 0
  let sel := decide (x.port = 1) && decide (mux ≠ 0) && decide (s.twi.mux ≠ x.seg + 1)
  if sel && x.muxNack then s.xferEnd { x with addr := mux, tries := n + 1 } 1
  else
    let s := if sel then { s with twi := { s.twi with mux := x.seg + 1 } } else s
    let s := s.addSat R.TWI_CNT1_ARB_LOST (min x.losses (s.rd R.TWI_POL_ARB_MAX x.port)) x.port
    if s.rd R.TWI_POL_ARB_MAX x.port ≤ x.losses then s.xferEnd x 3
    else
      let x := { x with tries := 1 }
      match x.outcome with
      | 0 => s.xferEnd x 0
      | 1 =>
        if n = 0 then s.xferEnd x 1
        else { s with twi := { s.twi with run := smSet none x.port (some x) s.twi.run } }.wr R.TWI_STAT_STATE 1 x.port
      | 2 => s.xferEnd x 2
      | 3 => { s with twi := { s.twi with run := smSet none x.port (some x) s.twi.run } }.wr R.TWI_STAT_STATE 1 x.port
      | 4 => if x.pec then (s.addSat R.TWI_CNT1_PEC_ERR 2 x.port).xferEnd x 4 else s.xferEnd x 0
      | _ => if x.pec then (s.inc R.TWI_CNT1_PEC_ERR x.port).xferEnd x 0 else s.xferEnd x 0

/-- Queued transfers of a port start in order while it is idle and has none in progress. -/
def State.xferPump (s : State) (p : Nat) : Nat → State
  | 0 => s
  | n + 1 =>
    if s.rd R.TWI_STAT_STATE p ≠ 0 ∨ (smGet none s.twi.run p).isSome then s
    else
      match s.twi.queue.find? (fun x => decide (x.port = p)) with
      | none => s
      | some x =>
        State.xferPump ({ s with twi := { s.twi with queue := s.twi.queue.erase x } }.xferRun x) p n

/-- The port is idle again and its queue goes on. -/
def State.xferIdle (s : State) (p : Nat) : State := (s.wr R.TWI_STAT_STATE 0 p).xferPump p s.twi.queue.length

/-- TWI1_TRANSFER (R409, R401): a transfer starts on an idle port, waits behind one in progress, ends with Bus Fault in
Clearing, Wait or Faulted (Table 15-4), and with Aborted from step 1 of a save of code 1 or 2 (R418).
[DEDUCED, unsafe: log 150] -/
def State.doTwi1Transfer (s : State) (port addr seg outcome losses : Nat) (muxNack : Bool) : State :=
  if 2 ≤ port then s
  else
    let x : TwiXfer := { port := port, addr := addr % 128, seg := seg % 4, outcome := outcome, losses := losses, tries := 0,
                         pec := decide (port = 0) || (bit (s.ergBase 0x06 14 0) 8 && decide (addr % 128 = s.pol 0x12 6 0)),
                         muxNack := muxNack }
    if s.saveHard then s.xferEnd x 7
    else if 3 ≤ s.rd R.TWI_STAT_STATE port then s.xferEnd x 6
    else if (smGet none s.twi.run port).isSome then { s with twi := { s.twi with queue := s.twi.queue ++ [x] } }
    else s.xferRun x

/-- ADDRESS_RETRY (R409): the address is sent again; after RETRY_N further attempts the transfer ends with No-Responder.
[DEDUCED, safe: log 231] -/
def State.doAddressRetry (s : State) (port : Nat) (acked : Bool) : State :=
  match smGet none s.twi.run port with
  | none => s
  | some x =>
    if x.outcome ≠ 1 then s
    else
      let x := { x with tries := x.tries + 1 }
      if acked then (s.xferEnd x 0).xferIdle port
      else if s.rd R.TWI_POL_RETRY_N port < x.tries then (s.xferEnd x 1).xferIdle port
      else { s with twi := { s.twi with run := smSet none port (some x) s.twi.run } }

/-- TARGET_STRETCH_TIMEOUT (R406): the target held SCL low for more than 25 ms, and the transfer ends with Timeout. -/
def State.doTargetStretchTimeout (s : State) (port : Nat) : State :=
  match smGet none s.twi.run port with
  | none => s
  | some x => ((s.inc R.TWI_CNT1_TMO port).xferEnd x 5).xferIdle port

/-- STRETCH_LIMIT (R405): 10 ms of stretching in one message; SCL is released and the event counted. -/
def State.doStretchLimit (s : State) : State :=
  if s.on R.TWI_STAT_STRETCH 0 then s.inc R.TWI_CNT1_TMO 0 else s

/-- TARGET_SCL_TIMEOUT (R407): SCL low for 30 ms in a transaction addressed to the port; TWI1 is addressed by none. -/
def State.doTargetSclTimeout (s : State) (port : Nat) : State :=
  if port ≠ 0 then s
  else
    let s := s.inc R.TWI_CNT1_TMO 0
    if s.rd R.TWI_STAT_STATE 0 = 2 then s.wr R.TWI_STAT_STATE 0 0 else s

/-! ### Bus clear (R416) -/

/-- Every queued transfer of a port ends with a status. -/
def State.xferFlush (s : State) (port status : Nat) : State :=
  let q := s.twi.queue.filter (fun x => decide (x.port = port))
  let s := { s with twi := { s.twi with queue := s.twi.queue.filter (fun x => decide (x.port ≠ port)) } }
  q.foldl (fun s x => s.xferEnd x status) s

/-- BUS_CLEAR_ATTEMPT: up to nine pulses and a STOP. A bus that comes free returns the port to Idle; a failed attempt is
recorded and waits 1,147 ticks, and the third leaves the port Faulted. -/
def State.doBusClearAttempt (s : State) (port : Nat) (freed : Bool) : State :=
  let st := s.rd R.TWI_STAT_STATE port
  if 2 ≤ port ∨ st = 4 ∨ st = 5 then s
  else
    let s := match smGet none s.twi.run port with
      | some x => s.xferEnd x 6
      | none => s
    let s := s.wr R.TWI_STAT_STATE 3 port
    if freed then (s.wr R.TWI_STAT_CLR_TRY 0 port).xferIdle port
    else
      let n := s.rd R.TWI_STAT_CLR_TRY port + 1
      let s := (s.wr R.TWI_STAT_CLR_TRY n port).inc R.TWI_CNT1_STUCK port
      let s := s.signal (.fixed 0x0E01 2) 0xFFFFFFFF [port, n]
      if 3 ≤ n then
        let s := (s.wr R.TWI_STAT_STATE 5 port).xferFlush port 6
        -- the gauge records the serial unreadable (Table 15-7)
        if port = 1 then ((s.alert 6).put R.GAU_ID_SER_OK false).wr R.GAU_SER_SER 0 else s
      else
        { s.wr R.TWI_STAT_STATE 4 port with twi :=
          { s.twi with waitAt := smSet 0 port (s.tick + 1147 + 1) s.twi.waitAt } }

/-- CLEAR_WAIT_EXPIRY: the Wait of 1,147 ticks has ended, and the next attempt begins. -/
def State.doClearWaitExpiry (s : State) (port : Nat) : State :=
  let w := smGet 0 s.twi.waitAt port
  if s.rd R.TWI_STAT_STATE port = 4 ∧ w ≠ 0 ∧ w - 1 ≤ s.tick then
    { s.wr R.TWI_STAT_STATE 3 port with twi := { s.twi with waitAt := smSet 0 port 0 s.twi.waitAt } }
  else s

/-- TWIx_CTL.FLT_CLR (R416): Faulted ends with a fresh count of attempts. -/
def State.twiFltClr (s : State) (port : Nat) : State :=
  if s.rd R.TWI_STAT_STATE port = 5 then (s.wr R.TWI_STAT_CLR_TRY 0 port).xferIdle port else s

/-- Step 1 of a save of code 1 or 2: transfers in progress and queued end with Aborted (R418). -/
def State.twiSaveStop (s : State) : State :=
  (List.range 2).foldl (fun s p =>
    let s := match smGet none s.twi.run p with
      | some x => (s.xferEnd x 7).wr R.TWI_STAT_STATE 0 p
      | none => s
    s.xferFlush p 7) s

/-! ### The commands -/

/-- IDENT (R410). -/
def execIdent (s : State) : Host.Outcome State Fault Refusal := ok s (·.doIdent)

/-- STATUS (R410). -/
def execStatus (s : State) : Host.Outcome State Fault Refusal := ok s (·.doStatus)

/-- ALERT_ACK (R412). -/
def execAlertAck (mask : Nat) (pec : Bool) (s : State) :
    Host.Outcome State Fault Refusal := ok s (·.doAlertAck mask pec)

/-- REC_SEL (R466). -/
def execRecSel (area : Nat) (index : Nat) (pec : Bool) (s : State) :
    Host.Outcome State Fault Refusal := ok s (·.doRecSel area index pec)

/-- REC_READ (R467). -/
def execRecRead (s : State) : Host.Outcome State Fault Refusal := ok s (·.doRecRead)

/-- MCTP (R413). -/
def execMctp (src : Nat) (tag : Nat) (som : Bool) (eom : Bool) (data : List Byte) (pec : Bool) (s : State) :
    Host.Outcome State Fault Refusal := ok s (·.doMctp src tag som eom data pec)

/-- ALERT_RESPONSE (R412). -/
def execAlertResponse (won : Bool) (s : State) : Host.Outcome State Fault Refusal := ok s (·.doAlertResponse won)

/-- MCTP_ASSEMBLY_TIMEOUT (R413). -/
def execMctpAssemblyTimeout (src : Nat) (tag : Nat) (s : State) :
    Host.Outcome State Fault Refusal := ok s (·.doMctpAssemblyTimeout src tag)

/-- SET_ENDPOINT_ID (R413). -/
def execSetEndpointId (eid : Nat) (s : State) : Host.Outcome State Fault Refusal := ok s (·.doSetEndpointId eid)

/-- GET_ENDPOINT_ID (R413). -/
def execGetEndpointId (s : State) : Host.Outcome State Fault Refusal := ok s (·.doGetEndpointId)

/-- GET_ENDPOINT_UUID (R413). -/
def execGetEndpointUuid (s : State) : Host.Outcome State Fault Refusal := ok s (·.doGetEndpointUuid)

/-- GET_MCTP_VERSION_SUPPORT (R413). -/
def execGetMctpVersionSupport (mtype : Nat) (s : State) :
    Host.Outcome State Fault Refusal := ok s (·.doGetMctpVersionSupport mtype)

/-- GET_MESSAGE_TYPE_SUPPORT (R413). -/
def execGetMessageTypeSupport (s : State) : Host.Outcome State Fault Refusal := ok s (·.doGetMessageTypeSupport)

/-- GET_VENDOR_DEFINED_MESSAGE_SUPPORT (R413). -/
def execGetVendorDefinedMessageSupport (set : Nat) (s : State) :
    Host.Outcome State Fault Refusal := ok s (·.doGetVendorDefinedMessageSupport set)

/-- READ_NVME_MI_DATA_STRUCTURE (R414). -/
def execReadNvmeMiDataStructure (dtype : Nat) (port : Nat) (ctrl : Nat) (s : State) :
    Host.Outcome State Fault Refusal := ok s (·.doReadNvmeMiDataStructure dtype port ctrl)

/-- NVM_SUBSYSTEM_HEALTH_STATUS_POLL (R414). -/
def execNvmSubsystemHealthStatusPoll (clear : Bool) (s : State) :
    Host.Outcome State Fault Refusal := ok s (·.doNvmSubsystemHealthStatusPoll clear)

/-- CONTROLLER_HEALTH_STATUS_POLL (R414). -/
def execControllerHealthStatusPoll (ctrl : Nat) (count : Nat) (s : State) :
    Host.Outcome State Fault Refusal := ok s (·.doControllerHealthStatusPoll ctrl count)

/-- CONFIGURATION_SET (R414). -/
def execConfigurationSet (id : Nat) (value : Nat) (s : State) :
    Host.Outcome State Fault Refusal := ok s (·.doConfigurationSet id value)

/-- CONFIGURATION_GET (R414). -/
def execConfigurationGet (id : Nat) (s : State) : Host.Outcome State Fault Refusal := ok s (·.doConfigurationGet id)

/-- NVME_ADMIN_TUNNEL (R414). -/
def execNvmeAdminTunnel (ctrl : Nat) (opc : Nat) (nsid : Nat) (arg : Nat) (s : State) :
    Host.Outcome State Fault Refusal := ok s (·.doNvmeAdminTunnel ctrl opc nsid arg)

/-- TWI1_TRANSFER (R409). -/
def execTwi1Transfer (port : Nat) (addr : Nat) (seg : Nat) (outcome : Nat) (losses : Nat) (muxNack : Bool) (s : State) :
    Host.Outcome State Fault Refusal := ok s (·.doTwi1Transfer port addr seg outcome losses muxNack)

/-- ADDRESS_RETRY (R409). -/
def execAddressRetry (port : Nat) (acked : Bool) (s : State) :
    Host.Outcome State Fault Refusal := ok s (·.doAddressRetry port acked)

/-- TARGET_STRETCH_TIMEOUT (R406). -/
def execTargetStretchTimeout (port : Nat) (s : State) :
    Host.Outcome State Fault Refusal := ok s (·.doTargetStretchTimeout port)

/-- STRETCH_LIMIT (R405). -/
def execStretchLimit (s : State) : Host.Outcome State Fault Refusal := ok s (·.doStretchLimit)

/-- TARGET_SCL_TIMEOUT (R407). -/
def execTargetSclTimeout (port : Nat) (s : State) :
    Host.Outcome State Fault Refusal := ok s (·.doTargetSclTimeout port)

/-- BUS_CLEAR_ATTEMPT (R416). -/
def execBusClearAttempt (port : Nat) (freed : Bool) (s : State) :
    Host.Outcome State Fault Refusal := ok s (·.doBusClearAttempt port freed)

/-- CLEAR_WAIT_EXPIRY (R416). -/
def execClearWaitExpiry (port : Nat) (s : State) : Host.Outcome State Fault Refusal := ok s (·.doClearWaitExpiry port)

/-- FAST_PATH_WAKE (R408). -/
def execFastPathWake (s : State) : Host.Outcome State Fault Refusal := ok s (·.doFastPathWake)

end Sys2Proof.Machine
end

