-- ==== Sys2Proof/Machine/CvnOps.lean ====
section
/-!
DEFINITION. Caravan: what a trigger of Table 7-1 does (R203 to R211, R236), the manifest (R212 to R214), the issue of save
slots (R207, R215 to R220), and how service resumes after a save of code 3 or 4 (R222, R61, R206). The steps themselves are
commands of their own (Caravan.lean).
-/
namespace Sys2Proof.Machine

/-! ### What a save slot carries -/

/-- The bytes of a manifest (Table 7-4): header, reference vector, held-region vector, and each list from a part of its own. The spec
gives the header's fields and not their sizes. -/
def State.manifestCells (s : State) (m : Manifest) (volatile : Bool) : List Host.Cell :=
  let rs := regionsOf m.pages
  let fly := m.inflight.flatMap (fun (e : Nat × (Bool × Nat)) => leBytes 4 e.1 ++ leBytes 4 (b2n e.2.1) ++ leBytes 8 e.2.2)
  let stg := m.staging.flatMap (fun (e : Nat × Nat) =>
    leBytes 4 e.1 ++ leBytes 8 e.2 ++ leBytes 2 (lbasPerSlot (s.ns e.1).lbaf) ++ [0, 0])
  let p1 := 33 + cdiv fly.length 4096
  let head := leBytes 4 m.ssn ++ leBytes 8 m.gen0 ++ leBytes 8 m.tick ++ leBytes 4 m.code ++ leBytes 8 m.refGen ++
    leBytes 4 m.inflight.length ++ leBytes 4 m.staging.length ++ leBytes 4 rs.length ++ leBytes 4 m.parts
  cellsOf head ++ cellsAt 4096 (bitCells m.refVec) ++ cellsAt (17 * 4096) (bitCells rs) ++
    cellsAt (33 * 4096) (cellsOf fly) ++ cellsAt (p1 * 4096) (cellsOf stg) ++
    cellsAt ((p1 + cdiv stg.length 4096) * 4096) (pageLists (if volatile then 512 else 256) rs (fun r =>
      inRegion m.pages r ++ (if volatile then (inRegion m.promised r).map (· + 2048) else [])))

/-- The bytes of a save record (Table 7-5), with its check value. -/
def SaveRec.bytes (r : SaveRec) : List Nat :=
  let b := leBytes 4 0x4E565243 ++ leBytes 4 r.ssn ++ leBytes 8 r.gen0 ++ leBytes 8 r.genEnd ++ leBytes 8 (r.tick % 2 ^ 48) ++
    leBytes 1 r.code ++ leBytes 1 r.flags ++ leBytes 2 r.parts ++ leBytes 4 r.manMem ++ leBytes 4 r.manStg ++ leBytes 4 r.manFly ++
    leBytes 4 r.issuedMem ++ leBytes 4 r.issuedStg ++ leBytes 4 r.skipped ++ leBytes 4 r.g ++ leBytes 4 r.cost ++ leBytes 4 r.cdn ++
    leBytes 4 r.dur ++ leBytes 4 r.cpSeq ++ List.replicate 12 0
  b ++ leBytes 4 (crc32c b)

/-- The payload of the valid mark: save sequence number, GEN0 and the record's CRC (R218). -/
def SaveRec.mark (r : SaveRec) : List Nat := leBytes 4 r.ssn ++ leBytes 8 r.gen0 ++ r.bytes.drop 92

/-- The save checkpoint (R294): sequence of the last complete root, the superblocks opened since with stream and fill, and the journal
records not yet flushed, as 32-bit words. The spec gives no layout. -/
def State.saveCheckpoint (s : State) : List Nat :=
  let n := match s.ftl.root with | some r => r.seq | none => 0
  let f := match s.ftl.root with | some r => r.from0 | none => 0
  let sbs := s.sbList.filter (fun e => decide (e.2.state = 1 ∨ e.2.state = 2) && decide (f ≤ e.2.openSeq))
  ([n, sbs.length] ++ sbs.flatMap (fun e => [e.1, e.2.stream, e.2.fill]) ++
    (s.ftl.journal.drop (s.ftl.journal.length - (s.ftl.jpos - s.ftl.jflushed))).flatMap (fun r => r.kind :: r.args.length :: r.args)).flatMap (leBytes 4)

/-- What a slot of a save other than a page holds (Table 7-2); every one carries GEN0 (R207). -/
def State.saveSlot (s : State) (i : SaveItem) : SlotC :=
  let mk : Nat → Nat → List Host.Cell → SlotC := fun kind key data =>
    { kind := kind, key := key, gen := s.rd R.CVN_GEN0_GEN0, data := data, md := [], marks := [] }
  match i with
  | .page _ _ | .staged _ _ _ _ _ _ => mk 0x00 0 []
  | .manifest k => mk 0x02 k (match s.cvn.building with
    | some m => partOf k (s.manifestCells m (s.on R.ERG_STAT_VOLATILE))
    | none => [])
  | .delta k => mk 0x05 k (cellsOf (s.cvn.deltas.flatMap (leBytes 5)))
  | .checkpoint => mk 0x08 0 (cellsOf (s.saveCheckpoint.take 4096))
  | .record => mk 0x06 s.cvn.ssn (match s.cvn.newRec with | some r => cellsOf r.bytes | none => [])
  | .mark => mk 0x07 s.cvn.ssn (match s.cvn.record with | some r => cellsOf r.mark | none => [])

/-- The next free slot of the save stream, on another die than `die` where the stream offers one (R218, R220).
[DEDUCED, unsafe: log 89] -/
def State.saveAssign (s : State) (die : Option Nat) : Option Nat × State :=
  match s.assign 1 1 with
  | (none, s) => (none, s)
  | (some a, s) =>
    if die ≠ some (addrDie a) then (some a, s)
    else match s.assign 1 1 with
      | (some b, s) => (some b, s)
      | (none, s) => (some a, s)

/-- A program of a save goes to its die as class 0 (Table 8-4). -/
def State.saveProgram (s : State) (a buf : Nat) : State := s.fIssue (addrDie a) .program 0 false (s.sbOf a) a (.save a) buf

/-- Issue one program of a save in the save stream; without a free slot it is not written (R207, R279). -/
def State.saveIssue (s : State) (i : SaveItem) (die : Option Nat) (again : Bool) : State :=
  match s.saveAssign die with
  | (none, s) => s
  | (some a, s) =>
    let s := s.setSlot a (some (s.saveSlot i))
    let x : SaveProg := { slot := a, item := i, again := again, prog := 1 }
    { s with cvn := { s.cvn with progs := s.cvn.progs ++ [x] } }.saveProgram a 0

/-- What the slot of a page holds, by what its read gave (Tables 5-3, 7-2). -/
def saveCells (i : SaveItem) (j : PageIo) : SlotC :=
  match i with
  | .page p g => { kind := 0x01, key := p, gen := g, data := j.data, md := [], marks := j.marks }
  | .staged _ ns lba g d m => { kind := 0x04, key := ns * 2 ^ 40 + lba, gen := g, data := d, md := m, marks := [] }
  | _ => { kind := 0x00, key := 0, gen := 0, data := [], md := [], marks := [] }

/-- The read of a page that a save writes has come as far as it has: with its last line the page's program is issued (R215). -/
def State.saveRead (s : State) (a : Nat) : State :=
  match s.pageJob (.save a) with
  | none => s
  | some j =>
    if !j.done then s
    else
      let s := s.pageDrop (.save a)
      match s.cvn.progs.find? (fun x => decide (x.slot = a) && decide (x.prog = 0)) with
      | none => s
      | some x =>
        let c := { s.cvn with progs := s.cvn.progs.map (fun y => if y.slot = a then { y with prog := 1 } else y) }
        ({ s with cvn := c }.setSlot a (some (saveCells x.item j))).saveProgram a j.buf

/-! ### The manifest -/

/-- The staging pages that a save writes: those of the held set whose command has completed (R210). -/
def State.savedStg (s : State) : List (Nat × StgSt) :=
  s.nvm.stg.filter (fun e => e.2.held && decide (e.2.tag = 0))

/-- First LBA of a staging page. -/
def State.stgLba (s : State) (y : StgSt) : Nat := y.slot * lbasPerSlot (s.ns y.ns).lbaf

/-- The regions that a vector of R213 names. -/
def State.refRegions (s : State) : List Nat := (if s.trk.refVec = 0 then s.trk.psv0 else s.trk.psv1).map (·.1)

/-- Parts of a manifest behind the first 33: its lists at 4 KiB a part (Table 7-4). -/
def manifestParts (m : Manifest) (volatile : Bool) : Nat :=
  cdiv (16 * m.inflight.length) 4096 + cdiv (16 * m.staging.length) 4096 +
    cdiv ((if volatile then 512 else 256) * (regionsOf m.pages).length) 4096

/-- The manifest of the state at the trigger (R212, R214). [DEDUCED, unsafe: log 90] -/
def State.buildManifest (s : State) (code : Nat) : Manifest :=
  let m : Manifest := {
    gen0 := s.rd R.CVN_GEN0_GEN0, ssn := s.cvn.ssn, tick := s.tick, code := code, refGen := s.trk.refGen,
    refVec := s.refRegions, pages := s.heldPages 0 (2 ^ 32),
    promised := if s.on R.ERG_STAT_VOLATILE then s.trk.promised.map (·.1) else [],
    inflight := (s.trk.copy.filter (fun e => !e.2.discard)).map (fun e => (e.1, (e.2.redirty, e.2.gen))),
    staging := s.savedStg.map (fun e => (e.2.ns, s.stgLba e.2)), parts := 0, got := [] }
  { m with parts := 33 + manifestParts m (s.on R.ERG_STAT_VOLATILE) }

/-- The order of R215: promised pages, staged pages, the remaining held pages. -/
def State.saveOrder (s : State) (m : Manifest) : List SaveItem :=
  let first := m.pages.filter (fun p => m.promised.contains p)
  first.map (fun p => .page p 0) ++ s.savedStg.map (fun e => .staged e.1 e.2.ns (s.stgLba e.2) 0 e.2.data e.2.md) ++
    (m.pages.filter (fun p => !m.promised.contains p)).map (fun p => .page p 0)

/-! ### The trigger -/

/-- The countdown starts (R200). -/
def State.cdnStart (s : State) : State :=
  ((s.wr R.LDG_CDN_CDN (s.rd R.LDG_EUSE_E_USE)).put R.LDG_STAT_CDN_ACT true).cdnpNow

/-- What only a save of code 1 or 2 does at its trigger or at its conversion: the ports' PHYs, the domains of the host side
and the SHED rails go off, every core is set to F3, the code flash is locked, the buses stop, a download is abandoned
(R209 step 3, R391, R435, R473, R489, R493). -/
def State.saveHardActs (s : State) : State :=
  let s := (s.fwAbandon.wpSave).twiSaveStop
  let s := s.fsAll
  let s := (List.range 2).foldl (fun s p => s.wr R.HP_STAT_LINK 0 p) s
  let s := [0, 1, 18, 29, 31, 32, 33, 34, 35].foldl (fun s n => s.pdSleep n) s
  s.offList (rails.filter (fun n => s.railFlag n 5))

/-- CXL.mem requests at a trigger (R210): a read whose DRAM read has issued is finished, at once when the PHY is about to
go off, with the data that its column command took; every other is abandoned. Reads for the host that are not yet answered leave
their queues, and so do the commands of a migration (R138). -/
def State.saveRequests (s : State) (hard : Bool) : State :=
  let one := fun (s : State) (r : Req) =>
    if r.stage = .readIssued then
      (if hard then (match s.dram.reading.find? (fun x => decide (x.src = .host r.id)) with
        | some x => let bad := x.psn || s.lineLost x.line
                    s.finishRead r (if bad then [] else x.data) bad
        | none => s.finishRead r (s.bytesAt r.dpa 64) (s.poisoned r.dpa)) else s)
    else s.abandonReq r
  let ids := (s.host.trk.filter (fun r => decide (r.stage ≠ .readIssued) || hard)).map (·.id)
  let s := s.host.trk.foldl one s
  let keep := fun (x : DReq) => match x.src with | .host id => x.wr || !ids.contains id | .migrate => false | _ => true
  { s with dram := { s.dram with q := s.dram.q.filter keep }, cvn := { s.cvn with fetching := [] } }.trkRefresh

/-- A flash operation at a trigger (R211, Table 8-5): a program in progress or suspended, and every Drift program issued,
is carried out; a read in progress completes and its data is discarded; an erase in progress is suspended, and with code 1 or 2 never
resumed; all others are dropped. -/
def flashKept (o : FOp) : Option FOp :=
  match o.kind with
  | .read => if o.stage = .running then some { o with src := .gone, left := 1 } else none
  | .program => if o.stage = .running ∨ o.stage = .suspended ∨ (match o.src with | .drift _ => true | _ => false) = true
                then some o else none
  | .erase => if o.stage = .running ∨ o.stage = .suspended then some { o with stage := .suspended } else none
  | _ => none

/-- An operation that a save of code 3 or 4 dropped and that is issued again after it: its requester still stands. -/
def State.flashAgain (s : State) (o : FOp) : Bool :=
  match o.src with
  | .nvm _ _ => false
  | .destage n => (s.stgAt n).isSome
  | .probe _ _ | .scan _ | .snapshot _ | .fetch _ | .gone => false
  | _ => true

/-- Slots whose programs are lost stay incomplete (R163). [DESIGN CHOICE, unsafe: log 88] -/
def State.tearSlots (s : State) (os : List FOp) : State :=
  (os.filter (fun o => decide (o.kind = .program))).foldl (fun s o => s.setSlot o.addr none) s

/-- The flash channels at a trigger (R211, R266, R490). -/
def State.saveFlash (s : State) (hard : Bool) : State :=
  let all := s.flash.ops ++ s.flash.extra
  let gone := all.filter (fun o => (flashKept o).isNone || (decide (o.kind = .read) && decide (o.stage = .running)))
  let again := if hard then [] else gone.filter s.flashAgain
  let lost := gone.filter (fun o => hard || !s.flashAgain o)
  let s := { s with flash := { s.flash with
    ops := s.flash.ops.filterMap flashKept, extra := s.flash.extra.filterMap flashKept,
    dropped := again.map (fun (o : FOp) => { o with stage := .queued, step := 1, retry := 0, left := 1, lane := false }) } }
  let s := (List.range 32).foldl (fun s c => s.slotsRefresh c) (s.tearSlots lost)
  let s := ((List.range 8).filter (fun g => !(s.grpChans g).isEmpty)).foldl (fun s g => s.groupOn g) s
  ((s.put R.FCC_STAT_SAVE true).pdWake 19).pdWake 20

/-- NVMe at a trigger (R210, R345): fetch stops, and every command without a posted completion is torn down.
[DEDUCED, unsafe: log 91] -/
def State.saveNvm (s : State) : State :=
  let s := { s with nvm := { s.nvm with stopped := true } }
  let s := (s.nvm.cmds.map (·.1)).foldl (fun s t => s.nvmTear t) s
  let fs := s.nvm.fns.map (fun (e : Nat × FnSt) => (e.1, { e.2 with aers := [] }))
  { s with nvm := { s.nvm with fns := fs.filter (fun e => decide (e.2 ≠ fnInit)) },
           ftl := { s.ftl with eraseWait := s.ftl.eraseWait.filter (fun e => decide (e.1 ≠ memSanKey)) } }

/-- DRAM at a trigger (R121, R138): drain mode with every write at urgency 7; scrub, migration and retraining stop. -/
def State.saveDram (s : State) : State :=
  let d := { s.dram with caravan := true, pdown := 0,
                         q := s.dram.q.map (fun (x : DReq) => if x.wr then { x with urg := 7 } else x),
                         reading := s.dram.reading.filter (fun x => decide (x.src ≠ .migrate)),
                         migr := s.dram.migr.map (fun (e : Nat × Migr) =>
                           (e.1, { e.2 with begun := false, todo := [], back := [], flying := [] })) }
  let s := { s with dram := d, cvn := { s.cvn with migStopped := !s.dram.migr.isEmpty } }
  (List.range 16).foldl (fun s w => s.setDrain w true) s

/-- Drift, snapshots and the ledger stop (R177, R200). -/
def State.saveStops (s : State) : State :=
  let s := if s.rd R.DFT_STAT_STATE = 1 ∨ s.rd R.DFT_STAT_STATE = 2 then s.wr R.DFT_STAT_STATE 3 else s
  -- the next snapshot takes the number of one stopped here, so that the reference vector stands (R213)
  let k := match s.drift.snapNow with | some x => x.num | none => s.drift.snapNum
  { s with drift := { s.drift with snapNow := none, snapDue := false, snapNum := k },
           ledger := { s.ledger with running := none, next := none, stopped := true } }

/-- The registers of a save that begins: sequence number, code, tick, GEN0 (R208); the next generation lies above GEN0. -/
def State.saveRegs (s : State) (code : Nat) : State :=
  let c := { s.cvn with ssn := s.cvn.ssn + 1, code := code, issued := 0, issuedMem := 0, issuedStg := 0, skipped := 0,
                        deltas := [], deltaSlots := 0, gTrig := s.rd R.LDG_GUAR_G, stopped := false, progs := [],
                        newRec := none }
  let s := { s with cvn := c }
  let s := (s.wr R.CVN_SSN_SSN s.cvn.ssn).wr R.CVN_GEN0_GEN0 (s.rd R.DFT_GEN_GEN)
  let s := (s.wr R.DFT_GEN_GEN (s.rd R.DFT_GEN_GEN + 1)).wr R.CVN_WRT_WRT 0
  let s := (s.wr R.CVN_STAT_TRIG code).put R.CVN_STAT_CONV false
  (s.wr R.CVN_TTRIG_TICK s.tick).wr R.CVN_STAT_SAVE_ST 1

/-- A running OVL_SWITCH stops at its step (R61). -/
def State.saveSwitch (s : State) : State :=
  if s.loq.ovlStep = 0 then s
  else { s with loq := { s.loq with ovlStep := 9 } }.put R.ERG_STAT_PARTIAL (s.loq.ovlBegun || s.on R.ERG_STAT_PARTIAL)

/-- Steps 1 to 3 of Table 7-3 for a trigger: the save runs, which a running core records (R30), and its manifest is what the state is then (R209).
[DEDUCED, unsafe: log 87] [DEDUCED, unsafe: log 93] -/
def State.saveBegin (s : State) (code : Nat) : State :=
  let hard := decide (code ≤ 2)
  let s := (s.actTrigger.audDisq 3).note 0x05 1 code
  let s := { s with cvn := { s.cvn with saveAct := true } }.emit (.issue 5 [1])
  let s := (s.saveNvm.saveStops).saveRequests hard
  let s := (s.saveFlash hard).saveDram
  let s := { s with buf := { s.buf with save := true }, pwr := { s.pwr with saveOn := true } }
  let s := s.saveSwitch
  let s := s.saveRegs code
  let m := s.buildManifest code
  let s := { s with cvn := { s.cvn with building := some m, todo := s.saveOrder m } }
  let s := (s.wr R.CVN_MPG_MPG m.pages.length).wr R.CVN_MSTG_MSTG m.staging.length
  if hard then (s.cdnStart.saveSumStart).saveHardActs else s

/-- A trigger before memory is ready, or with no held set kept, saves nothing: a power failure ends in power-down (R236,
R542). -/
def State.saveNothing (s : State) : State :=
  ({ s with cvn := { s.cvn with saveAct := true } }.emit (.issue 5 [1])).startDown

/-- A save of code 3 or 4 becomes a power-fail save at its step (R204). -/
def State.saveConvert (s : State) (code : Nat) : State :=
  let s := { s with cvn := { s.cvn with code := code }, host := { s.host with gpfWait := 0 } }
  let s := (s.put R.CVN_STAT_CONV true).cdnStart.saveSumStart
  let s := s.tearSlots s.flash.dropped
  let s := { s with flash := { s.flash with dropped := [] } }
  (s.saveRequests true).saveHardActs

/-- A trigger of Table 7-1, by its code (R203, R204, R236). -/
def State.caravan (s : State) (code : Nat) : State :=
  if !s.on R.CVN_STAT_READY || !s.persistent then (if code ≤ 2 then s.saveNothing else s)
  else if s.cvn.code = 0 then s.saveBegin code
  else if code ≤ 2 ∧ 3 ≤ s.cvn.code then s.saveConvert code
  else s

/-! ### The end of a save -/

/-- The stopped switch and the stopped MEM_SANITIZE complete with Aborted by save (R61, R509). The overlay that stays active
keeps its mode: where it carries the volatile tag, volatile mode is in force. -/
def State.saveAborts (s : State) : State :=
  let s := if s.loq.ovlStep = 9 then
      let s := ({ s with loq := { s.loq with ovlStep := 0 } }.put R.ERG_STAT_SWITCH_BUSY false).loqEnd s.loq.ovlEnt loAborted
        (s.rd R.ERG_STAT_ACT_OVL)
      if s.ovlTag (s.rd R.ERG_STAT_ACT_OVL) = 2 ∧ !s.on R.ERG_STAT_VOLATILE then s.enterVolatile else s
    else s
  match s.loqRunning 0x0B with
  | some e => if s.cvn.sanMark then s.loqEnd e loAborted 0 else s
  | none => s

/-- Resets that a save deferred, then the activation and the commands that waited (R206, R480, R510). -/
def State.saveDeferred (s : State) : State :=
  let ds := s.cvn.deferred
  let s := { s with cvn := { s.cvn with deferred := [] } }
  ((ds.foldl (fun s d => s.deferredStep d) s).actResume).releaseWaiting

/-- A carve-out is lost (R141): persistence is reported withdrawn, and the device serves SL2. -/
def State.carveEnd (s : State) : State :=
  let s := (s.gateOff.wr R.LDG_GPUB_G_PUB 0).cxlEvent 1 4 0x0006 [5]
  ((s.note 0x02 3).setBad 6).setLevel 2

/-- After the valid mark of a save of code 3 or 4 (R222, R378): a latched CHIP_RST_N takes effect first (R206); otherwise
service resumes in one step. [DEDUCED, unsafe: log 92] -/
def State.saveResume (s : State) : State :=
  let s := { s with cvn := { s.cvn with code := 0, saveAct := false }, gau := { s.gau with lrnDue := true } }.emit (.issue 5 [0])
  let s := (s.wr R.CVN_STAT_SAVE_ST 0).put R.FCC_STAT_SAVE false
  if s.cvn.coldLatched then s.chipReset
  else
    let s := { s with nvm := { s.nvm with stopped := false }, buf := { s.buf with save := false },
                      pwr := { s.pwr with saveOn := false }, dram := { s.dram with caravan := false } }
    let s : State := (List.range 16).foldl (fun (s : State) w => s.drainRefresh w) s
    let s := s.bufServeAll
    let again := s.flash.dropped
    let s : State := { s with flash := { s.flash with dropped := [], extra := s.flash.extra ++ again } }.slotFill
    let s : State := if s.rd R.DFT_STAT_STATE = 3 then s.driftStart else s
    let ps : List Nat := (List.range 2).filter (fun p => bit s.host.gpfWait p)
    let s := ps.foldl (fun s p => s.emit (.gpf p 2)) { s with host := { s.host with gpfWait := 0 } }
    (if s.dram.rebuild then { s with dram := { s.dram with rebuild := false } }.carveEnd else s).saveAborts.saveDeferred.stgKick

end Sys2Proof.Machine
end

