-- ==== Sys2Proof/Machine/Caravan.lean ====
section
/-!
DEFINITION. The commands of Caravan (R203 to R221, Table 7-6): the power-failure triggers, the manifest, each page of the
save stream, the ends of its programs, the record, the valid mark, trailing pages and the end by power-down.
-/
namespace Sys2Proof.Machine

/-- A power-failure trigger (R203). With the sequencer Off nothing is powered that could save. -/
def State.powerTrigger (s : State) (code : Nat) : State := if s.seqState = 0 then s else s.caravan code

/-- PWR_FAIL_N_LOW (R203): low for two consecutive samples, trigger code 1; the level also bars an up-sequence (R542). -/
def State.doPwrFailNLow (s : State) : State := { s with seq := { s.seq with pwrFail := true } }.powerTrigger 1

/-- INPUT_RAIL_COLLAPSE (R203): trigger code 2. -/
def State.doInputRailCollapse (s : State) : State := s.powerTrigger 2

/-- MANIFEST_ISSUED (R214, Table 7-6): every part is issued, the header and parts 1 to 32 before any list; the save goes on to its
pages. -/
def State.doManifestIssued (s : State) : State :=
  match s.cvn.building with
  | none => s
  | some m =>
    if s.rd R.CVN_STAT_SAVE_ST ≠ 1 then s
    else ((List.range m.parts).foldl (fun s k => s.saveIssue (.manifest k) none false) s).wr R.CVN_STAT_SAVE_ST 2

/-- One more map-delta entry, the slot address of a page or 0; a full delta slot is issued after each 819 (R217). A save that the loss
of a carve-out began carries a mark in place of the deltas (R141). -/
def State.deltaNote (s : State) (v : Nat) : State :=
  if s.rd R.CVN_STAT_SAVE_ST ≠ 2 ∨ s.dram.rebuild then s
  else
    let s := { s with cvn := { s.cvn with deltas := s.cvn.deltas ++ [v] } }
    if s.cvn.deltas.length < 819 then s
    else
      let s := s.saveIssue (.delta s.cvn.deltaSlots) none false
      { s with cvn := { s.cvn with deltas := [], deltaSlots := s.cvn.deltaSlots + 1 } }

/-- The front item is done with: it leaves the order of R215. -/
def State.saveNext (s : State) : State := { s with cvn := { s.cvn with todo := s.cvn.todo.drop 1 } }

/-- A page that needs no slot is passed over: its delta entry is 0 (R215, R217). -/
def State.savePass (s : State) : State :=
  let s := s.saveNext
  let s : State := if s.rd R.CVN_STAT_SAVE_ST = 2 then { s with cvn := { s.cvn with skipped := s.cvn.skipped + 1 } } else s
  s.deltaNote 0

/-- Step 6 of Table 7-3: the last delta slot and the save checkpoint. -/
def State.saveTail (s : State) : State :=
  let s := if s.cvn.deltas = [] ∧ !s.dram.rebuild then s else s.saveIssue (.delta s.cvn.deltaSlots) none false
  (s.saveIssue .checkpoint none false).wr R.CVN_STAT_SAVE_ST 3

/-- Count a page issued in step 5. -/
def State.saveCount (s : State) (mem : Bool) : State :=
  if s.rd R.CVN_STAT_SAVE_ST ≠ 2 then s
  else
    let c := { s.cvn with issued := s.cvn.issued + 1, issuedMem := s.cvn.issuedMem + b2n mem,
                          issuedStg := s.cvn.issuedStg + b2n (!mem) }
    { s with cvn := c }.inc R.CVN_WRT_WRT

/-- Issue one page, with its own GEN and slot: a memory page is taken through the copy table (R207, R215), and its read at urgency 7
begins (R121). A staged page is read from the staging carve-out; its bytes are those of the trigger. -/
def State.savePut (s : State) (i : SaveItem) : State :=
  let (g, s) := s.drawGen
  match s.assign 1 1 with
  | (none, s) => s.savePass
  | (some a, s) =>
    let i : SaveItem := match i with
      | .page p _ => .page p g
      | .staged n ns lba _ d m => .staged n ns lba g d m
      | i => i
    let s : State := match i with
      | .page p _ => (s.pageTake p g a).saveCount true
      | _ => s.saveCount false
    let x : SaveProg := { slot := a, item := i, again := false, prog := 0 }
    let s := ({ s with cvn := { s.cvn with progs := s.cvn.progs ++ [x] } }.saveNext).deltaNote a
    match i with
    | .page p _ => s.pageStart (pageIo (.save a) false (p * 4096) 7 0)
    | .staged n _ _ _ d m => s.pageStart { pageIo (.save a) false (s.stgAddr n) 7 0 with data := d, md := m }
    | _ => s

/-- f of R216: pages issued and neither confirmed nor failed. -/
def State.saveFlying (s : State) : Nat :=
  (s.cvn.progs.filter (fun x => match x.item with | .page _ _ | .staged _ _ _ _ _ _ => true | _ => false)).length

/-- Whether R216 lets the next page be issued in step 5; a trailing page is not bound by the countdown (R219). -/
def State.saveAllows (s : State) : Bool :=
  decide (s.rd R.CVN_STAT_SAVE_ST = 4) || decide (3 ≤ s.cvn.code) || decide (s.cvn.issued < s.cvn.gTrig) ||
  decide (s.saveFlying < s.rd R.LDG_CDNP_CDNP)

/-- R216 stops the pages: step 6 begins. -/
def State.saveStop (s : State) : State := { s with cvn := { s.cvn with stopped := true } }.saveTail

/-- SAVE_PAGE_ISSUE (R215, R216, R219): the next page of the order, once Caravan may have a buffer for it (R25, R346). A page whose
copy is in flight is waited for, and a memory page that is clean by now is passed over. -/
def State.doSavePageIssue (s : State) : State :=
  let st := s.rd R.CVN_STAT_SAVE_ST
  if st ≠ 2 ∧ st ≠ 4 then s
  else match s.cvn.todo with
  | [] => if st = 2 then s.saveTail else s
  | i :: _ =>
    let (ready, needed) : Bool × Bool := match i with
      | .page p _ => ((s.copyAt p).isNone, s.dirtyAt p)
      | .staged _ _ _ _ _ _ => (true, true)
      | _ => (true, false)
    if !ready || !s.bufGrants 9 then s
    else if !needed then s.savePass
    else if s.saveAllows then s.savePut i
    else s.saveStop

/-- The record of Table 7-5 as it stands at its issue (R218). [DEDUCED, unsafe: log 98] -/
def State.makeRecord (s : State) : SaveRec :=
  { ssn := s.cvn.ssn, gen0 := s.rd R.CVN_GEN0_GEN0, genEnd := s.rd R.DFT_GEN_GEN, tick := s.rd R.CVN_TTRIG_TICK,
    code := s.rd R.CVN_STAT_TRIG,
    flags := b2n (s.on R.ERG_STAT_VOLATILE) + 2 * b2n s.cvn.stopped + 4 * b2n (s.on R.CVN_STAT_CONV) +
      8 * b2n s.cvn.migStopped,
    parts := (match s.cvn.building with | some m => m.parts | none => 0),
    manMem := (match s.cvn.building with | some m => m.pages.length | none => 0),
    manStg := (match s.cvn.building with | some m => m.staging.length | none => 0),
    manFly := (match s.cvn.building with | some m => m.inflight.length | none => 0),
    issuedMem := s.cvn.issuedMem, issuedStg := s.cvn.issuedStg, skipped := s.cvn.skipped, g := s.cvn.gTrig,
    cost := s.rd R.LDG_COST_C, cdn := s.rd R.LDG_CDN_CDN, dur := s.tick - s.rd R.CVN_TTRIG_TICK,
    cpSeq := s.rd R.FTL_CSEQ_CSEQ,
    trial := s.fwu.trial && decide (s.fwu.run = s.fwu.next), marked := false }

/-- After the valid mark, or without one that could be written: step 8, or service resumes (R219, R222). -/
def State.saveMarked (s : State) : State :=
  if s.cvn.code ≤ 2 then s.saveSumEnd.wr R.CVN_STAT_SAVE_ST 4
  else if s.cvn.progs.isEmpty then s.saveResume
  else s

/-- A program of the save has passed, or has failed twice (R220): what follows it. -/
def State.saveProgEnd (s : State) (x : SaveProg) (pass : Bool) : State :=
  match x.item with
  | .page p _ =>
    let s := if pass && !(s.copyAt p).any (·.discard) then s.setImg p x.slot else s
    if pass then s.pageConfirm p else s.pageFail p
  | .staged _ _ _ _ _ _ => s
  | .manifest k => if pass then s.manifestPart k else s
  | .delta _ => s
  | .checkpoint =>
    { s with cvn := { s.cvn with newRec := some s.makeRecord } }.saveIssue .record none false
  | .record | .mark =>
    if pass then s else if s.cvn.code ≤ 2 ∨ s.cvn.progs.isEmpty then s.saveMarked else s.saveIssue x.item (some (addrDie x.slot)) true

/-- Take a program off the list of those issued. -/
def State.saveDrop (s : State) (x : SaveProg) : State :=
  { s with cvn := { s.cvn with progs := s.cvn.progs.filter (fun y => decide (y.slot ≠ x.slot)) } }

/-- A failed program is reissued once to the next free slot of another die, with the same GEN (R220). -/
def State.saveAgain (s : State) (x : SaveProg) : State :=
  let c := s.slot x.slot
  let s := (s.saveDrop x).setSlot x.slot none
  if x.again then s.saveProgEnd x false
  else match s.saveAssign (some (addrDie x.slot)) with
  | (none, s) => s.saveProgEnd x false
  | (some a, s) =>
    let y : SaveProg := { slot := a, item := x.item, again := true, prog := 1 }
    { s.setSlot a c with cvn := { s.cvn with progs := s.cvn.progs ++ [y] } }.saveProgram a 0

/-- SAVE_PROGRAM_DONE (R220): a program of the save stream that its die has ended goes back to the save, with `pass` as the die has
reported it. The record and the mark are confirmed by commands of their own. -/
def State.doSaveProgramDone (s : State) (slot : Nat) (pass : Bool) : State :=
  match s.cvn.progs.find? (fun x => decide (x.slot = slot)) with
  | none => s
  | some x =>
    if x.prog < 2 ∨ pass ≠ decide (x.prog ≠ 3) then s
    else if x.prog = 3 then s.saveAgain x
    else if x.item = .record ∨ x.item = .mark then s
    else (s.saveDrop x).saveProgEnd x true

/-- The program of an item that has passed. -/
def State.saveProgOf (s : State) (i : SaveItem) : Option SaveProg :=
  s.cvn.progs.find? (fun x => decide (x.item = i) && decide (x.prog = 2))

/-- SAVE_RECORD_CONFIRMED (R218): the valid mark is issued, to a die other than the record's. -/
def State.doSaveRecordConfirmed (s : State) : State :=
  match s.saveProgOf .record with
  | none => s
  | some x =>
    let s := s.saveDrop x
    s.recordPut.saveIssue .mark (some (addrDie x.slot)) false

/-- VALID_MARK_CONFIRMED (R218, R222, Table 7-6). A save of code 3 or 4 has by then confirmed every page it issued. -/
def State.doValidMarkConfirmed (s : State) : State :=
  match s.saveProgOf .mark with
  | none => s
  | some x =>
    if 3 ≤ s.cvn.code ∧ s.cvn.progs.length ≠ 1 then s
    else
      (s.saveDrop x).markPut.saveMarked

/-- TRAILING_DONE (R219): every page is issued and every program has ended, so the rails go down. -/
def State.doTrailingDone (s : State) : State :=
  if s.rd R.CVN_STAT_SAVE_ST = 4 ∧ s.cvn.todo = [] ∧ s.cvn.progs = [] ∧
     s.flash.ops.all (fun o => decide (o.kind ≠ .program)) then
    (s.wr R.CVN_STAT_SAVE_ST 5).startDown
  else s

/-- ENERGY_EXHAUSTED (Table 7-6): nothing more is written; a program that had not ended leaves its slot incomplete. -/
def State.doEnergyExhausted (s : State) : State :=
  if s.rd R.CVN_STAT_SAVE_ST = 0 then s
  else
    let s := s.saveTorn
    { s.wr R.CVN_STAT_SAVE_ST 5 with
      cvn := { s.cvn with todo := [], progs := [] },
      dram := { s.dram with pages := s.dram.pages.filter (fun j => match j.src with | .save _ => false | _ => true) } }

/-! ### The commands -/

/-- PWR_FAIL_N_LOW (R203). -/
def execPwrFailNLow (s : State) : Host.Outcome State Fault Refusal := ok s (·.doPwrFailNLow)

/-- INPUT_RAIL_COLLAPSE (R395). -/
def execInputRailCollapse (s : State) : Host.Outcome State Fault Refusal := ok s (·.doInputRailCollapse)

/-- MANIFEST_ISSUED (R221). -/
def execManifestIssued (s : State) : Host.Outcome State Fault Refusal := ok s (·.doManifestIssued)

/-- SAVE_PAGE_ISSUE (R216). -/
def execSavePageIssue (s : State) : Host.Outcome State Fault Refusal := ok s (·.doSavePageIssue)

/-- SAVE_PROGRAM_DONE (R220). -/
def execSaveProgramDone (slot : Nat) (pass : Bool) (s : State) :
    Host.Outcome State Fault Refusal := ok s (·.doSaveProgramDone slot pass)

/-- SAVE_RECORD_CONFIRMED (R218). -/
def execSaveRecordConfirmed (s : State) : Host.Outcome State Fault Refusal := ok s (·.doSaveRecordConfirmed)

/-- VALID_MARK_CONFIRMED (R221). -/
def execValidMarkConfirmed (s : State) : Host.Outcome State Fault Refusal := ok s (·.doValidMarkConfirmed)

/-- TRAILING_DONE (R219). -/
def execTrailingDone (s : State) : Host.Outcome State Fault Refusal := ok s (·.doTrailingDone)

/-- ENERGY_EXHAUSTED (R221). -/
def execEnergyExhausted (s : State) : Host.Outcome State Fault Refusal := ok s (·.doEnergyExhausted)

end Sys2Proof.Machine
end

