-- ==== Sys2Proof/Machine/Clocks.lean ====
section
/-!
DEFINITION. Clocks, power domains and adaptive loops (R486 to R502): the tick counter's source, the core voltage, the
levels of the management cores, the thermal stages, equalization, and the idle and wake of the switched domains.
-/
namespace Sys2Proof.Machine

/-! ### Time base -/

/-- CRYSTAL_STABLE (R486): the crystal has run stable for 4,096 periods; the tick counter goes on from it without a skipped
or repeated tick. -/
def State.doCrystalStable (s : State) : State :=
  if s.pwr.xtal ∨ !(s.seq.main || s.seq.vbat) then s
  else { s with pwr := { s.pwr with xtal := true } }.put R.PWR_STAT_RC_ACT false

/-- CRYSTAL_STOP (R487): the counter continues from the RC oscillator. -/
def State.doCrystalStop (s : State) : State :=
  if !s.pwr.xtal then s
  else ({ s with pwr := { s.pwr with xtal := false } }.put R.PWR_STAT_RC_ACT true).note 0x12 1

/-! ### Core voltage -/

/-- AVS_LOOP_RUN (R495): `slack` is the lowest slack among the monitors. No request leaves 700 mV to VMAX, none falls during
a save or a warm reset (R497), and none is made before a Voltage read confirms the last. -/
def State.doAvsLoopRun (s : State) (slack : Nat) : State :=
  if !s.on R.PWR_LOOP_AVS_EN ∨ s.on R.PWR_STAT_AVS_FLT ∨ s.boot.inReset then s
  else
    let s := s.wr R.PWR_CPM_SLACK_MIN (min slack 63)
    let v := s.rd R.PWR_AVSST_VSET
    if s.pwr.avsWait then s
    else if slack < s.rd R.PWR_CPM_SLACK_LO then
      (if v + 5 ≤ s.rd R.PWR_AVS_VMAX then s.avsAsk (v + 5) else s)
    else if s.rd R.PWR_CPM_SLACK_HI < slack ∧ 705 ≤ v ∧ s.cvn.code = 0 ∧ !s.boot.warm then s.avsAsk (v - 5)
    else s

/-- AVS_TRANSACTION_DONE (R494, R495): `good` says that neither the check nor the status was bad, `volts` what a Voltage read
returned; the fourth failure stops the loop, and a reading within 10 mV confirms the request. [DEDUCED, unsafe: log 176] -/
def State.doAvsTransactionDone (s : State) (good : Bool) (volts : Nat) : State :=
  if !s.pwr.avsWait ∨ s.boot.inReset ∨ s.on R.PWR_STAT_AVS_FLT then s
  else if !good then
    (if s.pwr.avsTry < 3 then
       { s with pwr := { s.pwr with avsTry := s.pwr.avsTry + 1 } }.emit (.issue 3 [s.rd R.PWR_AVSST_VSET])
     else ({ s with pwr := { s.pwr with avsWait := false, avsTry := 0 } }.put R.PWR_STAT_AVS_FLT true).note 0x12 2)
  else
    let v := s.rd R.PWR_AVSST_VSET
    let s := s.wr R.PWR_AVSST_VREAD volts
    { s with pwr := { s.pwr with avsTry := 0, avsWait := decide (volts + 10 < v) || decide (v + 10 < volts) } }

/-- CPM_EMERGENCY (R496). -/
def State.doCpmEmergency (s : State) (slack : Nat) : State :=
  if s.pwr.stretch ∨ s.boot.inReset ∨ s.rd R.PWR_CPM_SLACK_EMG ≤ slack then s
  else { s with pwr := { s.pwr with stretch := true } }.inc R.PWR_CPM_STRETCH

/-- STRETCH_END (R496). -/
def State.doStretchEnd (s : State) (slack : Nat) : State :=
  if s.rd R.PWR_CPM_SLACK_LO ≤ slack then { s with pwr := { s.pwr with stretch := false } } else s

/-! ### Core levels -/

/-- FS_WINDOW_END (R492): `busy` is the percentage of the window in which the core was busy. [DEDUCED, unsafe: log 177] -/
def State.doFsWindowEnd (s : State) (n busy : Nat) : State :=
  if 4 ≤ n ∨ s.boot.inReset ∨ !s.pdOn (24 + n) then s
  else
    let v := s.rd R.PWR_FS_LVL 0 n
    let c := if busy < 25 then smGet 0 s.pwr.fsLow n + 1 else 0
    let (v, c) := if 75 < busy then (v - 1, c) else if 4 ≤ c then (v + 1, 0) else (v, c)
    { s with pwr := { s.pwr with fsLow := smSet 0 n c s.pwr.fsLow } }.fsSet n v

/-! ### Thermal loop -/

/-- The threshold of a stage, Q12.4 (Table 20-3). -/
def State.stageAt (s : State) (k : Nat) : Int :=
  match k with
  | 1 => s16 (s.rd R.PWR_TTH0_TJ_WARN)
  | 2 => s16 (s.rd R.PWR_TTH0_TJ_THROT)
  | 3 => s16 (s.rd R.PWR_TTH0_TJ_THROT) + 40
  | _ => s16 (s.rd R.PWR_TTH1_TJ_CRIT)

/-- The sensor with the highest reading, the lowest such. -/
def hottest (temps : List Nat) : Nat :=
  (List.range 32).foldl (fun b k => if s16 (temps.getD b 0) < s16 (temps.getD k 0) then k else b) 0

/-- Entering the stages from `a` + 1 to `b` (Table 20-3): stage 1 is an event, stage 4 an event of severity 4 and an
alert cause. -/
def State.stageEnter (s : State) (a b : Nat) : State :=
  let s := if a < 1 ∧ 1 ≤ b then s.note 0x12 3 else s
  if a < 4 ∧ 4 ≤ b then (s.note 0x12 (0x500 + 4)).alert 1 else s

/-- THERMAL_READ (R498): the 32 junction sensors, Q12.4. A stage is entered at the first reading at its threshold, and left
when TJ has stayed at least 3 °C below it for 1,024 ticks. -/
def State.doThermalRead (s : State) (temps : List Nat) : State :=
  if s.boot.inReset then s
  else
    let s := (List.range 32).foldl (fun s k => s.wr R.PWR_TSNS_T (temps.getD k 0) k) s
    let h := hottest temps
    let s := (s.wr R.PWR_THERM_TJ (temps.getD h 0)).wr R.PWR_THERM_HOT h
    let tj := s16 (temps.getD h 0)
    let cur := s.rd R.PWR_STAT_STAGE
    let cool := [1, 2, 3, 4].foldl (fun m k =>
      if s.stageAt k - 48 < tj then smSet 0 k 0 m
      else if smGet 0 m k = 0 then smSet 0 k (s.tick + 1) m else m) s.pwr.coolAt
    let s := { s with pwr := { s.pwr with coolAt := cool } }
    let held := fun (k : Nat) => decide (s.stageAt k ≤ tj) ||
      (decide (k ≤ cur) && !(decide (smGet 0 cool k ≠ 0) && decide (smGet 0 cool k - 1 + 1024 ≤ s.tick)))
    let new := ([4, 3, 2, 1].find? held).getD 0
    ((s.wr R.PWR_STAT_STAGE new).stageEnter cur new).fsAll

/-! ### Equalization -/

/-- EQ_MEASUREMENT (R502): `marg` is the port's lowest lane margin, percent UI; `rate` and `width` are what a repeated
equalization leaves, if this measurement is the third low one in a row and none ran in the last 60 s.
[DESIGN CHOICE, safe: log 180] -/
def State.doEqMeasurement (s : State) (port marg rate width : Nat) : State :=
  if 2 ≤ port ∨ !s.on R.PWR_LOOP_EQ_EN ∨ s.rd R.HP_STAT_LINK port ≠ 2 ∨ s.rd R.HP_STAT_RATE port < 5 then s
  else
    let s := s.wr R.PWR_EQ_MARG_MIN (min marg 127) port
    let c := if marg < s.rd R.PWR_EQ_EQ_MARG port then smGet 0 s.pwr.eqLow port + 1 else 0
    let last := smGet 0 s.pwr.eqAt port
    if 3 ≤ c ∧ (last = 0 ∨ last - 1 + 1966080 ≤ s.tick) then
      let s := { s with pwr := { s.pwr with eqLow := smSet 0 port 0 s.pwr.eqLow,
                                            eqAt := smSet 0 port (s.tick + 1) s.pwr.eqAt } }.inc R.PWR_EQ_REDO port
      let low := decide (rate < s.rd R.HP_STAT_RATE port) || decide (width < s.rd R.HP_STAT_WIDTH port)
      let s := (s.wr R.HP_STAT_RATE rate port).wr R.HP_STAT_WIDTH width port
      if low then s.note 0x12 5 port else s
    else { s with pwr := { s.pwr with eqLow := smSet 0 port (min c 3) s.pwr.eqLow } }

/-! ### Domains -/

/-- A switched domain's block is idle: FTL accelerators, TWI0's fast path and TWI1, the code flash, the check-value engines
(Table 20-2). [DEDUCED, unsafe: log 178] [DEDUCED, unsafe: log 179] -/
def State.pdIdle (s : State) (n : Nat) : Bool :=
  match n with
  | 19 => s.flash.ops.isEmpty && s.nvm.cmds.isEmpty
  | 20 => s.flash.ops.isEmpty && s.nvm.cmds.isEmpty
  | 29 => s.twi.queue.isEmpty && s.twi.run.all (fun e => e.2.isNone)
  | 30 => s.cfl.queue.isEmpty && (List.range 2).all (fun b => decide (s.rd R.CFL_OWN_OWNER b = 0))
  | 31 => (List.range 8).all (fun e => decide (s.rd R.CRC_GE_OWN_OWNER e = 0))
  | _ => false

/-- DOMAIN_IDLE (R489): a domain idle for its idle time switches off; a value of 0 disables it (R491), and so does a save
(R490). -/
def State.doDomainIdle (s : State) (n : Nat) : State :=
  if s.pdOn n ∧ s.pdIdle n ∧ s.ap R.PWR_IDLE_IDLE n ≠ 0 ∧ !s.pwr.saveOn ∧ !s.boot.inReset then s.pdSleep n else s

/-- DOMAIN_WAKE (R489): a request for a switched-off domain wakes it, within its limit (R488). -/
def State.doDomainWake (s : State) (n : Nat) : State :=
  if !s.boot.inReset ∧ [19, 20, 29, 30, 31].contains n then s.pdWake n else s

/-! ### The commands -/

/-- CRYSTAL_STABLE (R486). -/
def execCrystalStable (s : State) : Host.Outcome State Fault Refusal := ok s (·.doCrystalStable)

/-- CRYSTAL_STOP (R487). -/
def execCrystalStop (s : State) : Host.Outcome State Fault Refusal := ok s (·.doCrystalStop)

/-- AVS_LOOP_RUN (R495). -/
def execAvsLoopRun (slack : Nat) (s : State) : Host.Outcome State Fault Refusal := ok s (·.doAvsLoopRun slack)

/-- AVS_TRANSACTION_DONE (R494). -/
def execAvsTransactionDone (good : Bool) (volts : Nat) (s : State) :
    Host.Outcome State Fault Refusal := ok s (·.doAvsTransactionDone good volts)

/-- CPM_EMERGENCY (R496). -/
def execCpmEmergency (slack : Nat) (s : State) : Host.Outcome State Fault Refusal := ok s (·.doCpmEmergency slack)

/-- STRETCH_END (R496). -/
def execStretchEnd (slack : Nat) (s : State) : Host.Outcome State Fault Refusal := ok s (·.doStretchEnd slack)

/-- FS_WINDOW_END (R492). -/
def execFsWindowEnd (core : Nat) (busy : Nat) (s : State) :
    Host.Outcome State Fault Refusal := ok s (·.doFsWindowEnd core busy)

/-- THERMAL_READ (R498). -/
def execThermalRead (temps : List Nat) (s : State) : Host.Outcome State Fault Refusal := ok s (·.doThermalRead temps)

/-- EQ_MEASUREMENT (R502). -/
def execEqMeasurement (port : Nat) (marg : Nat) (rate : Nat) (width : Nat) (s : State) :
    Host.Outcome State Fault Refusal := ok s (·.doEqMeasurement port marg rate width)

/-- DOMAIN_IDLE (R489). -/
def execDomainIdle (pd : Nat) (s : State) : Host.Outcome State Fault Refusal := ok s (·.doDomainIdle pd)

/-- DOMAIN_WAKE (R489). -/
def execDomainWake (pd : Nat) (s : State) : Host.Outcome State Fault Refusal := ok s (·.doDomainWake pd)

end Sys2Proof.Machine
end

