-- ==== Sys2Proof/Machine/Dram.lean ====
section
/-!
DEFINITION. The commands of the DRAM subsystem (R105 to R144): the command slot and its seven rules, refresh and the
row-disturb defence, the data of a read with the symbol code's finding, retraining, patrol scrub, and the retirement of a
rank. A DRAM command leaves the chip as `.issue 10 [way, command, bank key, row]`: 0 refresh, 1 refresh management,
2 training or ZQ, 3 read, 4 write, 5 precharge, 6 activate, 7 scrub read, 8 power-down entry, 9 its exit, 10 retry.
-/
namespace Sys2Proof.Machine

/-! ### The command slot -/

/-- A DRAM command leaves the chip. -/
def State.dramCmd (s : State) (way cmd : Nat) (rest : List Nat) : State := s.emit (.issue 10 (way :: cmd :: rest))

/-- A subchannel of a channel in service, not in self-refresh. -/
def State.wayUp (s : State) (w : Nat) : Bool :=
  decide (w < 16) && decide (s.rd R.DCH_STAT_STATE (w / 2) = 2) && !s.dram.selfRef && !s.boot.inReset

/-- The requests of a subchannel. -/
def State.wayQ (s : State) (w : Nat) : List DReq := s.dram.q.filter (fun r => decide (r.way = w))

/-- A read waits for a queued write of its line, and a write for the writes of its line ahead of it (R116). -/
def State.lineWaits (s : State) (r : DReq) : Bool :=
  let same := fun (x : DReq) => x.wr && decide (x.line = r.line) && decide (x.id ≠ r.id)
  if r.wr then (s.dram.q.takeWhile (fun x => decide (x.id ≠ r.id))).any same else s.dram.q.any same

/-- The open row has served HIT_CAP column commands while its bank queue holds a request of equal or higher urgency for
another row (R119 rule 4). -/
def State.capped (s : State) (r : DReq) : Bool :=
  decide (s.rd R.DCH_CTL_HIT_CAP (r.way / 2) ≤ smGet 0 s.dram.hits r.key) &&
  (s.bankQ r.way r.bank).any (fun x => decide (r.urg ≤ x.urg) && !(decide (x.key = r.key) && decide (x.row = r.row)))

/-- Whether `a` comes before `b`, which stands behind it in the queue: higher or equal urgency, and at equal urgency a read
before a write outside drain mode and a write before a read in it (R119 rule 3). -/
def colBefore (drain : Bool) (a b : DReq) : Bool :=
  decide (b.urg < a.urg) || (decide (a.urg = b.urg) && (decide (a.wr = b.wr) || decide (a.wr = drain)))

/-- The first of a list by an order; on a tie the one that stands first. -/
def firstBy {α : Type} (before : α → α → Bool) : List α → Option α
  | [] => none
  | x :: xs => some (xs.foldl (fun a b => if before a b then a else b) x)

/-- A migration's command may take this slot: the channel owes it one (R136). -/
def State.migMay (s : State) (r : DReq) : Bool :=
  decide (r.src ≠ .migrate) || decide (100 ≤ smGet 0 s.dram.migCred (r.way / 2))

/-- A migration's command has taken a slot. -/
def State.migPay (s : State) (r : DReq) : State :=
  if r.src = .migrate then { s with dram := { s.dram with migCred := smUpd 0 (r.way / 2) (· - 100) s.dram.migCred } } else s

/-- The column command of rule 3. -/
def State.colPick (s : State) (w : Nat) (blocked : List Nat) : Option DReq :=
  firstBy (colBefore (s.draining w)) ((s.wayQ w).filter (fun r =>
    s.rowHit r && !blocked.contains r.key && !s.lineWaits r && !s.capped r && s.migMay r))

/-- An activate counts in its row group of 8 rows: the new count, and the bank's table of 16 (R124). Of several entries that
are equally lowest the spec names none to be replaced; the first listed is. [DESIGN CHOICE, unsafe: log 194] -/
def groupCount (g : Nat) (t : List (Nat × Nat)) : Nat × List (Nat × Nat) :=
  match t.find? (fun e => decide (e.1 = g)) with
  | some e => (e.2 + 1, t.map (fun x => if x.1 = g then (g, x.2 + 1) else x))
  | none =>
    if t.length < 16 then (1, t ++ [(g, 1)])
    else
      match firstBy (fun (a b : Nat × Nat) => decide (a.2 ≤ b.2)) t with
      | some m => (m.2 + 1, t.map (fun x => if x.1 = m.1 then (g, m.2 + 1) else x))
      | none => (1, [(g, 1)])

/-- ROW_DISTURB_CROSSING (R125, R126): a refresh-management command for the bank, and the limit on whoever crossed.
[DEDUCED, unsafe: log 61] -/
def State.crossing (s : State) (r : DReq) : State :=
  let c := r.way / 2
  let s := { s with dram := { s.dram with rfmDue := smUpd 0 r.key (· + 1) s.dram.rfmDue } }
  match r.src, r.qent with
  | .host _, some e =>
    let s := { s with dram := { s.dram with quiet := smSet 0 e (1 + r.way) s.dram.quiet } }
    ((s.wr R.QOS_THR_ACT_THR (s.rd R.DRM_RDD_RD_RATE) e).put R.QOS_KEY_ACT_HELD true e).inc R.DCH_RDC_HOST_CNT c
  | .host _, none =>
    ({ s with dram := { s.dram with ovfQuiet := 1 + r.way } }.put R.DRM_RDOVF_OVF_ACT true).inc R.DCH_RDC_HOST_CNT c
  | _, _ => s.inc R.DCH_RDC_INT_CNT c

/-- Precharge a bank. -/
def State.precharge (s : State) (way key : Nat) : State :=
  { s with dram := { s.dram with openRow := smSet 0 key 0 s.dram.openRow, hits := smSet 0 key 0 s.dram.hits } }.dramCmd
    way 5 [key]

/-- Whether an activate of host traffic is counted towards the limits of R125. -/
def DReq.ofHost (r : DReq) : Bool := match r.src with | .host _ => true | _ => false

/-- Rule 5 has picked a bank: the rotation pointer moves to it (R119). -/
def State.rotTo (s : State) (r : DReq) : State :=
  { s with dram := { s.dram with rot := smSet 0 r.way (r.bank + 1) s.dram.rot } }

/-- Activate the row of a request: it opens, and the activate counts (R119, R123, R124). A bank that reaches the maximum
management threshold receives no further activate until a refresh-management command has issued (R123). A counter is cleared at
a crossing by host traffic only (R126). -/
def State.activate (s : State) (r : DReq) : State :=
  let k := r.key
  let (n, t) := groupCount (r.row / 8) (smGet [] s.dram.groups k)
  let cross := decide (s.rd R.DRM_RDD_RD_THR ≤ n)
  let t := if cross && r.ofHost then t.map (fun x => if x.1 = r.row / 8 then (x.1, 0) else x) else t
  let s := (s.actSpend r).dramCmd r.way 6 [k, r.row]
  let s := { s with dram := { s.dram with openRow := smSet 0 k (r.row + 1) s.dram.openRow,
                                          hits := smSet 0 k 0 s.dram.hits,
                                          groups := smSet [] k t s.dram.groups } }
  let s := if s.on R.DCH_REF_RFM_REQ (r.way / 2) then
      let a := smGet 0 s.dram.raa k + 1
      let due := decide (Config.raaInitial (r.way / 2) ≤ a) && decide (smGet 0 s.dram.rfmDue k = 0)
      let full := decide (Config.raaMaximum (r.way / 2) ≤ a)
      { s with dram := { s.dram with raa := smSet 0 k a s.dram.raa,
                                     rfmHold := if full then setIns k s.dram.rfmHold else s.dram.rfmHold,
                                     rfmDue := if due then smSet 0 k 1 s.dram.rfmDue else s.dram.rfmDue } }
    else s
  if cross then s.crossing r else s

/-- The request of a bank queue that decides what the bank needs: of the highest urgency, the oldest, a capped row
skipped. -/
def State.bankTop (s : State) (w b : Nat) : Option DReq :=
  firstBy (fun (x y : DReq) => decide (y.urg ≤ x.urg)) ((s.bankQ w b).filter (fun r => !(s.rowHit r && s.capped r)))

/-- The bank of rule 5: its top request needs a closed or a different row. Highest urgency first, then the first in rotation
order after the bank of the last activate. -/
def State.rowPick (s : State) (w : Nat) (blocked : List Nat) : Option DReq :=
  let start := smGet 0 s.dram.rot w
  let tops := ((List.range 32).map (fun i => (start + i) % 32)).filterMap (fun b => s.bankTop w b)
  firstBy (fun (x y : DReq) => decide (y.urg ≤ x.urg)) (tops.filter (fun r =>
    !s.rowHit r && !blocked.contains r.key && s.migMay r &&
    (decide (smGet 0 s.dram.openRow r.key ≠ 0) || (s.actAllowed r && !s.dram.rfmHold.contains r.key))))

/-- A line that a migration reads or writes has come back, or reached the spare (R136): one that stays uncorrectable is counted in
MIG_POISON and goes to the spare with its mark. -/
def State.migrLine (s : State) (c line : Nat) (read bad : Bool) : State :=
  let s' := { s with dram := { s.dram with migr := s.dram.migr.map (fun (e : Nat × Migr) =>
    if e.1 = c ∧ e.2.flying.contains line then
      (c, { e.2 with flying := e.2.flying.filter (fun x => decide (x ≠ line)),
                     back := if read then e.2.back ++ [(line, bad)] else e.2.back }) else e) } }
  if read && bad && s.dram.migr.any (fun e => decide (e.1 = c) && e.2.flying.contains line)
  then s'.addSat R.DCH_MIG_MIG_POISON 1 c else s'

/-- A write's column command has issued: what waited for it follows. -/
def State.wroteLine (s : State) (r : DReq) : State :=
  match r.src with
  | .migrate => s.migrLine (r.way / 2) r.line false false
  | .host _ | .rewrite | .scrub => s
  | src => s.pagePut src r.line

/-- A column command issues: a write lands (R89), a read takes its data; the slot of the bank queue is free (R115). -/
def State.column (s : State) (r : DReq) : State :=
  let q := s.dram.q.filter (fun x => decide (x.id ≠ r.id))
  let s := ({ s with dram := { s.dram with q := q, hits := smUpd 0 r.key (· + 1) s.dram.hits } }.dramCmd r.way
    (if r.wr then 4 else 3) [r.key, r.row, r.line]).migPay r
  let s : State := if r.wr then (s.landWrite r.line r.be r.data r.psn).wroteLine r
    else
      let x : DReq := { r with data := s.bytesAt r.line 64, psn := s.poisoned r.line }
      { s with dram := { s.dram with reading := s.dram.reading ++ [x] } }
  let s : State := match r.src with
    | .host id => (match s.req id with | some y => s.setReq { y with stage := .readIssued } | none => s)
    | _ => s
  let s := s.drainRefresh r.way
  let s := match r.qent with | some e => s.throtRefresh e | none => s
  if s.host.cxlHold then s else s.goAll

/-! ### Patrol scrub -/

/-- Lines of a subchannel that scrub reads: every rank, the spare included (R131). -/
def State.scrubLines (s : State) (w : Nat) : Nat :=
  let c := w / 2
  s.rd R.DCH_GEO_RANK_GIB c * 2 ^ 23 * s.ranksOf c

/-- Ticks of the scrub period. -/
def State.scrubPer (s : State) : Nat := s.ap R.DRM_SCRUB_PER * 3600 * 32768

/-- A new pass begins when the last one has read every line and its period is over (R131); the pending period applies
(R18). -/
def State.scrubStart (s : State) : State :=
  if s.dram.scrubDone && decide (s.dram.scrubFrom + s.scrubPer ≤ s.tick) then
    { s with dram := { s.dram with scrubAt := [], scrubDone := false, scrubFrom := s.tick } }.applyRws R.DRM_SCRUB_PER
  else s

/-- Whether every line of every subchannel in use has been read. -/
def State.scrubEnd (s : State) : Bool :=
  (List.range 16).all (fun w => !s.wayUp w || decide (s.scrubLines w ≤ smGet 0 s.dram.scrubAt w))

/-- The rank of S whose data a physical rank of a subchannel holds at an offset: the spare and the rank that it stands for change
places, below the watermark only while the rank migrates (R137, R139). [DEDUCED, unsafe: log 63] -/
def State.scrubRank (s : State) (w pr off : Nat) : Nat :=
  let c := w / 2
  let spare := s.spareRank c
  let q := match (smGet none (s.dram.migr.map (fun e => (e.1, some e.2))) c : Option Migr) with
    | some m => if off / 4096 < s.rd R.DCH_MIGW_W c then some m.rank else none
    | none => (List.range 4).find? (fun r => decide (s.rd R.DCH_RANK_STATE c r = 2))
  match q with
  | some q => if pr = spare then q else if pr = q then spare else pr
  | none => pr

/-- The next line of a subchannel that scrub reads, as a request for its bank (R131); none while a scrub read of the subchannel
is outstanding, or the way is outside the group that carries host memory (R143). -/
def State.scrubNext (s : State) (w : Nat) : Option DReq :=
  let n := smGet 0 s.dram.scrubAt w
  let base := 2 * s.rd R.DRM_STAT_GRP_BASE
  if s.scrubLines w ≤ n || decide (w < base) || decide (base + 2 ^ s.rd R.DRM_STAT_WAYS ≤ w) ||
     s.dram.reading.any (fun x => decide (x.src = .scrub) && decide (x.way = w)) then none
  else
    let size := s.rd R.DCH_GEO_RANK_GIB (w / 2) * 2 ^ 29
    let pr := 64 * n / size
    let a := s.addrOf w (s.scrubRank w pr (64 * n % size) * size + 64 * n % size)
    let l := s.locOf a
    some { id := s.dram.next, way := w, bank := l.bank, drank := 8 * pr + l.cid, row := l.row, line := a, wr := false,
           data := s.bytesAt a 64, be := 0, psn := s.poisoned a, src := .scrub, urg := 0, qent := none }

/-- The scrub read of a line issues. -/
def State.scrubIssue (s : State) (x : DReq) : State :=
  let s := { s with dram := { s.dram with next := s.dram.next + 1, reading := s.dram.reading ++ [x],
                                          scrubAt := smUpd 0 x.way (· + 1) s.dram.scrubAt } }.dramCmd x.way 7 [x.line]
  if s.scrubEnd then { s with dram := { s.dram with scrubDone := true } }.inc R.DRM_SCRUBST_PASSES else s

/-- Rule 7 of R119: the next patrol scrub read, once its row is open; a line of the unit that a migration copies waits (R137). -/
def State.scrubRead (s : State) (w : Nat) (blocked : List Nat) : State :=
  if !s.on R.DRM_SCRUB_EN || s.dram.caravan then s
  else
    let s := s.scrubStart
    match s.scrubNext w with
    | none => s
    | some x =>
      if blocked.contains x.key || s.unitBusy (s.locOf x.line) then s
      else if s.rowHit x then s.scrubIssue x
      else if smGet 0 s.dram.openRow x.key ≠ 0 then s.precharge w x.key
      else if s.dram.rfmHold.contains x.key then s
      else s.activate x

/-- SCRUB_PERIOD_END (R131): a pass that exceeds its period sets LATE and continues. -/
def State.doScrubPeriodEnd (s : State) : State :=
  if s.on R.DRM_SCRUB_EN && !s.dram.scrubDone && decide (s.dram.scrubFrom + s.scrubPer ≤ s.tick) then
    s.put R.DRM_SCRUBST_LATE true
  else s

/-! ### Slots -/

/-- A corrected line is written back: the write enters its bank queue, or waits for room (R115, R128). It writes what the line
holds when it issues, so it enables no byte of its own. -/
def State.rewriteLine (s : State) (line : Nat) : State :=
  if s.dramRoom line then s.dramPush line true [] 0 false .rewrite 1 none
  else { s with dram := { s.dram with rewrites := s.dram.rewrites ++ [line] } }

/-- Rewrites that waited enter their queues. -/
def State.rewriteRoom (s : State) : State :=
  let l := s.dram.rewrites
  l.foldl (fun s a => s.rewriteLine a) { s with dram := { s.dram with rewrites := [] } }

/-- The lines of the unit at the watermark, in the same order on both subchannels (R136). -/
def State.migrLines (s : State) (c : Nat) (m : Migr) : List Nat :=
  let size := s.rd R.DCH_GEO_RANK_GIB c * 2 ^ 29
  (List.range 64).flatMap (fun i =>
    [s.addrOf (2 * c) (m.rank * size + 4096 * s.rd R.DCH_MIGW_W c + 64 * i),
     s.addrOf (2 * c + 1) (m.rank * size + 4096 * s.rd R.DCH_MIGW_W c + 64 * i)])

/-- Queue one line of a migration's unit, if its bank queue has room (R115). -/
def State.migrPush (s : State) (c line : Nat) (wr bad : Bool) : State :=
  let l := s.locOf line
  if 16 ≤ (s.bankQ l.way l.bank).length then s
  else
    let take := fun (m : Migr) => { m with
      todo := if wr then m.todo else m.todo.filter (fun x => decide (x ≠ line)),
      back := if wr then m.back.filter (fun x => decide (x ≠ (line, bad))) else m.back,
      flying := m.flying ++ [line] }
    { s with dram := { s.dram with migr := s.dram.migr.map (fun (e : Nat × Migr) => if e.1 = c then (c, take e.2) else e) } }.dramPush
      line wr [] 0 bad .migrate 2 none

/-- The copy of a unit begins once the writes queued for it have issued (R137). -/
def State.migrBegin (s : State) (c : Nat) (m : Migr) : State :=
  if m.begun || s.dram.q.any (fun x => x.wr && decide (x.way / 2 = c) && s.unitBusy (s.locOf x.line)) then s
  else { s with dram := { s.dram with migr := s.dram.migr.map (fun (e : Nat × Migr) =>
    if e.1 = c then (c, { m with begun := true, todo := s.migrLines c m, back := [], flying := [] }) else e) } }

/-- The migration of a channel queues the reads of its unit and the writes of the lines read (R136). -/
def State.migrRoom (s : State) (c : Nat) : State :=
  let at0 := fun (s : State) => (smGet none (s.dram.migr.map (fun e => (e.1, some e.2))) c : Option Migr)
  match at0 s with
  | none => s
  | some m =>
    if s.dram.caravan then s
    else
      let s := s.migrBegin c m
      match at0 s with
      | none => s
      | some m =>
        let s := m.todo.foldl (fun s a => s.migrPush c a false false) s
        m.back.foldl (fun s e => s.migrPush c e.1 true e.2) s

/-- Each command slot of a channel owes MIG_SHARE percent of a slot to its migration (R136). [DEDUCED, unsafe: log 203] -/
def State.migEarn (s : State) (c : Nat) : State :=
  if s.dram.migr.all (fun e => decide (e.1 ≠ c)) then s
  else { s with dram := { s.dram with migCred := smUpd 0 c (fun v => min 199 (v + s.rd R.DCH_MIG_MIG_SHARE c)) s.dram.migCred } }

/-- What waited for room in the bank queues enters them at a command slot: rewrites, the pages of movers, and the lines of a
migration, which is owed its share of the slot (R115, R136). -/
def State.slotRoom (s : State) (w : Nat) : State := ((s.rewriteRoom.pageRoom).migrRoom (w / 2)).migEarn (w / 2)

/-- The refresh-management command due first on a subchannel. [PRESUMED, unsafe: log 60] -/
def State.rfmPick (s : State) (w : Nat) (blocked : List Nat) : Option Nat :=
  (s.dram.rfmDue.find? (fun e => decide (e.1 / 1024 = w) && !blocked.contains e.1)).map (·.1)

/-- It issues: the bank is precharged and its activate count falls (R123, R125). -/
def State.rfmIssue (s : State) (w k : Nat) : State :=
  let d := { s.dram with rfmDue := smUpd 0 k (· - 1) s.dram.rfmDue, openRow := smSet 0 k 0 s.dram.openRow,
                         hits := smSet 0 k 0 s.dram.hits, rfmHold := s.dram.rfmHold.filter (fun x => decide (x ≠ k)),
                         raa := if s.on R.DCH_REF_RFM_REQ (w / 2) then smUpd 0 k (· - Config.raaInitial (w / 2)) s.dram.raa
                                else s.dram.raa }
  { s with dram := d }.dramCmd w 1 [k]

/-- Rules 5 to 7 of R119. -/
def State.slotRest (s : State) (w : Nat) (blocked idleRows : List Nat) : State :=
  match s.rowPick w blocked with
  | some r =>
    let s := s.rotTo r
    (if smGet 0 s.dram.openRow r.key ≠ 0 then s.precharge w r.key else s.activate r).migPay r
  | none =>
    match idleRows.find? (fun k => decide (k / 1024 = w) && decide (smGet 0 s.dram.openRow k ≠ 0) &&
        !blocked.contains k) with
    | some k => s.precharge w k
    | none => s.scrubRead w blocked

/-- DRAM_COMMAND_SLOT (R119): the first command that the rules yield. `blocked` are the banks, by key, to which DDR5 timing
permits no command in this slot; `idleRows` those whose open row has been idle for PRE_IDLE. A subchannel in power-down
leaves it first (R121). [DESIGN CHOICE, unsafe: log 59] -/
def State.doDramCommandSlot (s : State) (w : Nat) (blocked idleRows : List Nat) : State :=
  if !s.wayUp w then s
  else
    let s := s.slotRoom w
    if bit s.dram.pdown w then
      (if (s.wayQ w).isEmpty && (s.rfmPick w blocked).isNone then s
       else { s with dram := { s.dram with pdown := setBitTo s.dram.pdown w false } }.dramCmd w 9 [])
    else
      match s.rfmPick w blocked with
      | some k => s.rfmIssue w k
      | none => (match s.colPick w blocked with
        | some r => s.column r
        | none => s.slotRest w blocked idleRows)

/-- The refreshes of a subchannel are bank by bank: REF_SB_EN is applied and the DIMM supports them (R122). -/
def State.sameBank (s : State) (w : Nat) : Bool := decide (s.ap R.DCH_REF_REF_SB_EN (w / 2) ≠ 0) && bit s.dram.sbRef (w / 2)

/-- The banks that a refresh takes: all of the subchannel, or those of one bank address in every bank group (R122, R113). -/
def State.refreshed (s : State) (w k : Nat) : Bool :=
  decide (k / 1024 = w) && (!s.sameBank w || decide (k % 4 = smGet 0 s.dram.sbNext w))

/-- A refresh issues: the rows of its banks close, and their activate counts fall (R123). -/
def State.refreshIssue (s : State) (w : Nat) : State :=
  let hit := s.refreshed w
  let raa := if s.on R.DCH_REF_RFM_REQ (w / 2) then
      (s.dram.raa.map (fun (e : Nat × Nat) => if hit e.1 then (e.1, e.2 - Config.raaInitial (w / 2)) else e)).filter
        (fun e => decide (e.2 ≠ 0))
    else s.dram.raa
  let ba := smGet 0 s.dram.sbNext w
  { s with dram := { s.dram with pdown := setBitTo s.dram.pdown w false, openRow := smErase hit s.dram.openRow,
                                 hits := smErase hit s.dram.hits, raa := raa,
                                 sbNext := if s.sameBank w then smSet 0 w ((ba + 1) % 4) s.dram.sbNext else s.dram.sbNext } }.dramCmd
    w 0 (if s.sameBank w then [0, ba] else [1])

/-- The bank address whose turn it is in same-bank refresh (R122). -/
def State.sbTurn (s : State) (w ba : Nat) : State := { s with dram := { s.dram with sbNext := smSet 0 w (ba % 4) s.dram.sbNext } }

/-- REFRESH_DUE (R119 rules 1 and 2, R122): a refresh takes the slot, all-bank or bank by bank; a due training or ZQ step uses
it. An all-bank refresh is the apply boundary of the write thresholds (R18). `ba`: the bank address that a same-bank refresh takes;
`postponed`: refreshes that the worst rank then
has postponed, which never exceed the limit of the standard. -/
def State.doRefreshDue (s : State) (w ba postponed : Nat) : State :=
  if !s.wayUp w then s
  else
    let c := w / 2
    let sb := s.sameBank w
    let s := (if sb then s.sbTurn w ba else s).refreshIssue w
    let s := if sb then s else (s.applyRws R.DCH_CTL_WR_HI c).applyRws R.DCH_CTL_WR_LO c
    let s := s.wr R.DCH_REF_POSTPONED (min (min postponed (Config.refPostponeMax sb (s.on R.DCH_STAT_REF2X c))) 15) c
    let s : State := if smGet 0 s.dram.trnDue w = 0 ∨ s.dram.caravan then s
      else { s with dram := { s.dram with trnDue := smUpd 0 w (· - 1) s.dram.trnDue } }.dramCmd w 2 []
    s.drainRefresh w

/-- A refresh window of subchannel `w` ends for the hold that `v` records: whether the limit is released, and the record
(R126). -/
def quietStep (hold w v : Nat) : Bool × Nat :=
  if v = 0 ∨ (v - 1) % 16 ≠ w then (false, v)
  else if hold ≤ (v - 1) / 16 then (true, 0)
  else (false, v + 16)

/-- REFRESH_WINDOW_END (R124, R126): the tables of the subchannel clear, and the limits held long enough are released; it is
the apply boundary of REF_SB_EN (R18). -/
def State.doRefreshWindowEnd (s : State) (w : Nat) : State :=
  if !s.wayUp w then s
  else
    let hold := s.rd R.DRM_RDD_RD_HOLD
    let s := { s with dram := { s.dram with groups := smErase (fun k => decide (k / 1024 = w)) s.dram.groups } }
    let s := s.dram.quiet.foldl (fun s (e : Nat × Nat) =>
      let (rel, v) := quietStep hold w e.2
      let s := { s with dram := { s.dram with quiet := smSet 0 e.1 v s.dram.quiet } }
      if rel then ((s.wr R.QOS_THR_ACT_THR 0 e.1).put R.QOS_KEY_ACT_HELD false e.1).throtRefresh e.1 else s) s
    let (rel, v) := quietStep hold w s.dram.ovfQuiet
    let s := { s with dram := { s.dram with ovfQuiet := v } }
    (if rel then s.put R.DRM_RDOVF_OVF_ACT false else s).applyRws R.DCH_REF_REF_SB_EN (w / 2)

/-- POWER_DOWN_ENTRY (R121): no eligible command for PD_IDLE; never while a save runs, or with PD_IDLE 0. -/
def State.doPowerDownEntry (s : State) (w : Nat) : State :=
  if !s.wayUp w || bit s.dram.pdown w || s.dram.caravan || decide (s.rd R.DCH_CTL_PD_IDLE (w / 2) = 0) ||
      !(s.wayQ w).isEmpty || (s.rfmPick w []).isSome then s
  else { s with dram := { s.dram with pdown := setBitTo s.dram.pdown w true } }.dramCmd w 8 []

/-- SPD_THERMAL_READ (R122): `hot` are the channels of which a sensor or the DRAM itself reports more than 85 °C, or whose read
failed; while TWI1 is in Clearing, Wait or Faulted every read fails (R416, R419). -/
def State.doSpdThermalRead (s : State) (hot : List Nat) : State :=
  let bad := decide (3 ≤ s.rd R.TWI_STAT_STATE 1)
  (List.range 8).foldl (fun s c => if s.wayUp (2 * c) then s.put R.DCH_STAT_REF2X (bad || hot.contains c) c else s) s

/-! ### A rank leaves service -/

/-- The rank goes offline (R140): its range reads poison and discards writes, its extents are forcibly removed, the static
part is reported, and the state is recorded. -/
def State.rankOffline (s : State) (c r : Nat) : State :=
  let o := s.rankRange r
  let s := { s with host := { s.host with offline := s.host.offline ++ [o] },
                    dram := { s.dram with retired := smSet 0 (4 * c + r) 3 s.dram.retired } }
  ((s.wr R.DCH_RANK_STATE 3 c r).dcForced o.1 o.2).staticLost r

/-- A failed rank that holds a carve-out (R141): the save of R40 with the rebuild mark, then SL2; the range is offline, and the
channel is fenced at later boots while its DIMM stays: the record holds 4 + the rank. [DEDUCED, unsafe: log 67] -/
def State.carveLost (s : State) (c r : Nat) : State :=
  let o := s.rankRange r
  let s := { s with host := { s.host with offline := s.host.offline ++ [o] },
                    dram := { s.dram with retired := smSet 0 (32 + c) (4 + r) s.dram.retired } }
  let s := s.wr R.DCH_RANK_STATE 3 c r
  if s.on R.CVN_STAT_READY && s.persistent && decide (s.cvn.code = 0) then
    { s with dram := { s.dram with rebuild := true } }.caravan 4
  else s.carveEnd

/-- No spare can take the rank (R140, R141). -/
def State.rankLost (s : State) (c r : Nat) : State :=
  let s := s.rankEvent 1 0 c r
  if s.holdsCarve c r then s.carveLost c r else s.rankOffline c r

/-- A migration of the channel ends without its spare. [DEDUCED, unsafe: log 66] -/
def State.migrDrop (s : State) (c : Nat) : State :=
  match (smGet none (s.dram.migr.map (fun e => (e.1, some e.2))) c : Option Migr) with
  | none => s
  | some m =>
    let s := { s with dram := { s.dram with migr := s.dram.migr.filter (fun e => decide (e.1 ≠ c)) } }.put R.DCH_MIG_BUSY false c
    match m.loq with
    | some e => s.loqEnd e loFailed (s.rd R.DCH_MIG_MIG_POISON c)
    | none => s

/-- Steps 1 and 2 of R136. -/
def State.migrStart (s : State) (c r : Nat) (e : Option Nat) : State :=
  let m : Migr := { rank := r, units := s.rd R.DCH_GEO_RANK_GIB c * 131072, loq := e, begun := false, todo := [], back := [],
                    flying := [] }
  let s := { s with dram := { s.dram with retired := smSet 0 (4 * c + r) 1 s.dram.retired, migr := s.dram.migr ++ [(c, m)] } }
  let s := (s.wr R.DCH_RANK_STATE 1 c r).put R.DCH_STAT_SPARE_FREE false c
  let s := ((s.put R.DCH_MIG_BUSY true c).wr R.DCH_MIG_SRC r c).wr R.DCH_MIGW_W 0 c
  (s.wr R.DCH_MIG_MIG_POISON 0 c).rankEvent 1 0 c r

/-- The rank that the spare of a channel stands for, if one does. -/
def State.spareOf (s : State) (c : Nat) : Option Nat := (List.range 4).find? (fun r => decide (s.rd R.DCH_RANK_STATE c r = 2))

/-- RANK_RETIREMENT_START (R135, R136, R140 to R142): a trigger during a save or restore is recorded for the next cold boot; a
failed spare leaves service, with the rank it stands for; any other rank goes to the free spare, or is lost. A trigger of a
rank that is already migrating, retired or offline adds nothing: step 3 of R136 carries the lines of a rank that fail while it is
copied. [DEDUCED, unsafe: log 65] -/
def State.retireRank (s : State) (c r : Nat) (e : Option Nat) : State :=
  let spare := s.spareRank c
  if s.dram.caravan || s.saving || decide (s.rd R.CVN_STAT_RST_ST ≠ 0) then
    { s with dram := { s.dram with retLater := setIns (4 * c + r) s.dram.retLater } }
  else if s.on R.DCH_HOST_SPARE c && decide (r = spare) then
    if bit s.dram.spareBad c then s
    else
      let s := { s with dram := { s.dram with spareBad := setBitTo s.dram.spareBad c true } }
      let s := (s.put R.DCH_STAT_SPARE_FREE false c).rankEvent 1 1 c r
      if s.on R.DCH_MIG_BUSY c then
        let q := s.rd R.DCH_MIG_SRC c
        (s.migrDrop c).rankLost c q
      else match s.spareOf c with
        | some q => s.rankLost c q
        | none => s
  else if s.rd R.DCH_RANK_STATE c r ≠ 0 then s
  else if s.on R.DCH_STAT_SPARE_FREE c && s.dram.migr.all (fun e => decide (e.1 ≠ c)) then s.migrStart c r e
  else s.rankLost c r

/-- Step 5 of R136: the spare stands for the rank in the decode. -/
def State.migrEnd (s : State) (c : Nat) (m : Migr) : State :=
  let spare := s.spareRank c
  let s := { s with dram := { s.dram with
    migr := s.dram.migr.filter (fun e => decide (e.1 ≠ c)),
    retired := smSet 0 (4 * c + m.rank) 2 s.dram.retired,
    q := s.dram.q.map (fun (x : DReq) => if x.way / 2 = c ∧ x.drank / 8 = m.rank
      then { x with drank := 8 * spare + x.drank % 8 } else x) } }
  let s := ((s.put R.DCH_MIG_BUSY false c).wr R.DCH_RANK_STATE 2 c m.rank).rankEvent 0 1 c m.rank
  match m.loq with
  | some e => s.loqEnd e loSuccess (s.rd R.DCH_MIG_MIG_POISON c)
  | none => s

/-- Step 4 of R136: W advances by a unit, whose requests may go on (R137). -/
def State.migrNext (s : State) (c : Nat) (m : Migr) : State :=
  let m' : Migr := { m with begun := false, todo := [], back := [], flying := [] }
  { s with dram := { s.dram with migr := s.dram.migr.map (fun (e : Nat × Migr) => if e.1 = c then (c, m') else e) } }.wr
    R.DCH_MIGW_W (s.rd R.DCH_MIGW_W c + 1) c

/-- MIGRATION_UNIT_DONE (R136, R137): every line of `unit`, the unit at the watermark, has been read and written to the spare. -/
def State.doMigrationUnitDone (s : State) (c unit : Nat) : State :=
  match (smGet none (s.dram.migr.map (fun e => (e.1, some e.2))) c : Option Migr) with
  | none => s
  | some m =>
    if !s.wayUp (2 * c) || s.dram.caravan || decide (unit ≠ s.rd R.DCH_MIGW_W c) || !m.begun || !m.todo.isEmpty || !m.back.isEmpty || !m.flying.isEmpty then s
    else
      let s := s.migrNext c m
      let s := if s.rd R.DCH_MIGW_W c < m.units then s else s.migrEnd c m
      if s.host.cxlHold then s else s.goAll

/-! ### Read data -/

/-- CORRECTED_ERROR (R128): counted for the rank and over the last 24 h, with the event at CE_EVT and retirement at CE_MIG. -/
def State.corrected (s : State) (c r : Nat) : State :=
  let k := 4 * c + r
  let day := 24 * 3600 * 32768
  let ts := (smGet [] s.dram.ce24 k).filter (fun t => decide (s.tick < t + day)) ++ [s.tick]
  let s := { s with dram := { s.dram with ce24 := smSet [] k ts s.dram.ce24,
                                          ceTotal := min (s.dram.ceTotal + 1) (2 ^ 32 - 1) } }.inc R.DCH_ERR_CE_CNT c r
  let s := if ts.length = s.rd R.DRM_CETHR_CE_EVT then s.rankEvent 0 3 c r else s
  if s.rd R.DRM_CETHR_CE_MIG ≠ 0 ∧ s.rd R.DRM_CETHR_CE_MIG = ts.length then s.retireRank c r none else s

/-- UNCORRECTABLE_ERROR (R129, R131): the line takes a poison mark, its address is latched, the event is raised, and the rank
starts retirement. [DEDUCED, unsafe: log 64] -/
def State.uncorrectable (s : State) (c r line : Nat) : State :=
  let s := { s with poison := smSet false (line / 64) true s.poison }
  let s := if line / 4096 < s.hostPages then s.listPoison line else s
  let s := (s.wr R.DCH_UEADDR_ADDR (line / 64) c).inc R.DCH_ERR_UE_CNT c r
  (s.cxlEventAt line 2 0 0 [line]).retireRank c r none

/-- The data of a read goes to whoever asked for it (R127); `bad`: it is poison. A host's read of a range taken offline since is
answered as such (R140). -/
def State.readGiven (s : State) (x : DReq) (bad : Bool) : State :=
  match x.src with
  | .host q => (match s.req q with
    | some y => if s.isOffline x.line then s.answerOffline y else s.finishRead y (if bad then [] else x.data) bad
    | none => s)
  | .migrate => s.migrLine (x.way / 2) x.line true bad
  | .scrub | .rewrite | .map _ => s
  | .save a => (s.pageGot x.src x.line x.data bad).saveRead a
  | .image p => (s.pageGot x.src x.line x.data bad).imageRead p
  | .destage n => (s.pageGot x.src x.line x.data bad).destageRead n
  | .nvm t k => (s.pageGot x.src x.line x.data bad).stagedRead t k
  | src => s.pageGot src x.line x.data bad

/-- DRAM_READ_DATA (R127 to R131): the data of a read returns as the symbol code finds it, and its requester receives it; a line
that carries a poison mark, or whose rank is offline, is poison and never an error (R130, R140). -/
def State.doDramReadData (s : State) (id : Nat) (err : EccResult) : State :=
  match s.dram.reading.find? (fun x => decide (x.id = id)) with
  | none => s
  | some x =>
    let c := x.way / 2
    let r := x.drank / 8
    let s := { s with dram := { s.dram with reading := s.dram.reading.filter (fun y => decide (y.id ≠ id)) } }
    let psn := x.psn || s.lineLost x.line
    let s := s.readGiven x (psn || decide (err = .uncorrectable))
    let s := if psn then s else match err with
      | .clean => s
      | .corrected => (s.rewriteLine x.line).corrected c r
      | .reread => (s.rewriteLine x.line).corrected c r
      | .uncorrectable => s.uncorrectable c r x.line
    if s.host.cxlHold then s else s.goAll

/-! ### Retraining -/

/-- A step under R133 is due on both subchannels of a channel in service; a save stops retraining (R121). -/
def State.trainDue (s : State) (c : Nat) : State :=
  { s with dram := { s.dram with trnDue := smUpd 0 (2 * c + 1) (· + 1) (smUpd 0 (2 * c) (· + 1) s.dram.trnDue) } }

/-- A rank of a channel in service that may be retrained. -/
def State.trains (s : State) (c r : Nat) : Bool :=
  s.wayUp (2 * c) && !s.dram.caravan && decide (r < s.ranksOf c)

/-- DQS_INTERVAL (R133): the oscillator shows a drift of `drift` steps; above DQS_TOL the write DQS delay moves. -/
def State.doDqsInterval (s : State) (c r drift : Nat) : State :=
  if !s.trains c r || !s.on R.DCH_TRN_DQS_EN c then s
  else
    let s := s.trainDue c
    let new := decide (smGet 0 s.dram.driftFrom c + 32768 ≤ s.tick)
    let s : State := if new then { s with dram := { s.dram with driftFrom := smSet 0 c s.tick s.dram.driftFrom } } else s
    let s := s.wr R.DCH_TRNST_MAX_DRIFT (min 255 (if new then drift else max drift (s.rd R.DCH_TRNST_MAX_DRIFT c))) c
    if drift ≤ s.rd R.DCH_TRN_DQS_TOL c then s
    else { s with dram := { s.dram with dqs := smUpd 0 (4 * c + r) (· + drift) s.dram.dqs } }.inc R.DCH_TRNST_ADJ_CNT c

/-- ZQ_CALIBRATION (R133): in a refresh slot. -/
def State.doZqCalibration (s : State) (c r : Nat) : State := if s.trains c r then s.trainDue c else s

/-- READ_CENTERING (R133): the third failure in a row starts retirement (R135). -/
def State.doReadCentering (s : State) (c r : Nat) (good : Bool) : State :=
  if !s.trains c r then s
  else
    let k := 4 * c + r
    let n := if good then 0 else smGet 0 s.dram.ctrFail k + 1
    let s := s.trainDue c
    let s := s.wr R.DCH_TRNST_CTR_FAIL (setBitTo (s.rd R.DCH_TRNST_CTR_FAIL c) r (!good)) c
    let s := { s with dram := { s.dram with ctrFail := smSet 0 k (if n = 3 then 0 else n) s.dram.ctrFail } }
    if n = 3 then s.retireRank c r none else s

/-- CA_PARITY_ERROR (R135): the command sequence is retried; `cleared`: one of the two retries clears it. -/
def State.doCaParityError (s : State) (c r : Nat) (cleared : Bool) : State :=
  if !s.wayUp (2 * c) || decide (s.ranksOf c ≤ r) then s
  else
    let s := s.dramCmd (2 * c) 10 [r]
    if cleared then s else s.retireRank c r none

/-! ### The commands -/

/-- DRAM_COMMAND_SLOT (R119). -/
def execDramCommandSlot (way : Nat) (blocked : List Nat) (idleRows : List Nat) (s : State) :
    Host.Outcome State Fault Refusal := ok s (·.doDramCommandSlot way blocked idleRows)

/-- REFRESH_DUE (R122). -/
def execRefreshDue (way ba postponed : Nat) (s : State) :
    Host.Outcome State Fault Refusal := ok s (·.doRefreshDue way ba postponed)

/-- REFRESH_WINDOW_END (R124). -/
def execRefreshWindowEnd (way : Nat) (s : State) : Host.Outcome State Fault Refusal := ok s (·.doRefreshWindowEnd way)

/-- DRAM_READ_DATA (R127). -/
def execDramReadData (id : Nat) (err : EccResult) (s : State) :
    Host.Outcome State Fault Refusal := ok s (·.doDramReadData id err)

/-- MIGRATION_UNIT_DONE (R136). -/
def execMigrationUnitDone (chan unit : Nat) (s : State) :
    Host.Outcome State Fault Refusal := ok s (·.doMigrationUnitDone chan unit)

/-- POWER_DOWN_ENTRY (R121). -/
def execPowerDownEntry (way : Nat) (s : State) : Host.Outcome State Fault Refusal := ok s (·.doPowerDownEntry way)

/-- SPD_THERMAL_READ (R122). -/
def execSpdThermalRead (hot : List Nat) (s : State) :
    Host.Outcome State Fault Refusal := ok s (·.doSpdThermalRead hot)

/-- SCRUB_PERIOD_END (R131). -/
def execScrubPeriodEnd (s : State) : Host.Outcome State Fault Refusal := ok s (·.doScrubPeriodEnd)

/-- DQS_INTERVAL (R133). -/
def execDqsInterval (chan : Nat) (rank : Nat) (drift : Nat) (s : State) :
    Host.Outcome State Fault Refusal := ok s (·.doDqsInterval chan rank drift)

/-- ZQ_CALIBRATION (R133). -/
def execZqCalibration (chan : Nat) (rank : Nat) (s : State) :
    Host.Outcome State Fault Refusal := ok s (·.doZqCalibration chan rank)

/-- READ_CENTERING (R133). -/
def execReadCentering (chan : Nat) (rank : Nat) (good : Bool) (s : State) :
    Host.Outcome State Fault Refusal := ok s (·.doReadCentering chan rank good)

/-- CA_PARITY_ERROR (R135). -/
def execCaParityError (chan : Nat) (rank : Nat) (cleared : Bool) (s : State) :
    Host.Outcome State Fault Refusal := ok s (·.doCaParityError chan rank cleared)

/-- EXTENT_RELEASE_PROCEED (R79). -/
def execExtentReleaseProceed (port : Nat) (ld : Nat) (s : State) :
    Host.Outcome State Fault Refusal := ok s (·.doExtentReleaseProceed port ld)

end Sys2Proof.Machine
end

