-- ==== Sys2Proof/Machine/Ledger.lean ====
section
/-!
DEFINITION. The commands of the energy ledger (R182 to R202): the periodic recomputation with the metadata snapshot that
begins at it (R173 to R176), the end of a recomputation, which installs every value in one step, and the countdown of a save.
-/
namespace Sys2Proof.Machine

/-! ### Snapshots -/

/-- Regions of 256 B that fit the exact part of a snapshot of `m` × 64 KiB behind its 33 fixed parts (R175). -/
def exactRoom (m : Nat) : Nat := (m * 65536 - 135168) / 256

/-- A metadata snapshot begins (R173, R175, R213): its GEN is drawn, it records the held pages, and the post-snapshot
vector of its parity is cleared. -/
def State.snapStart (s : State) : State :=
  let (g, s) := s.drawGen
  let n := s.drift.snapNum
  let held := s.heldPages 0 (2 ^ 32)
  let rs := regionsOf held
  let room := exactRoom (s.rd R.DFT_SNAP_SNAP_MAX)
  let parts := 33 + cdiv (256 * (rs.take room).length) 4096
  let x : Snap := { num := n, gen := g, held := held, coarse := rs.drop room, tick := s.tick,
                    size := cdiv (135168 + 256 * (rs.take room).length) 65536, head := s.snapHead parts, parts := parts,
                    todo := List.range parts, got := [] }
  let t := if n % 2 = 0 then { s.trk with psv0 := [] } else { s.trk with psv1 := [] }
  let s := { s with trk := t, drift := { s.drift with snapNum := n + 1, snapNow := some x, snapDue := false } }
  s.snapFill

/-- A snapshot is due: it begins, or waits for the one being written (R176). None begins while Drift is Off or Stopped
(Table 5-4). [DEDUCED, unsafe: log 78] -/
def State.snapTick (s : State) : State :=
  if s.rd R.DFT_STAT_STATE ≠ 1 ∧ s.rd R.DFT_STAT_STATE ≠ 2 then s
  else match s.drift.snapNow with
  | none => s.snapStart
  | some _ => { s with drift := { s.drift with snapDue := true } }

/-- The window counts of Drift take the window that ends (DFT_WCNT, DFT_WRD). -/
def State.driftWindow (s : State) : State :=
  let s := (s.wr R.DFT_WCNT_CONF_WIN s.drift.confNow).wr R.DFT_WRD_REDIRTY_WIN s.drift.redirtyNow
  { s with drift := { s.drift with confNow := 0, redirtyNow := 0 } }

/-- LEDGER_PERIODIC_RECOMPUTE (R186, R173, R200): at a tick whose count modulo 1,024 is 0. The end of a save of code 3 or 4
lets the ledger resume here. -/
def State.doLedgerPeriodicRecompute (s : State) : State :=
  if s.boot.inReset ∨ s.tick % 1024 ≠ 0 then s
  else
    let s : State := if s.cvn.code = 0 then { s with ledger := { s.ledger with stopped := false } } else s
    (s.driftWindow.ledgerStart true).snapTick

/-! ### The end of a recomputation -/

/-- G below the held set sets CLOSED, STG_OFF and the full share of Drift in the same step; the largest exposure is kept.
An episode is counted and reported once (R192, R196). -/
def State.closedSet (s : State) : State :=
  let g := s.rd R.LDG_GUAR_G
  let h := s.rd R.TRK_HELD_HELD
  let s := s.wr R.LDG_GAP_GAP (max (s.rd R.LDG_GAP_GAP) (h - g))
  if !s.trk.gate || decide (h ≤ g) then s
  else
    let s := (((s.put R.LDG_STAT_STG_OFF true).wr R.DFT_OUT_U 65536).wr R.DFT_FLR_F 65536).put R.DFT_STAT_AT_MAX true
    if s.on R.LDG_STAT_CLOSED then s
    else ((s.put R.LDG_STAT_CLOSED true).inc R.LDG_CLOSN_CLOSN).cxlEvent 2 4 0x0002 [g, h]

/-- What a recomputation computes (R188). -/
structure Recomp where
  eUse : Nat
  p : Nat
  r : Nat
  c : Nat
  fix : Nat
  g : Nat
  deriving DecidableEq, Repr

/-- The arithmetic of R188 on the inputs of Table 6-1. -/
def State.recomp (s : State) : Recomp :=
  let e := nextEUse (s.rd R.LDG_EGAU_E_G) (s.rd R.LDG_EUSE_E_USE) (s.rd R.LDG_RISE_RISE) (s.tick - s.ledger.tLast)
  let p := max (s.rd R.LDG_PSAVE_P_SAVE) (s.rd R.LDG_PMEAS_P_MEAS)
  let r := min (s.rd R.DFT_RSAVE_RSAVE) s.ledger.rPrev
  let c := pageCost p r
  let fix := fixEnergy p (s.rd R.LDG_LIM_T_FIX)
  { eUse := e, p := p, r := r, c := c, fix := fix,
    g := guarantee e (s.rd R.LDG_OASIS_OASIS) fix c r (s.rd R.LDG_GMAX_GMAX) }

/-- The values of a recomputation are installed in one step (R187, R188, R201). [DEDUCED, unsafe: log 82] -/
def State.install (s : State) (x : Recomp) : State :=
  let s := if x.p = s.rd R.LDG_PUSE_P then s else { s with gau := { s.gau with estDue := true } }
  let s := ((s.wr R.LDG_COST_C x.c).wr R.LDG_GUAR_G x.g).wr R.LDG_TMOD_TMOD (x.g * 3 / 4)
  let s := ((s.wr R.LDG_TSEV_TSEV (x.g * 9 / 10)).wr R.LDG_EUSE_E_USE x.eUse).wr R.LDG_EFIX_FIX x.fix
  let s := (s.wr R.LDG_PUSE_P x.p).wr R.LDG_RUSE_R x.r
  let s := { s with ledger := { s.ledger with oasisUsed := s.rd R.LDG_OASIS_OASIS } }
  let hide := s.on R.ERG_STAT_VOLATILE || s.on R.FTL_STAT_WITHDRAWN || !s.trk.gate
  let s := s.wr R.LDG_GPUB_G_PUB (if hide then 0 else x.g)
  ((s.put R.LDG_STAT_RISE_LIM (decide (x.eUse < s.rd R.LDG_EGAU_E_G))).wr R.LDG_TS_TICK s.tick).inc R.LDG_RCNT_RCNT

/-- The vendor guarantee-change event (R99, R202): the published G against that of the last such event, at most one per
1,024 ticks. -/
def State.guarEvent (s : State) : State :=
  let new := s.rd R.LDG_GPUB_G_PUB
  let old := s.ledger.gEvent
  let due := match s.ledger.gEventAt with
    | none => true
    | some t => decide (t + 1024 ≤ s.tick)
  if due && decide (max old 1 ≤ (max new old - min new old) * 16) then
    { s.cxlEvent 0 4 0x0001 [new, old] with ledger := { s.ledger with gEvent := new, gEventAt := some s.tick } }
  else s

/-- STG_OFF clears at a periodic recomputation that finds H at or below tmod, admission not closed and G above 0 (R195). -/
def State.stgOffClear (s : State) : State :=
  if decide (s.rd R.TRK_HELD_HELD ≤ s.rd R.LDG_TMOD_TMOD) && !s.admClosed && decide (0 < s.rd R.LDG_GUAR_G)
  then s.put R.LDG_STAT_STG_OFF false else s

/-- Consecutive periodic recomputations that complete with CLOSED set are counted; at EM_HOLD a save of code 4 starts, unless
one has started since CLOSED last cleared (R198, R223). -/
def State.emCount (s : State) : State :=
  if !s.on R.CVN_POL_EMERG_EN || !s.on R.LDG_STAT_CLOSED then s
  else
    let s := { s with ledger := { s.ledger with emCount := s.ledger.emCount + 1 } }
    if s.ledger.emArmed && decide (s.rd R.LDG_LIM_EM_HOLD ≤ s.ledger.emCount) then
      ({ s with ledger := { s.ledger with emArmed := false } }.put R.LDG_STAT_EMERG true).caravan 4
    else s

/-- The next recomputation, when one fell due meanwhile (R186). -/
def State.ledgerNext (s : State) : State :=
  if s.ledger.stopped then s
  else { s with ledger := { s.ledger with running := s.ledger.next, next := none } }

/-- LEDGER_RECOMPUTE_DONE (R187): the running recomputation completes; the save reserve follows G (R278, R279). -/
def State.doLedgerRecomputeDone (s : State) : State :=
  match s.ledger.running with
  | none => s
  | some periodic =>
    let x := s.recomp
    let s := (s.install x).rsvFollow
    let s := { s with ledger := { s.ledger with tLast := s.tick,
                                                rPrev := if periodic then s.rd R.DFT_RSAVE_RSAVE else s.ledger.rPrev } }
    let s := s.closedClear.closedSet.guarEvent.ledgerNext
    let s := if periodic then s.stgOffClear.emCount else s
    s.stgKick

/-! ### The countdown -/

/-- COUNTDOWN_TICK (R200, R367, R377): one tick of a save of code 1 or 2. [DEDUCED, unsafe: log 86] -/
def State.doCountdownTick (s : State) : State :=
  if !s.on R.LDG_STAT_CDN_ACT then s
  else
    let s := (s.sub R.LDG_CDN_CDN (cdiv (s.rd R.LDG_PUSE_P) 32000)).cdnpNow.saveSoc
    if s.rd R.CVN_STAT_SAVE_ST = 1 ∨ s.rd R.CVN_STAT_SAVE_ST = 2 ∨ s.rd R.CVN_STAT_SAVE_ST = 3 then s.saveSum else s

/-! ### The commands -/

/-- LEDGER_PERIODIC_RECOMPUTE (R186). -/
def execLedgerPeriodicRecompute (s : State) : Host.Outcome State Fault Refusal := ok s (·.doLedgerPeriodicRecompute)

/-- LEDGER_RECOMPUTE_DONE (R187). -/
def execLedgerRecomputeDone (s : State) : Host.Outcome State Fault Refusal := ok s (·.doLedgerRecomputeDone)

/-- COUNTDOWN_TICK (R200). -/
def execCountdownTick (s : State) : Host.Outcome State Fault Refusal := ok s (·.doCountdownTick)

end Sys2Proof.Machine
end

