-- ==== Sys2Proof/Machine/Drift.lean ====
section
/-!
DEFINITION. The commands of Drift (R154 to R180, R499): takes, copies and their ends, epochs, the close of an idle image
segment, the save-capable throughput, the pacing loop and the completion of a snapshot.
-/
namespace Sys2Proof.Machine

/-! ### Which page is next -/

/-- The dirty pages without a copy-table entry that `p` selects, ascending. -/
def State.freshPages (s : State) (p : Nat → Bool) : List Nat :=
  (s.trk.dirty.filter (fun e => e.2 && p e.1 && (s.copyAt e.1).isNone)).map (·.1)

/-- Regions from which Drift may take: dirty, and aged or in a bypass (R154, R156), with a page that is not being
copied. -/
def State.eligible (s : State) : List Nat :=
  let all := s.ageBypass
  (s.trk.summary.filter (fun e => decide (0 < dcnt e.2) && (all || aged e.2) &&
    !(s.freshPages (fun p => decide (regionOf p = e.1))).isEmpty)).map (·.1)

/-- The next page that Drift takes, and its region (R157): held pages of a range taken offline (R180), then the region at the scan
pointer or the next eligible one in rotating order. [DEDUCED, unsafe: log 72] -/
def State.driftPick (s : State) : Option (Nat × Option Nat) :=
  match s.freshPages (fun p => s.isOffline (p * 4096)) with
  | p :: _ => some (p, none)
  | [] =>
    let rs := s.eligible
    match rs.filter (fun r => decide (s.drift.scan ≤ r)) ++ rs.filter (fun r => decide (r < s.drift.scan)) with
    | [] => none
    | r :: _ => (s.freshPages (fun p => decide (regionOf p = r))).head?.map (fun p => (p, some r))

/-- Idle or Copying (Table 5-4). -/
def State.driftRuns (s : State) : Bool := decide (s.rd R.DFT_STAT_STATE = 1) || decide (s.rd R.DFT_STAT_STATE = 2)

/-- Copying ends when no page is eligible or no token is left (Table 5-4). [DEDUCED, unsafe: log 74] -/
def State.driftIdle (s : State) : State :=
  if s.rd R.DFT_STAT_STATE = 2 ∧ (s.drift.tokens < 256 ∨ s.driftPick = none) then s.wr R.DFT_STAT_STATE 1 else s

/-- Where the scan pointer goes when a take is blocked: to the region after the one it stands on (R157). -/
def State.driftMoveOn (s : State) : State :=
  match s.driftPick with
  | some (_, some r) => { s with drift := { s.drift with scan := (r + 1) % cdiv s.hostPages 2048 } }
  | _ => s

/-- A take is blocked while the copy table is full, no token is left, or no datapath buffer is free for Drift (R158). -/
def State.driftBlocked (s : State) : Bool :=
  decide (65536 ≤ s.trk.copy.length) || decide (s.drift.tokens < 256) || !s.bufGrants 2 ||
  s.buf.wait.any (fun e => decide (e.1 = 2))

/-- DRIFT_TAKE (R157 to R159): the next page enters the copy table with its own GEN, takes its datapath buffer, and its lines are
read through the bank queues; a blocked take waits. -/
def State.doDriftTake (s : State) : State :=
  if !s.driftRuns then s.driftIdle
  else if s.driftBlocked then s.driftMoveOn.driftIdle
  else match s.driftPick with
  | none => s.driftIdle
  | some (p, r) =>
    let (g, s) := s.drawGen
    let s := s.pageTake p g 0
    let urg := match r with | none => 7 | some _ => s.driftUrg
    let scan := match r with
      | none => s.drift.scan
      | some r => if (s.freshPages (fun p => decide (regionOf p = r))).isEmpty then (r + 1) % cdiv s.hostPages 2048 else r
    let s := { s with drift := { s.drift with tokens := s.drift.tokens - 256, scan := scan } }
    ((s.wr R.DFT_STAT_STATE 2).pageStart (pageIo (.drift p) false (p * 4096) urg 0)).driftIdle

/-! ### A copy -/

/-- DRIFT_READ_DONE (R159, R162): every line of the page has been read, which fixes the copy; its slot is assigned, and the program
issued with the buffer that holds the page. -/
def State.doDriftReadDone (s : State) (p : Nat) : State :=
  match s.pageJob (.drift p) with
  | none => s
  | some j =>
    if !j.done then s
    else match s.copyAt p with
    | none => s.pageDrop (.drift p)
    | some c =>
      match s.assign 0 1 with
      | (none, s) => s
      | (some a, s) =>
        let s := s.setSlot a (some { kind := 0x01, key := p, gen := c.gen, data := j.data, md := [], marks := j.marks })
        let s := (s.setCopy p (some { c with read := true, slot := a, prog := 1 })).pageDrop (.drift p)
        s.fIssue (addrDie a) .program 3 false (s.sbOf a) a (.drift p) j.buf

/-- CONFIRMATION (R150, R159): the program has passed and the fine map points at the slot, so the page leaves the held set
or, redirtied, stays in it. The slot of a discarded copy holds nothing that restore may find; that the counts of confirmations take it in
is not in the spec. [DESIGN CHOICE, unsafe: log 195] -/
def State.doConfirmation (s : State) (p : Nat) : State :=
  match s.copyAt p with
  | none => s
  | some c =>
    if c.prog ≠ 2 then s
    else
      let s := if c.discard then s.setSlot c.slot none else s.setImg p c.slot
      let s := (s.pageConfirm p).addSat R.DFT_CONF_CONF 1
      { s with drift := { s.drift with confNow := s.drift.confNow + 1,
                                       redirtyNow := s.drift.redirtyNow + b2n c.redirty } }

/-- COPY_PROGRAM_FAILURE (R160): the page returns to Dirty, and the failed location goes to the flash translation layer:
its member is retired at the superblock's next erase and the superblock is scheduled for rewrite. [DEDUCED, unsafe: log 73] -/
def State.doCopyProgramFailure (s : State) (p : Nat) : State :=
  match s.copyAt p with
  | none => s
  | some c =>
    if c.prog ≠ 3 then s
    else
      let n := s.sbOf c.slot
      let b := s.sb n
      let ch := addrDie c.slot / 128
      let s := (s.setSlot c.slot none).setSb n
        { b with retireNext := if b.retireNext.contains ch then b.retireNext else b.retireNext ++ [ch] }
      ((s.rewriteSched n).pageFail p).inc R.DFT_PFAIL_PFAIL

/-! ### Epochs and segments -/

/-- AGED of one region at an epoch boundary (R154). -/
def agedAt (now minAge w : Nat) : Nat :=
  if 0 < dcnt w ∧ minAge ≤ (now + 8 - stamp w) % 8 then mkSummary (dcnt w) (stamp w) true else w

/-- An epoch begins: its number, AGED of every region, and the pending epoch length (R154, R18). -/
def State.epochStep (s : State) : State :=
  let now := (s.rd R.TRK_STAT_EPOCH_NOW + 1) % 8
  let m := s.rd R.DFT_AGE_MIN_AGE
  let t := { s.trk with epochAt := s.tick, summary := s.trk.summary.map (fun e => (e.1, agedAt now m e.2)) }
  ({ s with trk := t }.wr R.TRK_STAT_EPOCH_NOW now).applyRws R.DFT_AGE_EPOCH

/-- EPOCH_BOUNDARY (R154): EPOCH ticks after the last one, while tracking runs. [DEDUCED, unsafe: log 75] -/
def State.doEpochBoundary (s : State) : State :=
  if s.on R.TRK_STAT_RUN && decide (s.trk.epochAt + s.ap R.DFT_AGE_EPOCH ≤ s.tick) then s.epochStep else s

/-- One pad slot of the open image segment of a stream (R161, Table 5-3). The spec gives a pad no GEN; it carries 0.
[DESIGN CHOICE, unsafe: log 80] -/
def State.padSlot (s : State) (t : Nat) : State :=
  match s.assign t 1 with
  | (none, s) => s
  | (some a, s) =>
    let s := s.setSlot a (some { kind := 0x00, key := 0xFFFFFFFF, gen := 0, data := [], md := [], marks := [] })
    s.fIssue (addrDie a) .program 3 false (s.sbOf a) a (.system 7)

/-- The open image segment of a stream that has received no slot for SEG_TMO ticks is filled with pads (R161). -/
def State.segPad (s : State) (t : Nat) : State :=
  match smGet 0 s.ftl.opens t with
  | 0 => s
  | n + 1 =>
    let b := s.sb n
    let k := s.stripeSlots b
    if k = 0 ∨ b.fill % k = 0 ∨ s.tick < smGet 0 s.drift.segAt t + s.rd R.DFT_SEG_SEG_TMO then s
    else (List.range (k - b.fill % k)).foldl (fun s _ => s.padSlot t) s

/-- SEGMENT_TIMEOUT (R161): of the streams of the image, fresh, save and relocation. -/
def State.doSegmentTimeout (s : State) : State := (List.range 3).foldl (fun s t => s.segPad t) s

/-! ### Save-capable throughput -/

/-- RSAVE_RECOMPUTE (R168): in the tick before the ledger's periodic recomputation, or at once when a die or a channel's
rate changes; the latter starts a recomputation of the ledger (R186). [DEDUCED, unsafe: log 84] -/
def State.doRsaveRecompute (s : State) : State :=
  if s.boot.inReset then s
  else if s.tick % 1024 = 1023 then s.rsaveNow
  else s.rsaveNow.ledgerStart false

/-! ### Pacing -/

/-- u under the thermal cap of stage 3 and above (R499). [DEDUCED, unsafe: log 76] -/
def State.thermU (s : State) (u f : Nat) : Nat :=
  if 3 ≤ s.rd R.PWR_STAT_STAGE then min u (max f (s.rd R.PWR_TTH1_THERM_U * 65536 / 100)) else u

/-- The registers of a run of the loop. -/
def State.paceRegs (s : State) (x : Pace) : State :=
  let u := s.thermU x.u x.f
  let s := ((s.wr R.DFT_OUT_U u).wr R.DFT_FLR_F x.f).wr R.DFT_INT_I x.i
  (s.wr R.DFT_ERR_EN (toField 18 x.en)).put R.DFT_STAT_AT_MAX (decide (u = 65536))

/-- PACING_TICK (R169, R170, R172): one run of the loop, in every state of Drift, and the tokens of the tick.
[DEDUCED, unsafe: log 77] -/
def State.doPacingTick (s : State) : State :=
  if s.boot.inReset then s
  else
    let s := { s with drift := { s.drift with ageByp := s.rd R.DFT_PACE_AGE_BYP } }
    let x := pace (s.rd R.LDG_GUAR_G) (s.rd R.TRK_HELD_HELD) s.leaveHeld (s.rd R.DFT_PACE_SETPT) (s.rd R.DFT_PACE_FS)
      (s.rd R.DFT_GAIN_KP) (s.rd R.DFT_GAIN_KI) (s.rd R.DFT_INT_I) (ofField 18 (s.rd R.DFT_ERR_EN))
    let s := s.paceRegs x
    let d := dmaxOf (s.rd R.DFT_RSAVE_RSAVE) (s.rd R.DFT_PACE_CAP)
    let s := s.wr R.DFT_DMAX_DMAX d
    let k := min (4 * d) (s.drift.tokens + cdiv (s.rd R.DFT_OUT_U * d) 65536)
    { s with drift := { s.drift with tokens := k } }.driftIdle

/-! ### Snapshots -/

/-- Image slots of kind 0x03 outside the snapshots that stand: they are no longer kept (R176). -/
def State.dropSnaps (s : State) : State :=
  let keep := (s.drift.snaps.map (·.gen)) ++ (match s.drift.snapNow with | some x => [x.gen] | none => [])
  { s with ftl := { s.ftl with slots := s.ftl.slots.filter (fun e => match e.2 with
      | some c => decide (c.kind ≠ 0x03) || keep.contains c.gen
      | none => true) } }

/-- The artefacts of past saves are no longer kept once a snapshot taken after the bulk restore is complete (R235, R283); a
save that runs keeps its own. [DEDUCED, unsafe: log 122] -/
def State.dropSave (s : State) : State :=
  if s.cvn.code ≠ 0 then s
  else { s with ftl := { s.ftl with slots := s.ftl.slots.filter (fun e => match e.2 with
    | some c => !([0x02, 0x04, 0x05, 0x06, 0x07, 0x08].contains c.kind)
    | none => true) } }

/-- Every part of a snapshot is confirmed (R176). -/
def Snap.done (x : Snap) : Bool := (List.range x.parts).all (fun k => x.got.contains k)

/-- A program of the running snapshot has not ended. -/
def State.snapFlying (s : State) (num : Nat) : Bool :=
  (s.flash.ops ++ s.flash.extra).any (fun o => decide (o.src = .snapshot num))

/-- SNAPSHOT_COMPLETE (R176, R213): every part is confirmed. It is the newest complete snapshot and its vector the
reference; restore's reference is kept until the first snapshot that completes after the bulk restore (R235); one that waited
begins. -/
def State.doSnapshotComplete (s : State) : State :=
  match s.drift.snapNow with
  | none => s
  | some x =>
    if s.snapFlying x.num || !x.done then s
    else
      let done := (s.rd R.CVN_STAT_RST_ST = 0 ∨ s.rd R.CVN_STAT_RST_ST = 5) ∧ s.cvn.doneAt ≤ x.tick
      let old := if done then s.drift.snaps.take 1 else s.drift.snaps
      let s := s.jot 9 [0x03, x.num, x.gen]
      let s := { s with drift := { s.drift with snapNow := none, snaps := x :: old },
                        trk := { s.trk with refVec := x.num % 2, refGen := x.gen } }
      let s := (s.wr R.DFT_SNAPST_SIZE x.size).put R.DFT_SNAPST_COARSE (!x.coarse.isEmpty)
      let s := (s.wr R.DFT_SNAPT_TICK x.tick).dropSnaps
      let s := if done then s.dropSave else s
      if s.drift.snapDue && s.driftRuns then s.snapStart.inc R.DFT_SNAPST_LATE else s

/-! ### The commands -/

/-- DRIFT_TAKE (R159). -/
def execDriftTake (s : State) : Host.Outcome State Fault Refusal := ok s (·.doDriftTake)

/-- DRIFT_READ_DONE (R159). -/
def execDriftReadDone (page : Nat) (s : State) : Host.Outcome State Fault Refusal := ok s (·.doDriftReadDone page)

/-- CONFIRMATION (R150). -/
def execConfirmation (page : Nat) (s : State) : Host.Outcome State Fault Refusal := ok s (·.doConfirmation page)

/-- COPY_PROGRAM_FAILURE (R160). -/
def execCopyProgramFailure (page : Nat) (s : State) :
    Host.Outcome State Fault Refusal := ok s (·.doCopyProgramFailure page)

/-- EPOCH_BOUNDARY (R154). -/
def execEpochBoundary (s : State) : Host.Outcome State Fault Refusal := ok s (·.doEpochBoundary)

/-- SEGMENT_TIMEOUT (R161). -/
def execSegmentTimeout (s : State) : Host.Outcome State Fault Refusal := ok s (·.doSegmentTimeout)

/-- RSAVE_RECOMPUTE (R167). -/
def execRsaveRecompute (s : State) : Host.Outcome State Fault Refusal := ok s (·.doRsaveRecompute)

/-- PACING_TICK (R170). -/
def execPacingTick (s : State) : Host.Outcome State Fault Refusal := ok s (·.doPacingTick)

/-- SNAPSHOT_COMPLETE (R176). -/
def execSnapshotComplete (s : State) : Host.Outcome State Fault Refusal := ok s (·.doSnapshotComplete)

end Sys2Proof.Machine
end

