-- ==== Sys2Proof/Machine/Host.lean ====
section
/-!
DEFINITION. The commands of the host ports: CXL.mem requests (R76 to R89), the hold limit and the read timeout (R86, R88),
QoS (R90 to R93), credits (R81, R347), links and their resets (R69 to R71, R87), Global Persistent Flush (R96), HDM decoders
(R77), ASPM L1 (R74) and configuration requests (R444).
-/
namespace Sys2Proof.Machine

/-! ### Requests -/

/-- MEM_RD (R82). -/
def State.doMemRd (s : State) (port ld sid tag hpa : Nat) : State := s.arrive port ld sid tag hpa .rd [] 0 false

/-- MEM_WR (R32, R82). -/
def State.doMemWr (s : State) (port ld sid tag hpa : Nat) (data : List Byte) (psn : Bool) : State :=
  s.arrive port ld sid tag hpa .wr data allBe psn

/-- MEM_WR_PTL (R82, R89). -/
def State.doMemWrPtl (s : State) (port ld sid tag hpa : Nat) (data : List Byte) (be : Nat) (psn : Bool) : State :=
  s.arrive port ld sid tag hpa .wrPtl data be psn

/-- MEM_INV (R82): answered with Cmp, with no effect on data. -/
def State.doMemInv (s : State) (port ld sid tag hpa : Nat) : State := s.arrive port ld sid tag hpa .inv [] 0 false

/-- MEM_SPEC_RD (R82): no tracker entry and no DRAM access; its Req credit returns at once. -/
def State.doMemSpecRd (s : State) (port : Nat) : State :=
  if s.serving port && s.hasCredit port false then (s.spendCredit port false).returnCredit port false else s

/-- HELD_STORE_ADMIT (R84). -/
def State.doHeldStoreAdmit (s : State) : State := s.admitOldest

/-- The event of an episode of held stores: vendor event 0x0004 in the logs of the port's logical devices (R86, R99). -/
def State.holdEvent (s : State) (port : Nat) : State :=
  (s.ldKeys.filter (fun k => decide (k / 16 = port))).foldl (fun s k => s.cxlEventLd k 1 4 0x0004 [port]) s

/-- HOLD_LIMIT_EXPIRY (R86): a held store of the port has waited longer than the limit. [DEDUCED, unsafe: log 41] -/
def State.doHoldLimitExpiry (s : State) (port : Nat) : State :=
  let late := s.host.trk.filter (fun r => decide (r.port = port) && decide (r.stage = .held) &&
    decide (s.rd R.HP_HOLD_HOLD_ACT port * 1000 < r.heldFor))
  if late.isEmpty then s
  else
    let s := (late.filter (fun r => !r.expired)).foldl (fun s r =>
      (s.setReq { r with expired := true }).inc R.HP_HOLDX_HOLD_EXPIRED port) s
    if s.on R.HP_STAT_HOLD_OVER port then s
    else
      let s := { s with host := { s.host with holdSeen := true } }
      (s.put R.HP_STAT_HOLD_OVER true port).holdEvent port

/-- A read leaves the DRAM queues: its data is no longer waited for. -/
def State.forgetRead (s : State) (id : Nat) : State :=
  let keep := fun (x : DReq) => x.wr || (match x.src with | .host i => decide (i ≠ id) | _ => true)
  { s with dram := { s.dram with q := s.dram.q.filter keep, reading := s.dram.reading.filter keep } }

/-- One request at the timeout: a read completes poisoned, counted and reported; an admitted write that waits for its queue
raises a tracker-stall event once and goes on waiting (R88). -/
def State.timeOut (s : State) (r : Req) : State :=
  if r.op = .rd then
    ((s.forgetRead r.id).inc R.HP_ERR_RD_TMO_CNT r.port).cxlEventLd (ldKey r.port r.ld) 1 0 2 [r.dpa / 64] |>.finishRead r [] true
  else if r.stage = .waitBank ∧ !r.stalled then (s.setReq { r with stalled := true }).note 0x01 1 r.port
  else s

/-- RD_TMO_EXPIRY (R88). [DEDUCED, unsafe: log 54] -/
def State.doRdTmoExpiry (s : State) (port : Nat) : State :=
  (s.host.trk.filter (fun r => decide (r.port = port) && decide (s.rd R.HP_TMO_RD_TMO port * 1000 ≤ r.age))).foldl
    (fun s r => s.timeOut r) s

/-! ### QoS -/

/-- 4 ns pass for the requests of a port: their ages, the waits of those held, and the urgency of each (R92). During the hold of
a firmware activation no time counts toward RD_TMO, and the ages stand (R479). [DEDUCED, safe: log 208] -/
def State.reqAge (s : State) (port : Nat) : State :=
  let dt := if s.fwu.act = 3 then 0 else 4
  { s with host := { s.host with trk := s.host.trk.map (fun (r : Req) =>
    if r.port = port then
      { r with age := r.age + dt, heldFor := if r.stage = TStage.held then r.heldFor + 4 else r.heldFor,
               urg := s.urgency r.cls (r.age + dt) }
    else r) } }

/-- A read in a bank queue has the urgency of its tracker entry, and the line of a mover that of its page (R117). -/
def State.readUrg (s : State) (x : DReq) : DReq :=
  match x.src with
  | .host id => (match s.req id with | some r => if x.wr then x else { x with urg := r.urg } | none => x)
  | src => (match s.pageJob src with | some j => if x.wr && s.dram.caravan then x else { x with urg := j.urg } | none => x)

/-- The urgency of a mover's page by Table 4-4: staging and map traffic by its age and the targets of DRM_ITGT, a Drift page by the
held set unless its range is offline; the others keep the urgency they began with. -/
def State.jobUrg (s : State) (j : PageIo) : Nat :=
  let by0 := fun (t : Nat) => if t = 0 then 7 else min 7 (8 * j.age / t)
  match j.src with
  | .staging _ | .destage _ | .nvm _ _ => by0 (s.rd R.DRM_ITGT_STG_TGT)
  | .map _ => by0 (s.rd R.DRM_ITGT_MAP_TGT)
  | .drift _ | .image _ => if s.isOffline j.base then j.urg else s.driftUrg
  | _ => j.urg

/-- 4 ns pass for the movers; the tick of port A counts for them. [DESIGN CHOICE, safe: log 207] -/
def State.jobAge (s : State) : State :=
  { s with dram := { s.dram with pages := s.dram.pages.map (fun (j : PageIo) =>
    { j with age := j.age + 4, urg := s.jobUrg { j with age := j.age + 4 } }) } }

/-- URGENCY_RECOMPUTE (R92, R117): 4 ns pass; every request of the port takes its urgency, in its bank queue too, and a
queued write of the same line at least that of a read (R116). [DEDUCED, safe: log 42] -/
def State.doUrgencyRecompute (s : State) (port : Nat) : State :=
  let s := if port = 0 then (s.reqAge port).jobAge else s.reqAge port
  { s with dram := { s.dram with q := writeUrg (s.dram.q.map s.readUrg) } }

/-- One entry at the end of a telemetry window (R91, QOS_THR, QOS_LAT). -/
def State.qosWindow (s : State) (e : Nat) : State :=
  let n := smGet 0 s.host.qosReq e
  let s := s.wr R.QOS_THR_REQ_CNT (min (n / 1024) 65535) e
  let s := s.wr R.QOS_LAT_LAT_MAX (min (smGet 0 s.host.qosLat e / 16) 65535) e
  let s := s.wr R.QOS_LAT_OVER_CNT (min (smGet 0 s.host.qosOver e) 65535) e
  let idle := if n = 0 then smGet 0 s.host.qosIdle e + 1 else 0
  let s := { s with host := { s.host with qosIdle := smSet 0 e idle s.host.qosIdle } }
  let w := s.rd R.QOS_IDLE_EVICT_WIN
  if w ≠ 0 ∧ w ≤ idle ∧ !s.on R.QOS_KEY_PINNED e then
    { s.put R.QOS_KEY_VALID false e with host := { s.host with qosIdle := smSet 0 e 0 s.host.qosIdle } }
  else s

/-- TELEMETRY_WINDOW_END (R91, R100): WIN ticks after the window began, the counts of the window are latched, idle entries evicted,
and the next window begins. -/
def State.doTelemetryWindowEnd (s : State) : State :=
  if s.tick < s.host.winAt + s.rd R.QOS_CTL_WIN then s
  else
    let s := s.qosValid.foldl (fun s e => s.qosWindow e) s
    let now := s.on R.HP_STAT_HOLD_OVER 0 || s.on R.HP_STAT_HOLD_OVER 1
    { s with host := { s.host with qosReq := [], qosLat := [], qosOver := [], holdSeenPrev := s.host.holdSeen,
                                   holdSeen := now, winAt := s.tick } }

/-- QOS_TOKEN_REFILL (R93): `ns` pass for the bucket of an entry, in units of 1/10,000 request; requests that waited for a
token go on, and THROT follows. -/
def State.doQosTokenRefill (s : State) (e ns : Nat) : State :=
  if 4096 ≤ e ∨ !s.on R.QOS_KEY_VALID e then s
  else
    let left := smGet 0 s.host.qosSpent e - s.rd R.QOS_CAP_REQ_CAP e * ns
    let s := { s with host := { s.host with qosSpent := smSet 0 e left s.host.qosSpent } }
    (if s.host.cxlHold then s else s.goAll).throtRefresh e

/-- CREDIT_RETURN_ACK (R347): the link layer has acknowledged credit returns; they are with the host. A return that is not in
flight is ignored and is a book fault (R348). -/
def State.doCreditReturnAck (s : State) (port req rwd : Nat) : State :=
  let a := min req (smGet 0 s.host.credFly (2 * port))
  let b := min rwd (smGet 0 s.host.credFly (2 * port + 1))
  let fly := smUpd 0 (2 * port + 1) (· - b) (smUpd 0 (2 * port) (· - a) s.host.credFly)
  let s := { s with host := { s.host with credFly := fly, reqOut := smUpd 0 port (· - a) s.host.reqOut,
                                          rwdOut := smUpd 0 port (· - b) s.host.rwdOut } }
  if a < req ∨ b < rwd then s.bookFault 0 else s

/-! ### Links -/

/-- A port of the image: port B only where PORT_MODE has one. -/
def State.portUp (s : State) (p : Nat) : Bool := decide (p < 2) && s.on R.HP_STAT_ACTIVE p

/-- A link reset now, or after the running save (R87, R206). -/
def State.linkResetOr (s : State) (p : Nat) : State := if s.saving then s.deferReset 2 p else s.linkReset p

/-- PERST_ASSERT (R70, R87): the link is held down, and a port that is not up yet stays so. PERST_B_N is ignored where PORT_MODE
has no port B. -/
def State.doPerstAssert (s : State) (p : Nat) : State :=
  if 2 ≤ p ∨ (p = 1 ∧ s.erg.loaded ∧ s.ergBase 0x01 0 0 = 0) then s
  else
    let s := { s with host := { s.host with perst := setBitTo s.host.perst p true } }
    if s.portUp p then s.linkResetOr p else s

/-- PERST_RELEASE (R87, R444): a port that is ready enters link training. -/
def State.doPerstRelease (s : State) (p : Nat) : State :=
  if 2 ≤ p then s
  else
    { s with host := { s.host with perst := setBitTo s.host.perst p false,
                                   perstAt := smSet 0 p s.tick s.host.perstAt } }.linkTrain p

/-- LINK_DOWN (R87). -/
def State.doLinkDown (s : State) (p : Nat) : State :=
  if s.portUp p && decide (s.rd R.HP_STAT_LINK p ≠ 0) then s.linkResetOr p else s

/-- Lanes that PORT_MODE gives a port (R68, Table 3-1). -/
def State.portLanes (s : State) (p : Nat) : Nat :=
  let m := s.ergBase 0x01 0 0
  if p = 0 then (if m = 0 then 16 else 8) else if m = 1 then 8 else 4

/-- LINK_L0 (R69, R71): the link reaches L0. `offer` holds bit k for protocol k of HPx_STAT.PROTO that the partner offers, and bit 4
for port-based routing, which CXL 3.1 alone has (R75, R90);
a link that comes from recovery or from L1 keeps what it negotiated. Logical devices of a port that trains as PCIe only are
offline. [DEDUCED, safe: log 55] -/
def State.doLinkL0 (s : State) (p offer rate width : Nat) (flit : Bool) : State :=
  let st := s.rd R.HP_STAT_LINK p
  if !s.portUp p || bit s.host.perst p || !bit s.host.ready p || decide (st = 2) then s
  else
    let r := min (max rate 1) (s.rd R.HP_CTL_MAX_RATE p)
    let s := ((s.wr R.HP_STAT_LINK 2 p).wr R.HP_STAT_RATE r p).wr R.HP_STAT_WIDTH (min width (s.portLanes p)) p
    let s := s.put R.HP_STAT_FLIT (flit || decide (r = 6)) p
    if 3 ≤ st then s
    else
      let proto := if bit offer 3 then 3 else if bit offer 2 then 2 else if bit offer 1 then 1 else 0
      let s := (s.wr R.HP_STAT_PROTO proto p).put R.HP_STAT_FLIT256 (decide (proto = 3)) p
      let s := { s with host := { s.host with pbr := setBitTo s.host.pbr p (decide (proto = 3) && bit offer 4) } }
      (s.ldKeys.filter (fun k => decide (k / 16 = p))).foldl (fun s k =>
        s.setLd k { smGet ldInit s.host.lds k with offline := decide (proto = 0) }) s

/-- A port retrains its link: a link that is up goes through recovery (R69). -/
def State.linkRetrain (s : State) (p : Nat) : State :=
  if s.rd R.HP_STAT_LINK p = 2 ∨ s.rd R.HP_STAT_LINK p = 3 then s.wr R.HP_STAT_LINK 4 p else s

/-- CXL_RESET (R87, Table 3-3): CXL 2.0 and later. -/
def State.doCxlReset (s : State) (port ld : Nat) : State :=
  if !s.serving port || decide (s.rd R.HP_STAT_PROTO port < 2) || decide (16 ≤ ld) then s
  else if s.saving then s.deferReset 4 (ldKey port ld)
  else s.ldReset (ldKey port ld)

/-- ASPM_L1_ENTRY (R74): the host has enabled L1 and L1_EN permits it. -/
def State.doAspmL1Entry (s : State) (port : Nat) (enabled : Bool) : State :=
  if s.portUp port && decide (s.rd R.HP_STAT_LINK port = 2) && s.on R.HP_CTL_L1_EN port && enabled
  then s.wr R.HP_STAT_LINK 3 port else s

/-- A run of bytes `lo` to `hi - 1` without those of a run of pages (R140). -/
def cutRun (off : Nat × Nat) (x : Nat × Nat) : List (Nat × Nat) :=
  [(x.1, min x.2 (off.1 * 4096)), (max x.1 ((off.1 + off.2) * 4096), x.2)].filter (fun y => decide (y.1 < y.2))

/-- The runs of bytes of a logical device that a DRAM channel serves: its capacity inside host memory and not offline. -/
def State.ldServed (s : State) (port ld : Nat) : List (Nat × Nat) :=
  let runs := ((s.ldRuns (ldKey port ld)).map (fun x => (x.1, min (x.1 + x.2) (s.hostPages * 4096)))).filter (fun x => decide (x.1 < x.2))
  s.host.offline.foldl (fun m o => m.flatMap (cutRun o)) runs

/-- Media Status of a logical device's Memory Device Status, in the encoding of the CXL specification: 0 Not Ready, 1 Ready,
2 Error (R98). -/
def State.memDevStatus (s : State) (port ld : Nat) : Nat :=
  if !s.on R.CVN_STAT_READY then 0 else if (s.ldServed port ld).isEmpty then 2 else 1

/-- The class code of a function: that of a CXL memory device for function 0 (R72). Of an NVMe function the spec gives none, and
0 stands for it. [DESIGN CHOICE, safe: log 200] -/
def fnClass (fn : Nat) : Nat := if fn = 0 then 0x050210 else 0

/-- The BARs that function 0 implements: BAR0 the management space, BAR2 the CXL component and device registers with the mailbox
(R72). -/
def fnBars (fn : Nat) : List Nat := if fn = 0 then [0, 2] else []

/-- The features of Table 3-2 that a function of a port shows: SR-IOV on a physical NVMe function, DOE on function 0 of LD 0 (R74). -/
def fnCaps (fn : Nat) : List PcieCap :=
  [.tags10and14, .aspmL1, .powerStates, .flr, .msix, .aer, .ecrc, .margining] ++
  (if fn = 0 then [.doeCdat] else if fn = 1 then [.sriov] else [])

/-- CONFIGURATION_REQUEST (R444): until the port's functions are ready, which is when the device serves SL1, a request is
answered with Configuration Request Retry Status, for at most 1 s from the release of PERST. A function then reports its class code,
BARs and capabilities (R72, R74), function 0 also
the GPF DVSEC (R97) and each logical device's Media Status (R98). [DEDUCED, unsafe: log 56] -/
def State.doConfigurationRequest (s : State) (port fn : Nat) : State :=
  if !s.portUp port || decide (s.rd R.HP_STAT_LINK port < 2) then s
  else
    let wait := decide (s.level < 1) && decide (s.tick < smGet 0 s.host.perstAt port + 32768)
    let s := s.emit (.cfg port fn wait)
    if wait then s
    else
      let s := s.emit (.func port fn (fnClass fn) (fnBars fn) (fnCaps fn))
      if fn ≠ 0 then s
      else s.emit (.dev port s.host.gpfMs s.host.gpfMw (((List.range 16).filter (s.ldShown port)).map (fun k => s.memDevStatus port k)))

/-! ### Global Persistent Flush -/

/-- A port that may carry a flush: CXL 2.0 or later (Table 3-3). -/
def State.gpfPort (s : State) (port : Nat) : Bool := s.serving port && decide (2 ≤ s.rd R.HP_STAT_PROTO port)

/-- GPF_PHASE1 (R96): answered at once, because the device holds no cache. [DEDUCED, unsafe: log 57] -/
def State.doGpfPhase1 (s : State) (port : Nat) : State := if s.gpfPort port then s.emit (.gpf port 1) else s

/-- GPF_PHASE2 (R96, R236): before memory is ready, or where nothing is held persistent, the response goes out at once;
otherwise a save starts, or the phase joins the one of code 3 or 4 that runs. -/
def State.doGpfPhase2 (s : State) (port : Nat) : State :=
  if !s.gpfPort port then s
  else if !s.on R.CVN_STAT_READY || !s.persistent then s.emit (.gpf port 2)
  else if s.cvn.code = 1 ∨ s.cvn.code = 2 then s
  else { s with host := { s.host with gpfWait := setBitTo s.host.gpfWait port true } }.caravan 3

/-! ### HDM decoders (R77, Table 3-3) -/

/-- Where the DPA range of decoder `n` begins: at the end of the ranges of the decoders below it, and DPA skip.
[DEDUCED, unsafe: log 43] -/
def decodeFrom (ds : List Decoder) (n skip : Nat) : Nat :=
  (ds.take n).foldl (fun m d => if d.committed then max m (d.dpaBase + d.size / (if d.ways = 0 then 1 else d.ways)) else m) 0
    + skip

/-- The ways and granularities that a negotiated version decodes. -/
def State.decoderOk (s : State) (port ld dec ways gran : Nat) : Bool :=
  match s.rd R.HP_STAT_PROTO port with
  | 1 => decide (ld = 0) && decide (dec = 0) && decide (ways = 1)
  | 2 => [1, 2, 4, 8].contains ways && [256, 512, 1024, 2048, 4096, 8192, 16384].contains gran
  | 3 => [1, 2, 3, 4, 6, 8, 12, 16].contains ways && [256, 512, 1024, 2048, 4096, 8192, 16384].contains gran
  | _ => false

/-- A decoder that is not committed. -/
def decoderNone : Decoder :=
  { committed := false, base := 0, size := 0, ways := 1, gran := 256, dpaBase := 0, locked := false }

/-- HDM_DECODER_COMMIT (R77): a host commits or uncommits one of a logical device's eight decoders; a decoder locked at its
commit stays. -/
def State.doHdmDecoderCommit (s : State) (port ld dec : Nat) (commit : Bool) (base size ways gran skip : Nat)
    (lock : Bool) : State :=
  let d := s.ld port ld
  let ds := d.decs ++ List.replicate (8 - d.decs.length) decoderNone
  let old := ds.getD dec decoderNone
  if !s.serving port || !s.ldShown port ld || decide (8 ≤ dec) || (old.committed && old.locked) then s
  else if !commit then s.setLd (ldKey port ld) { d with decs := ds.set dec decoderNone }
  else if size = 0 ∨ !s.decoderOk port ld dec ways gran then s
  else
    let x : Decoder := { committed := true, base := base, size := size, ways := ways, gran := gran,
                         dpaBase := decodeFrom ds dec skip, locked := lock }
    s.setLd (ldKey port ld) { d with decs := ds.set dec x }

/-! ### The commands -/

/-- MEM_RD (R82). -/
def execMemRd (port : Nat) (ld : Nat) (sid : Nat) (tag : Nat) (hpa : Nat) (s : State) :
    Host.Outcome State Fault Refusal := ok s (·.doMemRd port ld sid tag hpa)

/-- MEM_WR (R32). -/
def execMemWr (port : Nat) (ld : Nat) (sid : Nat) (tag : Nat) (hpa : Nat) (data : List Byte) (psn : Bool) (s : State) :
    Host.Outcome State Fault Refusal := ok s (·.doMemWr port ld sid tag hpa data psn)

/-- MEM_WR_PTL (R89). -/
def execMemWrPtl (port : Nat) (ld : Nat) (sid : Nat) (tag : Nat) (hpa : Nat) (data : List Byte) (be : Nat) (psn : Bool) (s : State) :
    Host.Outcome State Fault Refusal := ok s (·.doMemWrPtl port ld sid tag hpa data be psn)

/-- MEM_INV (R82). -/
def execMemInv (port : Nat) (ld : Nat) (sid : Nat) (tag : Nat) (hpa : Nat) (s : State) :
    Host.Outcome State Fault Refusal := ok s (·.doMemInv port ld sid tag hpa)

/-- MEM_SPEC_RD (R82). -/
def execMemSpecRd (port : Nat) (s : State) : Host.Outcome State Fault Refusal := ok s (·.doMemSpecRd port)

/-- HELD_STORE_ADMIT (R84). -/
def execHeldStoreAdmit (s : State) : Host.Outcome State Fault Refusal := ok s (·.doHeldStoreAdmit)

/-- HOLD_LIMIT_EXPIRY (R86). -/
def execHoldLimitExpiry (port : Nat) (s : State) : Host.Outcome State Fault Refusal := ok s (·.doHoldLimitExpiry port)

/-- RD_TMO_EXPIRY (R88). -/
def execRdTmoExpiry (port : Nat) (s : State) : Host.Outcome State Fault Refusal := ok s (·.doRdTmoExpiry port)

/-- URGENCY_RECOMPUTE (R92). -/
def execUrgencyRecompute (port : Nat) (s : State) :
    Host.Outcome State Fault Refusal := ok s (·.doUrgencyRecompute port)

/-- TELEMETRY_WINDOW_END (R91). -/
def execTelemetryWindowEnd (s : State) : Host.Outcome State Fault Refusal := ok s (·.doTelemetryWindowEnd)

/-- CREDIT_RETURN_ACK (R347). -/
def execCreditReturnAck (port : Nat) (req : Nat) (rwd : Nat) (s : State) :
    Host.Outcome State Fault Refusal := ok s (·.doCreditReturnAck port req rwd)

/-- PERST_ASSERT (R87). -/
def execPerstAssert (port : Nat) (s : State) : Host.Outcome State Fault Refusal := ok s (·.doPerstAssert port)

/-- PERST_RELEASE (R87). -/
def execPerstRelease (port : Nat) (s : State) : Host.Outcome State Fault Refusal := ok s (·.doPerstRelease port)

/-- LINK_DOWN (R87). -/
def execLinkDown (port : Nat) (s : State) : Host.Outcome State Fault Refusal := ok s (·.doLinkDown port)

/-- LINK_L0 (R71). -/
def execLinkL0 (port : Nat) (offer : Nat) (rate : Nat) (width : Nat) (flit : Bool) (s : State) :
    Host.Outcome State Fault Refusal := ok s (·.doLinkL0 port offer rate width flit)

/-- CXL_RESET (R87). -/
def execCxlReset (port : Nat) (ld : Nat) (s : State) : Host.Outcome State Fault Refusal := ok s (·.doCxlReset port ld)

/-- GPF_PHASE1 (R96). -/
def execGpfPhase1 (port : Nat) (s : State) : Host.Outcome State Fault Refusal := ok s (·.doGpfPhase1 port)

/-- GPF_PHASE2 (R96). -/
def execGpfPhase2 (port : Nat) (s : State) : Host.Outcome State Fault Refusal := ok s (·.doGpfPhase2 port)

/-- HDM_DECODER_COMMIT (R77). -/
def execHdmDecoderCommit (port : Nat) (ld : Nat) (dec : Nat) (commit : Bool) (base : Nat) (size : Nat) (ways : Nat) (gran : Nat) (skip : Nat) (lock : Bool) (s : State) :
    Host.Outcome State Fault Refusal := ok s (·.doHdmDecoderCommit port ld dec commit base size ways gran skip lock)

/-- QOS_TOKEN_REFILL (R93). -/
def execQosTokenRefill (ent : Nat) (ns : Nat) (s : State) :
    Host.Outcome State Fault Refusal := ok s (·.doQosTokenRefill ent ns)

/-- ASPM_L1_ENTRY (R74). -/
def execAspmL1Entry (port : Nat) (enabled : Bool) (s : State) :
    Host.Outcome State Fault Refusal := ok s (·.doAspmL1Entry port enabled)

/-- CONFIGURATION_REQUEST (R444). -/
def execConfigurationRequest (port : Nat) (fn : Nat) (s : State) :
    Host.Outcome State Fault Refusal := ok s (·.doConfigurationRequest port fn)

end Sys2Proof.Machine
end

