-- ==== Sys2Proof/Machine/Restore.lean ====
section
/-!
DEFINITION. Restore (R224 to R236, R448): the end of the pack wait with the reformation of R57, the load of the image map,
the case and the lost set, memory ready, the bulk restore and on-touch fetches, and the rewrite of the loss record.
-/
namespace Sys2Proof.Machine

/-! ### Lost pages -/

/-- The GEN of the newest complete slot of a page, plus one; 0 when there is none (R225). -/
def State.newestGen (s : State) (p : Nat) : Nat :=
  match s.imgAt p with
  | 0 => 0
  | a => match s.slot a with
    | some c => c.gen + 1
    | none => 0

/-- The pages of the image whose newest GEN is at least `g`. -/
def State.pagesFrom (s : State) (g : Nat) : List Nat :=
  (s.ftl.img.map (·.1)).filter (fun p => decide (g + 1 ≤ s.newestGen p))

/-! ### The start of restore -/

/-- The record of the newest save is valid: both its slots are complete and agree (R218). -/
def State.recordValid (s : State) (m : Manifest) : Bool :=
  match s.cvn.record with
  | some r => decide (r.gen0 = m.gen0) && r.marked
  | none => false

/-- The case of R224: 0 N, 1 A, 2 B, 3 C, 4 D. -/
def State.restoreCase (s : State) : Nat :=
  match s.cvn.manifest, s.drift.snaps with
  | none, [] => 0
  | none, _ :: _ => 4
  | some m, n =>
    if (match n with | x :: _ => decide (m.gen0 ≤ x.gen) | [] => false) then 4
    else if s.recordValid m then 1
    else if (List.range m.parts).all (fun k => m.got.contains k) then 2
    else if (List.range 17).all (fun k => m.got.contains k) then 3
    else 4

/-- Superblocks left open are closed, one in native mode to be rewritten unless a save's valid record tells how far it was written
(R287, R294, R295), and an interrupted erase is to be done again before any use (R295). [DEDUCED, unsafe: log 120] -/
def State.bootSbs (s : State) : State :=
  let clean := decide (s.restoreCase = 1)
  let one := fun (s : State) (e : Nat × SbSt) =>
    let b := e.2
    if b.state = 1 then
      let s := s.setSb e.1 { b with state := 2, closeTick := s.tick }
      if b.native && !clean then s.rewriteSched e.1 else s
    else if b.erasing then
      ((s.setSb e.1 { b with state := 3, erasing := false, movedSeq := 0 }).inc R.FTL_DIES_INTR).note 0x07 6 e.1
    else s
  (s.sbList.foldl one s).freeRefresh.wearRefresh


/-- A staged page of a save is written to its namespace (R39, R57 step 1). -/
def State.stagedPut (s : State) (c : SlotC) : State :=
  let ns := c.key / 2 ^ 40
  let x := s.ns ns
  if x.units = 0 then s
  else
    let k := s.devSlot x (c.key % 2 ^ 40 / lbasPerSlot x.lbaf)
    match s.assign 3 1 with
    | (none, s) => s
    | (some a, s) =>
      (s.setSlot a (some { c with kind := 0x10, key := ns * 2 ^ 40 + k })).setNsEntry k a

/-- The complete staged slots of the newest save (kind 0x04, GEN above GEN0). -/
def State.stagedSlots (s : State) : List SlotC :=
  match s.cvn.manifest with
  | none => []
  | some m => (s.ftl.slots.filterMap (·.2)).filter (fun c => decide (c.kind = 0x04) && decide (m.gen0 < c.gen))

/-- The image is gone: no page, save or snapshot of it is left (Table 2-4, bit 1). -/
def State.imageGone (s : State) : State :=
  let s := s.imgDealloc 0 (2 ^ 36)
  { s with cvn := { s.cvn with manifest := none, record := none, loss := none },
           drift := { s.drift with snaps := [] } }

/-- The namespaces are deleted and their pool deallocated (Table 2-4, bit 0). -/
def State.namespacesGone (s : State) : State :=
  let ids := s.nvm.nss.map (·.1)
  let s : State := ids.foldl (fun s n => (s.deallocNs n).setNs n nsInit) s
  { s with cvn := { s.cvn with manifest := s.cvn.manifest.map (fun (m : Manifest) => { m with staging := [] }) } }

/-- The system area is re-initialized: every superblock awaits an erase; wear and retirements stay (Table 2-4, bit 2). -/
def State.systemGone (s : State) : State :=
  let s : State := s.sbList.foldl (fun s e =>
    if e.2.state = 1 ∨ e.2.state = 2 then s.setSb e.1 { e.2 with state := 3, movedSeq := 0 } else s) s
  let s := { s with ftl := { s.ftl with journal := [], root := none, chunks := s.chunksAll }, cvn := { s.cvn with dirtyShut := 0 } }
  s.wr R.CVN_DSC_DSC 0

/-- Namespaces attached to functions that the image removes become detached (Table 2-4). -/
def State.detachGone (s : State) : State :=
  s.nvm.nss.foldl (fun s e => s.setNs e.1 { e.2 with ctrls := e.2.ctrls.filter s.fnAllotted }) s

/-- A staged page without a complete slot is lost: its LBAs read Unrecovered (R225, R327). [DEDUCED, unsafe: log 96] -/
def State.stagedLost (s : State) (e : Nat × Nat) : State :=
  let x := s.ns e.1
  let s := s.setNsEntry (s.devSlot x (e.2 / lbasPerSlot x.lbaf)) 2
  let s := s.setNs e.1 { x with lossStg := true }
  { s with cvn := { s.cvn with lostStg := s.cvn.lostStg ++ [e] } }

/-- The slot of a staged page of the newest save: of the complete slots of its LBA the one of the highest GEN (R39, R163,
R225). -/
def State.stagedSlotOf (s : State) (e : Nat × Nat) : Option SlotC :=
  (s.stagedSlots.filter (fun c => decide (c.key = e.1 * 2 ^ 40 + e.2))).foldl (fun b c => match b with
    | none => some c
    | some d => if d.gen < c.gen then some c else b) none

/-- Each LBA of the staging list once: `put` its newest slot, or it is lost (R57, R225). -/
def State.stagedEach (s : State) (m : Manifest) (put : State → SlotC → State) : State :=
  m.staging.eraseDups.foldl (fun s e =>
    if (s.ns e.1).units = 0 then s
    else match s.stagedSlotOf e with
      | some c => put s c
      | none => s.stagedLost e) s

/-- A save waits to be restored: the manifest of the newest save is the reference, in Case A or B (R224). -/
def State.savePending (s : State) : Option Manifest :=
  if s.restoreCase = 1 ∨ s.restoreCase = 2 then s.cvn.manifest else none

/-- A reformation (R57): the pending save is processed, the destruction of Table 2-4 carried out, and the new structure
recorded. A change of the decode alone destroys nothing: memory and image are indexed by device physical address (R55).
[DEDUCED, unsafe: log 32] -/
def State.reform (s : State) : State :=
  if !s.erg.reformMark then s
  else
    let mask := s.rd R.ERG_STAT_REFORM_LOSS
    let gone := match s.savePending with
      | some m => if bit mask 1 then m.pages.length else 0
      | none => 0
    let s := match s.savePending with
      | some m => if bit mask 0 then s else s.stagedEach m (·.stagedPut)
      | none => s
    let s := { s with cvn := { s.cvn with manifest := s.cvn.manifest.map (fun (m : Manifest) => { m with staging := [] }) } }
    let s := if bit mask 1 then s.imageGone else s
    let s := if bit mask 0 then s.namespacesGone else s.detachGone
    let s := if bit mask 2 then s.systemGone else s
    let s := { s with erg := { s.erg with recStruct := some (structOf s.erg.base), reformMark := false } }.digestWrite
    s.signal (.odber 0x13 2) 0xFFFFFFFF ([mask, s.rd R.ERG_DIFF_SEC_DIFF] ++ leBytes 4 gone)

/-- On-touch mode (R227): permitted, with a host tolerance of 500 µs, three bitmaps in the tracking area, and SL3. -/
def State.onTouch (s : State) : Bool :=
  let trk := ((chansOf s.ergBase).map (fun c => s.rd R.DCH_CARVE1_CV_TRK c)).sum * 134217728
  decide (s.pol 0x10 0 0 = 1) && decide (500 ≤ s.pol 0x10 1 0) && decide (3 * cdiv s.hostPages 8 ≤ trk) &&
    decide (3 ≤ (s.capOf true).1)

/-- PACK_WAIT_END (R448): a valid pack and a G above 0 end the wait of stage 9, and restore begins. -/
def State.doPackWaitEnd (s : State) : State :=
  let ps := s.rd R.GAU_STAT_PSTATE
  if s.stage ≠ 9 ∨ s.boot.inReset ∨ (ps ≠ 1 ∧ ps ≠ 2) ∨ s.rd R.LDG_GUAR_G = 0 ∨ (s.capOf true).1 < 3 then s
  else ((s.bootSbs.reform.put R.CVN_STAT_OT s.onTouch).wr R.CVN_STAT_RST_ST 1).wr R.BST_STAT_STAGE 10

/-- PACK_WAIT_EXPIRY (R448): CAP becomes SL2 and host memory is zeroed; nothing on flash is touched. -/
def State.doPackWaitExpiry (s : State) : State :=
  if s.stage ≠ 9 ∨ s.boot.inReset ∨ s.boot.packWait = 0 ∨ s.tick < s.boot.waitAt + s.boot.packWait * 32768 then s
  else ((s.put R.BST_STAT_PACK_WAIT_EXP true).setBad 5).capRefresh.serveSl2

/-! ### Map load -/

/-- The image map: for each page its complete slot of the highest GEN (R163, R293, R294); a slot of `cvn.unread` does not decode or fails
its CRC. [DEDUCED, unsafe: log 99] -/
def State.imgNewest (s : State) : List (Nat × Nat) :=
  s.ftl.slots.foldl (fun m e => match e.2 with
    | some c =>
      if c.kind ≠ 0x01 ∨ s.cvn.unread.contains e.1 then m
      else
        let newer := match s.slot (smGet 0 m c.key) with
          | some d => decide (d.gen < c.gen) || decide (smGet 0 m c.key = 0)
          | none => true
        if newer then smSet 0 c.key e.1 m else m
    | none => m) []

/-- The highest GEN of the image pool's slots, snapshots and save artefacts (R164): of every slot that has been written, so that none
is drawn again after its slot was deallocated. [DEDUCED, unsafe: log 225] -/
def State.maxGen (s : State) : Nat :=
  let m := s.drift.genTop - 1
  let m := (s.drift.snaps.map (·.gen)).foldl max m
  let m := match s.cvn.manifest with | some x => max m x.gen0 | none => m
  match s.cvn.record with | some x => max m x.genEnd | none => m

/-- A MEM_SANITIZE that a save stopped is repeated from its first step (R509). -/
def State.sanitizeAgain (s : State) : State :=
  let s := s.imgDealloc 0 (2 ^ 36)
  let s := { s with cvn := { s.cvn with loss := none } }
  s.sbList.foldl (fun s e =>
    if e.2.state = 2 ∧ e.2.tenant = 0 then s.setSb e.1 { e.2 with state := 3, movedSeq := 0 } else s) s

/-- Values of the save that restore uses (the CVN map). -/
def State.saveView (s : State) : State :=
  let s := (s.wr R.CVN_SSN_SSN s.cvn.ssn).wr R.CVN_DSC_DSC s.cvn.dirtyShut
  match s.cvn.manifest with
  | none => s
  | some m =>
    let s := ((s.wr R.CVN_GEN0_GEN0 m.gen0).wr R.CVN_TTRIG_TICK m.tick).wr R.CVN_STAT_TRIG m.code
    let s := (s.wr R.CVN_MPG_MPG m.pages.length).wr R.CVN_MSTG_MSTG m.staging.length
    match s.cvn.record with
    | none => s
    | some r => (s.put R.CVN_STAT_CONV (bit r.flags 2)).wr R.CVN_WRT_WRT (r.issuedMem + r.issuedStg)

/-- RESTORE_MAP_LOAD_DONE (R228 step 1, R163, R164, R509). -/
def State.doRestoreMapLoadDone (s : State) : State :=
  if s.rd R.CVN_STAT_RST_ST ≠ 1 ∨ s.stage ≠ 10 then s
  else
    let s := if s.cvn.sanMark then s.sanitizeAgain else s
    let s := { s with ftl := { s.ftl with img := s.imgNewest } }.put R.FTL_STAT_MAP_IMG true
    let s := s.wr R.FTL_CSEQ_CSEQ (match s.ftl.root with | some r => r.seq | none => 0)
    ((s.wr R.DFT_GEN_GEN (s.maxGen + 1)).saveView).wr R.CVN_STAT_RST_ST 2

/-! ### The case and the lost set -/

/-- The generation that a page of a manifest needs (R225). -/
def reqGen (m : Manifest) (p : Nat) : Nat :=
  match m.inflight.find? (fun e => decide (e.1 = p)) with
  | some (_, (redirty, g)) => if redirty then m.gen0 else g
  | none => m.gen0

/-- Pages of a list as ranges. -/
def rngOf (ps : List Nat) : List (Nat × Nat) := ps.foldl (fun m p => rngAdd p 1 m) []

/-- The ranges of the regions listed, inside host memory. -/
def rngRegions (host : Nat) (rs : List Nat) : List (Nat × Nat) :=
  rs.foldl (fun m r => rngAdd (2048 * r) (min 2048 (host - 2048 * r)) m) []

/-- A set without the pages whose newest GEN is at least `g`. -/
def State.without (s : State) (g : Nat) (m : List (Nat × Nat)) : List (Nat × Nat) :=
  (s.pagesFrom g).foldl (fun m p => rngDel p m) m

/-- Union of two sets of ranges. -/
def rngUnion (a b : List (Nat × Nat)) : List (Nat × Nat) := b.foldl (fun m e => rngAdd e.1 e.2 m) a

/-- The lost set of memory pages before an active loss record is merged (R225). -/
def State.lostPages (s : State) (case : Nat) : List (Nat × Nat) :=
  if case = 4 then rngAdd 0 s.hostPages []
  else match s.cvn.manifest with
  | none => []
  | some m =>
    if case = 1 ∨ case = 2 then rngOf (m.pages.filter (fun p => decide (s.newestGen p ≤ reqGen m p)))
    else if case = 3 then
      let post := rngRegions s.hostPages m.refVec
      match s.drift.snaps with
      | n :: _ => rngUnion (s.without n.gen (rngUnion (rngOf n.held) (rngRegions s.hostPages n.coarse))) post
      | [] => post
    else []

/-- The lost set (R225): with the pages of an active loss record that are still lost. -/
def State.lostSet (s : State) (case : Nat) : List (Nat × Nat) :=
  let a := s.lostPages case
  match s.cvn.loss with
  | none => a
  | some r => rngUnion a (s.without r.gen r.pages)

/-- A saved staged page stands in staging again, held, until its destage is confirmed (R39, R153). -/
def State.stagedBack (s : State) (c : SlotC) : State :=
  let ns := c.key / 2 ^ 40
  let x := s.ns ns
  let k := c.key % 2 ^ 40 / lbasPerSlot x.lbaf
  let e := s.devSlot x k
  let y : StgSt := { ns := ns, slot := k, held := true, data := c.data, md := c.md, wseq := s.nvm.wseq, tag := 0,
                     prev := s.nsEntry e, dst := 0, addr := 0, fails := 0, full := true }
  let n := { s.nvm with stg := s.nvm.stg ++ [(s.nvm.nextStg, y)], nextStg := s.nvm.nextStg + 1, wseq := s.nvm.wseq + 1 }
  { s with nvm := n }.setNsEntry e 1

/-- The staged pages of the save in cases A and B (R225). -/
def State.restoreStaged (s : State) (m : Manifest) : State :=
  let s := s.stagedEach m (·.stagedBack)
  if s.cvn.lostStg = [] then s
  else
    let ls := s.cvn.lostStg.map (fun e => (e.1, (e.2, lbasPerSlot (s.ns e.1).lbaf)))
    { s with nvm := { s.nvm with lostLbas := ls } }

/-- Every namespace in write-back-persistent mode at the last checkpoint has lost writes of unknown extent (R225). -/
def State.unknownLoss (s : State) : State :=
  let wb := match s.ftl.root with | some c => c.wb | none => []
  wb.foldl (fun s n => if (s.ns n).units = 0 then s else s.setNs n { s.ns n with lossUnk := true }) s

/-- Trailing pages that restore finds complete: slots of the save with a GEN drawn after the record (R219, CVN_TRL).
[DEDUCED, unsafe: log 94] -/
def State.trailing (s : State) : Nat :=
  match s.cvn.record with
  | none => 0
  | some r =>
    let cs := (s.ftl.slots.filterMap (·.2)).filter (fun c =>
      (decide (c.kind = 0x01) || decide (c.kind = 0x04)) && decide (r.genEnd ≤ c.gen))
    if r.code ≤ 2 then cs.length else 0

/-- The loss record is written to the system area, part by part, and its location journaled (R226, R291). -/
def State.lossWrite (s : State) : State :=
  match s.cvn.loss with
  | none => s
  | some r =>
    let ps := r.pages.flatMap (fun e => (List.range e.2).map (e.1 + ·))
    (List.range (17 + cdiv (256 * (regionsOf ps).length) 4096)).foldl (fun s k =>
      s.sysWrite 0x25 k r.gen (partOf k (lossCells r.gen ps))) (s.jot 9 [0x25, r.gen])

/-- LOSS_COMPUTATION_DONE (R224 to R226, R228 steps 2 and 3, R484): the case, the lost set, the loss record; the bulk restore
begins. After a repeated MEM_SANITIZE host memory reads zero and no page is lost (R509). -/
def State.doLossComputationDone (s : State) : State :=
  if s.rd R.CVN_STAT_RST_ST ≠ 2 then s
  else
    let c := s.restoreCase
    let l := if s.cvn.sanMark then [] else s.lostSet c
    let s := s.wr R.CVN_STAT_CASE c
    let s := if c = 1 then s.wr R.CVN_TRL_TRL s.trailing else s
    let loss : Option LossRec := if l.isEmpty then none else some { gen := s.rd R.DFT_GEN_GEN, pages := l }
    let s := { s with cvn := { s.cvn with lost := l, loss := loss, sanMark := false, bulkAt := s.tick, bulkNext := 0, got := [] } }
    let s : State := match s.cvn.manifest with
      | some m => if c = 1 ∨ c = 2 then s.restoreStaged m else s
      | none => s
    let s := if c = 3 ∨ c = 4 then s.unknownLoss else s
    let auto := match s.cvn.record with | some r => decide (c = 1) && r.trial | none => false
    let s := if auto then s.fwConfirm false else s
    ((if l.isEmpty then s else s.lossWrite).lostRegs.nvmRefresh).wr R.CVN_STAT_RST_ST (if s.on R.CVN_STAT_OT then 3 else 4)

/-! ### Memory ready -/

/-- The empty snapshot of part 0, which restore writes as memory becomes ready (R224). [DEDUCED, unsafe: log 79] -/
def State.emptySnap (s : State) : State :=
  let (g, s) := s.drawGen
  let n := s.drift.snapNum
  let x : Snap :=
    { num := n, gen := g, held := [], coarse := [], tick := s.tick, size := 1,
      head := s.snapHead 1, parts := 1, todo := [], got := [0] }
  let d := { s.drift with snapNum := n + 1, snaps := x :: s.drift.snaps, snapNow := none, genTop := max s.drift.genTop (g + 1) }
  let s := { s with drift := d, trk := { s.trk with refVec := n % 2, refGen := g } }
  match s.assign 0 1 with
  | (some a, s) => s.setSlot a (some { kind := 0x03, key := 0, gen := g, data := partOf 0 x.cells, md := [], marks := [] })
  | (none, s) => s

/-- MEMORY_READY (R232, R153, R447, R541): tracking and admission start, the level rises to SL3, and what waited is served. -/
def State.doMemoryReady (s : State) : State :=
  let st := s.rd R.CVN_STAT_RST_ST
  if s.on R.CVN_STAT_READY ∨ s.stage ≠ 10 ∨ !((st = 3) || (st = 4 && decide (s.hostPages ≤ s.rd R.CVN_RWM_RWM))) then s
  else if (s.capOf true).1 < 3 then s.serveSl2
  else
    let s := s.emptySnap
    let s := (s.put R.CVN_STAT_READY true).put R.TRK_STAT_RUN true
    let s := { s with trk := { s.trk with
      gate := !s.on R.ERG_STAT_VOLATILE && !s.on R.FTL_STAT_WITHDRAWN, epochAt := s.tick } }
    let s := s.clearTracking.setHeld 0 ((s.nvm.stg.filter (fun e => e.2.held)).length)
    let s := (s.wr R.CVN_RTIM_READY_MS (min s.sinceRelease 65535)).wr R.BST_STAT_STAGE 11
    let s := (s.setLevel 3).driftStart.account
    let s := if s.trk.gate then s.wr R.LDG_GPUB_G_PUB (s.rd R.LDG_GUAR_G) else s
    s.stgKick.goAll

/-! ### Bulk restore and on-touch fetches -/

/-- BULK_RESTORE_READ_DONE (R229, R230): a page whose read has ended is written at urgency 1; one that a fetch has placed meanwhile,
or is placing, is passed over. `good`: the read gave data, as its channel has reported it. -/
def State.doBulkRestoreReadDone (s : State) (p : Nat) (good : Bool) : State :=
  match s.cvn.got.find? (fun e => decide (e.1 = p) && (e.2.1 == good)) with
  | none => s
  | some e =>
    if !s.bulkRuns then s
    else
      let s := { s with cvn := { s.cvn with got := s.cvn.got.filter (fun x => decide (x.1 ≠ p)) } }
      (if smGet false s.trk.restored p || (s.pageJob (.fetch p)).isSome then s
       else s.placePage (.bulk p) p 1 e.2.2 e.2.1).bulkMark

/-- The page that a fetch waited for is in DRAM. -/
def State.fetched (s : State) (p : Nat) : Bool :=
  !s.unrestored p || (match s.pageJob (.fetch p) with | some j => j.done | none => false)

/-- ON_TOUCH_FETCH_DONE (R232): the page is in DRAM and the requests that waited for it go on. `zero` and `lost` name the case of R229
under which it was restored: a deallocated page, and a page of the lost set. -/
def State.doOnTouchFetchDone (s : State) (p : Nat) (zero lost : Bool) : State :=
  if !s.cvn.fetching.contains p || !s.fetched p || (zero != decide (s.imgAt p = 0)) || (lost != s.isLost p) then s
  else
    let s := ((s.pageDrop (.fetch p)).pageRestored p).inc R.CVN_FETCH_FETCH
    let trk := s.host.trk.map (fun (r : Req) =>
      if r.stage = .waitFetch ∧ r.dpa / 4096 = p then { r with stage := .waitLine } else r)
    let s := { s with cvn := { s.cvn with fetching := s.cvn.fetching.filter (fun x => decide (x ≠ p)) },
                      host := { s.host with trk := trk } }
    s.bulkMark.goAll

/-- The records of vendor event 0x0005 for one logical device: 8 ranges each, at most 32, the last flagged so (R233). -/
def lossRecords (total : Nat) (rs : List (Nat × Nat)) : List (List Nat) :=
  let n := min 32 (cdiv rs.length 8)
  (List.range n).map (fun i =>
    [5, i, b2n (decide (i + 1 < n)), total] ++ ((rs.drop (8 * i)).take 8).flatMap (fun e => [e.1, e.2]))

/-- The lost ranges of a logical device, static and dynamic, in its own page numbers (R233). -/
def State.ldLost (s : State) (port ld : Nat) : List (Nat × Nat) :=
  let b := s.ldBase port ld / 4096
  let rs := (s.ldRuns (ldKey port ld)).flatMap (fun e => rngClip (e.1 / 4096) (e.2 / 4096) s.cvn.lost)
  (rs.foldl (fun m e => rngAdd e.1 e.2 m) []).map (fun e => (e.1 - b, e.2))

/-- Report the lost ranges to each logical device, in its own page numbers (R233). -/
def State.lossEvents (s : State) : State :=
  s.ldKeys.foldl (fun s k =>
    let rs := s.ldLost (k / 16) (k % 16)
    (lossRecords (rngSize rs) rs).foldl (fun s d => s.cxlEventLd k 2 4 0x0005 d) s) s

/-- The NVMe event for the loss of staged writes, 7h with information 01h, where a controller asks for it (R327). -/
def State.nvmLossEvents (s : State) : State :=
  (s.nvm.nss.filter (fun e => e.2.lossStg || e.2.lossUnk)).foldl (fun s e =>
    e.2.ctrls.foldl (fun s f => if bit ((s.fn f).feat 0xC1 0) 1 then s.aen f 0xC10107 else s) s) s

/-- A dirty shutdown is counted and reported (R234). [DESIGN CHOICE, unsafe: log 95] -/
def State.dirtyCount (s : State) : State :=
  let c := s.rd R.CVN_STAT_CASE
  if 2 ≤ c ∨ (c = 1 ∧ (s.cvn.lost ≠ [] ∨ s.cvn.lostStg ≠ [])) then
    let n := min (s.cvn.dirtyShut + 1) (2 ^ 32 - 1)
    ({ s with cvn := { s.cvn with dirtyShut := n } }.wr R.CVN_DSC_DSC n).cxlEvent 2 2 3 [n]
  else s

/-- BULK_RESTORE_COMPLETE (R228 step 7, R233, R234): the end of the bulk restore. -/
def State.doBulkRestoreComplete (s : State) : State :=
  if !s.bulkRuns || decide (s.cvn.bulkNext < s.hostPages) || !s.bulkOut.isEmpty || !s.on R.CVN_STAT_READY then s
  else
    let s := s.lossEvents.dirtyCount.nvmLossEvents
    let s := s.wr R.CVN_RTIM_BULK_DS (min 65535 (cdiv ((s.tick - s.cvn.bulkAt) * 10) 32768))
    ({ s with cvn := { s.cvn with doneAt := s.tick } }.wr R.CVN_STAT_RST_ST 5).nsReady

/-! ### The loss record -/

/-- The first page of a set that may be rewritten: neither dirty nor being copied, and no rewrite of it under way. The spec gives the
pages of the record no order. [DESIGN CHOICE, unsafe: log 196] -/
def State.rewritePick (s : State) (m : List (Nat × Nat)) : Option Nat :=
  m.findSome? (fun e => (List.range (min e.2 (s.trk.copy.length + s.trk.dirty.length + s.flash.ops.length +
      s.flash.extra.length + 1))).findSome? (fun i =>
    let p := e.1 + i
    if !s.dirtyAt p && (s.copyAt p).isNone && (s.pageJob (.image p)).isNone &&
       !(s.flash.ops ++ s.flash.extra).any (fun o => decide (o.src = .rewrite p)) then some p else none))

/-- Pages with a newer slot leave the loss record, and an empty one is retired (R226). -/
def State.lossTrim (s : State) (r : LossRec) : State :=
  let m := s.without (r.gen + 1) r.pages
  { s with cvn := { s.cvn with loss := if m.isEmpty then none else some { r with pages := m } } }.lostRegs

/-- The rewrites that LRW_SHARE percent of R_save allow by now, in 1/25,600 page: at most those of one tick, or one (R226).
[DEDUCED, unsafe: log 224] -/
def State.lrwTokens (s : State) : State :=
  let r := s.rd R.DFT_RSAVE_RSAVE * s.pol 0x10 3 10
  let n := min (max 25600 r) (s.cvn.lrwTok + (s.tick - s.cvn.lrwAt) * r)
  { s with cvn := { s.cvn with lrwTok := n, lrwAt := s.tick } }

/-- LOSS_RECORD_REWRITE (R226): pages with a newer slot leave the record; the next one is read from DRAM to be written as a slot with
every line poisoned, as far as LRW_SHARE allows; an empty record is retired. -/
def State.doLossRecordRewrite (s : State) : State :=
  match s.cvn.loss with
  | none => s
  | some r =>
    let st := s.rd R.CVN_STAT_RST_ST
    if (st ≠ 0 ∧ st ≠ 5) ∨ !s.on R.CVN_STAT_READY ∨ s.cvn.code ≠ 0 then s
    else
      let m := s.without (r.gen + 1) r.pages
      let s := (s.lossTrim r).lrwTokens
      match s.rewritePick m with
      | none => s
      | some p =>
        if s.cvn.lrwTok < 25600 then s
        else { s with cvn := { s.cvn with lrwTok := s.cvn.lrwTok - 25600 } }.imageStart p

/-! ### The commands -/

/-- PACK_WAIT_END (R448). -/
def execPackWaitEnd (s : State) : Host.Outcome State Fault Refusal := ok s (·.doPackWaitEnd)

/-- PACK_WAIT_EXPIRY (R448). -/
def execPackWaitExpiry (s : State) : Host.Outcome State Fault Refusal := ok s (·.doPackWaitExpiry)

/-- RESTORE_MAP_LOAD_DONE (R228). -/
def execRestoreMapLoadDone (s : State) : Host.Outcome State Fault Refusal := ok s (·.doRestoreMapLoadDone)

/-- LOSS_COMPUTATION_DONE (R225). -/
def execLossComputationDone (s : State) : Host.Outcome State Fault Refusal := ok s (·.doLossComputationDone)

/-- MEMORY_READY (R232). -/
def execMemoryReady (s : State) : Host.Outcome State Fault Refusal := ok s (·.doMemoryReady)

/-- BULK_RESTORE_READ_DONE (R230). -/
def execBulkRestoreReadDone (page : Nat) (good : Bool) (s : State) :
    Host.Outcome State Fault Refusal := ok s (·.doBulkRestoreReadDone page good)

/-- ON_TOUCH_FETCH_DONE (R232). -/
def execOnTouchFetchDone (page : Nat) (zero lost : Bool) (s : State) :
    Host.Outcome State Fault Refusal := ok s (·.doOnTouchFetchDone page zero lost)

/-- BULK_RESTORE_COMPLETE (R228). -/
def execBulkRestoreComplete (s : State) : Host.Outcome State Fault Refusal := ok s (·.doBulkRestoreComplete)

/-- LOSS_RECORD_REWRITE (R226). -/
def execLossRecordRewrite (s : State) : Host.Outcome State Fault Refusal := ok s (·.doLossRecordRewrite)

end Sys2Proof.Machine
end

