-- ==== Sys2Proof/Machine/LongOps.lean ====
section
/-!
DEFINITION. The long operations of Table 21-5 and what completes them (R50, R59, R64, R66, R67, R136, R349, R350, R373, R423,
R434, R475, R484, R509).
-/
namespace Sys2Proof.Machine

/-! ### Overlays -/

/-- OVL_SWITCH (R59 steps 1 to 3): Busy while another runs, Invalid for an index that names no overlay; one that a save meets
before it has written anything is stopped there (R61). -/
def State.doOvlSwitch (s : State) (slot index : Nat) (permitted : Bool := true) : State :=
  s.longOp slot 0x01 [index] permitted (fun s e =>
    if s.loq.ovlStep ≠ 0 then s.loqEnd e loBusy (s.rd R.ERG_STAT_ACT_OVL)
    else if index ≠ 15 ∧ !(s.activeOvl index).isSome then s.loqEnd e loInvalid (s.rd R.ERG_STAT_ACT_OVL)
    else
      let wait := decide (s.ovlTag index = 2) && !s.bulkOver
      let step := if s.cvn.code ≠ 0 then 9 else if wait then 1 else 3
      let s := { s with loq := { s.loq with ovlStep := step, ovlEnt := e, ovlNew := index,
                                            ovlBegun := false } }
      let s := s.put R.ERG_STAT_SWITCH_BUSY true
      if step = 3 then s.ovlBatch.packPolicyCheck else s)

/-- OVL_SWITCH_APPLIED (R59 steps 4 to 7): every block has applied the batch. -/
def State.doOvlSwitchApplied (s : State) : State :=
  if s.loq.ovlStep ≠ 4 ∨ !s.ovlApplied then s
  else
    let new := s.loq.ovlNew
    let s := { s with erg := { s.erg with recOvl := new }, loq := { s.loq with ovlStep := 0, ovlBegun := false } }.lvAppend
    let s := (s.wr R.ERG_STAT_ACT_OVL new).wr R.ERG_STAT_ACT_MODE (s.ovlTag new)
    let s := (s.put R.ERG_STAT_SWITCH_BUSY false).put R.ERG_STAT_PARTIAL false
    (s.note 0x13 3 new).loqEnd s.loq.ovlEnt loSuccess new

/-- VOLATILE_LEAVE_READY (R64): the held set is no more than G. -/
def State.doVolatileLeaveReady (s : State) : State :=
  if s.loq.ovlStep ≠ 5 ∨ s.rd R.LDG_GUAR_G < s.rd R.TRK_HELD_HELD then s
  else { s with loq := { s.loq with ovlStep := 4 } }.leaveVolatile

/-! ### Images and calibration -/

/-- Words of the load buffer. -/
def State.lbWords (s : State) (n : Nat) : List Nat := (List.range n).map s.lbWord

/-- ERG_LOAD (R50, R483): the inactive slot is erased, programmed, read back and validated; a slot that WP_LOCK
protects keeps its contents (R435). [DEDUCED, unsafe: log 33] -/
def State.doErgLoad (s : State) (slot len : Nat) (permitted : Bool := true) : State :=
  s.longOp slot 0x02 [len] permitted (fun s e =>
    let t := 1 - s.rd R.ERG_STAT_BOOT_SLOT
    if len = 0 ∨ len % 4 ≠ 0 ∨ 262144 < len then s.loqEnd e loInvalid 0
    else if s.ergProtected t || (List.range 4).any (fun k => s.wpFrozen (ergSector t + k)) then s.loqEnd e loProtected 0
    else
      let s := (List.range 4).foldl (fun s k => s.sectorErase (ergSector t + k)) s
      let s := s.cflProgram (ergSector t * 16384) (s.lbWords (len / 4))
      let v := s.validateErg (s.ergWord t)
      (s.ergResult t v).loqEnd e (if v = 0 then loSuccess else loFailed) v)

/-- The counts of CAL_STAT. -/
def State.calStat (s : State) : State :=
  (s.wr R.CAL_STAT_ENTRIES s.erg.cal.length).wr R.CAL_STAT_USER_ENTRIES (s.erg.cal.filter (fun e => e.2.1)).length

/-- WP_LOCK protects a sector of the CAL store, so that no entry can be written (R435). -/
def State.calFrozen (s : State) : Bool := (List.range 4).any (fun k => s.wpFrozen (200 + k))

/-- The compaction of the CAL store into its other half (R66), with the erase of the half left. [DESIGN CHOICE, unsafe: log 35] -/
def State.calCompact (s : State) : State :=
  let old := 200 + 2 * s.erg.calHalf
  ({ s with erg := { s.erg with calHalf := 1 - s.erg.calHalf } }.sectorErase old).sectorErase (old + 1)

/-- Replace one entry. Whether the half must be compacted first depends on sizes that the manual does not give: an open
value. -/
def State.calPut (s : State) (key : Nat) (user : Bool) (ws : List Nat) : State :=
  let (v, s) := s.free
  let s := if v % 2 = 1 then s.calCompact else s
  { s with erg := { s.erg with cal := smSet (false, []) key (user, ws) s.erg.cal } }.calStat

/-- User calibration writes are accepted over the mailbox from CAL_WPOL 1 on, and over TWI0 at 2 (Table 2-6).
[DEDUCED, unsafe: log 36] -/
def State.calPermits (s : State) (slot : Nat) : Bool :=
  let p := s.pol 0x17 0 0
  decide (p ≠ 0) && (decide (slot ≠ 1) || decide (p = 2))

/-- CAL_WRITE (R66): one entry is replaced and marked user; it takes effect at the next cold boot (R67). -/
def State.doCalWrite (s : State) (slot key words : Nat) (permitted : Bool := true) : State :=
  s.longOp slot 0x03 [key, words] permitted (fun s e =>
    if !s.calPermits slot then s.loqEnd e loDenied 0
    else if words = 0 ∨ 64 < words ∨ 65536 ≤ key then s.loqEnd e loInvalid key
    else if s.calFrozen then s.loqEnd e loProtected key
    else (s.calPut key true (s.lbWords words)).loqEnd e loSuccess key)

/-- CAL_FACTORY (R67): a file signed by the vendor key and bound to this unit replaces every entry it lists.
[DESIGN CHOICE, safe: log 37] -/
def State.doCalFactory (s : State) (slot len : Nat) (permitted : Bool := true) : State :=
  s.longOp slot 0x04 [len] permitted (fun s e =>
    let f := s.lbWords (len / 4)
    let uid := (List.range 4).map (fun i => s.rd R.CAL_UID_UID i)
    if len = 0 ∨ len % 4 ≠ 0 ∨ 262144 < len ∨ !Config.calFileSigned f ∨ Config.calFileUid f ≠ uid then s.loqEnd e loInvalid 0
    else if s.calFrozen then s.loqEnd e loProtected 0
    else
      let es := (Config.calFileEntries f).filter (fun x => decide (x.1 < 65536) && decide (1 ≤ x.2.length) &&
        decide (x.2.length ≤ 64))
      let s : State := es.foldl (fun (s : State) x => s.calPut x.1 false (x.2.map (· % 2 ^ 32))) s
      s.loqEnd e loSuccess es.length)

/-- RANK_MIGRATE (R135, R136): without a free, healthy spare it changes nothing; during a save or restore the trigger is
recorded for the next cold boot. -/
def State.doRankMigrate (s : State) (slot c r : Nat) (permitted : Bool := true) : State :=
  s.longOp slot 0x05 [c, r] permitted (fun s e =>
    let free := decide (c < 8) && s.wayUp (2 * c) && s.on R.DCH_STAT_SPARE_FREE c && decide (r < s.spareRank c) &&
      decide (s.rd R.DCH_RANK_STATE c r = 0)
    if !free then s.loqEnd e loNotStarted 0
    else if s.dram.caravan || s.saving || decide (s.rd R.CVN_STAT_RST_ST ≠ 0) then (s.retireRank c r none).loqEnd e loNotStarted 0
    else s.retireRank c r (some e))

/-- CAP_AUDIT (R373). -/
def State.doCapAudit (s : State) (slot : Nat) (permitted : Bool := true) : State :=
  s.longOp slot 0x06 [] permitted (fun s e => s.capAudit e)

/-! ### BOOK_AUDIT -/

/-- Buffers whose owner tag names no live operation (R349). -/
def State.bufLeaks (s : State) : List (Nat × Nat) := s.buf.own.filter (fun e => !smGet false s.buf.live e.2)

/-- Difference of one credit kind of a port, credits on the way back counted (book 0). -/
def State.creditDiff (s : State) (p : Nat) (rwd : Bool) : Int :=
  let used := (s.host.trk.filter (fun r => decide (r.port = p) && decide (r.op.isWrite = rwd))).length
  let kept := if rwd then smGet 0 s.host.rwdKept p else 0
  let out := if rwd then smGet 0 s.host.rwdOut p else smGet 0 s.host.reqOut p
  ((used + kept + smGet 0 s.host.credFly (2 * p + b2n rwd) : Nat) : Int) - (out : Int)

/-- Recount minus counter of a book of Table 11-4. -/
def State.bookDiff (s : State) (b : Nat) : Int :=
  let d := fun (re ct : Nat) => (re : Int) - (ct : Int)
  match b with
  | 0 => s.creditDiff 0 false + s.creditDiff 0 true + s.creditDiff 1 false + s.creditDiff 1 true
  | 1 => d s.host.trk.length (s.rd R.HP_TRK_TRK_USED 0 + s.rd R.HP_TRK_TRK_USED 1)
  | 3 => ((List.range 32).map (fun c => d (s.slotsUsed c) (s.rd R.FCH_STAT_SLOTS c))).sum
  | 4 => d 0 s.bufLeaks.length
  | 5 => d (s.heldPages 0 (2 ^ 32)).length (s.rd R.TRK_HMEM_HELD_MEM) +
      d (if s.on R.TRK_STAT_RUN then (s.nvm.stg.filter (fun e => e.2.held)).length else 0) (s.rd R.TRK_HSTG_HELD_STG)
  | 6 =>
    let g := s.rd R.LDG_GUAR_G
    let need := g * s.rd R.LDG_COST_C / 65536 + s.ledger.oasisUsed + s.rd R.LDG_EFIX_FIX
    d (g - s.rd R.LDG_GMAX_GMAX) 0 + (if g = 0 then 0 else d (need - s.rd R.LDG_EUSE_E_USE) 0)
  | 8 => d s.nvm.cmds.length (s.rd R.NVC_CMD_INFL)
  | 9 => d s.nvm.locks.length (s.rd R.NVC_LOCK_LOCK_USED)
  | 10 => d s.trk.copy.length (s.rd R.TRK_INFL_INFL)
  | 11 => d s.nvm.stg.length (s.rd R.NVC_STGU_STG_USED)
  | _ => 0

/-- The 80 B result record (Table 11-5), as bytes. -/
def State.bookRecord (s : State) (sel bad leaks got : Nat) (ds : List Int) : List Nat :=
  leBytes 2 sel ++ leBytes 2 bad ++ leBytes 4 leaks ++ leBytes 4 got ++ leBytes 4 s.buf.dbl ++ leBytes 4 s.buf.foreign ++
  leBytes 4 s.buf.faults ++ leBytes 8 s.tick ++ ds.flatMap (fun v => leBytes 4 (toField 32 v))

/-- BOOK_AUDIT (R349, R350): the selected books are sampled and compared; book 5 is corrected (R152), leaks of book 4 are
reclaimed when asked for, with an event each. During a save it ends with Aborted by save. [DEDUCED, safe: log 85] -/
def State.doBookAudit (s : State) (slot arg : Nat) (permitted : Bool := true) : State :=
  s.longOp slot 0x07 [arg] permitted (fun s e =>
    if s.cvn.code ≠ 0 then s.loqEnd e loAborted 0
    else
      let sel := arg % 4096
      let ds := (List.range 12).map (fun b => if bit sel b then s.bookDiff b else 0)
      let bad := ((List.range 12).filter (fun b => decide (ds.getD b 0 ≠ 0))).foldl (fun v b => v + 2 ^ b) 0
      let leaks := if bit sel 4 then s.bufLeaks else []
      let take := bit arg 16
      let s := if bit sel 5 then s.heldRecount.closedClear.closedSet else s
      let s : State := if !take then s
        else
          let s := leaks.foldl (fun s x => s.note 0x0A 5 x.1) s
          { s with buf := { s.buf with own := s.buf.own.filter (fun x => !leaks.contains x) } }.bufServe
      let r := s.bookRecord sel bad leaks.length (if take then leaks.length else 0) ds
      s.loqEnd e (if bad = 0 then loSuccess else loDiff) bad r)

/-! ### Firmware and code flash -/

/-- FW_VERIFY (R475): steps 1 to 7 on a slot. -/
def State.doFwVerify (s : State) (slot fw : Nat) (permitted : Bool := true) : State :=
  s.longOp slot 0x08 [fw] permitted (fun s e =>
    if 1 < fw then s.loqEnd e loInvalid 0
    else
      let (v, s) := s.fwCheck fw 7
      s.loqEnd e (if v = 0 then loSuccess else loFailed) v)

/-- FW_CONFIRM (R484): Not Started when no trial image runs. -/
def State.doFwConfirm (s : State) (slot arg : Nat) (permitted : Bool := true) : State :=
  s.longOp slot 0x09 [arg] permitted (fun s e =>
    if !s.fwu.trial ∨ s.fwu.next ≠ s.fwu.run then s.loqEnd e loNotStarted (s.rd R.FWU_SVN_FLOOR)
    else
      let s := s.fwConfirm (bit arg 0)
      s.loqEnd e loSuccess (s.rd R.FWU_SVN_FLOOR))

/-- CFL_MAINT with argument 0 (R434): every sector whose erase was interrupted is erased again, but for one that WP_LOCK
protects (R435). -/
def State.doCflMaintReerase (s : State) (slot : Nat) (permitted : Bool := true) : State :=
  s.longOp slot 0x0A [0] permitted (fun s e =>
    let ns := (List.range 512).filter (fun n => bit (s.rd R.CFL_EINT_EINT (n / 32)) (n % 32) && !s.wpFrozen n)
    (ns.foldl (fun s n => s.sectorErase n) s).loqEnd e loSuccess ns.length)

/-- CFL_MAINT with argument 1 (R423): the learned-value area is compacted, which erases its old sector. -/
def State.doCflMaintCompact (s : State) (slot : Nat) (permitted : Bool := true) : State :=
  s.longOp slot 0x0A [1] permitted (fun s e => s.lvCompact.loqEnd e loSuccess 1)

/-! ### MEM_SANITIZE -/

/-- Some logical device has a committed decoder (R509). -/
def State.anyDecoder (s : State) : Bool := s.host.lds.any (fun e => e.2.decs.any (·.committed))

/-- Steps 1 to 4 of R509: the image is deallocated and its loss record retired, tracking cleared, host memory zeroed, and
every superblock of the image tenant goes to be erased; the save artefacts and snapshots lie in them. -/
def State.memSanitize (s : State) : State :=
  let s := s.imgDealloc 0 (2 ^ 36)
  let c := { s.cvn with loss := none, lost := [], manifest := none, record := none, sanMark := true }
  let s := { s with cvn := c, drift := { s.drift with snaps := [], snapNow := none } }.lostRegs
  let s := s.clearTracking.zeroPages 0 s.hostPages
  let s : State := (s.ftl.opens.map (·.1)).foldl (fun (s : State) k =>
    match smGet 0 s.ftl.opens k with
    | 0 => s
    | n + 1 => if (s.sb n).tenant = 0 then s.closeSb k else s) s
  let sbs := (s.sbList.filter (fun e => decide (e.2.tenant = 0) &&
    (decide (e.2.state = 2) || decide (e.2.state = 3)))).map (·.1)
  let s : State := sbs.foldl (fun (s : State) n => if (s.sb n).state = 2 then s.setSb n { s.sb n with state := 3, movedSeq := 0 } else s) s
  { s with ftl := { s.ftl with eraseWait := s.ftl.eraseWait ++ [(memSanKey, sbs)] } }.eraseKick

/-- MEM_SANITIZE starts on entry `e`: with a committed decoder, a running one, or in degraded service it changes nothing
(R143, R509). -/
def State.memSanitizeStart (s : State) (e : Nat) : State :=
  let other := s.loq.ents.any (fun x => decide (x.1 ≠ e) && x.2.used && !x.2.ended && decide (x.2.op = 0x0B))
  if s.anyDecoder || s.on R.DRM_STAT_DEGRADED then s.loqEnd e loNotStarted 0
  else if other then s.loqEnd e loBusy 0
  else if s.cvn.code ≠ 0 then { s with cvn := { s.cvn with sanMark := true } }
  else s.memSanitize

/-- MEM_SANITIZE (R509). -/
def State.doMemSanitize (s : State) (slot : Nat) (permitted : Bool := true) : State :=
  s.longOp slot 0x0B [] permitted (fun s e => s.memSanitizeStart e)

/-! ### By operation code -/

/-- An operation of Table 21-5 by its code and its arguments; another code completes with Invalid. -/
def State.longByOp (s : State) (slot op : Nat) (args : List Nat) (permitted : Bool) : State :=
  let a := args.getD 0 0
  let b := args.getD 1 0
  match op with
  | 0x01 => s.doOvlSwitch slot a permitted
  | 0x02 => s.doErgLoad slot a permitted
  | 0x03 => s.doCalWrite slot a b permitted
  | 0x04 => s.doCalFactory slot a permitted
  | 0x05 => s.doRankMigrate slot a b permitted
  | 0x06 => s.doCapAudit slot permitted
  | 0x07 => s.doBookAudit slot a permitted
  | 0x08 => s.doFwVerify slot a permitted
  | 0x09 => s.doFwConfirm slot a permitted
  | 0x0A => if a = 0 then s.doCflMaintReerase slot permitted else if a = 1 then s.doCflMaintCompact slot permitted
    else s.longOp slot 0x0A [a] permitted (fun s e => s.loqEnd e loInvalid 0)
  | 0x0B => s.doMemSanitize slot permitted
  | _ => s.longOp slot op args permitted (fun s e => s.loqEnd e loInvalid 0)

/-! ### The commands -/

/-- OVL_SWITCH (R59). -/
def execOvlSwitch (slot : Nat) (index : Nat) (s : State) :
    Host.Outcome State Fault Refusal := ok s (·.doOvlSwitch slot index)

/-- OVL_SWITCH_APPLIED (R59). -/
def execOvlSwitchApplied (s : State) : Host.Outcome State Fault Refusal := ok s (·.doOvlSwitchApplied)

/-- VOLATILE_LEAVE_READY (R64). -/
def execVolatileLeaveReady (s : State) : Host.Outcome State Fault Refusal := ok s (·.doVolatileLeaveReady)

/-- ERG_LOAD (R50). -/
def execErgLoad (slot : Nat) (len : Nat) (s : State) : Host.Outcome State Fault Refusal := ok s (·.doErgLoad slot len)

/-- CAL_WRITE (R66). -/
def execCalWrite (slot : Nat) (key : Nat) (words : Nat) (s : State) :
    Host.Outcome State Fault Refusal := ok s (·.doCalWrite slot key words)

/-- CAL_FACTORY (R67). -/
def execCalFactory (slot : Nat) (len : Nat) (s : State) :
    Host.Outcome State Fault Refusal := ok s (·.doCalFactory slot len)

/-- RANK_MIGRATE (R136). -/
def execRankMigrate (slot : Nat) (chan : Nat) (rank : Nat) (s : State) :
    Host.Outcome State Fault Refusal := ok s (·.doRankMigrate slot chan rank)

/-- CAP_AUDIT (R373). -/
def execCapAudit (slot : Nat) (s : State) : Host.Outcome State Fault Refusal := ok s (·.doCapAudit slot)

/-- BOOK_AUDIT (R349). -/
def execBookAudit (slot : Nat) (arg : Nat) (s : State) :
    Host.Outcome State Fault Refusal := ok s (·.doBookAudit slot arg)

/-- FW_VERIFY (R475). -/
def execFwVerify (slot : Nat) (fw : Nat) (s : State) : Host.Outcome State Fault Refusal := ok s (·.doFwVerify slot fw)

/-- FW_CONFIRM (R484). -/
def execFwConfirm (slot : Nat) (arg : Nat) (s : State) :
    Host.Outcome State Fault Refusal := ok s (·.doFwConfirm slot arg)

/-- CFL_MAINT_REERASE (R434). -/
def execCflMaintReerase (slot : Nat) (s : State) : Host.Outcome State Fault Refusal := ok s (·.doCflMaintReerase slot)

/-- CFL_MAINT_COMPACT (R423). -/
def execCflMaintCompact (slot : Nat) (s : State) : Host.Outcome State Fault Refusal := ok s (·.doCflMaintCompact slot)

/-- MEM_SANITIZE (R509). -/
def execMemSanitize (slot : Nat) (s : State) : Host.Outcome State Fault Refusal := ok s (·.doMemSanitize slot)

/-- LOQ_COMPLETION_POST (R514). -/
def execLoqCompletionPost (ring : Nat) (s : State) :
    Host.Outcome State Fault Refusal := ok s (·.doLoqCompletionPost ring)

end Sys2Proof.Machine
end

