-- ==== Sys2Proof/Machine/Mailbox.lean ====
section
/-!
DEFINITION. The CXL mailbox of each logical device (R507 to R510, Table 21-4): events, firmware, timestamp, logs, identify and
health, alerts, shutdown state, poison, sanitize, dynamic capacity and the vendor commands C000h to C005h.
-/
namespace Sys2Proof.Machine

/-! ### Running a command -/

def rcOutOfOrder : Nat := 9
def rcInvalidLog : Nat := 0x17
def rcExhausted : Nat := 0x1D
def rcInvalidExtents : Nat := 0x1E

/-- The mailbox of a logical device is presented: its port is up and the device answers configuration (R70, R103, R444). -/
def State.mbxUp (s : State) (port ld : Nat) : Bool :=
  !s.boot.inReset && decide (1 ≤ s.level) && decide (port < 2) && s.on R.HP_STAT_ACTIVE port && !bit s.host.perst port &&
  (decide (s.rd R.HP_STAT_LINK port = 2) || decide (s.rd R.HP_STAT_LINK port = 3)) &&
  s.ldShown port ld

/-- A command waits in its mailbox (R478, R510). -/
def State.mbxWait (s : State) (i : Instr) : State :=
  { s with loq := { s.loq with waiting := s.loq.waiting ++ [i] } }.addSat R.MBX_STAT_BUSY 1

/-- Run a mailbox command: `f` is given the mailbox. During a save it waits, unless it is one of the three that a save of code
3 or 4 serves at once (R510); during an activation it waits (R478), and while the core that owns the mailbox does not run (R28); a device-wide command finds another running (R507).
[DEDUCED, unsafe: log 49] -/
def State.mbx (s : State) (port ld opc : Nat) (i : Instr) (atOnce dev : Bool) (f : State → Nat → State) : State :=
  if !s.mbxUp port ld then s
  else if (decide (s.cvn.code ≠ 0) && !(atOnce && decide (3 ≤ s.cvn.code))) || decide (s.fwu.act ≠ 0) || !s.roleRuns 1 then
    s.mbxWait i
  else if dev && s.on R.MBX_STAT_DEVWIDE then s.mbxDone (ldKey port ld) opc rcBusy
  else f s (ldKey port ld)

/-- The commands of Table 21-4, by opcode. -/
def mbxOpcodes : List Nat :=
  [0x0100, 0x0101, 0x0102, 0x0103, 0x0200, 0x0201, 0x0202, 0x0300, 0x0301, 0x0400, 0x0401, 0x4000, 0x4200, 0x4201,
   0x4202, 0x4203, 0x4204, 0x4300, 0x4301, 0x4302, 0x4400, 0x4401, 0x4800, 0x4801, 0x4802, 0x4803, 0xC000, 0xC001,
   0xC002, 0xC003, 0xC004, 0xC005]

/-- Dynamic-capacity commands exist in CXL 3.1 mode only (Table 21-4). -/
def State.mbxDc (s : State) (port ld opc : Nat) (i : Instr) (f : State → Nat → State) : State :=
  s.mbx port ld opc i false false (fun s m =>
    if s.rd R.HP_STAT_PROTO port ≠ 3 then s.mbxDone m opc rcUnsupported else f s m)

/-! ### Events (R99) -/

/-- One event record as the mailbox returns it. [PRESUMED, safe: log 45] -/
def recWords (r : CxlRec) : List Nat := [r.handle, r.typ, r.sub, r.time, r.data.length] ++ r.data

/-- GET_EVENT_RECORDS: the oldest records that fit the payload of 16 KiB, with the overflow count and the times of the first and the
last record that overflowed; logs 0 to 3. [PRESUMED, unsafe: log 46] -/
def State.doGetEventRecords (s : State) (port ld log : Nat) : State :=
  s.mbx port ld 0x0100 (.getEventRecords port ld log) true false (fun s m =>
    match (s.ld port ld).logs[log]? with
    | none => s.mbxDone m 0x0100 rcInvalidInput
    | some l =>
      let rs := l.recs.take 127
      s.mbxDone m 0x0100 rcSuccess ([b2n (decide (l.dropped ≠ 0)) + 2 * b2n (decide (127 < l.recs.length)), l.dropped,
        l.overAt.1, l.overAt.2, rs.length] ++ rs.flatMap recWords))

/-- CLEAR_EVENT_RECORDS: the records named, which are the oldest of the log in order, or all of them when none is named; the
overflow is cleared with them. -/
def State.doClearEventRecords (s : State) (port ld log : Nat) (handles : List Nat) : State :=
  s.mbx port ld 0x0101 (.clearEventRecords port ld log handles) false false (fun s m =>
    let d := s.ld port ld
    match d.logs[log]? with
    | none => s.mbxDone m 0x0101 rcInvalidInput
    | some l =>
      if (l.recs.take handles.length).map (·.handle) ≠ handles then s.mbxDone m 0x0101 rcInvalidHandle
      else
        let rs := if handles.isEmpty then [] else l.recs.drop handles.length
        (s.setLd m { d with logs := d.logs.set log { l with recs := rs, dropped := 0, overAt := (0, 0) } }).mbxDone m 0x0101 rcSuccess)

/-- GET_EVENT_INTERRUPT_POLICY. -/
def State.doGetEventInterruptPolicy (s : State) (port ld : Nat) : State :=
  s.mbx port ld 0x0102 (.getEventInterruptPolicy port ld) false false (fun s m =>
    s.mbxDone m 0x0102 rcSuccess (s.ld port ld).policy)

/-- SET_EVENT_INTERRUPT_POLICY: no interrupt (0) or MSI-X (1) for each log; any other setting changes nothing. -/
def State.doSetEventInterruptPolicy (s : State) (port ld : Nat) (policy : List Nat) : State :=
  s.mbx port ld 0x0103 (.setEventInterruptPolicy port ld policy) false false (fun s m =>
    if policy.any (fun v => decide (1 < v)) || decide (policy.length ≠ 4) then s.mbxDone m 0x0103 rcInvalidInput
    else (s.setLd m { s.ld port ld with policy := policy }).mbxDone m 0x0103 rcSuccess)

/-! ### Firmware (R472, R477, R485) -/

/-- GET_FW_INFO: two slots, the running one and the next when it differs, online activation, and the revision of each
valid slot. -/
def State.doGetFwInfo (s : State) (port ld : Nat) : State :=
  s.mbx port ld 0x0200 (.getFwInfo port ld) false false (fun s m =>
    let fr := fun (k : Nat) => if s.on R.FWU_SLOT_VALID k then [s.rd R.FWU_REV_FR (2 * k), s.rd R.FWU_REV_FR (2 * k + 1)]
      else [0, 0]
    let next := if s.fwu.next = s.fwu.run then 0 else s.fwu.next + 1
    s.mbxDone m 0x0200 rcSuccess ([2, s.fwu.run + 1, next, 1] ++ fr 0 ++ fr 1))

/-- Program every block of the open download whose bytes have all arrived. -/
def State.fwBlocksNow (s : State) : State :=
  let bs := s.fwu.part.foldl (fun m e => setIns (e.1 / 4096) m) []
  bs.foldl (fun s b => s.doFirmwareBlockReceived b) s

/-- TRANSFER_FW: action 0 is a full transfer, 1 and 2 start and continue one, 3 ends it, 4 aborts it; Full and End verify the
slot (R472 to R475). Offset and length are multiples of 4,096 B. [PRESUMED, unsafe: log 48] -/
def State.doTransferFw (s : State) (port ld action slot off : Nat) (data : List Byte) : State :=
  s.mbx port ld 0x0201 (.transferFw port ld action slot off data) false true (fun s m =>
    let last := decide (action = 0) || decide (action = 3)
    if off % 4096 ≠ 0 ∨ data.length % 4096 ≠ 0 ∨ 4 < action then s.mbxDone m 0x0201 rcInvalidInput
    else if action = 4 then s.fwAbandon.mbxDone m 0x0201 rcSuccess
    else if last && decide (slot ≠ 2 - s.fwu.run) then s.mbxDone m 0x0201 rcInvalidSlot
    else
      let open3 := decide (s.rd R.FWU_STAT_STATE = 1) && decide (s.rd R.FWU_STAT_OWNER = 3)
      if data.isEmpty ∧ !(open3 && decide (action = 3)) then s.mbxDone m 0x0201 rcOutOfOrder
      else
        let (good, s) := if data.isEmpty then (true, s) else s.fwData 3 off (data.map (·.toNat))
        if !good then s.mbxDone m 0x0201 rcTransferring
        else if !last then s.mbxDone m 0x0201 rcSuccess
        else
          let (v, s) := s.fwBlocksNow.fwClose.fwCheck (1 - s.fwu.run) 7
          s.mbxDone m 0x0201 (if v = 0 then rcSuccess else rcVerifyFailed))

/-- ACTIVATE_FW: action 0 (online) acts as commit action 3, action 1 (offline) as commit action 2 (R477). -/
def State.doActivateFw (s : State) (port ld action slot : Nat) : State :=
  s.mbx port ld 0x0202 (.activateFw port ld action slot) false true (fun s m =>
    let sl := slot - 1
    if 1 < action then s.mbxDone m 0x0202 rcInvalidInput
    else if slot = 0 ∨ 2 < slot ∨ (action = 0 ∧ sl = s.fwu.run) then s.mbxDone m 0x0202 rcInvalidSlot
    else
      let (v, s) := s.fwClose.fwCheck sl 10
      if v ≠ 0 then s.mbxDone m 0x0202 (if v ≤ 7 then rcVerifyFailed else rcActFailed)
      else if action = 1 then (s.fwTarget sl).mbxDone m 0x0202 rcSuccess
      else if s.actClassOf sl = 2 then (s.fwTarget sl).mbxDone m 0x0202 rcColdReset
      else (((s.addSat R.MBX_STAT_BUSY 1).put R.MBX_STAT_DEVWIDE true).actBegin sl (s.actClassOf sl) 0 (m + 1)))

/-! ### Timestamp, logs, identify, health -/

/-- GET_TIMESTAMP (R539). -/
def State.doGetTimestamp (s : State) (port ld : Nat) : State :=
  s.mbx port ld 0x0300 (.getTimestamp port ld) false false (fun s m => s.mbxDone m 0x0300 rcSuccess [s.hostNow])

/-- SET_TIMESTAMP (R539): the host time against the tick counter. -/
def State.doSetTimestamp (s : State) (port ld time : Nat) : State :=
  s.mbx port ld 0x0301 (.setTimestamp port ld time) false true (fun s m =>
    { s with host := { s.host with hostTime := some (time % 2 ^ 64, s.tick) } }.mbxDone m 0x0301 rcSuccess)

/-- The Command Effects Log: an opcode and its effects for each command implemented; the effect bits are the standard's. -/
def celBytes : List Nat :=
  (mbxOpcodes.zip (List.range mbxOpcodes.length)).flatMap (fun e =>
    leBytes 2 e.1 ++ [Config.standardByte 1 (2 * e.2) % 256, Config.standardByte 1 (2 * e.2 + 1) % 256])

/-- GET_SUPPORTED_LOGS (R507): one log and its size. -/
def State.doGetSupportedLogs (s : State) (port ld : Nat) : State :=
  s.mbx port ld 0x0400 (.getSupportedLogs port ld) false false (fun s m =>
    s.mbxDone m 0x0400 rcSuccess [1, celBytes.length])

/-- GET_LOG (R507): `cel` says that the Command Effects Log is named. -/
def State.doGetLog (s : State) (port ld : Nat) (cel : Bool) (off len : Nat) : State :=
  s.mbx port ld 0x0401 (.getLog port ld cel off len) false false (fun s m =>
    if !cel then s.mbxDone m 0x0401 rcInvalidLog
    else if celBytes.length < off + len then s.mbxDone m 0x0401 rcInvalidInput
    else s.mbxDone m 0x0401 rcSuccess ((celBytes.drop off).take len))

/-- IDENTIFY_MEMORY_DEVICE (R507): total, volatile and persistent capacity in units of 256 MiB, records of each event log,
lines of the poison list, the running revision. -/
def State.doIdentifyMemoryDevice (s : State) (port ld : Nat) : State :=
  s.mbx port ld 0x4000 (.identifyMemoryDevice port ld) false false (fun s m =>
    let n := s.ldCap port ld / 0x10000000
    s.mbxDone m 0x4000 rcSuccess [n, 0, n, 256, 256, 256, 256, 1024, s.rd R.FWU_REV_FR (2 * s.fwu.run),
      s.rd R.FWU_REV_FR (2 * s.fwu.run + 1)])

/-- Device Temperature: the hottest junction sensor in whole °C, rounded up (Table 3-7). -/
def State.deviceTemp (s : State) : Int := idivUp (s16 (s.rd R.PWR_THERM_TJ)) 16

/-- GET_HEALTH_INFO (R100, Table 3-7). -/
def State.doGetHealthInfo (s : State) (port ld : Nat) : State :=
  s.mbx port ld 0x4200 (.getHealthInfo port ld) true false (fun s m =>
    s.mbxDone m 0x4200 rcSuccess [s.healthStatus, s.mediaStatus, s.rd R.FTL_LIFE_LIFE_IMG, toField 16 s.deviceTemp,
      s.cvn.dirtyShut, s.dram.ceTotal, min s.ftl.corrPers (2 ^ 32 - 1)])

/-- GET_ALERT_CONFIGURATION. [DESIGN CHOICE, unsafe: log 47] -/
def State.doGetAlertConfiguration (s : State) (port ld : Nat) : State :=
  s.mbx port ld 0x4201 (.getAlertConfiguration port ld) false false (fun s m =>
    s.mbxDone m 0x4201 rcSuccess (s.ld port ld).alert)

/-- SET_ALERT_CONFIGURATION. -/
def State.doSetAlertConfiguration (s : State) (port ld : Nat) (config : List Nat) : State :=
  s.mbx port ld 0x4202 (.setAlertConfiguration port ld config) false false (fun s m =>
    (s.setLd m { s.ld port ld with alert := config }).mbxDone m 0x4202 rcSuccess)

/-- GET_SHUTDOWN_STATE. -/
def State.doGetShutdownState (s : State) (port ld : Nat) : State :=
  s.mbx port ld 0x4203 (.getShutdownState port ld) false false (fun s m =>
    s.mbxDone m 0x4203 rcSuccess [(s.ld port ld).shutdown])

/-- SET_SHUTDOWN_STATE: stored; the dirty-shutdown count follows R234 alone. -/
def State.doSetShutdownState (s : State) (port ld value : Nat) : State :=
  s.mbx port ld 0x4204 (.setShutdownState port ld value) false false (fun s m =>
    if 1 < value then s.mbxDone m 0x4204 rcInvalidInput
    else (s.setLd m { s.ld port ld with shutdown := value }).mbxDone m 0x4204 rcSuccess)

/-! ### Poison (R508) -/

/-- GET_POISON_LIST: the lines of the list in a range of the device's DPA, in DPA order, with the overflow flag. -/
def State.doGetPoisonList (s : State) (port ld dpa len : Nat) : State :=
  s.mbx port ld 0x4300 (.getPoisonList port ld dpa len) false false (fun s m =>
    let d := s.ld port ld
    let b := s.ldBase port ld
    let ls := (d.poisoned.foldl (fun m l => setIns l m) []).filter (fun l =>
      decide (b + dpa ≤ 64 * l) && decide (64 * l < b + dpa + 64 * len))
    s.mbxDone m 0x4300 rcSuccess ([b2n d.poisonOver, ls.length] ++ ls.map (fun l => 64 * l - b)))

/-- The device physical address of a line of a logical device, if the line is in its static or dynamic capacity. -/
def State.lineOf (s : State) (port ld dpa : Nat) : Option Nat :=
  if dpa % 64 = 0 ∧ s.ldOwns port ld dpa then some (s.ldBase port ld + dpa) else none

/-- A store of the mailbox is accepted (R193, R508): memory is ready, the page is restored, admission is open to it, and its bank
queue has room; a line taken offline discards it (R140). -/
def State.mbxTakes (s : State) (a : Nat) : Bool :=
  s.on R.CVN_STAT_READY && !s.unrestored (a / 4096) && s.admits (a / 4096) && (s.isOffline a || s.dramRoom a)

/-- A store of the mailbox that is not accepted waits there; its page, if it is still to be restored, is fetched. -/
def State.mbxDefer (s : State) (i : Instr) (a : Nat) : State :=
  (if s.on R.CVN_STAT_READY && s.unrestored (a / 4096) && !s.cvn.fetching.contains (a / 4096) then s.fetchStart (a / 4096)
   else s).mbxWait i

/-- An accepted store of the mailbox. -/
def State.mbxStore (s : State) (a be : Nat) (data : List Byte) (psn : Bool) : State :=
  if s.isOffline a then s.pageStore (a / 4096)
  else (s.pageStore (a / 4096)).dramPush a true data be psn .rewrite 1 none

/-- INJECT_POISON. [DEDUCED, unsafe: log 50] -/
def State.doInjectPoison (s : State) (port ld dpa : Nat) : State :=
  s.mbx port ld 0x4301 (.injectPoison port ld dpa) false false (fun s m =>
    match s.lineOf port ld dpa with
    | none => s.mbxDone m 0x4301 rcInvalidAddr
    | some a =>
      if !s.mbxTakes a then s.mbxDefer (.injectPoison port ld dpa) a
      else (s.mbxStore a 0 [] true).mbxDone m 0x4301 rcSuccess)

/-- CLEAR_POISON: the line leaves the list when its write is accepted. -/
def State.doClearPoison (s : State) (port ld dpa : Nat) (data : List Byte) : State :=
  s.mbx port ld 0x4302 (.clearPoison port ld dpa data) false false (fun s m =>
    match s.lineOf port ld dpa with
    | none => s.mbxDone m 0x4302 rcInvalidAddr
    | some a =>
      if data.length ≠ 64 then s.mbxDone m 0x4302 rcInvalidInput
      else if !s.mbxTakes a then s.mbxDefer (.clearPoison port ld dpa data) a
      else
        let d := s.ld port ld
        ((s.setLd m { d with poisoned := setDel (a / 64) d.poisoned }).mbxStore a allBe data false).mbxDone m 0x4302 rcSuccess)

/-! ### Sanitize (R509) -/

/-- Sanitize and Secure Erase: Invalid Input with a committed decoder; otherwise MEM_SANITIZE is entered on slot 3 and the
mailbox runs it in the background. -/
def State.mbxSanitize (s : State) (port ld opc : Nat) (i : Instr) : State :=
  s.mbx port ld opc i false true (fun s m =>
    if s.anyDecoder then s.mbxDone m opc rcInvalidInput
    else match s.issueLong 3 0x0B [] with
    | (s, none) => s.mbxDone m opc rcBusy
    | (s, some e) =>
      let s := ({ s with loq := { s.loq with bg := some (m, e) } }.wr R.MBX_STAT_BG 1).put R.MBX_STAT_DEVWIDE true
      (s.mbxDone m opc rcBackground).memSanitizeStart e)

/-- SANITIZE. -/
def State.doSanitize (s : State) (port ld : Nat) : State := s.mbxSanitize port ld 0x4400 (.sanitize port ld)

/-- SECURE_ERASE. -/
def State.doSecureErase (s : State) (port ld : Nat) : State := s.mbxSanitize port ld 0x4401 (.secureErase port ld)

/-! ### Dynamic capacity (R78, R79, R151) -/

/-- Dynamic-capacity regions of a logical device (Table 3-10). -/
def State.dcRegions (s : State) (port ld : Nat) : Nat := bits (s.ergBase 1 (9 + 2 * s.ldHome port ld) 0) 0 4

/-- GET_DC_CONFIG: regions, their block size, and the pool in blocks. -/
def State.doGetDcConfig (s : State) (port ld : Nat) : State :=
  s.mbxDc port ld 0x4800 (.getDcConfig port ld) (fun s m =>
    s.mbxDone m 0x4800 rcSuccess [s.dcRegions port ld, 0x10000000, s.ergBase 1 4 0])

/-- GET_DC_EXTENT_LIST. -/
def State.doGetDcExtentList (s : State) (port ld first count : Nat) : State :=
  s.mbxDc port ld 0x4801 (.getDcExtentList port ld first count) (fun s m =>
    let es := (s.ld port ld).extents
    s.mbxDone m 0x4801 rcSuccess (es.length :: ((es.drop first).take count).flatMap (fun e => [e.1, e.2])))

/-- Every run of dynamic blocks in use: extents, adds and releases of all logical devices. -/
def State.dcInUse (s : State) : List (Nat × Nat) :=
  s.host.lds.flatMap (fun e => e.2.extents ++ e.2.adding ++ e.2.releasing)

/-- The static range of a logical device, in blocks. -/
def State.staticBlocks (s : State) (k : Nat) : Nat × Nat :=
  (s.ldBase (k / 16) (k % 16) / 0x10000000, s.ldCap (k / 16) (k % 16) / 0x10000000)

/-- ADD_DC_RESPONSE: the run of blocks is accepted when it lies in host memory, at or above the device's base, from which its DPA
counts (R76), outside every static range and every other run, and the pool and the 512 extents have room for it; it is added once R151 permits (DC_ADD_PROCEED).
[DEDUCED, unsafe: log 51] -/
def State.doAddDcResponse (s : State) (port ld region start blocks : Nat) : State :=
  s.mbxDc port ld 0x4802 (.addDcResponse port ld region start blocks) (fun s m =>
    let d := s.ld port ld
    let e := (start, blocks)
    if s.dcRegions port ld ≤ region then s.mbxDone m 0x4802 rcInvalidInput
    else if blocks = 0 then s.mbxDone m 0x4802 rcSuccess
    else if s.rd R.DRM_HOSTSZ_HOST_SZ < start + blocks ∨ start < s.ldBase port ld / 0x10000000 ∨ s.ldKeys.any (fun k => dcOverlap (s.staticBlocks k) e) ∨
        s.dcInUse.any (fun x => dcOverlap x e) then s.mbxDone m 0x4802 rcInvalidExtents
    else if s.ergBase 1 4 0 < (s.dcInUse.map (·.2)).sum + blocks ∨ 512 ≤ d.extents.length + d.adding.length then
      s.mbxDone m 0x4802 rcExhausted
    else (s.setLd m { d with adding := d.adding ++ [e], regions := smSet 8 start region d.regions }).mbxDone m 0x4802 rcSuccess)

/-- DC_ADD_PROCEED (R78, R151): the first add whose range holds no copy with DISCARD completes; its range reads zero. -/
def State.doDcAddProceed (s : State) (port ld : Nat) : State :=
  let k := ldKey port ld
  let d := s.ld port ld
  let busy := fun (e : Nat × Nat) => s.trk.copy.any (fun c => c.2.discard && decide (e.1 * blockPages ≤ c.1) &&
    decide (c.1 < (e.1 + e.2) * blockPages))
  match d.adding.find? (fun e => !busy e) with
  | none => s
  | some e =>
    let s := s.setLd k { d with adding := d.adding.erase e, extents := d.extents ++ [e] }
    (s.zeroPages (e.1 * blockPages) (e.2 * blockPages)).dcEvent k 0 e

/-- RELEASE_DC (R79): a run inside an extent leaves the list and waits to be released; what is left of the extent keeps its region.
A release that would leave more than 512 extents is refused (R78). [DESIGN CHOICE, safe: log 201] -/
def State.doReleaseDc (s : State) (port ld start blocks : Nat) : State :=
  s.mbxDc port ld 0x4803 (.releaseDc port ld start blocks) (fun s m =>
    let d := s.ld port ld
    match d.extents.find? (fun e => decide (e.1 ≤ start) && decide (start + blocks ≤ e.1 + e.2)) with
    | none => s.mbxDone m 0x4803 rcInvalidExtents
    | some e =>
      let rest := [(e.1, start - e.1), (start + blocks, e.1 + e.2 - start - blocks)].filter (fun x => decide (x.2 ≠ 0))
      if blocks = 0 then s.mbxDone m 0x4803 rcInvalidInput
      else if 512 < d.extents.length - 1 + rest.length then s.mbxDone m 0x4803 rcExhausted
      else
        let es := d.extents.flatMap (fun x => if x = e then rest else [x])
        let g := if start + blocks < e.1 + e.2 then smSet 8 (start + blocks) (smGet 8 d.regions e.1) d.regions else d.regions
        (s.setLd m { d with extents := es, regions := g, releasing := d.releasing ++ [(start, blocks)] }).mbxDone m 0x4803 rcSuccess)

/-! ### Vendor commands -/

/-- The persistence status record, 32 B (Table 3-9, R102). -/
def State.persRecord (s : State) : List Nat :=
  leBytes 4 (s.rd R.LDG_GPUB_G_PUB) ++ leBytes 4 (s.rd R.TRK_HELD_HELD) ++ leBytes 4 (s.rd R.LDG_COST_C) ++
  leBytes 4 (s.rd R.LDG_EUSE_E_USE) ++ leBytes 4 s.ledger.oasisUsed ++ [s.persState, s.ledgerLevel, 0, 0] ++
  leBytes 8 (s.rd R.LDG_TS_TICK)

/-- GET_PERSISTENCE_STATUS (C000h). -/
def State.doGetPersistenceStatus (s : State) (port ld : Nat) : State :=
  s.mbx port ld 0xC000 (.getPersistenceStatus port ld) true false (fun s m => s.mbxDone m 0xC000 rcSuccess s.persRecord)

/-- GET_LOST_RANGES (C001h): 1 to 1,024 ranges from an index. -/
def State.doGetLostRanges (s : State) (port ld first count : Nat) : State :=
  s.mbx port ld 0xC001 (.getLostRanges port ld first count) false false (fun s m =>
    if count = 0 ∨ 1024 < count then s.mbxDone m 0xC001 rcInvalidInput
    else s.mbxDone m 0xC001 rcSuccess ((((s.ldLost port ld).drop first).take count).flatMap (fun e =>
      leBytes 4 e.1 ++ leBytes 4 e.2)))

/-- One record of the recorder, 64 B; an empty slot is zero (Table 21-4). -/
def State.recordBytes (s : State) (area index : Nat) : State × List Nat :=
  match s.recordAt area index with
  | (s, _, some x) => (s, recBytes x.record x.seq)
  | (s, _, none) => (s, List.replicate 64 0)

/-- GET_RECORDER_RECORDS (C002h): 1 to 64 records of an area from an index. -/
def State.doGetRecorderRecords (s : State) (port ld area first count : Nat) : State :=
  s.mbx port ld 0xC002 (.getRecorderRecords port ld area first count) false false (fun s m =>
    if 2 < area ∨ count = 0 ∨ 64 < count then s.mbxDone m 0xC002 rcInvalidInput
    else
      let (s, bs) := (List.range count).foldl (fun (x : State × List Nat) i =>
        let (s, b) := x.1.recordBytes area (first + i)
        (s, x.2 ++ b)) (s, [])
      s.mbxDone m 0xC002 rcSuccess bs)

/-- A logical device that MGMT_WR names (R72, Table 3-10). -/
def State.mgmtWr (s : State) (k : Nat) : Bool := bit (s.ergBase 1 3 1) k

/-- The LOQ_ISSn_RES word of a slot. -/
def State.resWord (s : State) (slot : Nat) : Nat :=
  s.rd R.LOQ_ISS_RES_HANDLE slot + 65536 * s.rd R.LOQ_ISS_RES_REFUSED slot

/-- Issue by operation code on a slot, whose argument registers take the arguments (R511). -/
def State.issueBy (s : State) (slot op : Nat) (args : List Nat) (permitted : Bool) : State :=
  let args := (List.range 6).map (fun k => args.getD k 0 % 2 ^ 32)
  let s := (List.range 6).foldl (fun s k => s.wr R.LOQ_ISS_ARG_ARG (args.getD k 0) slot k) s
  s.longByOp slot (op % 256) args permitted

/-- ISSUE_LONG_OPERATION (C003h): on slot 3, for the operations that the mailbox's device may write under R72 (R511, R512). -/
def State.doIssueLongOperation (s : State) (port ld op : Nat) (args : List Nat) : State :=
  s.mbx port ld 0xC003 (.issueLongOperation port ld op args) false false (fun s m =>
    let s := s.issueBy 3 op args (s.mgmtWr m)
    s.mbxDone m 0xC003 rcSuccess [s.resWord 3])

/-- READ_COMPLETIONS (C004h): 1 to 64 entries of ring 0; what is read is released (R512, R514). -/
def State.doReadCompletions (s : State) (port ld count : Nat) : State :=
  s.mbx port ld 0xC004 (.readCompletions port ld count) false false (fun s m =>
    if count = 0 ∨ 64 < count then s.mbxDone m 0xC004 rcInvalidInput
    else
      let (s, ws) := s.ringTake 0 count true
      s.mbxDone m 0xC004 rcSuccess ws)

/-- WRITE_LOAD_BUFFER (C005h): up to 4,096 B at a word offset; refused while an operation reads the buffer (R513). -/
def State.doWriteLoadBuffer (s : State) (port ld off : Nat) (words : List Nat) : State :=
  s.mbx port ld 0xC005 (.writeLoadBuffer port ld off words) false false (fun s m =>
    if 1024 < words.length ∨ 65536 < off + words.length then s.mbxDone m 0xC005 rcInvalidInput
    else if s.bufBusy then (s.put R.LOQ_STAT_CFG_REJ true).mbxDone m 0xC005 rcBusy
    else (s.lbWrite off words).mbxDone m 0xC005 rcSuccess)

/-! ### The commands -/

/-- GET_EVENT_RECORDS (R99). -/
def execGetEventRecords (port : Nat) (ld : Nat) (log : Nat) (s : State) :
    Host.Outcome State Fault Refusal := ok s (·.doGetEventRecords port ld log)

/-- CLEAR_EVENT_RECORDS (R99). -/
def execClearEventRecords (port : Nat) (ld : Nat) (log : Nat) (handles : List Nat) (s : State) :
    Host.Outcome State Fault Refusal := ok s (·.doClearEventRecords port ld log handles)

/-- GET_EVENT_INTERRUPT_POLICY (R99). -/
def execGetEventInterruptPolicy (port : Nat) (ld : Nat) (s : State) :
    Host.Outcome State Fault Refusal := ok s (·.doGetEventInterruptPolicy port ld)

/-- SET_EVENT_INTERRUPT_POLICY (R99). -/
def execSetEventInterruptPolicy (port : Nat) (ld : Nat) (policy : List Nat) (s : State) :
    Host.Outcome State Fault Refusal := ok s (·.doSetEventInterruptPolicy port ld policy)

/-- GET_FW_INFO (R485). -/
def execGetFwInfo (port : Nat) (ld : Nat) (s : State) :
    Host.Outcome State Fault Refusal := ok s (·.doGetFwInfo port ld)

/-- TRANSFER_FW (R472). -/
def execTransferFw (port : Nat) (ld : Nat) (action : Nat) (slot : Nat) (off : Nat) (data : List Byte) (s : State) :
    Host.Outcome State Fault Refusal := ok s (·.doTransferFw port ld action slot off data)

/-- ACTIVATE_FW (R477). -/
def execActivateFw (port : Nat) (ld : Nat) (action : Nat) (slot : Nat) (s : State) :
    Host.Outcome State Fault Refusal := ok s (·.doActivateFw port ld action slot)

/-- GET_TIMESTAMP (R539). -/
def execGetTimestamp (port : Nat) (ld : Nat) (s : State) :
    Host.Outcome State Fault Refusal := ok s (·.doGetTimestamp port ld)

/-- SET_TIMESTAMP (R539). -/
def execSetTimestamp (port : Nat) (ld : Nat) (time : Nat) (s : State) :
    Host.Outcome State Fault Refusal := ok s (·.doSetTimestamp port ld time)

/-- GET_SUPPORTED_LOGS (R507). -/
def execGetSupportedLogs (port : Nat) (ld : Nat) (s : State) :
    Host.Outcome State Fault Refusal := ok s (·.doGetSupportedLogs port ld)

/-- GET_LOG (R507). -/
def execGetLog (port : Nat) (ld : Nat) (cel : Bool) (off : Nat) (len : Nat) (s : State) :
    Host.Outcome State Fault Refusal := ok s (·.doGetLog port ld cel off len)

/-- IDENTIFY_MEMORY_DEVICE (R507). -/
def execIdentifyMemoryDevice (port : Nat) (ld : Nat) (s : State) :
    Host.Outcome State Fault Refusal := ok s (·.doIdentifyMemoryDevice port ld)

/-- GET_HEALTH_INFO (R100). -/
def execGetHealthInfo (port : Nat) (ld : Nat) (s : State) :
    Host.Outcome State Fault Refusal := ok s (·.doGetHealthInfo port ld)

/-- GET_ALERT_CONFIGURATION (R507). -/
def execGetAlertConfiguration (port : Nat) (ld : Nat) (s : State) :
    Host.Outcome State Fault Refusal := ok s (·.doGetAlertConfiguration port ld)

/-- SET_ALERT_CONFIGURATION (R507). -/
def execSetAlertConfiguration (port : Nat) (ld : Nat) (config : List Nat) (s : State) :
    Host.Outcome State Fault Refusal := ok s (·.doSetAlertConfiguration port ld config)

/-- GET_SHUTDOWN_STATE (R507). -/
def execGetShutdownState (port : Nat) (ld : Nat) (s : State) :
    Host.Outcome State Fault Refusal := ok s (·.doGetShutdownState port ld)

/-- SET_SHUTDOWN_STATE (R507). -/
def execSetShutdownState (port : Nat) (ld : Nat) (value : Nat) (s : State) :
    Host.Outcome State Fault Refusal := ok s (·.doSetShutdownState port ld value)

/-- GET_POISON_LIST (R508). -/
def execGetPoisonList (port : Nat) (ld : Nat) (dpa : Nat) (len : Nat) (s : State) :
    Host.Outcome State Fault Refusal := ok s (·.doGetPoisonList port ld dpa len)

/-- INJECT_POISON (R508). -/
def execInjectPoison (port : Nat) (ld : Nat) (dpa : Nat) (s : State) :
    Host.Outcome State Fault Refusal := ok s (·.doInjectPoison port ld dpa)

/-- CLEAR_POISON (R508). -/
def execClearPoison (port : Nat) (ld : Nat) (dpa : Nat) (data : List Byte) (s : State) :
    Host.Outcome State Fault Refusal := ok s (·.doClearPoison port ld dpa data)

/-- SANITIZE (R509). -/
def execSanitize (port : Nat) (ld : Nat) (s : State) : Host.Outcome State Fault Refusal := ok s (·.doSanitize port ld)

/-- SECURE_ERASE (R509). -/
def execSecureErase (port : Nat) (ld : Nat) (s : State) :
    Host.Outcome State Fault Refusal := ok s (·.doSecureErase port ld)

/-- GET_DC_CONFIG (R78). -/
def execGetDcConfig (port : Nat) (ld : Nat) (s : State) :
    Host.Outcome State Fault Refusal := ok s (·.doGetDcConfig port ld)

/-- GET_DC_EXTENT_LIST (R78). -/
def execGetDcExtentList (port : Nat) (ld : Nat) (first : Nat) (count : Nat) (s : State) :
    Host.Outcome State Fault Refusal := ok s (·.doGetDcExtentList port ld first count)

/-- ADD_DC_RESPONSE (R151). -/
def execAddDcResponse (port : Nat) (ld : Nat) (region : Nat) (start : Nat) (blocks : Nat) (s : State) :
    Host.Outcome State Fault Refusal := ok s (·.doAddDcResponse port ld region start blocks)

/-- DC_ADD_PROCEED (R151). -/
def execDcAddProceed (port : Nat) (ld : Nat) (s : State) :
    Host.Outcome State Fault Refusal := ok s (·.doDcAddProceed port ld)

/-- RELEASE_DC (R79). -/
def execReleaseDc (port : Nat) (ld : Nat) (start : Nat) (blocks : Nat) (s : State) :
    Host.Outcome State Fault Refusal := ok s (·.doReleaseDc port ld start blocks)

/-- GET_PERSISTENCE_STATUS (R102). -/
def execGetPersistenceStatus (port : Nat) (ld : Nat) (s : State) :
    Host.Outcome State Fault Refusal := ok s (·.doGetPersistenceStatus port ld)

/-- GET_LOST_RANGES (R233). -/
def execGetLostRanges (port : Nat) (ld : Nat) (first : Nat) (count : Nat) (s : State) :
    Host.Outcome State Fault Refusal := ok s (·.doGetLostRanges port ld first count)

/-- GET_RECORDER_RECORDS (R466). -/
def execGetRecorderRecords (port : Nat) (ld : Nat) (area : Nat) (first : Nat) (count : Nat) (s : State) :
    Host.Outcome State Fault Refusal := ok s (·.doGetRecorderRecords port ld area first count)

/-- ISSUE_LONG_OPERATION (R511). -/
def execIssueLongOperation (port : Nat) (ld : Nat) (op : Nat) (args : List Nat) (s : State) :
    Host.Outcome State Fault Refusal := ok s (·.doIssueLongOperation port ld op args)

/-- READ_COMPLETIONS (R514). -/
def execReadCompletions (port : Nat) (ld : Nat) (count : Nat) (s : State) :
    Host.Outcome State Fault Refusal := ok s (·.doReadCompletions port ld count)

/-- WRITE_LOAD_BUFFER (R513). -/
def execWriteLoadBuffer (port : Nat) (ld : Nat) (off : Nat) (words : List Nat) (s : State) :
    Host.Outcome State Fault Refusal := ok s (·.doWriteLoadBuffer port ld off words)

end Sys2Proof.Machine
end

