-- ==== Sys2Proof/Machine/CheckUnits.lean ====
section
/-!
DEFINITION. The general check-value engines GE0 to GE7 (R354, R358 to R363): ownership, the running value and the finished
result. VAL holds the running value most significant bit first, without reflection (R360); a reflected polynomial takes each
byte bit-reversed.
-/
namespace Sys2Proof.Machine

/-- Width, polynomial, initial value, final XOR and reflection of a polynomial code (Table 12-1). -/
def gePolyW (p : Nat) : Nat := [16, 32, 64, 16].getD p 16
def gePoly (p : Nat) : Nat := [0x8BB7, 0x1EDC6F41, 0xAD93D23594C93659, 0x8005].getD p 0
def geInit (p : Nat) : Nat := [0, 0xFFFFFFFF, 0xFFFFFFFFFFFFFFFF, 0x4F4E].getD p 0
def geXor (p : Nat) : Nat := [0, 0xFFFFFFFF, 0xFFFFFFFFFFFFFFFF, 0].getD p 0
def geRefl (p : Nat) : Bool := decide (p = 1) || decide (p = 2)

/-- The low `n` bits of a number in reverse order. -/
def revBits (n v : Nat) : Nat := (List.range n).foldl (fun x i => x + bits v i 1 * 2 ^ (n - 1 - i)) 0

/-- One byte into the running value (R358, R354). [DEDUCED, unsafe: log 23] -/
def geByte (p v b : Nat) : Nat := crcByteN (gePolyW p) (gePoly p) v (if geRefl p then revBits 8 b else b % 256)

/-- The finished result of a running value (R360). [UNVERIFIED, unsafe: log 24] -/
def geResult (p v : Nat) : Nat :=
  let w := gePolyW p
  Nat.xor (if geRefl p then revBits w (v % 2 ^ w) else v % 2 ^ w) (geXor p)

/-- Who a path is to an engine: 1 to 4 MC0 to MC3, 5 the host, 6 TWI0 (R362). -/
def geWho : Path → Nat
  | .core n => n % 4 + 1
  | .host _ _ => 5
  | .twi => 6

/-- CRC_GEn_OWN.CLAIM (R362): a free engine is granted; a claim of an owned engine is rejected. -/
def State.geClaim (s : State) (p : Path) (e : Nat) : State :=
  if s.rd R.CRC_GE_OWN_OWNER e = 0 then
    let via := match p with
      | .host port ld => ldKey port ld + 1
      | _ => 0
    { s with buf := { s.buf with crcVia := smSet 0 e via s.buf.crcVia } }.wr R.CRC_GE_OWN_OWNER (geWho p) e
  else s.put R.CRC_STAT_CFG_REJ true

/-- CRC_GEn_OWN.RELEASE (R362, R363): by the owner; the flag of the previous owner's reset clears. -/
def State.geRelease (s : State) (p : Path) (e : Nat) : State :=
  if s.rd R.CRC_GE_OWN_OWNER e = geWho p then
    ({ s with buf := { s.buf with crcVia := smSet 0 e 0 s.buf.crcVia } }.wr R.CRC_GE_OWN_OWNER 0 e).put
      R.CRC_GE_OWN_OWNER_RST false e
  else s

/-- A write to an engine's other registers: from its owner only (R362). -/
def State.geOwned (s : State) (p : Path) (e : Nat) (f : State → State) : State :=
  if s.rd R.CRC_GE_OWN_OWNER e = geWho p then f s else s.put R.CRC_STAT_CFG_REJ true

/-- CRC_GEn_CTL with INIT: POLY is taken while the engine is Idle (LEN 0), a changed POLY is rejected otherwise (R361); then
VAL takes the initial value and LEN is 0 (R360). [DEDUCED, unsafe: log 22] -/
def State.geStart (s : State) (e poly : Nat) : State :=
  let poly := poly % 4
  let s := if s.rd R.CRC_GE_CTL_POLY e = poly then s
    else if s.rd R.CRC_GE_LEN_LEN e = 0 then s.wr R.CRC_GE_CTL_POLY poly e
    else s.put R.CRC_STAT_CFG_REJ true
  (s.wr R.CRC_GE_VAL_VAL (geInit (s.rd R.CRC_GE_CTL_POLY e)) e).wr R.CRC_GE_LEN_LEN 0 e

/-- Feed the low `n` bytes of a word, least significant first (R358). -/
def State.geFeed (s : State) (e n data : Nat) : State :=
  let p := s.rd R.CRC_GE_CTL_POLY e
  let v := (leBytes n data).foldl (geByte p) (s.rd R.CRC_GE_VAL_VAL e % 2 ^ gePolyW p)
  (s.wr R.CRC_GE_VAL_VAL v e).wr R.CRC_GE_LEN_LEN (s.rd R.CRC_GE_LEN_LEN e + n) e

end Sys2Proof.Machine
end

