-- ==== Sys2Proof/Machine/RegAccess.lean ====
section
/-!
DEFINITION. Access to the management space (R15 to R20, R72, R503 to R506, R537): which path may write where, the fields that a
word holds and how each takes a write under its access code, the rules that span fields, and what a read returns.
-/
namespace Sys2Proof.Machine

/-! ### Paths (Table 21-2) -/

/-- The registers that the TWI0 vendor path may write (Table 21-2). -/
def twiMay (a : Nat) : Bool :=
  let among := fun (lo hi : Nat) => decide (lo ≤ a) && decide (a < hi)
  among (R.LOQ_ISS_ARG_ARG.base + 0x40) (R.LOQ_ISS_ARG_ARG.base + 0x80) ||
  [R.LOQ_RPTR_HEAD.base + 4, R.LOQ_RSEL_HANDLE.base, R.LOQ_REL_HANDLE.base, R.LOQ_LBOFF_OFF.base,
   R.LOQ_LBDATA_DATA.base, R.SEQ_CTL_OFF.base, R.BST_CTL_WARM.base, R.GAU_CTL_EST_NOW.base, R.EVR_SEL_AREA.base,
   R.EVR_RD_ADV.base, R.FWU_CTL_ABORT.base, R.FWU_DOFF_OFF.base, R.FWU_DDATA_DATA.base].contains a ||
  among 0x820000 0x822000 || among (R.CRC_GE_OWN_CLAIM.base + 6 * 0x40) (R.CRC_GE_OWN_CLAIM.base + 8 * 0x40)

/-- The registers that no host may write (Table 21-2): issue slots 1 to 3, CFL_WP, SEQ_CTL. -/
def hostNever (a : Nat) : Bool :=
  (decide (R.LOQ_ISS_ARG_ARG.base + 0x40 ≤ a) && decide (a < R.LOQ_ISS_ARG_ARG.base + 0x100)) ||
  (decide (R.CFL_WP_WP.base ≤ a) && decide (a < R.CFL_WP_WP.base + 0x40)) || decide (a = R.SEQ_CTL_OFF.base)

/-- The path exists now: a core that runs (R28), a logical device whose port is up, or TWI0 at SL1. -/
def State.pathUp (s : State) : Path → Bool
  | .core n => !s.boot.inReset && s.seq.main && decide (n < 4) && s.coreRuns n
  | .host port ld => s.mbxUp port ld
  | .twi => !s.boot.inReset && s.seq.main && decide (1 ≤ s.level)

/-- Whether a path may write a register (R72, R505). -/
def State.mayWrite (s : State) (p : Path) (a : Nat) : Bool :=
  match p with
  | .core _ => true
  | .host port ld => s.mgmtWr (ldKey port ld) && !hostNever a
  | .twi => twiMay a

/-- A denied write is ignored and counted: through a logical device that MGMT_WR does not name in HPx_ERR, otherwise in
TOP_DENY (R72, R505). A write of CFL_WP by anything but a core also sets CFG_REJ (R435). [DEDUCED, unsafe: log 20] -/
def State.denyWrite (s : State) (p : Path) (a : Nat) : State :=
  let s := if R.CFL_WP_WP.base ≤ a ∧ a < R.CFL_WP_WP.base + 0x40 then s.put R.CFL_STAT_CFG_REJ true else s
  match p with
  | .core _ => s
  | .host port ld => if s.mgmtWr (ldKey port ld) then s.inc R.TOP_DENY_HOST else s.inc R.HP_ERR_MGMT_DENY port
  | .twi => s.inc R.TOP_DENY_TWI

/-- A write of register `a` along a path: it has its effect `f` where the path may write (R505). -/
def State.asPath (s : State) (p : Path) (a : Nat) (f : State → State) : State :=
  if !s.pathUp p then s else if s.mayWrite p a then f s else s.denyWrite p a

/-! ### The fields of a word -/

/-- The instances of a field whose bits lie in the word at byte offset `a`. -/
def Fld.inWord (f : Fld) (a : Nat) : List (Nat × Nat) :=
  if a < f.base then []
  else
    let i := if f.st = 0 then 0 else (a - f.base) / f.st
    if f.n ≤ i then []
    else ((List.range f.n2).filter (fun j =>
      decide (f.key i j / 32 ≤ a / 4) && decide (a / 4 ≤ (f.key i j + f.wd - 1) / 32))).map (fun j => (i, j))

/-- Every field instance of the word at `a` (R15). -/
def fieldsAt (a : Nat) : List (Fld × Nat × Nat) :=
  allFlds.flatMap (fun f => (f.inWord a).map (fun ij => (f, ij.1, ij.2)))

/-- The piece of an instance that lies in a word: its lowest bit in the word, its lowest bit in the field, its width. -/
def Fld.piece (f : Fld) (i j a : Nat) : Nat × Nat × Nat :=
  let k := f.key i j
  let lo := max k (8 * a)
  (lo - 8 * a, lo - k, min (k + f.wd) (8 * a + 32) - lo)

/-- The value a field would hold after a write of word `v`: its other pieces keep their bits. -/
def Fld.merged (f : Fld) (i j a cur v : Nat) : Nat :=
  let (w, o, n) := f.piece i j a
  cur - bits cur o n * 2 ^ o + bits v w n * 2 ^ o

/-! ### Blocks (Table 21-1) -/

/-- The first offsets of the block ranges and of the gaps between them, to the end of the management space. -/
def blockStarts : List Nat :=
  [0, 0x10000, 0x20000, 0x30000, 0x100000, 0x140000, 0x180000, 0x1A0000, 0x200000, 0x210000, 0x218000, 0x300000, 0x310000,
   0x320000, 0x330000, 0x340000, 0x400000, 0x410000, 0x420000, 0x500000, 0x510000, 0x600000, 0x610000, 0x700000,
   0x710000, 0x800000, 0x810000, 0x820000, 0x821000, 0x822000, 0x830000, 0x840000, 0x850000, 0x860000, 0x870000,
   0x880000, 0x890000, 0x8A0000]

/-- The range that holds an offset, by position in the list. -/
def blockOf (a : Nat) : Nat := (blockStarts.filter (fun b => decide (b ≤ a))).length

/-- The CFG_REJ bit of the block that holds a register (R20). -/
def rejBit (a : Nat) : Option (Fld × Nat) :=
  if a < 0x20000 then none
  else if a < 0x100000 then some (R.LOQ_STAT_CFG_REJ, 0)
  else if a < 0x180000 then some (R.HP_STAT_CFG_REJ, (a - 0x100000) / 0x40000)
  else if a < 0x200000 then some (R.QOS_CTL_CFG_REJ, 0)
  else if a < 0x210000 then some (R.DRM_STAT_CFG_REJ, 0)
  else if a < 0x300000 then some (R.DCH_STAT_CFG_REJ, (a - 0x210000) / 0x1000)
  else if a < 0x310000 then some (R.TRK_STAT_CFG_REJ, 0)
  else if a < 0x320000 then some (R.DFT_STAT_CFG_REJ, 0)
  else if a < 0x330000 then some (R.LDG_STAT_CFG_REJ, 0)
  else if a < 0x400000 then some (R.CVN_STAT_CFG_REJ, 0)
  else if a < 0x500000 then some (R.FCC_STAT_CFG_REJ, 0)
  else if a < 0x600000 then some (R.FTL_STAT_CFG_REJ, 0)
  else if a < 0x700000 then some (R.NVC_STAT_CFG_REJ, 0)
  else if a < 0x800000 then some (R.CRC_STAT_CFG_REJ, 0)
  else if a < 0x810000 then some (R.GAU_STAT_CFG_REJ, 0)
  else if a < 0x820000 then some (R.SEQ_STAT_CFG_REJ, 0)
  else if a < 0x830000 then some (R.TWI_STAT_CFG_REJ, (a - 0x820000) / 0x1000)
  else if a < 0x840000 then some (R.CFL_STAT_CFG_REJ, 0)
  else if a < 0x850000 then some (R.BST_STAT_CFG_REJ, 0)
  else if a < 0x860000 then some (R.EVR_STAT_CFG_REJ, 0)
  else if a < 0x870000 then some (R.FWU_STAT_CFG_REJ, 0)
  else if a < 0x880000 then some (R.PWR_STAT_CFG_REJ, 0)
  else if a < 0x890000 then some (R.ERG_STAT_CFG_REJ, 0)
  else none

/-- A write is rejected: the block's CFG_REJ bit is set. -/
def State.regReject (s : State) (a : Nat) : State :=
  match rejBit a with
  | some (f, i) => s.put f true i
  | none => s

/-- The registers of an absent unit read 0 and ignore writes: a port that PORT_MODE does not have (HPx register map), the
absent channels of the EB7416 and the DFT_TPROG elements of their dies (R2). -/
def State.regAbsent (s : State) (a : Nat) : Bool :=
  if 0x100000 ≤ a ∧ a < 0x180000 then !s.on R.HP_STAT_ACTIVE ((a - 0x100000) / 0x40000)
  else if 0x214000 ≤ a ∧ a < 0x218000 then s.on R.TOP_ID_PART
  else if 0x418000 ≤ a ∧ a < 0x420000 then s.on R.TOP_ID_PART
  else if 0x316000 ≤ a ∧ a < 0x318000 then s.on R.TOP_ID_PART
  else false

/-! ### Writing -/

/-- Whether the block of an RWL field is Idle for it (R17): LINK 0 for MAX_RATE, LEN 0 for POLY, STATE 0 for the timing of a
two-wire port. -/
def State.rwlIdle (s : State) (f : Fld) (i : Nat) : Bool :=
  if f = R.HP_CTL_MAX_RATE then decide (s.rd R.HP_STAT_LINK i = 0)
  else if f = R.CRC_GE_CTL_POLY then decide (s.rd R.CRC_GE_LEN_LEN i = 0)
  else decide (s.rd R.TWI_STAT_STATE i = 0)

/-- PWR_IDLEn.IDLE is read-only for the flash groups, whose idle time is FCC_PWR's, and for the domains that are never
switched (R491, Table 20-2). -/
def idleFixed (n : Nat) : Bool :=
  [2, 3, 4, 5, 6, 7, 8, 9, 10, 11, 12, 13, 18, 21, 22, 23, 28, 36, 37, 39].contains n

/-- A rule of one field beyond its range (R20): a value that the field does not take, as its description or its rule states (R51). -/
def State.fieldTakes (s : State) (f : Fld) (i j v : Nat) : Bool :=
  if f = R.QOS_KEY_SID ∨ f = R.QOS_KEY_LD ∨ f = R.QOS_KEY_PORT then decide (v = s.rd f i j) || !s.on R.QOS_KEY_VALID i
  else if f = R.TRK_RSEL_REGION then decide (v < cdiv s.hostPages 2048)
  else if f = R.TRK_PSEL_PAGE then decide (v < s.hostPages)
  else if f = R.CVN_LSEL_IDX then decide (v < s.rd R.CVN_LRNGC_RANGES)
  else if f = R.FTL_BSEL_PBLK then decide (v < s.blocksPer)
  else if f = R.NVC_FNSEL_FN then s.fnIds.contains v
  else if f = R.ERG_SEL_NEXT_SLOT then s.on R.ERG_SLOT_VALID v
  else if f = R.FWU_DOFF_OFF then decide (4 * v < 12582912)
  else if f = R.PWR_AVS_VMAX then decide (v ≤ vmaxCal)
  else true

/-- One field takes its part of a word under its access code (R17, R20, R537); the Bool gathers rejections. The actions of
W1S and WO bits follow the fields. [DEDUCED, unsafe: log 128] -/
def State.wrField (sr : State × Bool) (e : Fld × Nat × Nat) (a v : Nat) : State × Bool :=
  let (s, rej) := sr
  let (f, i, j) := e
  let cur := s.rd f i j
  let new := f.merged i j a cur v
  let take := f.legal new && s.fieldTakes f i j new
  match f.acc with
  | .ro | .wo | .w1s => (s, rej)
  | .rw1c => (s.wr f (cur - Nat.land cur new) i j, rej)
  | .rw => if take then (s.wr f new i j, rej) else (s, true)
  | .rws => if f = R.PWR_IDLE_IDLE ∧ idleFixed i then (s, rej) else if take then (s.wr f new i j, rej) else (s, true)
  | .rwl => if new = cur then (s, rej) else if s.rwlIdle f i && take then (s.wr f new i j, rej) else (s, true)

/-- The fields of a register that a rule spans, by element: those that keep their values when a write would break it. A
rule that a field's own description states keeps that field. [DEDUCED, unsafe: log 199] -/
def crossFlds (a : Nat) : List (Fld × Nat) :=
  let p := (a - 0x100000) / 0x40000
  let c := (a - 0x210000) / 0x1000
  let h := (a - 0x410000) / 0x800
  if a = R.HP_DLTH_CONG_OPT.base + p * 0x40000 then
    [(R.HP_DLTH_CONG_OPT, p), (R.HP_DLTH_CONG_MOD, p), (R.HP_DLTH_CONG_SEV, p)]
  else if a = R.DCH_CTL_WR_HI.base + c * 0x1000 then [(R.DCH_CTL_WR_HI, c), (R.DCH_CTL_WR_LO, c)]
  else if a = R.FCH_RSEL_GROUP.base + h * 0x800 then [(R.FCH_RSEL_REF, h)]
  else if a = R.FTL_GCTH_GC_ST.base then [(R.FTL_GCTH_GC_ST, 0), (R.FTL_GCTH_GC_URG, 0), (R.FTL_GCTH_GC_STOP, 0)]
  else if a = R.FTL_CP_FOLD_LO.base then [(R.FTL_CP_FOLD_LO, 0), (R.FTL_CP_FOLD_HI, 0)]
  else if a = R.PWR_CPM_SLACK_LO.base then
    [(R.PWR_CPM_SLACK_LO, 0), (R.PWR_CPM_SLACK_HI, 0), (R.PWR_CPM_SLACK_EMG, 0)]
  else if a = R.PWR_TTH0_TJ_WARN.base then [(R.PWR_TTH0_TJ_WARN, 0), (R.PWR_TTH0_TJ_THROT, 0)]
  else if a = R.PWR_TTH1_TJ_CRIT.base then [(R.PWR_TTH1_TJ_CRIT, 0)]
  else []

/-- The rules that span the fields of a register, on the state that a write would leave. -/
def State.crossOk (s : State) (a : Nat) : Bool :=
  let p := (a - 0x100000) / 0x40000
  let c := (a - 0x210000) / 0x1000
  let h := (a - 0x410000) / 0x800
  if a = R.HP_DLTH_CONG_OPT.base + p * 0x40000 then
    decide (s.rd R.HP_DLTH_CONG_OPT p < s.rd R.HP_DLTH_CONG_MOD p) &&
    decide (s.rd R.HP_DLTH_CONG_MOD p < s.rd R.HP_DLTH_CONG_SEV p)
  else if a = R.DCH_CTL_WR_HI.base + c * 0x1000 then decide (s.rd R.DCH_CTL_WR_LO c < s.rd R.DCH_CTL_WR_HI c)
  else if a = R.FCH_RSEL_GROUP.base + h * 0x800 then
    decide (s.rd R.FCH_RSEL_REF h < refCount (s.rd R.FCH_RSEL_GROUP h) s.bpc)
  else if a = R.FTL_GCTH_GC_ST.base then
    decide (s.rd R.FTL_GCTH_GC_URG < s.rd R.FTL_GCTH_GC_ST) && decide (s.rd R.FTL_GCTH_GC_ST < s.rd R.FTL_GCTH_GC_STOP)
  else if a = R.FTL_CP_FOLD_LO.base then decide (s.rd R.FTL_CP_FOLD_LO < s.rd R.FTL_CP_FOLD_HI)
  else if a = R.PWR_CPM_SLACK_LO.base then
    decide (s.rd R.PWR_CPM_SLACK_EMG < s.rd R.PWR_CPM_SLACK_LO) && decide (s.rd R.PWR_CPM_SLACK_LO < s.rd R.PWR_CPM_SLACK_HI)
  else if a = R.PWR_TTH0_TJ_WARN.base ∨ a = R.PWR_TTH1_TJ_CRIT.base then
    let w := s16 (s.rd R.PWR_TTH0_TJ_WARN)
    let t := s16 (s.rd R.PWR_TTH0_TJ_THROT)
    decide (w < t) && decide (t + 40 < s16 (s.rd R.PWR_TTH1_TJ_CRIT))
  else true

/-- The fields of the word at `a` take a write (R537); a rejected field keeps its value, and so do the fields of a rule that
the write would break; either sets CFG_REJ (R20). -/
def State.wrWord (s : State) (a v : Nat) : State :=
  let (t, rej) := (fieldsAt a).foldl (fun sr e => State.wrField sr e a v) (s, false)
  if !t.crossOk a then ((crossFlds a).foldl (fun t e => t.wr e.1 (s.rd e.1 e.2) e.2) t).regReject a
  else if rej then t.regReject a else t

/-! ### Reading -/

/-- The die that FCHn_DSEL names on a channel. -/
def State.selDie (s : State) (c : Nat) : Nat := dieKey c (s.rd R.FCH_DSEL_DIE c)

/-- The superblock that FTL_BSEL names (R268), and the channel of its die. -/
def State.selSb (s : State) : Nat := s.rd R.FTL_BSEL_DIE % 128 * s.blocksPer + s.rd R.FTL_BSEL_PBLK
def State.selChan (s : State) : Nat := s.rd R.FTL_BSEL_DIE / 128

/-- The CAL entry that CAL_KEY names (R66). -/
def State.selCal (s : State) : Bool × List Nat := smGet (false, []) s.erg.cal (s.rd R.CAL_KEY_KEY)

/-- The entry that LOQ_RSEL names, if its handle is in use (LOQ_RINFO). -/
def State.selLoq (s : State) : Option LoqEnt :=
  let h := s.rd R.LOQ_RSEL_HANDLE
  let x := s.loqEnt (h % 256)
  if x.used && decide (x.gen = h / 256) then some x else none

/-- What the per-die and reference registers show (R257, R258, R262). [DEDUCED, unsafe: log 101] -/
def State.viewFch (s : State) (f : Fld) (c : Nat) : Option Nat :=
  let k := s.selDie c
  let d := s.die k
  let g := s.rd R.FCH_RSEL_GROUP c
  let r := s.refAt k g
  if f = R.FCH_DINFO_STATE then some d.state
  else if f = R.FCH_DINFO_TMO then some d.tmo
  else if f = R.FCH_DINFO_SUSP then
    some (match s.dieSuspended k with
      | some o => if o.kind = .erase then 2 else 1
      | none => 0)
  else if f = R.FCH_DRD_READS then some d.reads
  else if f = R.FCH_DPRG_PROGS then some d.progs
  else if f = R.FCH_DERS_ERASES then some d.erases
  else if f = R.FCH_DITER_ITER_MEAN then some (min 65535 (256 * d.iter.sum / max 1 d.iter.length))
  else if f = R.FCH_DITER_BITS_MAX then some d.bitsMax
  else if f = R.FCH_DSOFT_SOFT then some d.soft
  else if f = R.FCH_DRTY_RETRY then some d.retry
  else if f = R.FCH_DUNC_UNC then some d.unc
  else if f = R.FCH_DFAIL_PFAIL then some d.pfail
  else if f = R.FCH_DFAIL_EFAIL then some d.efail
  else if f = R.FCH_DSUS_PSUS_CNT then some d.psus
  else if f = R.FCH_DSUS_ESUS_CNT then some d.esus
  else if f = R.FCH_DTIME_TPROG_MEAN then some (meanUp d.tprog)
  else if f = R.FCH_DTIME_TBERS_MEAN then some (cdiv (meanUp d.tbers) 10)
  else if f = R.FCH_ROFF_OFFSET then some (toField 8 (r.offs.getD (s.rd R.FCH_RSEL_REF c) 0))
  else if f = R.FCH_ROFF_MEAN then some (min 255 r.mean)
  else if f = R.FCH_ROFF_PROBES then some r.probes
  else none

/-- What FTL_BINFO, FTL_BWEAR and FTL_BREAD show of the selected block (R268, R272). -/
def State.viewFtl (s : State) (f : Fld) : Option Nat :=
  let b := s.sb s.selSb
  if f = R.FTL_BINFO_STATE then some (if b.retired.contains s.selChan then 4 else b.state)
  else if f = R.FTL_BINFO_MODE then some (b2n b.native)
  else if f = R.FTL_BINFO_TENANT then some b.tenant
  else if f = R.FTL_BINFO_GROUP then some b.group
  else if f = R.FTL_BINFO_RWSCHED then some (b2n (decide (b.rw ≠ 0)))
  else if f = R.FTL_BWEAR_WEAR then some b.wear
  else if f = R.FTL_BREAD_READS then some b.reads
  else none

/-- What NVC_FNINFO, NVC_NSINFO and NVC_LOSS show (R304, R310, R327). -/
def State.viewNvc (s : State) (f : Fld) : Option Nat :=
  let c := s.rd R.NVC_FNSEL_FN
  let x := s.fn c
  let n := s.ns (s.rd R.NVC_NSSEL_NSID)
  if f = R.NVC_FNINFO_EN then some (b2n x.en)
  else if f = R.NVC_FNINFO_RDY then some (b2n x.rdy)
  else if f = R.NVC_FNINFO_PS then some x.ps
  else if f = R.NVC_FNINFO_PS_ENTRY then some (b2n (decide (x.psEntry ≠ 0)))
  else if f = R.NVC_FNINFO_INFL then some (s.fnInfl c)
  else if f = R.NVC_FNINFO_QP then some (s.fnQp c)
  else if f = R.NVC_NSINFO_PRESENT then some (b2n (decide (n.units ≠ 0)))
  else if f = R.NVC_NSINFO_READY then some (b2n n.ready)
  else if f = R.NVC_NSINFO_CFG_WT then some (b2n n.cfgWt)
  else if f = R.NVC_NSINFO_EFF_WT then some (b2n n.effWt)
  else if f = R.NVC_NSINFO_CAUSE then some n.cause
  else if f = R.NVC_NSINFO_LOSS_STG then some (b2n n.lossStg)
  else if f = R.NVC_NSINFO_LOSS_UNK then some (b2n n.lossUnk)
  else if f = R.NVC_NSINFO_RO_NS then some (b2n (decide (n.units ≠ 0) && s.on R.FTL_STAT_NS_RO))
  else if f = R.NVC_NSINFO_LBAF then some n.lbaf
  else if f = R.NVC_LOSS_LOST_LBA then some ((s.nvm.lostLbas.map (fun e => e.2.2)).sum)
  else none

/-- What the other select registers and computed fields show. -/
def State.viewRest (s : State) (f : Fld) (i j : Nat) : Option Nat :=
  if f = R.TOP_ID_HW_TYPE then some (s.rd R.CAL_HWTYPE_HW_TYPE)
  else if f = R.LOQ_RINFO_LIVE then some (b2n s.selLoq.isSome)
  else if f = R.LOQ_RINFO_DONE then some (match s.selLoq with | some x => b2n x.posted | none => 0)
  else if f = R.LOQ_RINFO_STATUS then some (match s.selLoq with | some x => x.status | none => 0)
  else if f = R.LOQ_RINFO_RLEN then some (match s.selLoq with | some x => x.record.length | none => 0)
  else if f = R.LOQ_RDATA_WORD then some (match s.selLoq with | some x => x.record.getD i 0 | none => 0)
  else if f = R.TRK_RVAL_SUMMARY then some (s.summaryAt (s.rd R.TRK_RSEL_REGION))
  else if f = R.TRK_PVAL_DIRTY then some (b2n (s.dirtyAt (s.rd R.TRK_PSEL_PAGE)))
  else if f = R.TRK_PVAL_COPYING then some (b2n (s.copyAt (s.rd R.TRK_PSEL_PAGE)).isSome)
  else if f = R.TRK_PVAL_DISCARD then
    some (match s.copyAt (s.rd R.TRK_PSEL_PAGE) with | some c => b2n c.discard | none => 0)
  else if f = R.TRK_PVAL_PROMISED then some (b2n (smGet false s.trk.promised (s.rd R.TRK_PSEL_PAGE)))
  else if f = R.TRK_PVAL_HELD then some (b2n (s.inHeld (s.rd R.TRK_PSEL_PAGE)))
  else if f = R.CVN_LRNG_S_START then some (s.cvn.lost.getD (s.rd R.CVN_LSEL_IDX) (0, 0)).1
  else if f = R.CVN_LRNG_N_COUNT then some (s.cvn.lost.getD (s.rd R.CVN_LSEL_IDX) (0, 0)).2
  else if f = R.CRC_STAT_CLAIMED then
    some (((List.range 8).filter (fun e => decide (s.rd R.CRC_GE_OWN_OWNER e ≠ 0))).map (2 ^ ·)).sum
  else if f = R.CRC_GE_VAL_VAL then some (s.rd f i % 2 ^ gePolyW (s.rd R.CRC_GE_CTL_POLY i))
  else if f = R.CRC_GE_RES_RES then some (geResult (s.rd R.CRC_GE_CTL_POLY i) (s.rd R.CRC_GE_VAL_VAL i))
  else if f = R.PWR_IDLE_IDLE ∧ 6 ≤ i ∧ i ≤ 13 then some (s.rd R.FCC_PWR_GRP_IDLE)
  else if f = R.CAL_INFO_LEN then some s.selCal.2.length
  else if f = R.CAL_INFO_ORIGIN then some (b2n s.selCal.1)
  else if f = R.CAL_DATA_DATA then some (s.selCal.2.getD i 0)
  else if f.acc = .wo ∨ f.acc = .w1s then some 0
  else some (s.rd f i j)

/-- What a read of a field instance returns (R17): the value it holds or shows; occupancies of the decode lanes, which nothing
here drives, are open values up to 100 %. [DESIGN CHOICE, safe: log 102] -/
def State.view (s : State) (f : Fld) (i j : Nat) : State × Nat :=
  if f = R.FCC_CLS_HARD_BUSY ∨ f = R.FCC_CLS_SOFT_BUSY then
    let (v, s) := s.free
    (s, v % 101)
  else
    (s, ((((s.viewFch f i).orElse (fun _ => s.viewFtl f)).orElse (fun _ => s.viewNvc f)).orElse
      (fun _ => s.viewRest f i j)).getD 0 % 2 ^ f.wd)

/-- The word at an offset as its fields stand, without the latch of R16. -/
def State.wordNow (s : State) (a : Nat) : State × Nat :=
  if s.regAbsent a then (s, 0)
  else (fieldsAt a).foldl (fun (sw : State × Nat) e =>
    let (s, v) := sw.1.view e.1 e.2.1 e.2.2
    let (w, o, n) := e.1.piece e.2.1 e.2.2 a
    (s, sw.2 + bits v o n * 2 ^ w)) (s, 0)

/-- The higher words of the value that begins in the word at `a` (R16): of a field wider than its word, and of the values
whose words are fields of their own: the channel and bank masks of DRM_CHM and DRM_BKM, the slot revisions of FWU_REV,
PWR_DON and the unit ID of CAL_UID. -/
def spanMore (a : Nat) : Nat :=
  let wide := (fieldsAt a).foldl (fun m e =>
    if e.1.key e.2.1 e.2.2 / 32 = a / 4 then max m ((e.1.key e.2.1 e.2.2 + e.1.wd - 1) / 32 - a / 4) else m) 0
  if wide ≠ 0 then wide
  else if a = R.CAL_UID_UID.base then 3
  else if a = R.PWR_DON_ON.base ∨ a = R.FWU_REV_FR.base ∨ a = R.FWU_REV_FR.base + 8 ∨
      (0x200020 ≤ a ∧ a < 0x200080 ∧ a % 8 = 0) then 1
  else 0

/-- Read one register word (R15, R16): the lowest word of a value that spans registers latches the higher ones, which hold
until each has been read or the lowest is read again. -/
def State.readWord (s : State) (a : Nat) : State × Nat :=
  match smGet 0 s.latch a with
  | v + 1 => ({ s with latch := smSet 0 a 0 s.latch }, v)
  | 0 =>
    let (s, v) := s.wordNow a
    ((List.range (spanMore a)).foldl (fun (s : State) k =>
      let (s, h) := s.wordNow (a + 4 * k + 4)
      { s with latch := smSet 0 (a + 4 * k + 4) (h + 1) s.latch }) s, v)

/-- A read access of a path (R15): 32 bits aligned, or 64 bits aligned as two of 32 bits, the lower address first. Another
width or address returns 0. -/
def State.busRead (s : State) (bytes a : Nat) : State × Nat :=
  if bytes = 4 ∧ a % 4 = 0 then s.readWord a
  else if bytes = 8 ∧ a % 8 = 0 then
    let (s, l) := s.readWord a
    let (s, h) := s.readWord (a + 4)
    (s, l + h * 2 ^ 32)
  else (s, 0)

end Sys2Proof.Machine
end

