-- ==== Sys2Proof/Machine/Warm.lean ====
section
/-!
DEFINITION. The warm reset (R452, R453): its request, its teardown and reset of the W fields, and its end. What survives is
the DRAM contents, tracking, the copy table, the held set, the ledger, NAND state, links, fences and CAP (R450).
-/
namespace Sys2Proof.Machine

/-- Fields marked W that report a state which the warm reset leaves as it is: they read it on (R536). -/
def heldThroughW : List Fld :=
  [R.TOP_ROLE_CORE, R.TOP_ROLE_MOVED, R.DCH_STAT_DRAIN0, R.DCH_STAT_DRAIN1, R.DCH_STAT_REF2X, R.DCH_MIG_BUSY,
   R.DCH_MIG_SRC, R.DCH_MIGW_W, R.FCH_STAT_SLOTS]

/-- The fields marked W and F take their reset values, image-backed fields the image's (R452 step 4, R65).
[DEDUCED, unsafe: log 138] -/
def State.resetWarm (s : State) : State :=
  let t := s.resetFields .w
  heldThroughW.foldl (fun t f => (List.range f.n).foldl (fun t i =>
    (List.range f.n2).foldl (fun t j => t.wr f (s.rd f i j) i j) t) t) t

/-- A warm reset stops an OVL_SWITCH (R538): the overlay that ACT_OVL names stays active; where the actions of R62 had run and
it does not carry the volatile tag, they stay in force and PARTIAL is set; where it carries the tag and the switch was leaving
it, volatile mode is in force. [DEDUCED, unsafe: log 30] -/
def State.ovlWarm (s : State) (vol : Bool) : State :=
  let tag := s.ovlTag (s.rd R.ERG_STAT_ACT_OVL)
  let s := { s with loq := { s.loq with ovlStep := 0, ovlBegun := false },
                    erg := { s.erg with polOvl := s.rd R.ERG_STAT_ACT_OVL } }
  let s := (s.put R.ERG_STAT_SWITCH_BUSY false).put R.ERG_STAT_VOLATILE vol
  if vol && decide (tag ≠ 2) then s.put R.ERG_STAT_PARTIAL true
  else if !vol && decide (tag = 2) then s.enterVolatile else s

/-- The controllers and queues that a warm reset clears: semaphores, engines, banks, the mailboxes, the readout latch, the
activation limits (R352, R363, R425, R432, R452). -/
def State.warmClear (s : State) : State :=
  { s with
    buf := { s.buf with sems := [], crcVia := [] },
    loq := { s.loq with waiting := [] },
    resumed := [],
    evr := { s.evr with latch := none, fetching := false, twiFetching := false },
    dram := { s.dram with quiet := [], ovfQuiet := 0, groups := [], actSpent := [],
                          migr := s.dram.migr.map (fun e => (e.1, { e.2 with loq := none })) },
    host := { s.host with qosReq := [], qosLat := [], qosOver := [], qosSpent := [], winAt := s.tick },
    pwr := { s.pwr with fsLow := [], eqLow := [] },
    latch := [],
    boot := { s.boot with down := 0 } }

/-- A restore that a warm reset cuts off (R453): its flash reads end without a result, its pages leave the bank queues, and the flash
channels finish what they have (R263). -/
def State.restoreDrop (s : State) : State :=
  let rst := fun (o : FOp) => match o.src with | .bulk _ | .fetch _ => true | _ => false
  let keep := fun (o : FOp) =>
    if !rst o then some o else if o.stage = .running then some { o with src := .gone, left := 1 } else none
  let mv := fun (j : PageIo) => match j.src with | .bulk _ | .fetch _ => true | _ => false
  let s := (s.dram.pages.filter mv).foldl (fun s j => s.pageDrop j.src) s
  { s with flash := { s.flash with ops := s.flash.ops.filterMap keep, extra := s.flash.extra.filter (fun o => !rst o), stopping := true },
           cvn := { s.cvn with fetching := [], got := [], bulkNext := 0 } }

/-- Steps 1 to 5 of R452: NVMe teardown, CXL.mem held, quiesce of the flash channels and stop of the code flash and the two-wire
ports, Drift stopped, self-refresh, the reset, the flag scan; boot goes on at stage 4. `src`: BST_RST.SRC.
[DEDUCED, unsafe: log 223] -/
def State.warmBegin (s : State) (src : Nat) : State :=
  let vol := s.on R.ERG_STAT_VOLATILE
  let restart := !s.on R.BST_STAT_DONE && !s.on R.CVN_STAT_READY
  let s := (s.fnIds.foldl (fun s f => s.fnReset f) s).fwAbandon
  let s := (s.loqAbortAll loReset).warmClear
  let s := s.cflClear false
  let s := if s.rd R.DFT_STAT_STATE = 0 then s else s.wr R.DFT_STAT_STATE 3
  let s := (s.resetWarm.twiClear).ovlWarm vol
  let s := (s.put R.EVR_STAT_COMMIT false).fsAll.nvmRefresh
  let s := s.host.trk.foldl (fun (s : State) r => match r.qent with
    | some e => s.throtRefresh e
    | none => s) s
  let s := (s.wr R.BST_RST_TYPE 3).wr R.BST_RST_SRC src
  let s := s.wr R.BST_BOOTN_BOOT_CNT (s.rd R.BST_BOOTN_BOOT_CNT + 1)
  let s := s.flagScan.wr R.BST_STAT_STAGE 4
  if restart then s.restoreDrop.wr R.CVN_STAT_RST_ST 0
  else
    { s with boot := { s.boot with warm := true },
             host := { s.host with cxlHold := true },
             flash := { s.flash with stopping := true },
             dram := { s.dram with selfRef := true } }

/-- BST_CTL.WARM (R452, R453): deferred while a save or an activation runs (R206, R478); a second request during a warm reset,
or one while cold reset is asserted, has no further effect. [DEDUCED, unsafe: log 139] -/
def State.warmReq (s : State) (p : Path) : State :=
  if s.boot.inReset || s.boot.warm then s
  else if s.cvn.code ≠ 0 ∨ s.fwu.act ≠ 0 then { s with loq := { s.loq with waiting := s.loq.waiting ++ [.warm p] } }
  else s.warmBegin (match p with | .core _ => 0 | .host _ _ => 1 | .twi => 2)

/-- Stages 4 to 6 have ended: at stage 11, or where boot stopped for want of a boot area, firmware or an image (R443, R52). -/
def State.warmStaged (s : State) : Bool :=
  let st := s.rd R.BST_STAT_STAGE
  decide (st = 11) || (decide (st = 4) && s.unitBad 0) || (decide (st = 5) && s.boot.bootBlock) ||
  (decide (st = 6) && s.unitBad 2)

/-- WARM_RESET_COMPLETE (R452 step 6): stages 4 to 6 have ended and the flash channels are quiet; DRAM leaves self-refresh, Drift
resumes with its loop cleared (R172, Table 5-4), a trial's count clears at the end of boot (R482), and what waited is
served. [DEDUCED, safe: log 140] -/
def State.doWarmResetComplete (s : State) : State :=
  if !s.boot.warm || !s.warmStaged || !s.flash.ops.isEmpty then s
  else
    let s := { s with boot := { s.boot with warm := false },
                      host := { s.host with cxlHold := false },
                      flash := { s.flash with stopping := false },
                      dram := { s.dram with selfRef := false } }
    let s := if s.rd R.DFT_STAT_STATE = 3 then s.driftStart else s
    let s := if s.fwu.tries = 0 then s else s.fwSelect s.fwu.run s.fwu.next s.fwu.trial 0
    s.slotFill.goAll

/-! ### The commands -/

/-- WARM_RESET_COMPLETE (R452). -/
def execWarmResetComplete (s : State) : Host.Outcome State Fault Refusal := ok s (·.doWarmResetComplete)

end Sys2Proof.Machine
end

