-- ==== Sys2Proof/Machine/Mgmt.lean ====
section
/-!
DEFINITION. The register commands: the writes that start an action, each a row of its own, the write of any other register
(R537), the apply boundaries of RWS fields (R18), and the vendor messages of TWI0 (R415, R506).
-/
namespace Sys2Proof.Machine

/-! ### Actions of registers -/

/-- SEQ_CTL.OFF (R390): refused while memory is ready unless FORCE is written with it; a forced off writes no save. -/
def State.seqOff (s : State) (force : Bool) : State :=
  if s.on R.CVN_STAT_READY && !force then s.put R.SEQ_STAT_REFUSED true else s.startDown

/-- SEQ_CTL.FLT_CLR (R396): the device releases SEQ_FLT_N if it drives it. -/
def State.seqFltClr (s : State) : State := if s.on R.SEQ_STAT_FLT_DRV then s.fltRelease else s

/-- LOQ_LBDATA (R513): the word is stored at OFF, which advances; rejected while an operation reads the buffer. -/
def State.lbData (s : State) (word : Nat) : State :=
  if s.bufBusy then s.put R.LOQ_STAT_CFG_REJ true
  else
    let off := s.rd R.LOQ_LBOFF_OFF
    (s.lbWrite off [word]).wr R.LOQ_LBOFF_OFF (off + 1)

/-- LOQ_ISSn_CMD (R511): the operation is issued with the arguments as they stand in the slot. -/
def State.loqIssue (s : State) (slot op : Nat) : State :=
  s.issueBy slot op ((List.range 6).map (fun k => s.rd R.LOQ_ISS_ARG_ARG slot k)) true

/-- TRK_CLR.PEAK_CLR. -/
def State.peakClr (s : State) : State := s.wr R.TRK_PEAK_PEAK (s.rd R.TRK_HELD_HELD)

/-- The owner code of FWU_STAT for a path (R472). -/
def fwWho : Path → Nat
  | .host _ _ => 6
  | .twi => 4
  | .core _ => 5

/-- FWU_DDATA (R472, R473): the word is stored at OFF, which advances by one word; data that the open download does not take is
rejected. -/
def State.fwWord1 (s : State) (p : Path) (word : Nat) : State :=
  let off := s.rd R.FWU_DOFF_OFF
  match s.fwData (fwWho p) (4 * off) (leBytes 4 word) with
  | (true, s) => s.wr R.FWU_DOFF_OFF (off + 1)
  | (false, s) => s.put R.FWU_STAT_CFG_REJ true

/-! ### A write of any register -/

/-- The register arrays whose element the address selects. -/
def elemOf (base st n a : Nat) : Option Nat :=
  if a < base ∨ (a - base) % st ≠ 0 ∨ n ≤ (a - base) / st then none else some ((a - base) / st)

/-- The W1S and WO actions of the registers of ports, tracking, ledger, gauge, sequencer, reset and firmware, once their other
fields have taken the write. -/
def State.regAct (s : State) (p : Path) (a v : Nat) : State :=
  if a = R.TRK_CLR_PEAK_CLR.base then (if bit v 0 then s.peakClr else s)
  else if a = R.LDG_CTL_RECOMP.base then
    let s := if bit v 1 then s.wr R.LDG_GAP_GAP 0 else s
    if bit v 0 then s.ledgerStart false else s
  else if a = R.GAU_CTL_EST_NOW.base then
    let s := if bit v 1 then s.lrnWrite else s
    if bit v 0 then s.estNow else s
  else if a = R.SEQ_CTL_OFF.base then
    let s := if bit v 2 then s.seqFltClr else s
    if bit v 0 then s.seqOff (bit v 1) else s
  else if a = R.BST_CTL_WARM.base then (if bit v 0 then s.warmReq p else s)
  else if a = R.FWU_CTL_ABORT.base then (if bit v 0 then s.fwAbandon else s)
  else if a = R.FWU_DDATA_DATA.base then s.fwWord1 p v
  else if a = R.EVR_RD_ADV.base then (if bit v 3 then s.evrAdv else s)
  else
    match elemOf R.HP_CTL_RETRAIN.base 0x40000 2 a, elemOf R.TWI_CTL_FLT_CLR.base 0x1000 2 a with
    | some i, _ => if bit v 0 then s.linkRetrain i else s
    | _, some i => if bit v 0 then s.twiFltClr i else s
    | _, _ => s

/-- The same for the long-operation queue and the code flash. -/
def State.regAct2 (s : State) (p : Path) (a v : Nat) : State :=
  if a = R.LOQ_REL_HANDLE.base then s.loqRel (v % 65536)
  else if a = R.LOQ_LBDATA_DATA.base then s.lbData v
  else if a = R.CFL_CTL_WP_LOCK.base then (if bit v 0 then s.wpLock p else s)
  else if a = R.CFL_DQPUSH_PUSH.base then (if bit v 0 then s.cflPush p else s)
  else
    match elemOf R.LOQ_ISS_CMD_OP.base 0x40 4 a, elemOf R.CFL_OWN_CLAIM.base 4 2 a with
    | some i, _ => s.loqIssue i (v % 256)
    | _, some i =>
      let s := if bit v 4 then s.cflRelease p i else s
      if bit v 3 then s.cflClaim p i else s
    | _, _ => s

/-- Writes of the general engines (R358 to R362): claim and release by anyone, the rest by the owner. -/
def State.regEngine (s : State) (p : Path) (a v : Nat) : State :=
  let e := (a - R.CRC_GE_OWN_CLAIM.base) / 0x40
  match (a - R.CRC_GE_OWN_CLAIM.base) % 0x40 with
  | 0x00 =>
    let s := if bit v 4 then s.geRelease p e else s
    if bit v 3 then s.geClaim p e else s
  | 0x04 => s.geOwned p e (fun s => if bit v 2 then s.geStart e (v % 4) else s.wrWord a v)
  | 0x08 => s.geOwned p e (fun s => s.geFeed e 1 v)
  | 0x0C => s.geOwned p e (fun s => s.geFeed e 2 v)
  | 0x10 => s.geOwned p e (fun s => s.geFeed e 4 v)
  | _ => s.geOwned p e (fun s => s.wrWord a v)

/-- What follows a write of a plain register at once: a recomputation of the ledger (R186), the alert line (R412), the core
levels (R492), requests that a rate cap held (R93), the port of LOQ_CTL with one port (R515), and RWS fields whose block is
at its boundary now (R18). -/
def State.regAfter (s : State) (a : Nat) : State :=
  if [R.LDG_PSAVE_P_SAVE.base, R.LDG_OASIS_OASIS.base, R.LDG_LIM_T_FIX.base, R.LDG_RISE_RISE.base].contains a then
    s.ledgerStart false
  else if a = R.TWI0_ALERT_CAUSE.base then s.alertRefresh
  else if a = R.PWR_LOOP_AVS_EN.base then s.fsAll
  else if 0x180000 ≤ a ∧ a < 0x190000 then s.goAll
  else if a = R.LOQ_CTL_HPORT.base then (if s.ergBase 1 0 0 = 0 then s.wr R.LOQ_CTL_HPORT 0 else s)
  else s.applyIdle

/-- One write of 32 bits that the path may make (R17, R20, R537). -/
def State.regTake (s : State) (p : Path) (a v : Nat) : State :=
  if s.regAbsent a then s
  else if a = R.EVR_SEL_AREA.base then s.evrSel (v % 4) (v / 65536)
  else if a = R.CFL_CRHEAD_HEAD.base then s.cflHead (v % 64)
  else if 0x700100 ≤ a ∧ a < 0x700300 then s.regEngine p a v
  else if R.CFL_WP_WP.base ≤ a ∧ a < R.CFL_WP_WP.base + 0x40 ∧ s.on R.CFL_STAT_WP_LOCK then s.put R.CFL_STAT_CFG_REJ true
  else
    match elemOf R.LOQ_RPTR_HEAD.base 4 2 a with
    | some r => s.loqHead r (v % 64)
    | none => (((s.wrWord a v).regAct p a v).regAct2 p a v).regAfter a

/-- A write of one aligned word along a path (R505). -/
def State.wordWrite (s : State) (p : Path) (a v : Nat) : State := s.asPath p a (fun s => s.regTake p a (v % 2 ^ 32))

/-- MGMT_REGISTER_WRITE (R15, R17 to R20, R505, R537): a 64-bit write is two of 32 bits, the lower address first; a write
narrower than 32 bits or not aligned is ignored; a path that may not write is counted. -/
def State.doMgmtRegisterWrite (s : State) (p : Path) (bytes a v : Nat) : State :=
  if bytes = 4 ∧ a % 4 = 0 then s.wordWrite p a v
  else if bytes = 8 ∧ a % 8 = 0 then (s.wordWrite p a v).wordWrite p (a + 4) (v / 2 ^ 32)
  else s

/-! ### Rows of their own -/

/-- An action row: a write of register `a` that carries the action, with the other fields of the register written as they stand,
which changes none of them (R505, R537). [DEDUCED, safe: log 17] -/
def State.actAt (s : State) (p : Path) (a : Nat) (f : State → State) : State :=
  s.asPath p a (fun s => if s.regAbsent a then s else f s)

/-- RETRAIN (R69). -/
def State.doRetrain (s : State) (p : Path) (port : Nat) : State :=
  if 2 ≤ port then s else s.actAt p (R.HP_CTL_RETRAIN.base + port * 0x40000) (·.linkRetrain port)

/-- LOQ_REL (R512). -/
def State.doLoqRel (s : State) (p : Path) (handle : Nat) : State := s.actAt p R.LOQ_REL_HANDLE.base (·.loqRel (handle % 65536))

/-- LOQ_RPTR_WRITE (R514). -/
def State.doLoqRptrWrite (s : State) (p : Path) (ring head : Nat) : State :=
  if 2 ≤ ring then s else s.actAt p (R.LOQ_RPTR_HEAD.base + 4 * ring) (·.loqHead ring (head % 64))

/-- LOQ_LBDATA (R513). -/
def State.doLoqLbdata (s : State) (p : Path) (word : Nat) : State := s.actAt p R.LOQ_LBDATA_DATA.base (·.lbData word)

/-- PEAK_CLR (TRK_CLR). -/
def State.doPeakClr (s : State) (p : Path) : State := s.actAt p R.TRK_CLR_PEAK_CLR.base (·.peakClr)

/-- RECOMP (R186). -/
def State.doRecomp (s : State) (p : Path) : State := s.actAt p R.LDG_CTL_RECOMP.base (·.ledgerStart false)

/-- GAP_CLR (LDG_CTL). -/
def State.doGapClr (s : State) (p : Path) : State := s.actAt p R.LDG_CTL_RECOMP.base (·.wr R.LDG_GAP_GAP 0)

/-- EST_NOW (R365). -/
def State.doEstNow (s : State) (p : Path) : State := s.actAt p R.GAU_CTL_EST_NOW.base (·.estNow)

/-- LRN_NOW (R378). -/
def State.doLrnNow (s : State) (p : Path) : State := s.actAt p R.GAU_CTL_EST_NOW.base (·.lrnWrite)

/-- OFF (R390). -/
def State.doOff (s : State) (p : Path) : State := s.actAt p R.SEQ_CTL_OFF.base (·.seqOff false)

/-- FORCE (R390): OFF with FORCE. -/
def State.doForce (s : State) (p : Path) : State := s.actAt p R.SEQ_CTL_OFF.base (·.seqOff true)

/-- SEQ_CTL_FLT_CLR (R396). -/
def State.doSeqCtlFltClr (s : State) (p : Path) : State := s.actAt p R.SEQ_CTL_OFF.base (·.seqFltClr)

/-- TWI_CTL_FLT_CLR (R416). -/
def State.doTwiCtlFltClr (s : State) (p : Path) (port : Nat) : State :=
  if 2 ≤ port then s else s.actAt p (R.TWI_CTL_FLT_CLR.base + port * 0x1000) (·.twiFltClr port)

/-- WARM (R452). -/
def State.doWarm (s : State) (p : Path) : State := s.actAt p R.BST_CTL_WARM.base (·.warmReq p)

/-- The offset of a register of an engine. -/
def geReg (eng off : Nat) : Nat := R.CRC_GE_OWN_CLAIM.base + eng * 0x40 + off

/-- A write of an engine's register, for an engine that exists. -/
def State.geAt (s : State) (p : Path) (eng off : Nat) (f : State → State) : State :=
  if 8 ≤ eng then s else s.actAt p (geReg eng off) f

/-- CRC_CLAIM (R362). -/
def State.doCrcClaim (s : State) (p : Path) (eng : Nat) : State := s.geAt p eng 0 (·.geClaim p eng)

/-- CRC_RELEASE (R362). -/
def State.doCrcRelease (s : State) (p : Path) (eng : Nat) : State := s.geAt p eng 0 (·.geRelease p eng)

/-- INIT (R360): with the polynomial code written in the same word. -/
def State.doInit (s : State) (p : Path) (eng poly : Nat) : State :=
  s.geAt p eng 4 (fun s => s.geOwned p eng (·.geStart eng (poly % 4)))

/-- DIN_B, DIN_H, DIN_W (R358). -/
def State.doDinB (s : State) (p : Path) (eng data : Nat) : State :=
  s.geAt p eng 0x08 (fun s => s.geOwned p eng (·.geFeed eng 1 data))
def State.doDinH (s : State) (p : Path) (eng data : Nat) : State :=
  s.geAt p eng 0x0C (fun s => s.geOwned p eng (·.geFeed eng 2 data))
def State.doDinW (s : State) (p : Path) (eng data : Nat) : State :=
  s.geAt p eng 0x10 (fun s => s.geOwned p eng (·.geFeed eng 4 data))

/-- CFL_CLAIM (R424). -/
def State.doCflClaim (s : State) (p : Path) (bank : Nat) : State :=
  if 2 ≤ bank then s else s.actAt p (R.CFL_OWN_CLAIM.base + 4 * bank) (·.cflClaim p bank)

/-- CFL_RELEASE (R424). -/
def State.doCflRelease (s : State) (p : Path) (bank : Nat) : State :=
  if 2 ≤ bank then s else s.actAt p (R.CFL_OWN_CLAIM.base + 4 * bank) (·.cflRelease p bank)

/-- WP_LOCK (R435). -/
def State.doWpLock (s : State) (p : Path) : State := s.actAt p R.CFL_CTL_WP_LOCK.base (·.wpLock p)

/-- PUSH (R427). -/
def State.doPush (s : State) (p : Path) : State := s.actAt p R.CFL_DQPUSH_PUSH.base (·.cflPush p)

/-- CFL_CRHEAD_WRITE (R429). -/
def State.doCflCrheadWrite (s : State) (p : Path) (head : Nat) : State := s.actAt p R.CFL_CRHEAD_HEAD.base (·.cflHead (head % 64))

/-- EVR_SEL_WRITE (R466, R467). -/
def State.doEvrSelWrite (s : State) (p : Path) (area index : Nat) : State :=
  s.actAt p R.EVR_SEL_AREA.base (·.evrSel (area % 4) (index % 65536))

/-- ADV (R468). -/
def State.doAdv (s : State) (p : Path) : State := s.actAt p R.EVR_RD_ADV.base (·.evrAdv)

/-- FWU_ABORT (R473). -/
def State.doFwuAbort (s : State) (p : Path) : State := s.actAt p R.FWU_CTL_ABORT.base (·.fwAbandon)

/-- FWU_DDATA_WRITE (R472). -/
def State.doFwuDdataWrite (s : State) (p : Path) (word : Nat) : State := s.actAt p R.FWU_DDATA_DATA.base (·.fwWord1 p word)

/-! ### Apply boundaries (R18) -/

/-- RWS_APPLY_BOUNDARY: the boundary of a block has come, and its pending fields apply together. HOLD_LIM needs that no store of
the port is held, the audit fields that no audit runs (R376), the scrub period the start of a pass; the next epoch boundary
is the epoch's own step while tracking runs (R154). -/
def State.doRwsApplyBoundary (s : State) (b : RwsBlock) (i : Nat) : State :=
  match b with
  | .hold => if i < 2 ∧ s.heldNow i = 0 then s.applyRws R.HP_HOLD_HOLD_LIM i else s
  | .scrub => if s.dram.scrubDone ∨ s.dram.scrubAt = [] then s.applyRws R.DRM_SCRUB_PER else s
  | .dchCtl => if i < 8 then (s.applyRws R.DCH_CTL_WR_HI i).applyRws R.DCH_CTL_WR_LO i else s
  | .dchRef => if i < 8 then s.applyRws R.DCH_REF_REF_SB_EN i else s
  | .epoch => if s.on R.TRK_STAT_RUN then s.doEpochBoundary else s.applyRws R.DFT_AGE_EPOCH
  | .audit => if s.gau.aud = 0 then (s.applyRws R.GAU_AUD_DEPTH).applyRws R.GAU_AUD_AUD_PER else s
  | .idle => if i < 40 then s.applyRws R.PWR_IDLE_IDLE i else s

/-! ### Vendor messages of TWI0 (R415, R506, Table 21-3) -/

/-- Consecutive words from an offset. [DEDUCED, unsafe: log 21] -/
def State.readWords (s : State) (a : Nat) : Nat → State × List Nat
  | 0 => (s, [])
  | n + 1 =>
    let (s, v) := s.busRead 4 a
    let (s, vs) := State.readWords s (a + 4) n
    (s, v :: vs)

/-- REGISTER_READ, opcode 0x01: Invalid for a misaligned address, a count outside 1 to 16 or a read that crosses a block
range; Denied in MBX_. -/
def State.doRegisterRead (s : State) (a count : Nat) : State :=
  s.mctpServe (.registerRead a count) (fun s =>
    if a % 4 ≠ 0 ∨ count = 0 ∨ 16 < count ∨ 0x4000000 ≤ a ∨ blockOf a ≠ blockOf (a + 4 * count - 1) then s.emit (.twi 2 [])
    else if blockOf a = 2 then s.emit (.twi 1 [])
    else
      let (s, vs) := s.readWords a count
      s.emit (.twi 0 vs))

/-- REGISTER_WRITE, opcode 0x02: Denied where TWI0 may not write (R505). -/
def State.doRegisterWrite (s : State) (a v : Nat) : State :=
  s.mctpServe (.registerWrite a v) (fun s =>
    if a % 4 ≠ 0 then s.emit (.twi 2 [])
    else if s.mayWrite .twi a then (s.doMgmtRegisterWrite .twi 4 a v).emit (.twi 0 [])
    else (s.doMgmtRegisterWrite .twi 4 a v).emit (.twi 1 []))

/-- LONG_OPERATION_ISSUE, opcode 0x03: on slot 1; Full when no entry is free (R511). -/
def State.doLongOperationIssue (s : State) (op : Nat) (args : List Nat) : State :=
  s.mctpServe (.longOperationIssue op args) (fun s =>
    let s := s.issueBy 1 op args true
    if s.on R.LOQ_ISS_RES_REFUSED 1 then s.emit (.twi 3 [s.resWord 1]) else s.emit (.twi 0 [s.resWord 1]))

/-- COMPLETION_RING_READ, opcode 0x04: entries of ring 1 from its head, which advances (R514). [DEDUCED, safe: log 148] -/
def State.doCompletionRingRead (s : State) (count : Nat) : State :=
  s.mctpServe (.completionRingRead count) (fun s =>
    if count = 0 ∨ 16 < count then s.emit (.twi 2 [])
    else
      let (s, ws) := s.ringTake 1 count false
      s.emit (.twi 0 ws))

/-! ### The commands -/

/-- RETRAIN (R69). -/
def execRetrain (path : Path) (port : Nat) (s : State) :
    Host.Outcome State Fault Refusal := ok s (·.doRetrain path port)

/-- LOQ_REL (R512). -/
def execLoqRel (path : Path) (handle : Nat) (s : State) :
    Host.Outcome State Fault Refusal := ok s (·.doLoqRel path handle)

/-- LOQ_RPTR_WRITE (R514). -/
def execLoqRptrWrite (path : Path) (ring : Nat) (head : Nat) (s : State) :
    Host.Outcome State Fault Refusal := ok s (·.doLoqRptrWrite path ring head)

/-- LOQ_LBDATA (R513). -/
def execLoqLbdata (path : Path) (word : Nat) (s : State) :
    Host.Outcome State Fault Refusal := ok s (·.doLoqLbdata path word)

/-- PEAK_CLR (R17). -/
def execPeakClr (path : Path) (s : State) : Host.Outcome State Fault Refusal := ok s (·.doPeakClr path)

/-- RECOMP (R186). -/
def execRecomp (path : Path) (s : State) : Host.Outcome State Fault Refusal := ok s (·.doRecomp path)

/-- GAP_CLR (R196). -/
def execGapClr (path : Path) (s : State) : Host.Outcome State Fault Refusal := ok s (·.doGapClr path)

/-- EST_NOW (R365). -/
def execEstNow (path : Path) (s : State) : Host.Outcome State Fault Refusal := ok s (·.doEstNow path)

/-- LRN_NOW (R378). -/
def execLrnNow (path : Path) (s : State) : Host.Outcome State Fault Refusal := ok s (·.doLrnNow path)

/-- OFF (R390). -/
def execOff (path : Path) (s : State) : Host.Outcome State Fault Refusal := ok s (·.doOff path)

/-- FORCE (R390). -/
def execForce (path : Path) (s : State) : Host.Outcome State Fault Refusal := ok s (·.doForce path)

/-- SEQ_CTL_FLT_CLR (R396). -/
def execSeqCtlFltClr (path : Path) (s : State) : Host.Outcome State Fault Refusal := ok s (·.doSeqCtlFltClr path)

/-- TWI_CTL_FLT_CLR (R416). -/
def execTwiCtlFltClr (path : Path) (port : Nat) (s : State) :
    Host.Outcome State Fault Refusal := ok s (·.doTwiCtlFltClr path port)

/-- WARM (R452). -/
def execWarm (path : Path) (s : State) : Host.Outcome State Fault Refusal := ok s (·.doWarm path)

/-- CRC_CLAIM (R362). -/
def execCrcClaim (path : Path) (eng : Nat) (s : State) :
    Host.Outcome State Fault Refusal := ok s (·.doCrcClaim path eng)

/-- CRC_RELEASE (R362). -/
def execCrcRelease (path : Path) (eng : Nat) (s : State) :
    Host.Outcome State Fault Refusal := ok s (·.doCrcRelease path eng)

/-- INIT (R360). -/
def execInit (path : Path) (eng : Nat) (poly : Nat) (s : State) :
    Host.Outcome State Fault Refusal := ok s (·.doInit path eng poly)

/-- DIN_B (R358). -/
def execDinB (path : Path) (eng : Nat) (data : Nat) (s : State) :
    Host.Outcome State Fault Refusal := ok s (·.doDinB path eng data)

/-- DIN_H (R358). -/
def execDinH (path : Path) (eng : Nat) (data : Nat) (s : State) :
    Host.Outcome State Fault Refusal := ok s (·.doDinH path eng data)

/-- DIN_W (R358). -/
def execDinW (path : Path) (eng : Nat) (data : Nat) (s : State) :
    Host.Outcome State Fault Refusal := ok s (·.doDinW path eng data)

/-- CFL_CLAIM (R424). -/
def execCflClaim (path : Path) (bank : Nat) (s : State) :
    Host.Outcome State Fault Refusal := ok s (·.doCflClaim path bank)

/-- CFL_RELEASE (R424). -/
def execCflRelease (path : Path) (bank : Nat) (s : State) :
    Host.Outcome State Fault Refusal := ok s (·.doCflRelease path bank)

/-- WP_LOCK (R435). -/
def execWpLock (path : Path) (s : State) : Host.Outcome State Fault Refusal := ok s (·.doWpLock path)

/-- PUSH (R427). -/
def execPush (path : Path) (s : State) : Host.Outcome State Fault Refusal := ok s (·.doPush path)

/-- CFL_CRHEAD_WRITE (R429). -/
def execCflCrheadWrite (path : Path) (head : Nat) (s : State) :
    Host.Outcome State Fault Refusal := ok s (·.doCflCrheadWrite path head)

/-- EVR_SEL_WRITE (R467). -/
def execEvrSelWrite (path : Path) (area : Nat) (index : Nat) (s : State) :
    Host.Outcome State Fault Refusal := ok s (·.doEvrSelWrite path area index)

/-- ADV (R468). -/
def execAdv (path : Path) (s : State) : Host.Outcome State Fault Refusal := ok s (·.doAdv path)

/-- FWU_ABORT (R473). -/
def execFwuAbort (path : Path) (s : State) : Host.Outcome State Fault Refusal := ok s (·.doFwuAbort path)

/-- FWU_DDATA_WRITE (R472). -/
def execFwuDdataWrite (path : Path) (word : Nat) (s : State) :
    Host.Outcome State Fault Refusal := ok s (·.doFwuDdataWrite path word)

/-- MGMT_REGISTER_WRITE (R537). -/
def execMgmtRegisterWrite (path : Path) (bytes : Nat) (addr : Nat) (value : Nat) (s : State) :
    Host.Outcome State Fault Refusal := ok s (·.doMgmtRegisterWrite path bytes addr value)

/-- RWS_APPLY_BOUNDARY (R18). -/
def execRwsApplyBoundary (block : RwsBlock) (elem : Nat) (s : State) :
    Host.Outcome State Fault Refusal := ok s (·.doRwsApplyBoundary block elem)

/-- REGISTER_READ (R506). -/
def execRegisterRead (addr : Nat) (count : Nat) (s : State) :
    Host.Outcome State Fault Refusal := ok s (·.doRegisterRead addr count)

/-- REGISTER_WRITE (R505). -/
def execRegisterWrite (addr : Nat) (value : Nat) (s : State) :
    Host.Outcome State Fault Refusal := ok s (·.doRegisterWrite addr value)

/-- LONG_OPERATION_ISSUE (R511). -/
def execLongOperationIssue (op : Nat) (args : List Nat) (s : State) :
    Host.Outcome State Fault Refusal := ok s (·.doLongOperationIssue op args)

/-- COMPLETION_RING_READ (R514). -/
def execCompletionRingRead (count : Nat) (s : State) :
    Host.Outcome State Fault Refusal := ok s (·.doCompletionRingRead count)

end Sys2Proof.Machine
end

