-- ==== Sys2Proof/Machine/Dispatch.lean ====
section
/-!
DEFINITION. The meaning of every command: one arm per row of the table, each a direct call of that command's own
definition. The effect is on everything but the queue of waiting commands; `step` takes the command off the queue.
-/
namespace Sys2Proof.Machine

/-- The command's effect on the block, by the rules of the manual. -/
def exec (i : Instr) (s : State) : Host.Outcome State Fault Refusal :=
  match i with
  | .memRd port ld sid tag hpa => Sys2Proof.Machine.execMemRd port ld sid tag hpa s
  | .memWr port ld sid tag hpa data psn => Sys2Proof.Machine.execMemWr port ld sid tag hpa data psn s
  | .memWrPtl port ld sid tag hpa data be psn => Sys2Proof.Machine.execMemWrPtl port ld sid tag hpa data be psn s
  | .memInv port ld sid tag hpa => Sys2Proof.Machine.execMemInv port ld sid tag hpa s
  | .memSpecRd port => Sys2Proof.Machine.execMemSpecRd port s
  | .heldStoreAdmit => Sys2Proof.Machine.execHeldStoreAdmit s
  | .holdLimitExpiry port => Sys2Proof.Machine.execHoldLimitExpiry port s
  | .rdTmoExpiry port => Sys2Proof.Machine.execRdTmoExpiry port s
  | .urgencyRecompute port => Sys2Proof.Machine.execUrgencyRecompute port s
  | .telemetryWindowEnd => Sys2Proof.Machine.execTelemetryWindowEnd s
  | .creditReturnAck port req rwd => Sys2Proof.Machine.execCreditReturnAck port req rwd s
  | .perstAssert port => Sys2Proof.Machine.execPerstAssert port s
  | .perstRelease port => Sys2Proof.Machine.execPerstRelease port s
  | .linkDown port => Sys2Proof.Machine.execLinkDown port s
  | .linkL0 port offer rate width flit => Sys2Proof.Machine.execLinkL0 port offer rate width flit s
  | .retrain path port => Sys2Proof.Machine.execRetrain path port s
  | .cxlReset port ld => Sys2Proof.Machine.execCxlReset port ld s
  | .gpfPhase1 port => Sys2Proof.Machine.execGpfPhase1 port s
  | .gpfPhase2 port => Sys2Proof.Machine.execGpfPhase2 port s
  | .getEventRecords port ld log => Sys2Proof.Machine.execGetEventRecords port ld log s
  | .clearEventRecords port ld log handles => Sys2Proof.Machine.execClearEventRecords port ld log handles s
  | .getEventInterruptPolicy port ld => Sys2Proof.Machine.execGetEventInterruptPolicy port ld s
  | .setEventInterruptPolicy port ld policy => Sys2Proof.Machine.execSetEventInterruptPolicy port ld policy s
  | .getFwInfo port ld => Sys2Proof.Machine.execGetFwInfo port ld s
  | .transferFw port ld action slot off data => Sys2Proof.Machine.execTransferFw port ld action slot off data s
  | .activateFw port ld action slot => Sys2Proof.Machine.execActivateFw port ld action slot s
  | .getTimestamp port ld => Sys2Proof.Machine.execGetTimestamp port ld s
  | .setTimestamp port ld time => Sys2Proof.Machine.execSetTimestamp port ld time s
  | .getSupportedLogs port ld => Sys2Proof.Machine.execGetSupportedLogs port ld s
  | .getLog port ld cel off len => Sys2Proof.Machine.execGetLog port ld cel off len s
  | .identifyMemoryDevice port ld => Sys2Proof.Machine.execIdentifyMemoryDevice port ld s
  | .getHealthInfo port ld => Sys2Proof.Machine.execGetHealthInfo port ld s
  | .getAlertConfiguration port ld => Sys2Proof.Machine.execGetAlertConfiguration port ld s
  | .setAlertConfiguration port ld config => Sys2Proof.Machine.execSetAlertConfiguration port ld config s
  | .getShutdownState port ld => Sys2Proof.Machine.execGetShutdownState port ld s
  | .setShutdownState port ld value => Sys2Proof.Machine.execSetShutdownState port ld value s
  | .getPoisonList port ld dpa len => Sys2Proof.Machine.execGetPoisonList port ld dpa len s
  | .injectPoison port ld dpa => Sys2Proof.Machine.execInjectPoison port ld dpa s
  | .clearPoison port ld dpa data => Sys2Proof.Machine.execClearPoison port ld dpa data s
  | .sanitize port ld => Sys2Proof.Machine.execSanitize port ld s
  | .secureErase port ld => Sys2Proof.Machine.execSecureErase port ld s
  | .getDcConfig port ld => Sys2Proof.Machine.execGetDcConfig port ld s
  | .getDcExtentList port ld first count => Sys2Proof.Machine.execGetDcExtentList port ld first count s
  | .addDcResponse port ld region start blocks => Sys2Proof.Machine.execAddDcResponse port ld region start blocks s
  | .dcAddProceed port ld => Sys2Proof.Machine.execDcAddProceed port ld s
  | .releaseDc port ld start blocks => Sys2Proof.Machine.execReleaseDc port ld start blocks s
  | .extentReleaseProceed port ld => Sys2Proof.Machine.execExtentReleaseProceed port ld s
  | .getPersistenceStatus port ld => Sys2Proof.Machine.execGetPersistenceStatus port ld s
  | .getLostRanges port ld first count => Sys2Proof.Machine.execGetLostRanges port ld first count s
  | .getRecorderRecords port ld area first count => Sys2Proof.Machine.execGetRecorderRecords port ld area first count s
  | .issueLongOperation port ld op args => Sys2Proof.Machine.execIssueLongOperation port ld op args s
  | .readCompletions port ld count => Sys2Proof.Machine.execReadCompletions port ld count s
  | .writeLoadBuffer port ld off words => Sys2Proof.Machine.execWriteLoadBuffer port ld off words s
  | .ovlSwitch slot index => Sys2Proof.Machine.execOvlSwitch slot index s
  | .ovlSwitchApplied => Sys2Proof.Machine.execOvlSwitchApplied s
  | .volatileLeaveReady => Sys2Proof.Machine.execVolatileLeaveReady s
  | .ergLoad slot len => Sys2Proof.Machine.execErgLoad slot len s
  | .calWrite slot key words => Sys2Proof.Machine.execCalWrite slot key words s
  | .calFactory slot len => Sys2Proof.Machine.execCalFactory slot len s
  | .rankMigrate slot chan rank => Sys2Proof.Machine.execRankMigrate slot chan rank s
  | .capAudit slot => Sys2Proof.Machine.execCapAudit slot s
  | .bookAudit slot arg => Sys2Proof.Machine.execBookAudit slot arg s
  | .fwVerify slot fw => Sys2Proof.Machine.execFwVerify slot fw s
  | .fwConfirm slot arg => Sys2Proof.Machine.execFwConfirm slot arg s
  | .cflMaintReerase slot => Sys2Proof.Machine.execCflMaintReerase slot s
  | .cflMaintCompact slot => Sys2Proof.Machine.execCflMaintCompact slot s
  | .memSanitize slot => Sys2Proof.Machine.execMemSanitize slot s
  | .loqCompletionPost ring => Sys2Proof.Machine.execLoqCompletionPost ring s
  | .loqRel path handle => Sys2Proof.Machine.execLoqRel path handle s
  | .loqRptrWrite path ring head => Sys2Proof.Machine.execLoqRptrWrite path ring head s
  | .loqLbdata path word => Sys2Proof.Machine.execLoqLbdata path word s
  | .peakClr path => Sys2Proof.Machine.execPeakClr path s
  | .recomp path => Sys2Proof.Machine.execRecomp path s
  | .gapClr path => Sys2Proof.Machine.execGapClr path s
  | .estNow path => Sys2Proof.Machine.execEstNow path s
  | .lrnNow path => Sys2Proof.Machine.execLrnNow path s
  | .off path => Sys2Proof.Machine.execOff path s
  | .force path => Sys2Proof.Machine.execForce path s
  | .seqCtlFltClr path => Sys2Proof.Machine.execSeqCtlFltClr path s
  | .twiCtlFltClr path port => Sys2Proof.Machine.execTwiCtlFltClr path port s
  | .warm path => Sys2Proof.Machine.execWarm path s
  | .warmResetComplete => Sys2Proof.Machine.execWarmResetComplete s
  | .crcClaim path eng => Sys2Proof.Machine.execCrcClaim path eng s
  | .crcRelease path eng => Sys2Proof.Machine.execCrcRelease path eng s
  | .init path eng poly => Sys2Proof.Machine.execInit path eng poly s
  | .dinB path eng data => Sys2Proof.Machine.execDinB path eng data s
  | .dinH path eng data => Sys2Proof.Machine.execDinH path eng data s
  | .dinW path eng data => Sys2Proof.Machine.execDinW path eng data s
  | .cflClaim path bank => Sys2Proof.Machine.execCflClaim path bank s
  | .cflRelease path bank => Sys2Proof.Machine.execCflRelease path bank s
  | .wpLock path => Sys2Proof.Machine.execWpLock path s
  | .push path => Sys2Proof.Machine.execPush path s
  | .cflCrheadWrite path head => Sys2Proof.Machine.execCflCrheadWrite path head s
  | .evrSelWrite path area index => Sys2Proof.Machine.execEvrSelWrite path area index s
  | .adv path => Sys2Proof.Machine.execAdv path s
  | .fwuAbort path => Sys2Proof.Machine.execFwuAbort path s
  | .fwuDdataWrite path word => Sys2Proof.Machine.execFwuDdataWrite path word s
  | .mgmtRegisterWrite path bytes addr value => Sys2Proof.Machine.execMgmtRegisterWrite path bytes addr value s
  | .rwsApplyBoundary block elem => Sys2Proof.Machine.execRwsApplyBoundary block elem s
  | .dramCommandSlot way blocked idleRows => Sys2Proof.Machine.execDramCommandSlot way blocked idleRows s
  | .refreshDue way ba postponed => Sys2Proof.Machine.execRefreshDue way ba postponed s
  | .refreshWindowEnd way => Sys2Proof.Machine.execRefreshWindowEnd way s
  | .dramReadData id err => Sys2Proof.Machine.execDramReadData id err s
  | .migrationUnitDone chan unit => Sys2Proof.Machine.execMigrationUnitDone chan unit s
  | .powerDownEntry way => Sys2Proof.Machine.execPowerDownEntry way s
  | .spdThermalRead hot => Sys2Proof.Machine.execSpdThermalRead hot s
  | .scrubPeriodEnd => Sys2Proof.Machine.execScrubPeriodEnd s
  | .dqsInterval chan rank drift => Sys2Proof.Machine.execDqsInterval chan rank drift s
  | .zqCalibration chan rank => Sys2Proof.Machine.execZqCalibration chan rank s
  | .readCentering chan rank good => Sys2Proof.Machine.execReadCentering chan rank good s
  | .driftTake => Sys2Proof.Machine.execDriftTake s
  | .driftReadDone page => Sys2Proof.Machine.execDriftReadDone page s
  | .confirmation page => Sys2Proof.Machine.execConfirmation page s
  | .copyProgramFailure page => Sys2Proof.Machine.execCopyProgramFailure page s
  | .epochBoundary => Sys2Proof.Machine.execEpochBoundary s
  | .segmentTimeout => Sys2Proof.Machine.execSegmentTimeout s
  | .rsaveRecompute => Sys2Proof.Machine.execRsaveRecompute s
  | .pacingTick => Sys2Proof.Machine.execPacingTick s
  | .snapshotComplete => Sys2Proof.Machine.execSnapshotComplete s
  | .ledgerPeriodicRecompute => Sys2Proof.Machine.execLedgerPeriodicRecompute s
  | .ledgerRecomputeDone => Sys2Proof.Machine.execLedgerRecomputeDone s
  | .countdownTick => Sys2Proof.Machine.execCountdownTick s
  | .pwrFailNLow => Sys2Proof.Machine.execPwrFailNLow s
  | .inputRailCollapse => Sys2Proof.Machine.execInputRailCollapse s
  | .manifestIssued => Sys2Proof.Machine.execManifestIssued s
  | .savePageIssue => Sys2Proof.Machine.execSavePageIssue s
  | .saveProgramDone slot pass => Sys2Proof.Machine.execSaveProgramDone slot pass s
  | .saveRecordConfirmed => Sys2Proof.Machine.execSaveRecordConfirmed s
  | .validMarkConfirmed => Sys2Proof.Machine.execValidMarkConfirmed s
  | .trailingDone => Sys2Proof.Machine.execTrailingDone s
  | .energyExhausted => Sys2Proof.Machine.execEnergyExhausted s
  | .restoreMapLoadDone => Sys2Proof.Machine.execRestoreMapLoadDone s
  | .lossComputationDone => Sys2Proof.Machine.execLossComputationDone s
  | .memoryReady => Sys2Proof.Machine.execMemoryReady s
  | .bulkRestoreReadDone page good => Sys2Proof.Machine.execBulkRestoreReadDone page good s
  | .onTouchFetchDone page zero lost => Sys2Proof.Machine.execOnTouchFetchDone page zero lost s
  | .bulkRestoreComplete => Sys2Proof.Machine.execBulkRestoreComplete s
  | .lossRecordRewrite => Sys2Proof.Machine.execLossRecordRewrite s
  | .dieDispatch chan die id busy => Sys2Proof.Machine.execDieDispatch chan die id busy s
  | .flashReadDone id => Sys2Proof.Machine.execFlashReadDone id s
  | .decodeDone id ok erased bits iters rebuild desc => Sys2Proof.Machine.execDecodeDone id ok erased bits iters rebuild desc s
  | .flashProgramDone id pass time => Sys2Proof.Machine.execFlashProgramDone id pass time s
  | .flashEraseDone id pass time => Sys2Proof.Machine.execFlashEraseDone id pass time s
  | .persistenceReturn => Sys2Proof.Machine.execPersistenceReturn s
  | .suspend chan die id ran => Sys2Proof.Machine.execSuspend chan die id ran s
  | .resume chan die => Sys2Proof.Machine.execResume chan die s
  | .dieTimeout chan die answered => Sys2Proof.Machine.execDieTimeout chan die answered s
  | .probeDue chan die group => Sys2Proof.Machine.execProbeDue chan die group s
  | .probeDone chan die group ok c0 cm cp => Sys2Proof.Machine.execProbeDone chan die group ok c0 cm cp s
  | .eyeCheck chan eye moved => Sys2Proof.Machine.execEyeCheck chan eye moved s
  | .groupPowerDown grp => Sys2Proof.Machine.execGroupPowerDown grp s
  | .groupWake grp => Sys2Proof.Machine.execGroupWake grp s
  | .checkpointStart => Sys2Proof.Machine.execCheckpointStart s
  | .checkpointComplete => Sys2Proof.Machine.execCheckpointComplete s
  | .gcStart => Sys2Proof.Machine.execGcStart s
  | .relocationMove src => Sys2Proof.Machine.execRelocationMove src s
  | .wearLevellingStart => Sys2Proof.Machine.execWearLevellingStart s
  | .mediaScan => Sys2Proof.Machine.execMediaScan s
  | .blockGroupAge sb => Sys2Proof.Machine.execBlockGroupAge sb s
  | .foldStart => Sys2Proof.Machine.execFoldStart s
  | .foldSwap unit => Sys2Proof.Machine.execFoldSwap unit s
  | .destageConfirm stg => Sys2Proof.Machine.execDestageConfirm stg s
  | .healthRecord => Sys2Proof.Machine.execHealthRecord s
  | .sqDoorbell fn sq tail => Sys2Proof.Machine.execSqDoorbell fn sq tail s
  | .commandFetch opc cid nsid slba nlb => Sys2Proof.Machine.execCommandFetch opc cid nsid slba nlb s
  | .rangeLockGrant => Sys2Proof.Machine.execRangeLockGrant s
  | .stagingPageGrant => Sys2Proof.Machine.execStagingPageGrant s
  | .deleteIoSubmissionQueue tag qid => Sys2Proof.Machine.execDeleteIoSubmissionQueue tag qid s
  | .createIoSubmissionQueue tag qid size cqid prio pc => Sys2Proof.Machine.execCreateIoSubmissionQueue tag qid size cqid prio pc s
  | .deleteIoCompletionQueue tag qid => Sys2Proof.Machine.execDeleteIoCompletionQueue tag qid s
  | .createIoCompletionQueue tag qid size vec ien pc => Sys2Proof.Machine.execCreateIoCompletionQueue tag qid size vec ien pc s
  | .getLogPage tag lid => Sys2Proof.Machine.execGetLogPage tag lid s
  | .identify tag cns => Sys2Proof.Machine.execIdentify tag cns s
  | .abort tag sq cid => Sys2Proof.Machine.execAbort tag sq cid s
  | .setFeatures tag fid value save => Sys2Proof.Machine.execSetFeatures tag fid value save s
  | .powerManagement tag ps => Sys2Proof.Machine.execPowerManagement tag ps s
  | .configuredWriteMode tag value => Sys2Proof.Machine.execConfiguredWriteMode tag value s
  | .lossAcknowledge tag => Sys2Proof.Machine.execLossAcknowledge tag s
  | .getFeatures tag fid => Sys2Proof.Machine.execGetFeatures tag fid s
  | .asynchronousEventRequest tag => Sys2Proof.Machine.execAsynchronousEventRequest tag s
  | .aenCoalesceEnd fn => Sys2Proof.Machine.execAenCoalesceEnd fn s
  | .namespaceManagement tag del size lbaf ext pit pil => Sys2Proof.Machine.execNamespaceManagement tag del size lbaf ext pit pil s
  | .namespaceAttachment tag detach ctrls => Sys2Proof.Machine.execNamespaceAttachment tag detach ctrls s
  | .firmwareCommit tag action slot => Sys2Proof.Machine.execFirmwareCommit tag action slot s
  | .activationWaitExpiry => Sys2Proof.Machine.execActivationWaitExpiry s
  | .cxlHoldEnd => Sys2Proof.Machine.execCxlHoldEnd s
  | .firmwareImageDownload tag off data => Sys2Proof.Machine.execFirmwareImageDownload tag off data s
  | .formatNvm tag lbaf ext pit pil ses => Sys2Proof.Machine.execFormatNvm tag lbaf ext pit pil ses s
  | .sanitizeBlockErase tag action => Sys2Proof.Machine.execSanitizeBlockErase tag action s
  | .flush tag => Sys2Proof.Machine.execFlush tag s
  | .write tag data md prot dtErr => Sys2Proof.Machine.execWrite tag data md prot dtErr s
  | .read tag prot => Sys2Proof.Machine.execRead tag prot s
  | .writeUncorrectable tag => Sys2Proof.Machine.execWriteUncorrectable tag s
  | .compare tag data md prot => Sys2Proof.Machine.execCompare tag data md prot s
  | .writeZeroes tag => Sys2Proof.Machine.execWriteZeroes tag s
  | .datasetManagement tag dealloc ranges => Sys2Proof.Machine.execDatasetManagement tag dealloc ranges s
  | .verify tag prot => Sys2Proof.Machine.execVerify tag prot s
  | .controllerReset fn => Sys2Proof.Machine.execControllerReset fn s
  | .shutdown fn => Sys2Proof.Machine.execShutdown fn s
  | .flr port ld fn => Sys2Proof.Machine.execFlr port ld fn s
  | .ps3EntryDone fn => Sys2Proof.Machine.execPs3EntryDone fn s
  | .ps3EntryTimeout fn => Sys2Proof.Machine.execPs3EntryTimeout fn s
  | .bufferRequest who op => Sys2Proof.Machine.execBufferRequest who op s
  | .bufferFree buf who op => Sys2Proof.Machine.execBufferFree buf who op s
  | .handOff buf op new => Sys2Proof.Machine.execHandOff buf op new s
  | .semaphoreAcquire sem cores => Sys2Proof.Machine.execSemaphoreAcquire sem cores s
  | .semaphoreRelease sem core => Sys2Proof.Machine.execSemaphoreRelease sem core s
  | .gaugeSample v t id ser serOk ntcBad => Sys2Proof.Machine.execGaugeSample v t id ser serOk ntcBad s
  | .estimate => Sys2Proof.Machine.execEstimate s
  | .faultCauseCleared => Sys2Proof.Machine.execFaultCauseCleared s
  | .socRepStep => Sys2Proof.Machine.execSocRepStep s
  | .auditStart => Sys2Proof.Machine.execAuditStart s
  | .auditRestReached => Sys2Proof.Machine.execAuditRestReached s
  | .auditLoadSample v => Sys2Proof.Machine.execAuditLoadSample v s
  | .learnedValueWrite => Sys2Proof.Machine.execLearnedValueWrite s
  | .hibernationSample v t id ser serOk ntcBad => Sys2Proof.Machine.execHibernationSample v t id ser serOk ntcBad s
  | .isnsWake v t id ser serOk ntcBad => Sys2Proof.Machine.execIsnsWake v t id ser serOk ntcBad s
  | .mainPowerOn => Sys2Proof.Machine.execMainPowerOn s
  | .mainPowerLoss => Sys2Proof.Machine.execMainPowerLoss s
  | .alwaysOnReset => Sys2Proof.Machine.execAlwaysOnReset s
  | .railEnable rail => Sys2Proof.Machine.execRailEnable rail s
  | .pgTimeout rail => Sys2Proof.Machine.execPgTimeout rail s
  | .phaseEnd => Sys2Proof.Machine.execPhaseEnd s
  | .railDisable rail => Sys2Proof.Machine.execRailDisable rail s
  | .offWaitExpiry rail => Sys2Proof.Machine.execOffWaitExpiry rail s
  | .downSequenceEnd => Sys2Proof.Machine.execDownSequenceEnd s
  | .tMinOffExpiry => Sys2Proof.Machine.execTMinOffExpiry s
  | .faultScan readings pg fltLow => Sys2Proof.Machine.execFaultScan readings pg fltLow s
  | .telemetryAverage avgs => Sys2Proof.Machine.execTelemetryAverage avgs s
  | .fltHoldExpiry => Sys2Proof.Machine.execFltHoldExpiry s
  | .sequencerSupplyCollapse => Sys2Proof.Machine.execSequencerSupplyCollapse s
  | .chipRstNAssert => Sys2Proof.Machine.execChipRstNAssert s
  | .ident => Sys2Proof.Machine.execIdent s
  | .status => Sys2Proof.Machine.execStatus s
  | .alertAck mask pec => Sys2Proof.Machine.execAlertAck mask pec s
  | .recSel area index pec => Sys2Proof.Machine.execRecSel area index pec s
  | .recRead => Sys2Proof.Machine.execRecRead s
  | .mctp src tag som eom data pec => Sys2Proof.Machine.execMctp src tag som eom data pec s
  | .alertResponse won => Sys2Proof.Machine.execAlertResponse won s
  | .mctpAssemblyTimeout src tag => Sys2Proof.Machine.execMctpAssemblyTimeout src tag s
  | .setEndpointId eid => Sys2Proof.Machine.execSetEndpointId eid s
  | .getEndpointId => Sys2Proof.Machine.execGetEndpointId s
  | .getEndpointUuid => Sys2Proof.Machine.execGetEndpointUuid s
  | .getMctpVersionSupport mtype => Sys2Proof.Machine.execGetMctpVersionSupport mtype s
  | .getMessageTypeSupport => Sys2Proof.Machine.execGetMessageTypeSupport s
  | .getVendorDefinedMessageSupport set => Sys2Proof.Machine.execGetVendorDefinedMessageSupport set s
  | .readNvmeMiDataStructure dtype port ctrl => Sys2Proof.Machine.execReadNvmeMiDataStructure dtype port ctrl s
  | .nvmSubsystemHealthStatusPoll clear => Sys2Proof.Machine.execNvmSubsystemHealthStatusPoll clear s
  | .controllerHealthStatusPoll ctrl count => Sys2Proof.Machine.execControllerHealthStatusPoll ctrl count s
  | .configurationSet id value => Sys2Proof.Machine.execConfigurationSet id value s
  | .configurationGet id => Sys2Proof.Machine.execConfigurationGet id s
  | .nvmeAdminTunnel ctrl opc nsid arg => Sys2Proof.Machine.execNvmeAdminTunnel ctrl opc nsid arg s
  | .registerRead addr count => Sys2Proof.Machine.execRegisterRead addr count s
  | .registerWrite addr value => Sys2Proof.Machine.execRegisterWrite addr value s
  | .longOperationIssue op args => Sys2Proof.Machine.execLongOperationIssue op args s
  | .completionRingRead count => Sys2Proof.Machine.execCompletionRingRead count s
  | .twi1Transfer port addr seg outcome losses muxNack => Sys2Proof.Machine.execTwi1Transfer port addr seg outcome losses muxNack s
  | .addressRetry port acked => Sys2Proof.Machine.execAddressRetry port acked s
  | .targetStretchTimeout port => Sys2Proof.Machine.execTargetStretchTimeout port s
  | .stretchLimit => Sys2Proof.Machine.execStretchLimit s
  | .targetSclTimeout port => Sys2Proof.Machine.execTargetSclTimeout port s
  | .busClearAttempt port freed => Sys2Proof.Machine.execBusClearAttempt port freed s
  | .clearWaitExpiry port => Sys2Proof.Machine.execClearWaitExpiry port s
  | .fastPathWake => Sys2Proof.Machine.execFastPathWake s
  | .program bank data => Sys2Proof.Machine.execProgram bank data s
  | .cflProgramDone bank pulses fail => Sys2Proof.Machine.execCflProgramDone bank pulses fail s
  | .erase bank => Sys2Proof.Machine.execErase bank s
  | .cflEraseDone bank pulses pass => Sys2Proof.Machine.execCflEraseDone bank pulses pass s
  | .select => Sys2Proof.Machine.execSelect s
  | .bankRead core addr => Sys2Proof.Machine.execBankRead core addr s
  | .coldResetRelease pins => Sys2Proof.Machine.execColdResetRelease pins s
  | .sliceDone slice pass sig us pats => Sys2Proof.Machine.execSliceDone slice pass sig us pats s
  | .sliceBudgetExpiry slice sig pats => Sys2Proof.Machine.execSliceBudgetExpiry slice sig pats s
  | .coreCheckDone core pass => Sys2Proof.Machine.execCoreCheckDone core pass s
  | .bootAreaVerify ok0 ok1 => Sys2Proof.Machine.execBootAreaVerify ok0 ok1 s
  | .odberLoad => Sys2Proof.Machine.execOdberLoad s
  | .ergValidation => Sys2Proof.Machine.execErgValidation s
  | .hardwareInitDone found => Sys2Proof.Machine.execHardwareInitDone found s
  | .hostPortReady port => Sys2Proof.Machine.execHostPortReady port s
  | .packWaitEnd => Sys2Proof.Machine.execPackWaitEnd s
  | .packWaitExpiry => Sys2Proof.Machine.execPackWaitExpiry s
  | .bootEnd => Sys2Proof.Machine.execBootEnd s
  | .watchdogExpiry core => Sys2Proof.Machine.execWatchdogExpiry core s
  | .coreRestart core => Sys2Proof.Machine.execCoreRestart core s
  | .eventRaise => Sys2Proof.Machine.execEventRaise s
  | .rateWindowEnd => Sys2Proof.Machine.execRateWindowEnd s
  | .recordCommit good => Sys2Proof.Machine.execRecordCommit good s
  | .prefetchDone twi => Sys2Proof.Machine.execPrefetchDone twi s
  | .firmwareBlockReceived block => Sys2Proof.Machine.execFirmwareBlockReceived block s
  | .downloadIdleTimeout => Sys2Proof.Machine.execDownloadIdleTimeout s
  | .crystalStable => Sys2Proof.Machine.execCrystalStable s
  | .crystalStop => Sys2Proof.Machine.execCrystalStop s
  | .avsLoopRun slack => Sys2Proof.Machine.execAvsLoopRun slack s
  | .avsTransactionDone good volts => Sys2Proof.Machine.execAvsTransactionDone good volts s
  | .cpmEmergency slack => Sys2Proof.Machine.execCpmEmergency slack s
  | .stretchEnd slack => Sys2Proof.Machine.execStretchEnd slack s
  | .fsWindowEnd core busy => Sys2Proof.Machine.execFsWindowEnd core busy s
  | .thermalRead temps => Sys2Proof.Machine.execThermalRead temps s
  | .eqMeasurement port marg rate width => Sys2Proof.Machine.execEqMeasurement port marg rate width s
  | .domainIdle pd => Sys2Proof.Machine.execDomainIdle pd s
  | .domainWake pd => Sys2Proof.Machine.execDomainWake pd s
  | .hdmDecoderCommit port ld dec commit base size ways gran skip lock => Sys2Proof.Machine.execHdmDecoderCommit port ld dec commit base size ways gran skip lock s
  | .caParityError chan rank cleared => Sys2Proof.Machine.execCaParityError chan rank cleared s
  | .qosTokenRefill ent ns => Sys2Proof.Machine.execQosTokenRefill ent ns s
  | .aspmL1Entry port enabled => Sys2Proof.Machine.execAspmL1Entry port enabled s
  | .configurationRequest port fn => Sys2Proof.Machine.execConfigurationRequest port fn s
  | .controllerEnable fn ams => Sys2Proof.Machine.execControllerEnable fn ams s
  | .cqHeadDoorbell fn cq head => Sys2Proof.Machine.execCqHeadDoorbell fn cq head s
  | .pwrFailNRelease => Sys2Proof.Machine.execPwrFailNRelease s
  | .seqFltNRelease => Sys2Proof.Machine.execSeqFltNRelease s
  | .vbatAonReturn => Sys2Proof.Machine.execVbatAonReturn s

end Sys2Proof.Machine
end

