-- ==== Sys2Proof/Machine/Idle.lean ====
section
/-!
DEFINITION. What the block does when no command waits: a tick passes, and mailbox commands that waited for a save, an
activation or an admission may be tried again (R12, R478, R510).
-/
namespace Sys2Proof.Machine

/-- One tick: the counter runs while main power or VBAT_AON supplies the island, and wraps at 2⁴⁸ (R12, R526). -/
def State.tickOn (s : State) : State :=
  if s.seq.main || s.seq.vbat then s.wr R.PWR_TICK_TICK ((s.tick + 1) % 2 ^ 48) else s

/-- A step without a command. -/
def State.idle (s : State) : State := s.tickOn.releaseWaiting

/-- The next state of a step without a command. [DESIGN CHOICE, unsafe: log 3] -/
def idleStep (s : State) : Host.Outcome State Fault Refusal := ok s (·.idle)

end Sys2Proof.Machine
end

