-- ==== Sys2Proof/Machine/Step.lean ====
section
/-!
DEFINITION. One step of the block: the command at the front of the queue is carried out with the queue's rest. On an empty queue
a mailbox or management-bus command that the device itself holds ready runs; with none, a tick passes.
-/
namespace Sys2Proof.Machine

/-- One step. [DESIGN CHOICE, unsafe: log 1] -/
def step (s : State) : Host.Outcome State Fault Refusal :=
  match s.pending with
  | c :: rest => exec c { s with pending := rest }
  | [] =>
    match s.resumed with
    | c :: rest => exec c { s with resumed := rest }
    | [] => idleStep s

/-- The state with the command that a word spells put at the front of its queue; unchanged where the word spells none. -/
def State.withFetchWord (s : State) (nbits w : Nat) : State :=
  match decodeTableWord nbits w with
  | some c => { s with pending := c :: s.pending }
  | none => s

end Sys2Proof.Machine
end

