-- ==== Sys2Proof/Safety.lean ====
section
/-!
DEFINITION. What a good state of the block is, in the terms that claims use: the canonical form of host memory and its marks, and
the status that the ledger's registers report.
-/
namespace Sys2Proof.Machine

/-- Host memory is in its canonical form: addresses strictly rising, no entry equal to what an unlisted byte reads as. -/
def Memory.wf (m : List Host.Cell) : Bool := smWf 0 m

/-! ### Terms that the claims share -/

/-- A mailbox serves its commands at once: it is presented, the core that owns it runs, and neither a save nor an activation runs (R28, R478, R510). -/
def State.mbxServes (s : State) (port ld : Nat) : Bool :=
  s.mbxUp port ld && decide (s.cvn.code = 0) && decide (s.fwu.act = 0) && s.roleRuns 1

/-- A message over TWI0 is processed at once: the fast path serves, its core runs, outside an activation (R28, R411,
R478). -/
def State.mctpNow (s : State) : Bool := s.fastPath && decide (s.fwu.act = 0) && s.roleRuns 0

/-- The telemetry window saw a held-store episode (Table 3-7). -/
def State.seen (s : State) : State := { s with host := { s.host with holdSeen := true } }

/-- The counts of a telemetry window begin anew (R91, R100). -/
def State.windowClosed (s : State) : State :=
  { s with host := { s.host with qosReq := [], qosLat := [], qosOver := [], holdSeenPrev := s.host.holdSeen,
                                 holdSeen := s.on R.HP_STAT_HOLD_OVER 0 || s.on R.HP_STAT_HOLD_OVER 1, winAt := s.tick } }

/-- A link reaches L0 at a rate and width (R69). -/
def State.linkUp (s : State) (port rate width : Nat) (flit : Bool) : State :=
  (((s.wr R.HP_STAT_LINK 2 port).wr R.HP_STAT_RATE rate port).wr R.HP_STAT_WIDTH width port).put R.HP_STAT_FLIT
    (flit || decide (rate = 6)) port

/-- A port takes a protocol, CXL 3.1 with port-based routing where the partner has it; its logical devices are offline where it
trained as PCIe only (R71, R90). -/
def State.negotiated (s : State) (port proto : Nat) (pbr : Bool) : State :=
  let s := (s.wr R.HP_STAT_PROTO proto port).put R.HP_STAT_FLIT256 (decide (proto = 3)) port
  let s := { s with host := { s.host with pbr := setBitTo s.host.pbr port (decide (proto = 3) && pbr) } }
  (s.ldKeys.filter (fun k => decide (k / 16 = port))).foldl (fun s k =>
    s.setLd k { smGet ldInit s.host.lds k with offline := decide (proto = 0) }) s

/-- What the device reports follows from the rest of the state: LDG_STAT.STATE is the persistence state (R540), LDG_STAT.LEVEL and
the ledger level of both ports the level of R191, DFT_STAT.AGE_BYPASS the bypass of R156, HPx_HOLD.HOLD_ACT the applied limit, and
the health telemetry stands at the Media Status, the Health Status and the tenth of Life Used that the rules give (R100, R101). -/
def State.reports (s : State) : Prop :=
  s.rd R.LDG_STAT_STATE = s.persState ∧ s.rd R.LDG_STAT_LEVEL = s.ledgerLevel ∧
  (∀ p < 2, s.rd R.HP_DLCUR_DL_LEDGER p = s.ledgerLevel ∧
    s.rd R.HP_HOLD_HOLD_ACT p = s.ap R.HP_HOLD_HOLD_LIM p % 2 ^ R.HP_HOLD_HOLD_ACT.wd) ∧
  s.on R.DFT_STAT_AGE_BYPASS = s.ageBypass ∧ s.host.mediaLast = s.mediaStatus ∧ s.host.healthLast = s.healthStatus ∧
  s.host.lifeLast = s.rd R.FTL_LIFE_LIFE_IMG / 10

/-- A page is in one of the states of Table 5-2: while its copy is under way REDIRTY says whether the dirty bit is set, and a page
whose copy is discarded is not dirty. -/
def State.pageOk (s : State) (p : Nat) : Prop :=
  ∀ c, s.copyAt p = some c → s.dirtyAt p = (c.redirty && !c.discard)

/-- An event of Table 5-2 took `s` to `t`: page `p` is still in one of its states, every other page keeps its membership of the
held set, and HELD_MEM moved by as much as the membership of `p` (R149, R150). -/
def State.pageMoved (s t : State) (p : Nat) : Prop :=
  t.pageOk p ∧ (∀ q, q ≠ p → t.inHeld q = s.inHeld q) ∧
  t.rd R.TRK_HMEM_HELD_MEM + b2n (s.inHeld p) = s.rd R.TRK_HMEM_HELD_MEM + b2n (t.inHeld p)

/-- The masks of the channel interleave are as R112 demands: a pivot from bit 6 to bit 20 for each, no two alike, each mask with its
own pivot and no other. -/
def State.masksOk (s : State) : Prop :=
  s.rd R.DRM_STAT_WAYS ≤ 4 ∧
  (∀ k < s.rd R.DRM_STAT_WAYS, 6 ≤ s.rd R.DRM_CHM_HI_PIVOT k ∧ s.rd R.DRM_CHM_HI_PIVOT k ≤ 20) ∧
  (∀ j < s.rd R.DRM_STAT_WAYS, ∀ k < s.rd R.DRM_STAT_WAYS,
    (s.rd R.DRM_CHM_HI_PIVOT j = s.rd R.DRM_CHM_HI_PIVOT k → j = k) ∧
    ((s.chMask k).testBit (s.rd R.DRM_CHM_HI_PIVOT j) = decide (j = k)))

end Sys2Proof.Machine
end

