-- ==== Sys2Proof/Certificates/Slice0/Obligations.lean ====
section
/-!
DEFINITION. The statements about the block, for the provers. A statement over several commands is the conjunction of one clause
for each; `s.after E` is the state a command leaves when `E` is its own effect (Settle.lean).
-/
open Sys2Proof Sys2Proof.Machine


/-- MEM_RD, MEM_WR, MEM_WR_PTL and MEM_INV take a tracker entry and go on, or are answered or abandoned. A request
that arrives at a serving port with a credit spends the credit and looks its requester up in the QoS table,
which may allocate an entry. Outside a save and an activation, one whose address a committed decoder of a
presented logical device maps into its capacity stands last in the tracker under that entry with its device
physical address and goes as far as it can; one that no decoder maps is counted and answered. During a save
it is abandoned. (R76, R77, R81, R82, R83, R90, R91, R96) -/
def Obligations.HostRequestsTakeATrackerEntry : Prop :=
  (∀ (s : State) (port ld sid tag hpa a : Nat),
      s.serving port = true → s.hasCredit port false = true → s.cvn.code = 0 → s.host.cxlHold = false →
      s.resolve port ld hpa = some a →
      exec (.memRd port ld sid tag hpa) s = .next (s.after
        (let x : Option Nat × State := (s.fresh.spendCredit port false).qosLookup port ld (s.sourceId port sid); x.2.enter { x.2.newReq port ld tag .rd [] 0 false x.1 with dpa := a }))) ∧
  (∀ (s : State) (port ld sid tag hpa : Nat),
      s.serving port = true → s.hasCredit port false = true → s.cvn.code = 0 → s.resolve port ld hpa = none →
      exec (.memRd port ld sid tag hpa) s = .next (s.after
        (let x : Option Nat × State := (s.fresh.spendCredit port false).qosLookup port ld (s.sourceId port sid); x.2.answerUnmapped (x.2.newReq port ld tag .rd [] 0 false x.1)))) ∧
  (∀ (s : State) (port ld sid tag hpa : Nat),
      s.serving port = true → s.hasCredit port false = true → s.cvn.code ≠ 0 →
      exec (.memRd port ld sid tag hpa) s = .next (s.after
        (let x : Option Nat × State := (s.fresh.spendCredit port false).qosLookup port ld (s.sourceId port sid); let r : Req := x.2.newReq port ld tag .rd [] 0 false x.1; ((x.2.countReq x.1).addReq r).abandonReq r))) ∧
  (∀ (s : State) (port ld sid tag hpa a : Nat) (data : List Byte) (psn : Bool),
      s.serving port = true → s.hasCredit port true = true → s.cvn.code = 0 → s.host.cxlHold = false →
      s.resolve port ld hpa = some a →
      exec (.memWr port ld sid tag hpa data psn) s = .next (s.after
        (let x : Option Nat × State := (s.fresh.spendCredit port true).qosLookup port ld (s.sourceId port sid); x.2.enter { x.2.newReq port ld tag .wr data allBe psn x.1 with dpa := a }))) ∧
  (∀ (s : State) (port ld sid tag hpa : Nat) (data : List Byte) (psn : Bool),
      s.serving port = true → s.hasCredit port true = true → s.cvn.code = 0 → s.resolve port ld hpa = none →
      exec (.memWr port ld sid tag hpa data psn) s = .next (s.after
        (let x : Option Nat × State := (s.fresh.spendCredit port true).qosLookup port ld (s.sourceId port sid); x.2.answerUnmapped (x.2.newReq port ld tag .wr data allBe psn x.1)))) ∧
  (∀ (s : State) (port ld sid tag hpa : Nat) (data : List Byte) (psn : Bool),
      s.serving port = true → s.hasCredit port true = true → s.cvn.code ≠ 0 →
      exec (.memWr port ld sid tag hpa data psn) s = .next (s.after
        (let x : Option Nat × State := (s.fresh.spendCredit port true).qosLookup port ld (s.sourceId port sid); let r : Req := x.2.newReq port ld tag .wr data allBe psn x.1; ((x.2.countReq x.1).addReq r).abandonReq r))) ∧
  (∀ (s : State) (port ld sid tag hpa a : Nat) (data : List Byte) (be : Nat) (psn : Bool),
      s.serving port = true → s.hasCredit port true = true → s.cvn.code = 0 → s.host.cxlHold = false →
      s.resolve port ld hpa = some a →
      exec (.memWrPtl port ld sid tag hpa data be psn) s = .next (s.after
        (let x : Option Nat × State := (s.fresh.spendCredit port true).qosLookup port ld (s.sourceId port sid); x.2.enter { x.2.newReq port ld tag .wrPtl data be psn x.1 with dpa := a }))) ∧
  (∀ (s : State) (port ld sid tag hpa : Nat) (data : List Byte) (be : Nat) (psn : Bool),
      s.serving port = true → s.hasCredit port true = true → s.cvn.code = 0 → s.resolve port ld hpa = none →
      exec (.memWrPtl port ld sid tag hpa data be psn) s = .next (s.after
        (let x : Option Nat × State := (s.fresh.spendCredit port true).qosLookup port ld (s.sourceId port sid); x.2.answerUnmapped (x.2.newReq port ld tag .wrPtl data be psn x.1)))) ∧
  (∀ (s : State) (port ld sid tag hpa : Nat) (data : List Byte) (be : Nat) (psn : Bool),
      s.serving port = true → s.hasCredit port true = true → s.cvn.code ≠ 0 →
      exec (.memWrPtl port ld sid tag hpa data be psn) s = .next (s.after
        (let x : Option Nat × State := (s.fresh.spendCredit port true).qosLookup port ld (s.sourceId port sid); let r : Req := x.2.newReq port ld tag .wrPtl data be psn x.1; ((x.2.countReq x.1).addReq r).abandonReq r))) ∧
  (∀ (s : State) (port ld sid tag hpa a : Nat),
      s.serving port = true → s.hasCredit port false = true → s.cvn.code = 0 → s.host.cxlHold = false →
      s.resolve port ld hpa = some a →
      exec (.memInv port ld sid tag hpa) s = .next (s.after
        (let x : Option Nat × State := (s.fresh.spendCredit port false).qosLookup port ld (s.sourceId port sid); x.2.enter { x.2.newReq port ld tag .inv [] 0 false x.1 with dpa := a }))) ∧
  (∀ (s : State) (port ld sid tag hpa : Nat),
      s.serving port = true → s.hasCredit port false = true → s.cvn.code = 0 → s.resolve port ld hpa = none →
      exec (.memInv port ld sid tag hpa) s = .next (s.after
        (let x : Option Nat × State := (s.fresh.spendCredit port false).qosLookup port ld (s.sourceId port sid); x.2.answerUnmapped (x.2.newReq port ld tag .inv [] 0 false x.1)))) ∧
  (∀ (s : State) (port ld sid tag hpa : Nat),
      s.serving port = true → s.hasCredit port false = true → s.cvn.code ≠ 0 →
      exec (.memInv port ld sid tag hpa) s = .next (s.after
        (let x : Option Nat × State := (s.fresh.spendCredit port false).qosLookup port ld (s.sourceId port sid); let r : Req := x.2.newReq port ld tag .inv [] 0 false x.1; ((x.2.countReq x.1).addReq r).abandonReq r)))

/-- MEM_SPEC_RD, HELD_STORE_ADMIT, HOLD_LIMIT_EXPIRY, RD_TMO_EXPIRY and CREDIT_RETURN_ACK. A speculative read spends
and returns its Req credit; the gate admits the oldest held store with every held store to its page; a first
overrun of the hold limit is counted, sets HOLD_OVER and is reported; a read at its timeout is forgotten by
the DRAM queues, counted, reported and completes poisoned; acknowledged credits are with the host. (R81,
R82, R84, R86, R88, R347) -/
def Obligations.HoldCreditsAndTimeouts : Prop :=
  (∀ (s : State) (port : Nat),
      s.serving port = true → s.hasCredit port false = true →
      exec (.memSpecRd port) s = .next (s.after
        ((s.fresh.spendCredit port false).returnCredit port false))) ∧
  (∀ (s : State) (r : Req),
      s.oldestHeld = some r → s.rd R.TRK_HELD_HELD + 1 ≤ s.rd R.LDG_GUAR_G →
      exec .heldStoreAdmit s = .next (s.after
        ((((((s.host.trk.filter (fun (x : Req) => decide (x.stage = TStage.held) && decide (x.dpa / 4096 = r.dpa / 4096))).map (fun (x : Req) => x.id)).foldl (fun (s : State) id => match s.req id with | some x => s.admitReq x | none => s) s.fresh).goAll.trkRefresh).holdOverClear 0).holdOverClear 1))) ∧
  (∀ (s : State) (port : Nat) (r : Req),
      s.host.trk.filter (fun (r : Req) => decide (r.port = port) && decide (r.stage = TStage.held) && decide (s.rd R.HP_HOLD_HOLD_ACT port * 1000 < r.heldFor)) = [r] →
      r.expired = false → s.on R.HP_STAT_HOLD_OVER port = false →
      exec (.holdLimitExpiry port) s = .next (s.after
        (((((s.fresh.setReq { r with expired := true }).inc R.HP_HOLDX_HOLD_EXPIRED port).seen).put R.HP_STAT_HOLD_OVER true port).holdEvent port))) ∧
  (∀ (s : State) (port : Nat) (r : Req),
      s.host.trk.filter (fun (r : Req) => decide (r.port = port) && decide (s.rd R.HP_TMO_RD_TMO port * 1000 ≤ r.age)) = [r] →
      r.op = ReqOp.rd →
      exec (.rdTmoExpiry port) s = .next (s.after
        ((((s.fresh.forgetRead r.id).inc R.HP_ERR_RD_TMO_CNT r.port).cxlEventLd (ldKey r.port r.ld) 1 0 2 [r.dpa / 64]).finishRead r [] true))) ∧
  (∀ (s : State) (port req rwd : Nat),
      req ≤ smGet 0 s.host.credFly (2 * port) → rwd ≤ smGet 0 s.host.credFly (2 * port + 1) →
      exec (.creditReturnAck port req rwd) s = .next (s.after
        ({ s.fresh with host := { s.host with credFly := smUpd 0 (2 * port + 1) (· - min rwd (smGet 0 s.host.credFly (2 * port + 1))) (smUpd 0 (2 * port) (· - min req (smGet 0 s.host.credFly (2 * port))) s.host.credFly), reqOut := smUpd 0 port (· - min req (smGet 0 s.host.credFly (2 * port))) s.host.reqOut, rwdOut := smUpd 0 port (· - min rwd (smGet 0 s.host.credFly (2 * port + 1))) s.host.rwdOut } }))) ∧
  (∀ (s : State) (port req rwd : Nat),
      smGet 0 s.host.credFly (2 * port) < req →
      exec (.creditReturnAck port req rwd) s = .next (s.after
        ({ s.fresh with host := { s.host with credFly := smUpd 0 (2 * port + 1) (· - min rwd (smGet 0 s.host.credFly (2 * port + 1))) (smUpd 0 (2 * port) (· - min req (smGet 0 s.host.credFly (2 * port))) s.host.credFly), reqOut := smUpd 0 port (· - min req (smGet 0 s.host.credFly (2 * port))) s.host.reqOut, rwdOut := smUpd 0 port (· - min rwd (smGet 0 s.host.credFly (2 * port + 1))) s.host.rwdOut } }.bookFault 0)))

/-- URGENCY_RECOMPUTE, TELEMETRY_WINDOW_END and QOS_TOKEN_REFILL. At each urgency recompute of a port, outside the
hold of a firmware activation, its requests age by 4 ns (at port A the pages of the movers too, the model's
choice), its held stores wait 4 ns longer, and each request takes the urgency of its class and age; a queued
host read takes the urgency of its tracker entry, and a queued write at least that of a queued read of its
line. WIN ticks after a telemetry window began, its end latches the counts of every valid entry, evicts as
R91 says, and begins the counts anew. A refill while CXL.mem is not held gives a valid entry REQ_CAP units
of 1/10,000 request back for each nanosecond, and lets waiting requests go on. (R91, R92, R93, R116, R117) -/
def Obligations.QosTimers : Prop :=
  (∀ (s : State) (port : Nat),
      s.fwu.act ≠ 3 →
      exec (.urgencyRecompute port) s = .next (s.after
        (let y : State := { s.fresh with host := { s.host with trk := s.host.trk.map (fun (r : Req) => if r.port = port then { r with age := r.age + 4, heldFor := if r.stage = TStage.held then r.heldFor + 4 else r.heldFor, urg := s.urgency r.cls (r.age + 4) } else r) } }; let x : State := if port = 0 then y.jobAge else y; { x with dram := { x.dram with q := writeUrg (x.dram.q.map x.readUrg) } }))) ∧
  (∀ (s : State),
      s.host.winAt + s.rd R.QOS_CTL_WIN ≤ s.tick →
      exec .telemetryWindowEnd s = .next (s.after
        ((s.qosValid.foldl (fun (s : State) e => s.qosWindow e) s.fresh).windowClosed))) ∧
  (∀ (s : State) (ent ns : Nat),
      ent < 4096 → s.on R.QOS_KEY_VALID ent = true → s.host.cxlHold = false →
      exec (.qosTokenRefill ent ns) s = .next (s.after
        (({ s.fresh with host := { s.host with qosSpent := smSet 0 ent (smGet 0 s.host.qosSpent ent - s.rd R.QOS_CAP_REQ_CAP ent * ns) s.host.qosSpent } }.goAll).throtRefresh ent)))

/-- PERST_ASSERT, PERST_RELEASE, LINK_DOWN, LINK_L0, CXL_RESET, GPF_PHASE1, GPF_PHASE2, ASPM_L1_ENTRY and
CONFIGURATION_REQUEST. Each event of a port has its effect: PERST and a link that goes down reset the link
outside a save; a released, ready port trains; a link in training reaches L0 with the first protocol of R71
that the partner offers; a CXL reset resets its logical device; flush phase 1 is answered at once and phase
2 starts the save of code 3; L1 is entered where enabled; a configuration request is answered: with Retry
Status before SL1 and within 1 s of the release of PERST, otherwise with the class code, the BARs and the
capabilities of the function, and function 0 with the GPF duration and power and each presented logical
device's Media Status. (R69, R70, R71, R72, R74, R75, R87, R90, R96, R98, R206, R444) -/
def Obligations.PortsLinksAndFlush : Prop :=
  (∀ (s : State) (port : Nat),
      port < 2 → s.on R.HP_STAT_ACTIVE port = true → port = 0 ∨ s.erg.loaded = false ∨ s.ergBase 0x01 0 0 ≠ 0 →
      s.cvn.code = 0 →
      exec (.perstAssert port) s = .next (s.after
        ({ s.fresh with host := { s.host with perst := setBitTo s.host.perst port true } }.linkReset port))) ∧
  (∀ (s : State) (port : Nat),
      port < 2 → s.on R.HP_STAT_ACTIVE port = true → port = 0 ∨ s.erg.loaded = false ∨ s.ergBase 0x01 0 0 ≠ 0 →
      s.cvn.code ≠ 0 →
      exec (.perstAssert port) s = .next (s.after
        ({ s.fresh with host := { s.host with perst := setBitTo s.host.perst port true } }.deferReset 2 port))) ∧
  (∀ (s : State) (port : Nat),
      port < 2 → s.on R.HP_STAT_ACTIVE port = false → port = 0 ∨ s.erg.loaded = false →
      exec (.perstAssert port) s = .next (s.after
        ({ s.fresh with host := { s.host with perst := setBitTo s.host.perst port true } }))) ∧
  (∀ (s : State) (port : Nat),
      port < 2 → s.on R.HP_STAT_ACTIVE port = true → bit s.host.ready port = true → s.rd R.HP_STAT_LINK port = 0 →
      exec (.perstRelease port) s = .next (s.after
        ({ s.fresh with host := { s.host with perst := setBitTo s.host.perst port false, perstAt := smSet 0 port s.tick s.host.perstAt } }.wr R.HP_STAT_LINK 1 port))) ∧
  (∀ (s : State) (port : Nat),
      port < 2 → s.on R.HP_STAT_ACTIVE port = true → s.rd R.HP_STAT_LINK port ≠ 0 → s.cvn.code = 0 →
      exec (.linkDown port) s = .next (s.after
        (s.fresh.linkReset port))) ∧
  (∀ (s : State) (port offer rate width : Nat) (flit : Bool),
      port < 2 → s.on R.HP_STAT_ACTIVE port = true → bit s.host.perst port = false → bit s.host.ready port = true →
      s.rd R.HP_STAT_LINK port = 1 →
      exec (.linkL0 port offer rate width flit) s = .next (s.after
        ((s.fresh.linkUp port (min (max rate 1) (s.rd R.HP_CTL_MAX_RATE port)) (min width (s.portLanes port)) flit).negotiated port (if bit offer 3 then 3 else if bit offer 2 then 2 else if bit offer 1 then 1 else 0) (bit offer 4)))) ∧
  (∀ (s : State) (port ld : Nat),
      s.serving port = true → 2 ≤ s.rd R.HP_STAT_PROTO port → ld < 16 → s.cvn.code = 0 →
      exec (.cxlReset port ld) s = .next (s.after
        (s.fresh.ldReset (ldKey port ld)))) ∧
  (∀ (s : State) (port : Nat),
      s.serving port = true → 2 ≤ s.rd R.HP_STAT_PROTO port →
      exec (.gpfPhase1 port) s = .next (s.after
        (s.fresh.emit (.gpf port 1)))) ∧
  (∀ (s : State) (port : Nat),
      s.serving port = true → 2 ≤ s.rd R.HP_STAT_PROTO port → s.on R.CVN_STAT_READY = true → 3 ≤ s.level →
      s.cvn.code = 0 →
      exec (.gpfPhase2 port) s = .next (s.after
        ({ s.fresh with host := { s.host with gpfWait := setBitTo s.host.gpfWait port true } }.caravan 3))) ∧
  (∀ (s : State) (port : Nat),
      port < 2 → s.on R.HP_STAT_ACTIVE port = true → s.rd R.HP_STAT_LINK port = 2 → s.on R.HP_CTL_L1_EN port = true →
      exec (.aspmL1Entry port true) s = .next (s.after
        (s.fresh.wr R.HP_STAT_LINK 3 port))) ∧
  (∀ (s : State) (port fn : Nat),
      port < 2 → s.on R.HP_STAT_ACTIVE port = true → 2 ≤ s.rd R.HP_STAT_LINK port → s.level < 1 →
      s.tick < smGet 0 s.host.perstAt port + 32768 →
      exec (.configurationRequest port fn) s = .next (s.after
        (s.fresh.emit (.cfg port fn true)))) ∧
  (∀ (s : State) (port fn : Nat),
      port < 2 → s.on R.HP_STAT_ACTIVE port = true → 2 ≤ s.rd R.HP_STAT_LINK port →
      1 ≤ s.level ∨ smGet 0 s.host.perstAt port + 32768 ≤ s.tick → fn ≠ 0 →
      exec (.configurationRequest port fn) s = .next (s.after
        ((s.fresh.emit (.cfg port fn false)).emit (.func port fn 0 [] ([PcieCap.tags10and14, .aspmL1, .powerStates, .flr, .msix, .aer, .ecrc, .margining] ++ (if fn = 1 then [PcieCap.sriov] else [])))))) ∧
  (∀ (s : State) (port : Nat),
      port < 2 → s.on R.HP_STAT_ACTIVE port = true → 2 ≤ s.rd R.HP_STAT_LINK port →
      1 ≤ s.level ∨ smGet 0 s.host.perstAt port + 32768 ≤ s.tick →
      exec (.configurationRequest port 0) s = .next (s.after
        (((s.fresh.emit (.cfg port 0 false)).emit (.func port 0 0x050210 [0, 2] [PcieCap.tags10and14, .aspmL1, .powerStates, .flr, .msix, .aer, .ecrc, .margining, .doeCdat])).emit (.dev port s.host.gpfMs s.host.gpfMw (((List.range 16).filter (s.ldShown port)).map (fun (k : Nat) => s.memDevStatus port k))))))

/-- HDM_DECODER_COMMIT places a range and uncommits it. A decoder of a serving CXL 2.0 port that is not locked takes
the committed range, its device physical range beginning after the ranges of the decoders below it and the
skip; an unlocked decoder that the host uncommits is empty. (R77, Table 3-3) -/
def Obligations.DecoderCommit : Prop :=
  (∀ (s : State) (port ld dec base size skip : Nat) (lock : Bool) (ds : List Decoder),
      s.serving port = true → s.rd R.HP_STAT_PROTO port = 2 → s.ldShown port ld = true → dec < 8 →
      ds = (s.ld port ld).decs ++ List.replicate (8 - (s.ld port ld).decs.length) decoderNone →
      (ds.getD dec decoderNone).locked = false → 0 < size →
      exec (.hdmDecoderCommit port ld dec true base size 1 256 skip lock) s = .next (s.after
        (s.fresh.setLd (ldKey port ld) { s.ld port ld with decs := ds.set dec { committed := true, base := base, size := size, ways := 1, gran := 256, dpaBase := decodeFrom ds dec skip, locked := lock } }))) ∧
  (∀ (s : State) (port ld dec : Nat) (ds : List Decoder),
      s.serving port = true → s.ldShown port ld = true → dec < 8 →
      ds = (s.ld port ld).decs ++ List.replicate (8 - (s.ld port ld).decs.length) decoderNone →
      (ds.getD dec decoderNone).locked = false →
      exec (.hdmDecoderCommit port ld dec false 0 0 0 0 0 false) s = .next (s.after
        (s.fresh.setLd (ldKey port ld) { s.ld port ld with decs := ds.set dec decoderNone })))

/-- GET_EVENT_RECORDS, CLEAR_EVENT_RECORDS, the event interrupt policy, the timestamp and the logs. Each command of
a mailbox that serves completes with Success and its payload: the oldest 127 records of a log with the
overflow count; records cleared in order with the overflow; the policy read or replaced; the host time read
or set against the tick counter; the one supported log and a part of it. (R99, R507, R539, R510, Table 21-4) -/
def Obligations.MailboxEventsTimeAndLogs : Prop :=
  (∀ (s : State) (port ld log : Nat) (x : EvLog),
      s.mbxServes port ld = true → (s.ld port ld).logs[log]? = some x →
      exec (.getEventRecords port ld log) s = .next (s.after
        (s.fresh.mbxDone (ldKey port ld) 0x0100 rcSuccess ([b2n (decide (x.dropped ≠ 0)) + 2 * b2n (decide (127 < x.recs.length)), x.dropped, x.overAt.1, x.overAt.2, (x.recs.take 127).length] ++ (x.recs.take 127).flatMap recWords)))) ∧
  (∀ (s : State) (port ld log : Nat) (handles : List Nat) (x : EvLog),
      s.mbxServes port ld = true → (s.ld port ld).logs[log]? = some x → handles ≠ [] →
      (x.recs.take handles.length).map (fun (r : CxlRec) => r.handle) = handles →
      exec (.clearEventRecords port ld log handles) s = .next (s.after
        ((s.fresh.setLd (ldKey port ld) { s.ld port ld with logs := (s.ld port ld).logs.set log { x with recs := x.recs.drop handles.length, dropped := 0, overAt := (0, 0) } }).mbxDone (ldKey port ld) 0x0101 rcSuccess))) ∧
  (∀ (s : State) (port ld : Nat),
      s.mbxServes port ld = true →
      exec (.getEventInterruptPolicy port ld) s = .next (s.after
        (s.fresh.mbxDone (ldKey port ld) 0x0102 rcSuccess (s.ld port ld).policy))) ∧
  (∀ (s : State) (port ld : Nat) (policy : List Nat),
      s.mbxServes port ld = true → policy.length = 4 → policy.any (fun v => decide (1 < v)) = false →
      exec (.setEventInterruptPolicy port ld policy) s = .next (s.after
        ((s.fresh.setLd (ldKey port ld) { s.ld port ld with policy := policy }).mbxDone (ldKey port ld) 0x0103 rcSuccess))) ∧
  (∀ (s : State) (port ld : Nat),
      s.mbxServes port ld = true →
      exec (.getTimestamp port ld) s = .next (s.after
        (s.fresh.mbxDone (ldKey port ld) 0x0300 rcSuccess [s.hostNow]))) ∧
  (∀ (s : State) (port ld time : Nat),
      s.mbxServes port ld = true → s.on R.MBX_STAT_DEVWIDE = false →
      exec (.setTimestamp port ld time) s = .next (s.after
        ({ s.fresh with host := { s.host with hostTime := some (time % 2 ^ 64, s.tick) } }.mbxDone (ldKey port ld) 0x0301 rcSuccess))) ∧
  (∀ (s : State) (port ld : Nat),
      s.mbxServes port ld = true →
      exec (.getSupportedLogs port ld) s = .next (s.after
        (s.fresh.mbxDone (ldKey port ld) 0x0400 rcSuccess [1, celBytes.length]))) ∧
  (∀ (s : State) (port ld off len : Nat),
      s.mbxServes port ld = true → off + len ≤ celBytes.length →
      exec (.getLog port ld true off len) s = .next (s.after
        (s.fresh.mbxDone (ldKey port ld) 0x0401 rcSuccess ((celBytes.drop off).take len))))

/-- IDENTIFY_MEMORY_DEVICE, GET_HEALTH_INFO, the alert configuration, the shutdown state, and the vendor reads C000h
to C002h. Each command of a mailbox that serves completes with Success and its payload: the capacity in
units of 256 MiB with the log and list sizes and the running revision; the health fields of Table 3-7; the
alert configuration or the shutdown state, read or stored; the persistence status record; the lost ranges of
the logical device; the records of an area. (R100, R102, R233, R507, R510, Table 3-7, Table 21-4) -/
def Obligations.MailboxIdentityHealthAndRecords : Prop :=
  (∀ (s : State) (port ld : Nat),
      s.mbxServes port ld = true →
      exec (.identifyMemoryDevice port ld) s = .next (s.after
        (s.fresh.mbxDone (ldKey port ld) 0x4000 rcSuccess [s.ldCap port ld / 0x10000000, 0, s.ldCap port ld / 0x10000000, 256, 256, 256, 256, 1024, s.rd R.FWU_REV_FR (2 * s.fwu.run), s.rd R.FWU_REV_FR (2 * s.fwu.run + 1)]))) ∧
  (∀ (s : State) (port ld : Nat),
      s.mbxServes port ld = true →
      exec (.getHealthInfo port ld) s = .next (s.after
        (s.fresh.mbxDone (ldKey port ld) 0x4200 rcSuccess [s.healthStatus, s.mediaStatus, s.rd R.FTL_LIFE_LIFE_IMG, toField 16 (idivUp (s16 (s.rd R.PWR_THERM_TJ)) 16), s.cvn.dirtyShut, s.dram.ceTotal, min s.ftl.corrPers (2 ^ 32 - 1)]))) ∧
  (∀ (s : State) (port ld : Nat),
      s.mbxServes port ld = true →
      exec (.getAlertConfiguration port ld) s = .next (s.after
        (s.fresh.mbxDone (ldKey port ld) 0x4201 rcSuccess (s.ld port ld).alert))) ∧
  (∀ (s : State) (port ld : Nat) (config : List Nat),
      s.mbxServes port ld = true →
      exec (.setAlertConfiguration port ld config) s = .next (s.after
        ((s.fresh.setLd (ldKey port ld) { s.ld port ld with alert := config }).mbxDone (ldKey port ld) 0x4202 rcSuccess))) ∧
  (∀ (s : State) (port ld : Nat),
      s.mbxServes port ld = true →
      exec (.getShutdownState port ld) s = .next (s.after
        (s.fresh.mbxDone (ldKey port ld) 0x4203 rcSuccess [(s.ld port ld).shutdown]))) ∧
  (∀ (s : State) (port ld value : Nat),
      s.mbxServes port ld = true → value ≤ 1 →
      exec (.setShutdownState port ld value) s = .next (s.after
        ((s.fresh.setLd (ldKey port ld) { s.ld port ld with shutdown := value }).mbxDone (ldKey port ld) 0x4204 rcSuccess))) ∧
  (∀ (s : State) (port ld : Nat),
      s.mbxServes port ld = true →
      exec (.getPersistenceStatus port ld) s = .next (s.after
        (s.fresh.mbxDone (ldKey port ld) 0xC000 rcSuccess (leBytes 4 (s.rd R.LDG_GPUB_G_PUB) ++ leBytes 4 (s.rd R.TRK_HELD_HELD) ++ leBytes 4 (s.rd R.LDG_COST_C) ++ leBytes 4 (s.rd R.LDG_EUSE_E_USE) ++ leBytes 4 s.ledger.oasisUsed ++ [s.persState, s.ledgerLevel, 0, 0] ++ leBytes 8 (s.rd R.LDG_TS_TICK))))) ∧
  (∀ (s : State) (port ld first count : Nat),
      s.mbxServes port ld = true → 1 ≤ count → count ≤ 1024 →
      exec (.getLostRanges port ld first count) s = .next (s.after
        (s.fresh.mbxDone (ldKey port ld) 0xC001 rcSuccess ((((s.ldLost port ld).drop first).take count).flatMap (fun (e : Nat × Nat) => leBytes 4 e.1 ++ leBytes 4 e.2))))) ∧
  (∀ (s : State) (port ld area first : Nat),
      s.mbxServes port ld = true → area ≤ 2 →
      exec (.getRecorderRecords port ld area first 1) s = .next (s.after
        ((s.fresh.recordBytes area first).1.mbxDone (ldKey port ld) 0xC002 rcSuccess (s.fresh.recordBytes area first).2)))

/-- GET_POISON_LIST, INJECT_POISON, CLEAR_POISON, SANITIZE and SECURE_ERASE. The poison list of a range is answered
in address order; a poison mark, or a line of data without one, is written as a store of the line once
memory is ready, the page restored, admission open and the bank queue has room, and a cleared line leaves
the list; a sanitize without a committed decoder enters MEM_SANITIZE on slot 3 and runs in the background.
(R508, R509, R193, Table 21-4) -/
def Obligations.MailboxPoisonAndSanitize : Prop :=
  (∀ (s : State) (port ld dpa len : Nat),
      s.mbxServes port ld = true →
      exec (.getPoisonList port ld dpa len) s = .next (s.after
        (s.fresh.mbxDone (ldKey port ld) 0x4300 rcSuccess ([b2n (s.ld port ld).poisonOver, (((s.ld port ld).poisoned.foldl (fun m l => setIns l m) []).filter (fun l => decide (s.ldBase port ld + dpa ≤ 64 * l) && decide (64 * l < s.ldBase port ld + dpa + 64 * len))).length] ++ (((s.ld port ld).poisoned.foldl (fun m l => setIns l m) []).filter (fun l => decide (s.ldBase port ld + dpa ≤ 64 * l) && decide (64 * l < s.ldBase port ld + dpa + 64 * len))).map (fun l => 64 * l - s.ldBase port ld))))) ∧
  (∀ (s : State) (port ld dpa a : Nat),
      s.mbxServes port ld = true → s.lineOf port ld dpa = some a → s.mbxTakes a = true → s.isOffline a = false →
      exec (.injectPoison port ld dpa) s = .next (s.after
        (((s.fresh.pageStore (a / 4096)).dramPush a true [] 0 true .rewrite 1 none).mbxDone (ldKey port ld) 0x4301 rcSuccess))) ∧
  (∀ (s : State) (port ld dpa a : Nat) (data : List Byte),
      s.mbxServes port ld = true → s.lineOf port ld dpa = some a → data.length = 64 → s.mbxTakes a = true →
      exec (.clearPoison port ld dpa data) s = .next (s.after
        (((s.fresh.setLd (ldKey port ld) { s.ld port ld with poisoned := setDel (a / 64) (s.ld port ld).poisoned }).mbxStore a allBe data false).mbxDone (ldKey port ld) 0x4302 rcSuccess))) ∧
  (∀ (s : State) (port ld e : Nat) (u : State),
      s.mbxServes port ld = true → s.on R.MBX_STAT_DEVWIDE = false → s.anyDecoder = false →
      s.fresh.issueLong 3 0x0B [] = (u, some e) →
      exec (.sanitize port ld) s = .next (s.after
        ((((({ u with loq := { u.loq with bg := some (ldKey port ld, e) } }.wr R.MBX_STAT_BG 1).put R.MBX_STAT_DEVWIDE true).mbxDone (ldKey port ld) 0x4400 rcBackground).memSanitizeStart e)))) ∧
  (∀ (s : State) (port ld e : Nat) (u : State),
      s.mbxServes port ld = true → s.on R.MBX_STAT_DEVWIDE = false → s.anyDecoder = false →
      s.fresh.issueLong 3 0x0B [] = (u, some e) →
      exec (.secureErase port ld) s = .next (s.after
        ((((({ u with loq := { u.loq with bg := some (ldKey port ld, e) } }.wr R.MBX_STAT_BG 1).put R.MBX_STAT_DEVWIDE true).mbxDone (ldKey port ld) 0x4401 rcBackground).memSanitizeStart e))))

/-- GET_DC_CONFIG, GET_DC_EXTENT_LIST, ADD_DC_RESPONSE, DC_ADD_PROCEED, RELEASE_DC and EXTENT_RELEASE_PROCEED. In
CXL 3.1 mode the configuration and the extents are reported; an accepted add waits until R151 permits it and
then joins the extents with its range zeroed and an event; a release inside an extent leaves the list, and
completes once no tracker entry addresses it, its range deallocated and reported. (R78, R79, R151, Table
21-4) -/
def Obligations.MailboxDynamicCapacity : Prop :=
  (∀ (s : State) (port ld : Nat),
      s.mbxServes port ld = true → s.rd R.HP_STAT_PROTO port = 3 →
      exec (.getDcConfig port ld) s = .next (s.after
        (s.fresh.mbxDone (ldKey port ld) 0x4800 rcSuccess [s.dcRegions port ld, 0x10000000, s.ergBase 1 4 0]))) ∧
  (∀ (s : State) (port ld first count : Nat),
      s.mbxServes port ld = true → s.rd R.HP_STAT_PROTO port = 3 →
      exec (.getDcExtentList port ld first count) s = .next (s.after
        (s.fresh.mbxDone (ldKey port ld) 0x4801 rcSuccess ((s.ld port ld).extents.length :: (((s.ld port ld).extents.drop first).take count).flatMap (fun (e : Nat × Nat) => [e.1, e.2]))))) ∧
  (∀ (s : State) (port ld region start blocks : Nat),
      s.mbxServes port ld = true → s.rd R.HP_STAT_PROTO port = 3 → region < s.dcRegions port ld → 0 < blocks →
      start + blocks ≤ s.rd R.DRM_HOSTSZ_HOST_SZ → s.ldBase port ld / 0x10000000 ≤ start →
      s.ldKeys.any (fun k => dcOverlap (s.staticBlocks k) (start, blocks)) = false →
      s.dcInUse.any (fun x => dcOverlap x (start, blocks)) = false →
      (s.dcInUse.map (fun (x : Nat × Nat) => x.2)).sum + blocks ≤ s.ergBase 1 4 0 →
      (s.ld port ld).extents.length + (s.ld port ld).adding.length < 512 →
      exec (.addDcResponse port ld region start blocks) s = .next (s.after
        ((s.fresh.setLd (ldKey port ld) { s.ld port ld with adding := (s.ld port ld).adding ++ [(start, blocks)], regions := smSet 8 start region (s.ld port ld).regions }).mbxDone (ldKey port ld) 0x4802 rcSuccess))) ∧
  (∀ (s : State) (port ld : Nat) (e : Nat × Nat),
      (s.ld port ld).adding = [e] → s.trk.copy = [] →
      exec (.dcAddProceed port ld) s = .next (s.after
        (((s.fresh.setLd (ldKey port ld) { s.ld port ld with adding := [], extents := (s.ld port ld).extents ++ [e] }).zeroPages (e.1 * blockPages) (e.2 * blockPages)).dcEvent (ldKey port ld) 0 e))) ∧
  (∀ (s : State) (port ld : Nat) (e : Nat × Nat),
      s.mbxServes port ld = true → s.rd R.HP_STAT_PROTO port = 3 → (s.ld port ld).extents = [e] → 0 < e.2 →
      exec (.releaseDc port ld e.1 e.2) s = .next (s.after
        ((s.fresh.setLd (ldKey port ld) { s.ld port ld with extents := [], releasing := (s.ld port ld).releasing ++ [e] }).mbxDone (ldKey port ld) 0x4803 rcSuccess))) ∧
  (∀ (s : State) (port ld : Nat) (e : Nat × Nat),
      (s.ld port ld).releasing = [e] → s.dcAddressed e = false →
      ((s.fresh.setLd (ldKey port ld) { s.ld port ld with releasing := [] }).dcDealloc e).isOffline (e.1 * blockPages * 4096) = false →
      exec (.extentReleaseProceed port ld) s = .next (s.after
        (((s.fresh.setLd (ldKey port ld) { s.ld port ld with releasing := [] }).dcDealloc e).dcEvent (ldKey port ld) 1 e)))

/-- GET_FW_INFO, TRANSFER_FW, ACTIVATE_FW, ISSUE_LONG_OPERATION, READ_COMPLETIONS and WRITE_LOAD_BUFFER. The slots
are reported; data of a firmware transfer is taken for the inactive slot; an offline activation verifies the
slot and makes a valid one the next image; a long operation is issued on slot 3 with the issue result as the
payload; completions of ring 0 are taken; words enter the load buffer unless an operation reads it. (R472,
R477, R485, R511, R512, R513, R514, Table 21-4) -/
def Obligations.MailboxFirmwareAndLongOperations : Prop :=
  (∀ (s : State) (port ld : Nat),
      s.mbxServes port ld = true → s.fwu.next = s.fwu.run → s.on R.FWU_SLOT_VALID 0 = true →
      s.on R.FWU_SLOT_VALID 1 = false →
      exec (.getFwInfo port ld) s = .next (s.after
        (s.fresh.mbxDone (ldKey port ld) 0x0200 rcSuccess [2, s.fwu.run + 1, 0, 1, s.rd R.FWU_REV_FR 0, s.rd R.FWU_REV_FR 1, 0, 0]))) ∧
  (∀ (s : State) (port ld off : Nat) (data : List Byte),
      s.mbxServes port ld = true → s.on R.MBX_STAT_DEVWIDE = false → s.rd R.FWU_STAT_STATE = 0 → off % 4096 = 0 →
      data.length % 4096 = 0 → data ≠ [] → off + data.length ≤ 12582912 →
      exec (.transferFw port ld 1 1 off data) s = .next (s.after
        ((s.fresh.fwData 3 off (data.map (fun (b : Byte) => b.toNat))).2.mbxDone (ldKey port ld) 0x0201 rcSuccess))) ∧
  (∀ (s : State) (port ld slot : Nat),
      s.mbxServes port ld = true → s.on R.MBX_STAT_DEVWIDE = false → 1 ≤ slot → slot ≤ 2 →
      exec (.activateFw port ld 1 slot) s = .next (s.after
        (if (s.fresh.fwClose.fwCheck (slot - 1) 10).1 = 0 then ((s.fresh.fwClose.fwCheck (slot - 1) 10).2.fwTarget (slot - 1)).mbxDone (ldKey port ld) 0x0202 rcSuccess else (s.fresh.fwClose.fwCheck (slot - 1) 10).2.mbxDone (ldKey port ld) 0x0202 (if (s.fresh.fwClose.fwCheck (slot - 1) 10).1 ≤ 7 then rcVerifyFailed else rcActFailed)))) ∧
  (∀ (s : State) (port ld op : Nat) (args : List Nat),
      s.mbxServes port ld = true →
      exec (.issueLongOperation port ld op args) s = .next (s.after
        ((s.fresh.issueBy 3 op args (s.mgmtWr (ldKey port ld))).mbxDone (ldKey port ld) 0xC003 rcSuccess [(s.fresh.issueBy 3 op args (s.mgmtWr (ldKey port ld))).resWord 3]))) ∧
  (∀ (s : State) (port ld count : Nat),
      s.mbxServes port ld = true → 1 ≤ count → count ≤ 64 →
      exec (.readCompletions port ld count) s = .next (s.after
        ((s.fresh.ringTake 0 count true).1.mbxDone (ldKey port ld) 0xC004 rcSuccess (s.fresh.ringTake 0 count true).2))) ∧
  (∀ (s : State) (port ld off : Nat) (words : List Nat),
      s.mbxServes port ld = true → words.length ≤ 1024 → off + words.length ≤ 65536 → s.bufBusy = false →
      exec (.writeLoadBuffer port ld off words) s = .next (s.after
        ((s.fresh.lbWrite off words).mbxDone (ldKey port ld) 0xC005 rcSuccess)))

/-- OVL_SWITCH, OVL_SWITCH_APPLIED and VOLATILE_LEAVE_READY. An accepted switch to an overlay of the image, with
none running and the bulk restore over, is recorded with its entry, sets SWITCH_BUSY and writes its batch;
once every block has applied it, it is recorded in a learned-value entry, becomes the active overlay, clears
SWITCH_BUSY, raises its event and completes with Success; a switch out of a volatile mode goes on once the
held set is no more than G. (R59, R61, R64, R236, R511, R538) -/
def Obligations.OverlaySwitch : Prop :=
  (∀ (s : State) (slot e index : Nat) (u : State),
      s.boot.inReset = false → slot < 4 → s.fresh.issueLong slot 0x01 [index] = (u, some e) → u.cvn.code = 0 →
      u.boot.bootBlock = false → u.loq.ovlStep = 0 → u.bulkOver = true →
      index = 15 ∨ (u.activeOvl index).isSome = true →
      exec (.ovlSwitch slot index) s = .next (s.after
        ((({ u with loq := { u.loq with ovlStep := 3, ovlEnt := e, ovlNew := index, ovlBegun := false } }).put R.ERG_STAT_SWITCH_BUSY true).ovlBatch.packPolicyCheck))) ∧
  (∀ (s : State),
      s.loq.ovlStep = 4 → s.ovlApplied = true →
      exec .ovlSwitchApplied s = .next (s.after
        (let x : State := { s.fresh with erg := { s.erg with recOvl := s.loq.ovlNew }, loq := { s.loq with ovlStep := 0, ovlBegun := false } }.lvAppend; let y : State := (((x.wr R.ERG_STAT_ACT_OVL s.loq.ovlNew).wr R.ERG_STAT_ACT_MODE (x.ovlTag s.loq.ovlNew)).put R.ERG_STAT_SWITCH_BUSY false).put R.ERG_STAT_PARTIAL false; (y.note 0x13 3 s.loq.ovlNew).loqEnd y.loq.ovlEnt loSuccess s.loq.ovlNew))) ∧
  (∀ (s : State),
      s.loq.ovlStep = 5 → s.rd R.TRK_HELD_HELD ≤ s.rd R.LDG_GUAR_G →
      exec .volatileLeaveReady s = .next (s.after
        ({ s.fresh with loq := { s.loq with ovlStep := 4 } }.leaveVolatile)))

/-- ERG_LOAD, CAL_WRITE, CAL_FACTORY, RANK_MIGRATE and CAP_AUDIT. ERG_LOAD, where no write-protect bit bars it,
erases and programs the inactive slot from the load buffer, validates it and completes with the result; a
permitted CAL_WRITE replaces its entry as a user one; CAL_FACTORY of a file that the vendor key signed for
this unit replaces every entry it lists, and any other file is Invalid; RANK_MIGRATE retires the rank to a
free spare; CAP_AUDIT starts an audit where nothing bars one. (R50, R66, R67, R135, R136, R373, R511, Table
21-5) -/
def Obligations.ImageAndCalibrationOperations : Prop :=
  (∀ (s : State) (slot e len : Nat) (u : State),
      s.boot.inReset = false → slot < 4 → s.fresh.issueLong slot 0x02 [len] = (u, some e) → u.cvn.code = 0 →
      u.boot.bootBlock = false → 0 < len → len % 4 = 0 → len ≤ 262144 →
      u.ergProtected (1 - u.rd R.ERG_STAT_BOOT_SLOT) = false →
      (List.range 4).any (fun (k : Nat) => u.wpFrozen (ergSector (1 - u.rd R.ERG_STAT_BOOT_SLOT) + k)) = false →
      exec (.ergLoad slot len) s = .next (s.after
        (let t : Nat := 1 - u.rd R.ERG_STAT_BOOT_SLOT; let x : State := ((List.range 4).foldl (fun (s : State) k => s.sectorErase (ergSector t + k)) u).cflProgram (ergSector t * 16384) (u.lbWords (len / 4)); let v : Nat := x.validateErg (x.ergWord t); (x.ergResult t v).loqEnd e (if v = 0 then loSuccess else loFailed) v))) ∧
  (∀ (s : State) (slot e key words : Nat) (u : State),
      s.boot.inReset = false → slot < 4 → s.fresh.issueLong slot 0x03 [key, words] = (u, some e) → u.cvn.code = 0 →
      u.boot.bootBlock = false → u.calPermits slot = true → 0 < words → words ≤ 64 → key < 65536 →
      u.calFrozen = false →
      exec (.calWrite slot key words) s = .next (s.after
        ((u.calPut key true (u.lbWords words)).loqEnd e loSuccess key))) ∧
  (∀ (s : State) (slot e len : Nat) (u : State),
      s.boot.inReset = false → slot < 4 → s.fresh.issueLong slot 0x04 [len] = (u, some e) → u.cvn.code = 0 →
      u.boot.bootBlock = false → 0 < len → len % 4 = 0 → len ≤ 262144 → u.calFrozen = false →
      exec (.calFactory slot len) s = .next (s.after
        (if Config.calFileSigned (u.lbWords (len / 4)) = true ∧ Config.calFileUid (u.lbWords (len / 4)) = (List.range 4).map (fun i => u.rd R.CAL_UID_UID i) then let es : List (Nat × List Nat) := (Config.calFileEntries (u.lbWords (len / 4))).filter (fun (x : Nat × List Nat) => decide (x.1 < 65536) && decide (1 ≤ x.2.length) && decide (x.2.length ≤ 64)); (es.foldl (fun (s : State) (x : Nat × List Nat) => s.calPut x.1 false (x.2.map (fun w => w % 2 ^ 32))) u).loqEnd e loSuccess es.length else u.loqEnd e loInvalid 0))) ∧
  (∀ (s : State) (slot e chan rank : Nat) (u : State),
      s.boot.inReset = false → slot < 4 → s.fresh.issueLong slot 0x05 [chan, rank] = (u, some e) → u.cvn.code = 0 →
      u.boot.bootBlock = false → chan < 8 → u.wayUp (2 * chan) = true → u.on R.DCH_STAT_SPARE_FREE chan = true →
      rank < u.spareRank chan → u.rd R.DCH_RANK_STATE chan rank = 0 → u.dram.caravan = false →
      u.rd R.CVN_STAT_RST_ST = 0 →
      exec (.rankMigrate slot chan rank) s = .next (s.after
        (u.retireRank chan rank (some e)))) ∧
  (∀ (s : State) (slot e : Nat) (u : State),
      s.boot.inReset = false → slot < 4 → s.fresh.issueLong slot 0x06 [] = (u, some e) → u.cvn.code = 0 →
      u.boot.bootBlock = false → u.gau.aud = 0 → u.audBar = 0 →
      exec (.capAudit slot) s = .next (s.after
        (u.audStart (e + 1))))

/-- BOOK_AUDIT, FW_VERIFY, FW_CONFIRM, CFL_MAINT and MEM_SANITIZE. BOOK_AUDIT of the shadow books compares them and
completes with its record; FW_VERIFY runs steps 1 to 7 on a slot and completes with the result; FW_CONFIRM
confirms a running trial image; CFL_MAINT erases the interrupted sectors that are not frozen again, or
compacts the learned-value area; MEM_SANITIZE without a committed decoder clears host memory, its image and
its tracking. (R349, R423, R434, R475, R484, R509, R511, Table 21-5) -/
def Obligations.AuditFirmwareAndMaintenanceOperations : Prop :=
  (∀ (s : State) (slot e arg : Nat) (u : State),
      s.boot.inReset = false → slot < 4 → s.fresh.issueLong slot 0x07 [arg] = (u, some e) → u.cvn.code = 0 →
      u.boot.bootBlock = false → arg % 4096 = 2 → bit arg 16 = false →
      exec (.bookAudit slot arg) s = .next (s.after
        (u.loqEnd e (if u.bookDiff 1 = 0 then loSuccess else loDiff) (if u.bookDiff 1 = 0 then 0 else 2) (u.bookRecord 2 (if u.bookDiff 1 = 0 then 0 else 2) 0 0 [0, u.bookDiff 1, 0, 0, 0, 0, 0, 0, 0, 0, 0, 0])))) ∧
  (∀ (s : State) (slot e fw : Nat) (u : State),
      s.boot.inReset = false → slot < 4 → s.fresh.issueLong slot 0x08 [fw] = (u, some e) → u.cvn.code = 0 →
      u.boot.bootBlock = false → fw ≤ 1 →
      exec (.fwVerify slot fw) s = .next (s.after
        ((u.fwCheck fw 7).2.loqEnd e (if (u.fwCheck fw 7).1 = 0 then loSuccess else loFailed) (u.fwCheck fw 7).1))) ∧
  (∀ (s : State) (slot e arg : Nat) (u : State),
      s.boot.inReset = false → slot < 4 → s.fresh.issueLong slot 0x09 [arg] = (u, some e) → u.cvn.code = 0 →
      u.boot.bootBlock = false → u.fwu.trial = true → u.fwu.next = u.fwu.run →
      exec (.fwConfirm slot arg) s = .next (s.after
        ((u.fwConfirm (bit arg 0)).loqEnd e loSuccess ((u.fwConfirm (bit arg 0)).rd R.FWU_SVN_FLOOR)))) ∧
  (∀ (s : State) (slot e : Nat) (u : State),
      s.boot.inReset = false → slot < 4 → s.fresh.issueLong slot 0x0A [0] = (u, some e) → u.cvn.code = 0 →
      u.boot.bootBlock = false →
      exec (.cflMaintReerase slot) s = .next (s.after
        ((((List.range 512).filter (fun (n : Nat) => bit (u.rd R.CFL_EINT_EINT (n / 32)) (n % 32) && !u.wpFrozen n)).foldl (fun (s : State) n => s.sectorErase n) u).loqEnd e loSuccess ((List.range 512).filter (fun (n : Nat) => bit (u.rd R.CFL_EINT_EINT (n / 32)) (n % 32) && !u.wpFrozen n)).length))) ∧
  (∀ (s : State) (slot e : Nat) (u : State),
      s.boot.inReset = false → slot < 4 → s.fresh.issueLong slot 0x0A [1] = (u, some e) → u.cvn.code = 0 →
      u.boot.bootBlock = false →
      exec (.cflMaintCompact slot) s = .next (s.after
        (u.lvCompact.loqEnd e loSuccess 1))) ∧
  (∀ (s : State) (slot e : Nat) (u : State),
      s.boot.inReset = false → slot < 4 → s.fresh.issueLong slot 0x0B [] = (u, some e) → u.cvn.code = 0 →
      u.boot.bootBlock = false → u.anyDecoder = false → u.on R.DRM_STAT_DEGRADED = false →
      u.loq.ents.any (fun (x : Nat × LoqEnt) => decide (x.1 ≠ e) && x.2.used && !x.2.ended && decide (x.2.op = 0x0B)) = false →
      exec (.memSanitize slot) s = .next (s.after
        (u.memSanitize))) ∧
  (∀ (s : State) (ring e : Nat),
      ring < 2 → s.loq.post.find? (fun k => decide (ringOf (s.loqEnt k).slot = ring)) = some e → s.ringCnt ring < 64 →
      exec (.loqCompletionPost ring) s = .next (s.after
        ((s.fresh.ringWrite ring e).loqPosted e)))

/-- RETRAIN, LOQ_REL, LOQ_RPTR_WRITE, LOQ_LBDATA, PEAK_CLR, RECOMP, GAP_CLR, EST_NOW and LRN_NOW. Along a path that
exists and may write the register, each action has its effect: a link that is up retrains; a posted entry is
freed by its handle; HEAD advances over consumed entries; the word at OFF is stored and OFF advances; PEAK
takes HELD; a recomputation starts; GAP clears; an estimate falls due; the learned values are written. (R69,
R149, R186, R365, R378, R505, R512, R513, R514) -/
def Obligations.RegisterActionsOfQueuesLedgerAndGauge : Prop :=
  (∀ (s : State) (path : Path) (port : Nat),
      s.pathUp path = true → s.mayWrite path (R.HP_CTL_RETRAIN.base + port * 0x40000) = true → port < 2 →
      s.regAbsent (R.HP_CTL_RETRAIN.base + port * 0x40000) = false → s.rd R.HP_STAT_LINK port = 2 →
      exec (.retrain path port) s = .next (s.after
        (s.fresh.wr R.HP_STAT_LINK 4 port))) ∧
  (∀ (s : State) (path : Path) (handle : Nat),
      s.pathUp path = true → s.mayWrite path R.LOQ_REL_HANDLE.base = true → handle < 65536 →
      (s.loqEnt (handle % 256)).used = true → (s.loqEnt (handle % 256)).posted = true →
      (s.loqEnt (handle % 256)).gen = handle / 256 →
      exec (.loqRel path handle) s = .next (s.after
        (s.fresh.setLoqEnt (handle % 256) { s.loqEnt (handle % 256) with used := false, record := [] }))) ∧
  (∀ (s : State) (path : Path) (ring head : Nat),
      s.pathUp path = true → s.mayWrite path (R.LOQ_RPTR_HEAD.base + 4 * ring) = true → ring < 2 → head < 64 →
      (head + 64 - s.rd R.LOQ_RPTR_HEAD ring) % 64 ≤ s.ringCnt ring →
      exec (.loqRptrWrite path ring head) s = .next (s.after
        ((s.fresh.wr R.LOQ_RPTR_HEAD head ring).setRingCnt ring (s.ringCnt ring - (head + 64 - s.rd R.LOQ_RPTR_HEAD ring) % 64)))) ∧
  (∀ (s : State) (path : Path) (word : Nat),
      s.pathUp path = true → s.mayWrite path R.LOQ_LBDATA_DATA.base = true → s.bufBusy = false →
      exec (.loqLbdata path word) s = .next (s.after
        ((s.fresh.lbWrite (s.rd R.LOQ_LBOFF_OFF) [word]).wr R.LOQ_LBOFF_OFF (s.rd R.LOQ_LBOFF_OFF + 1)))) ∧
  (∀ (s : State) (path : Path),
      s.pathUp path = true → s.mayWrite path R.TRK_CLR_PEAK_CLR.base = true →
      exec (.peakClr path) s = .next (s.after
        (s.fresh.wr R.TRK_PEAK_PEAK (s.rd R.TRK_HELD_HELD)))) ∧
  (∀ (s : State) (path : Path),
      s.pathUp path = true → s.mayWrite path R.LDG_CTL_RECOMP.base = true → s.ledger.stopped = false →
      s.ledger.running = none →
      exec (.recomp path) s = .next (s.after
        ({ s.fresh with ledger := { s.ledger with running := some false } }))) ∧
  (∀ (s : State) (path : Path),
      s.pathUp path = true → s.mayWrite path R.LDG_CTL_RECOMP.base = true →
      exec (.gapClr path) s = .next (s.after
        (s.fresh.wr R.LDG_GAP_GAP 0))) ∧
  (∀ (s : State) (path : Path),
      s.pathUp path = true → s.mayWrite path R.GAU_CTL_EST_NOW.base = true →
      exec (.estNow path) s = .next (s.after
        ({ s.fresh with gau := { s.gau with estDue := true } }))) ∧
  (∀ (s : State) (path : Path),
      s.pathUp path = true → s.mayWrite path R.GAU_CTL_EST_NOW.base = true → s.seq.main = true → s.cvn.code = 0 →
      exec (.lrnNow path) s = .next (s.after
        (let l : Learned := { s.gau.learned with soc := s.rd R.GAU_SOC_SOC }; (({ s.fresh with gau := { s.gau with learned := l, lvFlash := some l, lrnDue := false } }).lvAppend).wr R.GAU_LRNT_TICK s.tick)))

/-- OFF, FORCE, SEQ_CTL_FLT_CLR, TWI_CTL_FLT_CLR, WARM, CFL_CLAIM, CFL_RELEASE, WP_LOCK, PUSH, CFL_CRHEAD_WRITE,
EVR_SEL_WRITE, ADV, FWU_ABORT and FWU_DDATA_WRITE. Along a path that exists and may write the register, each
action has its effect: the rails go down, before memory is ready or forced; SEQ_FLT_N is released; a faulted
two-wire port begins to clear its bus; a warm reset begins outside a save and an activation; a free bank is
granted and an owner releases it; WP_LOCK is taken from MC0; a sound descriptor of the owner is queued; the
completion head advances; a record is selected and the selection advances; an open download is abandoned; a
word of a download is taken and OFF advances. (R390, R396, R416, R424, R427, R429, R435, R452, R468, R472,
R473, R505) -/
def Obligations.RegisterActionsOfPowerResetAndTransfers : Prop :=
  (∀ (s : State) (path : Path),
      s.pathUp path = true → s.mayWrite path R.SEQ_CTL_OFF.base = true → s.on R.CVN_STAT_READY = false →
      exec (.off path) s = .next (s.after
        (s.fresh.startDown))) ∧
  (∀ (s : State) (path : Path),
      s.pathUp path = true → s.mayWrite path R.SEQ_CTL_OFF.base = true →
      exec (.force path) s = .next (s.after
        (s.fresh.startDown))) ∧
  (∀ (s : State) (path : Path),
      s.pathUp path = true → s.mayWrite path R.SEQ_CTL_OFF.base = true → s.on R.SEQ_STAT_FLT_DRV = true →
      exec (.seqCtlFltClr path) s = .next (s.after
        (s.fresh.fltRelease))) ∧
  (∀ (s : State) (path : Path) (port : Nat),
      s.pathUp path = true → s.mayWrite path (R.TWI_CTL_FLT_CLR.base + port * 0x1000) = true → port < 2 →
      s.rd R.TWI_STAT_STATE port = 5 →
      exec (.twiCtlFltClr path port) s = .next (s.after
        ((s.fresh.wr R.TWI_STAT_CLR_TRY 0 port).xferIdle port))) ∧
  (∀ (s : State) (path : Path),
      s.pathUp path = true → s.mayWrite path R.BST_CTL_WARM.base = true → path = Path.core 3 →
      s.boot.inReset = false → s.boot.warm = false → s.cvn.code = 0 → s.fwu.act = 0 →
      exec (.warm path) s = .next (s.after
        (s.fresh.warmBegin 0))) ∧
  (∀ (s : State) (path : Path) (bank w : Nat),
      s.pathUp path = true → s.mayWrite path (R.CFL_OWN_CLAIM.base + 4 * bank) = true → bank < 2 →
      cflWho path = some w → s.rd R.CFL_OWN_OWNER bank = 0 →
      exec (.cflClaim path bank) s = .next (s.after
        ((s.fresh.wr R.CFL_OWN_OWNER w bank).emit (.granted w bank)))) ∧
  (∀ (s : State) (path : Path) (bank : Nat),
      s.pathUp path = true → s.mayWrite path (R.CFL_OWN_CLAIM.base + 4 * bank) = true → bank < 2 →
      cflWho path = some (s.rd R.CFL_OWN_OWNER bank) →
      exec (.cflRelease path bank) s = .next (s.after
        ((s.fresh.wr R.CFL_OWN_OWNER 0 bank).put R.CFL_OWN_OWNER_RESET false bank))) ∧
  (∀ (s : State) (path : Path),
      s.pathUp path = true → s.mayWrite path R.CFL_CTL_WP_LOCK.base = true → path = Path.core 0 →
      exec (.wpLock path) s = .next (s.after
        (s.fresh.put R.CFL_STAT_WP_LOCK true))) ∧
  (∀ (s : State) (path : Path),
      s.pathUp path = true → s.mayWrite path R.CFL_DQPUSH_PUSH.base = true → s.cfl.queue = [] →
      bits (s.rd R.CFL_DQ_WORD 0) 0 4 = 2 → descOk (fun k => s.rd R.CFL_DQ_WORD k) = true →
      cflWho path = some (s.rd R.CFL_OWN_OWNER (bits (s.rd R.CFL_DQ_WORD 1) 0 25 / 2 ^ 24)) →
      exec (.push path) s = .next (s.after
        (let d : CflDesc := { id := s.cfl.next, op := 2, sus := bit (s.rd R.CFL_DQ_WORD 0) 4, tag := bits (s.rd R.CFL_DQ_WORD 0) 16 16, addr := bits (s.rd R.CFL_DQ_WORD 1) 0 25, src := s.rd R.CFL_DQ_WORD 2, count := bits (s.rd R.CFL_DQ_WORD 3) 0 9, ba := bits (s.rd R.CFL_DQ_WORD 3) 9 1, by0 := s.rd R.CFL_OWN_OWNER (bits (s.rd R.CFL_DQ_WORD 1) 0 25 / 2 ^ 24), stage := 0, susps := 0, data := [], status := 0, pulses := 0, endAddr := 0 }; { s.fresh with cfl := { s.cfl with next := s.cfl.next + 1 } }.setDq [d]))) ∧
  (∀ (s : State) (path : Path) (head : Nat),
      s.pathUp path = true → s.mayWrite path R.CFL_CRHEAD_HEAD.base = true → head < 64 →
      (head + 64 - s.rd R.CFL_CRHEAD_HEAD) % 64 ≤ s.cfl.cnt →
      exec (.cflCrheadWrite path head) s = .next (s.after
        (({ s.fresh.wr R.CFL_CRHEAD_HEAD head with cfl := { s.cfl with cnt := s.cfl.cnt - (head + 64 - s.rd R.CFL_CRHEAD_HEAD) % 64 } }).cflDrain))) ∧
  (∀ (s : State) (path : Path) (area index : Nat),
      s.pathUp path = true → s.mayWrite path R.EVR_SEL_AREA.base = true → area ≤ 2 → index < 32 →
      exec (.evrSelWrite path area index) s = .next (s.after
        (((s.fresh.wr R.EVR_SEL_AREA area).wr R.EVR_SEL_INDEX index).evrPrefetch))) ∧
  (∀ (s : State) (path : Path),
      s.pathUp path = true → s.mayWrite path R.EVR_RD_ADV.base = true →
      exec (.adv path) s = .next (s.after
        (s.fresh.evrAdv))) ∧
  (∀ (s : State) (path : Path),
      s.pathUp path = true → s.mayWrite path R.FWU_CTL_ABORT.base = true → s.rd R.FWU_STAT_STATE = 1 →
      s.fwu.waits = [] →
      exec (.fwuAbort path) s = .next (s.after
        (let x : State := { s.fresh with fwu := { s.fwu with waits := [], part := [], blocks := [], erased := [] } }; (((x.wr R.FWU_STAT_STATE 0).wr R.FWU_STAT_OWNER 0).wr R.FWU_DLST_BLOCKS 0).fwUnverified (1 - s.fwu.run)))) ∧
  (∀ (s : State) (path : Path) (word : Nat),
      s.pathUp path = true → s.mayWrite path R.FWU_DDATA_DATA.base = true →
      (s.fwData (fwWho path) (4 * s.rd R.FWU_DOFF_OFF) (leBytes 4 word)).1 = true →
      exec (.fwuDdataWrite path word) s = .next (s.after
        (let x : State := (s.fresh.fwData (fwWho path) (4 * s.rd R.FWU_DOFF_OFF) (leBytes 4 word)).2; x.wr R.FWU_DOFF_OFF (s.rd R.FWU_DOFF_OFF + 1))))

/-- CRC_CLAIM, CRC_RELEASE, INIT, DIN_B, DIN_H and DIN_W. A free engine is granted to the path that claims it and
freed by its owner; INIT with the polynomial in force sets the initial value and LEN 0; data is fed least
significant byte first and LEN counts the bytes. (R358, R360, R361, R362, Table 12-1) -/
def Obligations.CheckEngines : Prop :=
  (∀ (s : State) (path : Path) (eng : Nat),
      s.pathUp path = true → s.mayWrite path (geReg eng 0) = true → eng < 8 → s.rd R.CRC_GE_OWN_OWNER eng = 0 →
      path = Path.twi →
      exec (.crcClaim path eng) s = .next (s.after
        ({ s.fresh with buf := { s.buf with crcVia := smSet 0 eng 0 s.buf.crcVia } }.wr R.CRC_GE_OWN_OWNER 6 eng))) ∧
  (∀ (s : State) (path : Path) (eng : Nat),
      s.pathUp path = true → s.mayWrite path (geReg eng 0) = true → eng < 8 →
      s.rd R.CRC_GE_OWN_OWNER eng = geWho path →
      exec (.crcRelease path eng) s = .next (s.after
        (({ s.fresh with buf := { s.buf with crcVia := smSet 0 eng 0 s.buf.crcVia } }.wr R.CRC_GE_OWN_OWNER 0 eng).put R.CRC_GE_OWN_OWNER_RST false eng))) ∧
  (∀ (s : State) (path : Path) (eng poly : Nat),
      s.pathUp path = true → s.mayWrite path (geReg eng 4) = true → eng < 8 →
      s.rd R.CRC_GE_OWN_OWNER eng = geWho path → poly < 4 → s.rd R.CRC_GE_CTL_POLY eng = poly →
      exec (.init path eng poly) s = .next (s.after
        ((s.fresh.wr R.CRC_GE_VAL_VAL (geInit poly) eng).wr R.CRC_GE_LEN_LEN 0 eng))) ∧
  (∀ (s : State) (path : Path) (eng data : Nat),
      s.pathUp path = true → s.mayWrite path (geReg eng 8) = true → eng < 8 →
      s.rd R.CRC_GE_OWN_OWNER eng = geWho path →
      exec (.dinB path eng data) s = .next (s.after
        ((s.fresh.wr R.CRC_GE_VAL_VAL ((leBytes 1 data).foldl (geByte (s.rd R.CRC_GE_CTL_POLY eng)) (s.rd R.CRC_GE_VAL_VAL eng % 2 ^ gePolyW (s.rd R.CRC_GE_CTL_POLY eng))) eng).wr R.CRC_GE_LEN_LEN (s.rd R.CRC_GE_LEN_LEN eng + 1) eng))) ∧
  (∀ (s : State) (path : Path) (eng data : Nat),
      s.pathUp path = true → s.mayWrite path (geReg eng 0xC) = true → eng < 8 →
      s.rd R.CRC_GE_OWN_OWNER eng = geWho path →
      exec (.dinH path eng data) s = .next (s.after
        ((s.fresh.wr R.CRC_GE_VAL_VAL ((leBytes 2 data).foldl (geByte (s.rd R.CRC_GE_CTL_POLY eng)) (s.rd R.CRC_GE_VAL_VAL eng % 2 ^ gePolyW (s.rd R.CRC_GE_CTL_POLY eng))) eng).wr R.CRC_GE_LEN_LEN (s.rd R.CRC_GE_LEN_LEN eng + 2) eng))) ∧
  (∀ (s : State) (path : Path) (eng data : Nat),
      s.pathUp path = true → s.mayWrite path (geReg eng 0x10) = true → eng < 8 →
      s.rd R.CRC_GE_OWN_OWNER eng = geWho path →
      exec (.dinW path eng data) s = .next (s.after
        ((s.fresh.wr R.CRC_GE_VAL_VAL ((leBytes 4 data).foldl (geByte (s.rd R.CRC_GE_CTL_POLY eng)) (s.rd R.CRC_GE_VAL_VAL eng % 2 ^ gePolyW (s.rd R.CRC_GE_CTL_POLY eng))) eng).wr R.CRC_GE_LEN_LEN (s.rd R.CRC_GE_LEN_LEN eng + 4) eng)))

/-- MGMT_REGISTER_WRITE, RWS_APPLY_BOUNDARY, REGISTER_READ, REGISTER_WRITE, LONG_OPERATION_ISSUE and
COMPLETION_RING_READ. An aligned write of 32 bits along a path that exists and may write is taken by the
fields of its word; a boundary applies the pending fields of its block; the vendor messages of TWI0 read
words, write one, issue on slot 1 and take entries of ring 1, each with its status. (R15, R17, R18, R20,
R72, R505, R506, R537, Table 21-3) -/
def Obligations.RegisterWritesAndApplyBoundaries : Prop :=
  (∀ (s : State) (path : Path) (addr value : Nat),
      s.pathUp path = true → s.mayWrite path addr = true → addr % 4 = 0 →
      exec (.mgmtRegisterWrite path 4 addr value) s = .next (s.after
        (s.fresh.regTake path addr (value % 2 ^ 32)))) ∧
  (∀ (s : State) (elem : Nat),
      elem < 8 →
      exec (.rwsApplyBoundary .dchCtl elem) s = .next (s.after
        ((s.fresh.applyRws R.DCH_CTL_WR_HI elem).applyRws R.DCH_CTL_WR_LO elem))) ∧
  (∀ (s : State) (addr count : Nat),
      s.mctpNow = true → addr % 4 = 0 → 1 ≤ count → count ≤ 16 → addr < 0x4000000 →
      blockOf addr = blockOf (addr + 4 * count - 1) → blockOf addr ≠ 2 →
      exec (.registerRead addr count) s = .next (s.after
        ((s.fresh.readWords addr count).1.emit (.twi 0 (s.fresh.readWords addr count).2)))) ∧
  (∀ (s : State) (addr value : Nat),
      s.mctpNow = true → addr % 4 = 0 → s.mayWrite .twi addr = true →
      exec (.registerWrite addr value) s = .next (s.after
        ((s.fresh.doMgmtRegisterWrite .twi 4 addr value).emit (.twi 0 [])))) ∧
  (∀ (s : State) (op : Nat) (args : List Nat),
      s.mctpNow = true → (s.fresh.issueBy 1 op args true).on R.LOQ_ISS_RES_REFUSED 1 = false →
      exec (.longOperationIssue op args) s = .next (s.after
        ((s.fresh.issueBy 1 op args true).emit (.twi 0 [(s.fresh.issueBy 1 op args true).resWord 1])))) ∧
  (∀ (s : State) (count : Nat),
      s.mctpNow = true → 1 ≤ count → count ≤ 16 →
      exec (.completionRingRead count) s = .next (s.after
        ((s.fresh.ringTake 1 count false).1.emit (.twi 0 (s.fresh.ringTake 1 count false).2))))

/-- DRAM_COMMAND_SLOT. On a subchannel in service, what waits for room enters the bank queues; then the slot leaves
power-down if a request waits; else the first due refresh-management command issues, else the first column
command, else an activate or the precharge of a row in conflict, else the precharge of an idle row, else a
scrub read. (R115, R119, R121, R123, R125, R136) -/
def Obligations.DramCommandSlotRules : Prop :=
  (∀ (s : State) (way : Nat) (blocked idleRows : List Nat),
      s.wayUp way = true → bit (s.fresh.slotRoom way).dram.pdown way = true →
      ((s.fresh.slotRoom way).wayQ way).isEmpty = false →
      exec (.dramCommandSlot way blocked idleRows) s = .next (s.after
        (let x : State := s.fresh.slotRoom way; { x with dram := { x.dram with pdown := setBitTo x.dram.pdown way false } }.dramCmd way 9 []))) ∧
  (∀ (s : State) (way : Nat) (blocked idleRows : List Nat) (k : Nat),
      s.wayUp way = true → bit (s.fresh.slotRoom way).dram.pdown way = false →
      (s.fresh.slotRoom way).rfmPick way blocked = some k →
      (s.fresh.slotRoom way).on R.DCH_REF_RFM_REQ (way / 2) = false →
      exec (.dramCommandSlot way blocked idleRows) s = .next (s.after
        (let x : State := s.fresh.slotRoom way; { x with dram := { x.dram with rfmDue := smUpd 0 k (· - 1) x.dram.rfmDue, openRow := smSet 0 k 0 x.dram.openRow, hits := smSet 0 k 0 x.dram.hits, rfmHold := x.dram.rfmHold.filter (fun (y : Nat) => decide (y ≠ k)) } }.dramCmd way 1 [k]))) ∧
  (∀ (s : State) (way : Nat) (blocked idleRows : List Nat) (r : DReq),
      s.wayUp way = true → bit (s.fresh.slotRoom way).dram.pdown way = false →
      (s.fresh.slotRoom way).rfmPick way blocked = none → (s.fresh.slotRoom way).colPick way blocked = some r →
      exec (.dramCommandSlot way blocked idleRows) s = .next (s.after
        (let x : State := s.fresh.slotRoom way; x.column r))) ∧
  (∀ (s : State) (way : Nat) (blocked idleRows : List Nat) (r : DReq),
      s.wayUp way = true → bit (s.fresh.slotRoom way).dram.pdown way = false →
      (s.fresh.slotRoom way).rfmPick way blocked = none → (s.fresh.slotRoom way).colPick way blocked = none →
      (s.fresh.slotRoom way).rowPick way blocked = some r → smGet 0 (s.fresh.slotRoom way).dram.openRow r.key = 0 →
      r.src ≠ DSrc.migrate →
      exec (.dramCommandSlot way blocked idleRows) s = .next (s.after
        (let x : State := s.fresh.slotRoom way; { x with dram := { x.dram with rot := smSet 0 r.way (r.bank + 1) x.dram.rot } }.activate r))) ∧
  (∀ (s : State) (way : Nat) (blocked idleRows : List Nat) (r : DReq),
      s.wayUp way = true → bit (s.fresh.slotRoom way).dram.pdown way = false →
      (s.fresh.slotRoom way).rfmPick way blocked = none → (s.fresh.slotRoom way).colPick way blocked = none →
      (s.fresh.slotRoom way).rowPick way blocked = some r → smGet 0 (s.fresh.slotRoom way).dram.openRow r.key ≠ 0 →
      r.src ≠ DSrc.migrate →
      exec (.dramCommandSlot way blocked idleRows) s = .next (s.after
        (let x : State := s.fresh.slotRoom way; { x with dram := { x.dram with rot := smSet 0 r.way (r.bank + 1) x.dram.rot } }.precharge way r.key))) ∧
  (∀ (s : State) (way : Nat) (blocked idleRows : List Nat) (k : Nat),
      s.wayUp way = true → bit (s.fresh.slotRoom way).dram.pdown way = false →
      (s.fresh.slotRoom way).rfmPick way blocked = none → (s.fresh.slotRoom way).colPick way blocked = none →
      (s.fresh.slotRoom way).rowPick way blocked = none →
      idleRows.find? (fun k => decide (k / 1024 = way) && decide (smGet 0 (s.fresh.slotRoom way).dram.openRow k ≠ 0) && !blocked.contains k) = some k →
      exec (.dramCommandSlot way blocked idleRows) s = .next (s.after
        (let x : State := s.fresh.slotRoom way; x.precharge way k))) ∧
  (∀ (s : State) (way : Nat) (blocked idleRows : List Nat),
      s.wayUp way = true → bit (s.fresh.slotRoom way).dram.pdown way = false →
      (s.fresh.slotRoom way).rfmPick way blocked = none → (s.fresh.slotRoom way).colPick way blocked = none →
      (s.fresh.slotRoom way).rowPick way blocked = none →
      idleRows.find? (fun k => decide (k / 1024 = way) && decide (smGet 0 (s.fresh.slotRoom way).dram.openRow k ≠ 0) && !blocked.contains k) = none →
      exec (.dramCommandSlot way blocked idleRows) s = .next (s.after
        (let x : State := s.fresh.slotRoom way; x.scrubRead way blocked)))

/-- REFRESH_DUE, REFRESH_WINDOW_END, POWER_DOWN_ENTRY, SPD_THERMAL_READ, SCRUB_PERIOD_END, DQS_INTERVAL,
ZQ_CALIBRATION, READ_CENTERING and CA_PARITY_ERROR. A refresh takes the slot, an all-bank one closes every
row of its subchannel and applies the write thresholds, a same-bank one closes the rows of one bank address;
the end of a refresh window clears the row-group counts and releases a limit held for RD_HOLD windows; an
idle subchannel enters power-down; REF2X follows the sensors; a late scrub pass sets LATE; the write DQS
delay moves above DQS_TOL; a third failure of read centering, and a parity error that two retries do not
clear, start the retirement of the rank. (R18, R119, R121, R122, R124, R126, R131, R133, R135) -/
def Obligations.DramRefreshAndTraining : Prop :=
  (∀ (s : State) (way ba postponed : Nat),
      s.wayUp way = true → s.on R.DCH_REF_RFM_REQ (way / 2) = false → smGet 0 s.dram.trnDue way = 0 →
      s.ap R.DCH_REF_REF_SB_EN (way / 2) = 0 →
      exec (.refreshDue way ba postponed) s = .next (s.after
        (let x : State := { s.fresh with dram := { s.dram with pdown := setBitTo s.dram.pdown way false, openRow := smErase (fun (k : Nat) => decide (k / 1024 = way)) s.dram.openRow, hits := smErase (fun (k : Nat) => decide (k / 1024 = way)) s.dram.hits } }.dramCmd way 0 [1]; (((x.applyRws R.DCH_CTL_WR_HI (way / 2)).applyRws R.DCH_CTL_WR_LO (way / 2)).wr R.DCH_REF_POSTPONED (min (min postponed (Config.refPostponeMax false (s.on R.DCH_STAT_REF2X (way / 2)))) 15) (way / 2)).drainRefresh way))) ∧
  (∀ (s : State) (way ba postponed : Nat),
      s.wayUp way = true → s.on R.DCH_REF_RFM_REQ (way / 2) = false → smGet 0 s.dram.trnDue way = 0 →
      s.ap R.DCH_REF_REF_SB_EN (way / 2) ≠ 0 → bit s.dram.sbRef (way / 2) = true →
      exec (.refreshDue way ba postponed) s = .next (s.after
        (let x : State := { s.fresh with dram := { s.dram with pdown := setBitTo s.dram.pdown way false, openRow := smErase (fun (k : Nat) => decide (k / 1024 = way) && decide (k % 4 = ba % 4)) s.dram.openRow, hits := smErase (fun (k : Nat) => decide (k / 1024 = way) && decide (k % 4 = ba % 4)) s.dram.hits, sbNext := smSet 0 way ((ba % 4 + 1) % 4) (smSet 0 way (ba % 4) s.dram.sbNext) } }.dramCmd way 0 [0, ba % 4]; (x.wr R.DCH_REF_POSTPONED (min (min postponed (Config.refPostponeMax true (s.on R.DCH_STAT_REF2X (way / 2)))) 15) (way / 2)).drainRefresh way))) ∧
  (∀ (s : State) (way : Nat),
      s.wayUp way = true → s.dram.quiet = [] → s.dram.ovfQuiet = 0 →
      exec (.refreshWindowEnd way) s = .next (s.after
        ({ s.fresh with dram := { s.dram with groups := smErase (fun k => decide (k / 1024 = way)) s.dram.groups } }.applyRws R.DCH_REF_REF_SB_EN (way / 2)))) ∧
  (∀ (s : State) (way : Nat),
      way < 16 → s.wayUp way = true → s.dram.quiet = [] → s.dram.ovfQuiet = 16 * s.rd R.DRM_RDD_RD_HOLD + way + 1 →
      exec (.refreshWindowEnd way) s = .next (s.after
        (({ s.fresh with dram := { s.dram with groups := smErase (fun k => decide (k / 1024 = way)) s.dram.groups, ovfQuiet := 0 } }.put R.DRM_RDOVF_OVF_ACT false).applyRws R.DCH_REF_REF_SB_EN (way / 2)))) ∧
  (∀ (s : State) (way : Nat),
      s.wayUp way = true → bit s.dram.pdown way = false → s.dram.caravan = false →
      s.rd R.DCH_CTL_PD_IDLE (way / 2) ≠ 0 → s.wayQ way = [] → s.rfmPick way [] = none →
      exec (.powerDownEntry way) s = .next (s.after
        ({ s.fresh with dram := { s.dram with pdown := setBitTo s.dram.pdown way true } }.dramCmd way 8 []))) ∧
  (∀ (s : State) (hot : List Nat),
      exec (.spdThermalRead hot) s = .next (s.after
        ((List.range 8).foldl (fun (x : State) (c : Nat) => if x.wayUp (2 * c) then x.put R.DCH_STAT_REF2X (decide (3 ≤ s.rd R.TWI_STAT_STATE 1) || hot.contains c) c else x) s.fresh))) ∧
  (∀ (s : State),
      s.on R.DRM_SCRUB_EN = true → s.dram.scrubDone = false →
      s.dram.scrubFrom + s.ap R.DRM_SCRUB_PER * 3600 * 32768 ≤ s.tick →
      exec .scrubPeriodEnd s = .next (s.after
        (s.fresh.put R.DRM_SCRUBST_LATE true))) ∧
  (∀ (s : State) (chan rank drift : Nat),
      s.trains chan rank = true → s.on R.DCH_TRN_DQS_EN chan = true →
      s.tick < smGet 0 s.dram.driftFrom chan + 32768 → s.rd R.DCH_TRN_DQS_TOL chan < drift →
      exec (.dqsInterval chan rank drift) s = .next (s.after
        (let x : State := (s.fresh.trainDue chan).wr R.DCH_TRNST_MAX_DRIFT (min 255 (max drift (s.rd R.DCH_TRNST_MAX_DRIFT chan))) chan; { x with dram := { x.dram with dqs := smUpd 0 (4 * chan + rank) (· + drift) x.dram.dqs } }.inc R.DCH_TRNST_ADJ_CNT chan))) ∧
  (∀ (s : State) (chan rank : Nat),
      s.trains chan rank = true →
      exec (.zqCalibration chan rank) s = .next (s.after
        (s.fresh.trainDue chan))) ∧
  (∀ (s : State) (chan rank : Nat),
      s.trains chan rank = true →
      exec (.readCentering chan rank true) s = .next (s.after
        (let x : State := (s.fresh.trainDue chan).wr R.DCH_TRNST_CTR_FAIL (setBitTo (s.rd R.DCH_TRNST_CTR_FAIL chan) rank false) chan; { x with dram := { x.dram with ctrFail := smSet 0 (4 * chan + rank) 0 x.dram.ctrFail } }))) ∧
  (∀ (s : State) (chan rank : Nat),
      s.trains chan rank = true → smGet 0 s.dram.ctrFail (4 * chan + rank) = 2 →
      exec (.readCentering chan rank false) s = .next (s.after
        (let x : State := (s.fresh.trainDue chan).wr R.DCH_TRNST_CTR_FAIL (setBitTo (s.rd R.DCH_TRNST_CTR_FAIL chan) rank true) chan; { x with dram := { x.dram with ctrFail := smSet 0 (4 * chan + rank) 0 x.dram.ctrFail } }.retireRank chan rank none))) ∧
  (∀ (s : State) (chan rank : Nat),
      s.wayUp (2 * chan) = true → rank < s.ranksOf chan →
      exec (.caParityError chan rank true) s = .next (s.after
        (s.fresh.dramCmd (2 * chan) 10 [rank]))) ∧
  (∀ (s : State) (chan rank : Nat),
      s.wayUp (2 * chan) = true → rank < s.ranksOf chan →
      exec (.caParityError chan rank false) s = .next (s.after
        ((s.fresh.dramCmd (2 * chan) 10 [rank]).retireRank chan rank none)))

/-- DRAM_READ_DATA and MIGRATION_UNIT_DONE. The data of a clean read goes to its request; a corrected line is
written back and counted for its rank; an uncorrectable line completes its request with poison and no data,
and takes a poison mark; a line with a poison mark completes its request with poison whatever the code
finds, and is no error; a migration whose unit has been read and written advances its watermark by a unit,
and at the last unit the spare stands for the rank. (R127, R128, R129, R130, R136, R137, R140) -/
def Obligations.DramReadDataAndMigration : Prop :=
  (∀ (s : State) (id : Nat) (x : DReq) (q : Nat) (y : Req),
      s.dram.reading.find? (fun (y : DReq) => decide (y.id = id)) = some x → x.psn = false →
      s.lineLost x.line = false → x.src = DSrc.host q → s.req q = some y → s.isOffline x.line = false →
      exec (.dramReadData id .clean) s = .next (s.after
        (let z : State := { s.fresh with dram := { s.dram with reading := s.dram.reading.filter (fun (y : DReq) => decide (y.id ≠ id)) } }.finishRead y x.data false; if z.host.cxlHold then z else z.goAll))) ∧
  (∀ (s : State) (id : Nat) (x : DReq),
      s.dram.reading.find? (fun (y : DReq) => decide (y.id = id)) = some x → x.psn = false →
      s.lineLost x.line = false → x.src = DSrc.scrub →
      exec (.dramReadData id .corrected) s = .next (s.after
        (let z : State := ({ s.fresh with dram := { s.dram with reading := s.dram.reading.filter (fun (y : DReq) => decide (y.id ≠ id)) } }.rewriteLine x.line).corrected (x.way / 2) (x.drank / 8); if z.host.cxlHold then z else z.goAll))) ∧
  (∀ (s : State) (id : Nat) (x : DReq) (q : Nat) (y : Req),
      s.dram.reading.find? (fun (y : DReq) => decide (y.id = id)) = some x → x.psn = false →
      s.lineLost x.line = false → x.src = DSrc.host q → s.req q = some y → s.isOffline x.line = false →
      exec (.dramReadData id .uncorrectable) s = .next (s.after
        (let z : State := ({ s.fresh with dram := { s.dram with reading := s.dram.reading.filter (fun (y : DReq) => decide (y.id ≠ id)) } }.finishRead y [] true).uncorrectable (x.way / 2) (x.drank / 8) x.line; if z.host.cxlHold then z else z.goAll))) ∧
  (∀ (s : State) (id : Nat) (err : EccResult) (x : DReq) (q : Nat) (y : Req),
      s.dram.reading.find? (fun (y : DReq) => decide (y.id = id)) = some x → x.psn = true → x.src = DSrc.host q →
      s.req q = some y → s.isOffline x.line = false →
      exec (.dramReadData id err) s = .next (s.after
        (let z : State := { s.fresh with dram := { s.dram with reading := s.dram.reading.filter (fun (y : DReq) => decide (y.id ≠ id)) } }.finishRead y [] true; if z.host.cxlHold then z else z.goAll))) ∧
  (∀ (s : State) (chan : Nat) (m : Migr),
      smGet none (s.dram.migr.map (fun (e : Nat × Migr) => (e.1, some e.2))) chan = some m →
      s.wayUp (2 * chan) = true → s.dram.caravan = false → m.begun = true → m.todo = [] → m.back = [] →
      m.flying = [] → m.units < 2 ^ R.DCH_MIGW_W.wd → s.rd R.DCH_MIGW_W chan + 1 < m.units →
      exec (.migrationUnitDone chan (s.rd R.DCH_MIGW_W chan)) s = .next (s.after
        (let y : State := { s.fresh with dram := { s.dram with migr := s.dram.migr.map (fun (e : Nat × Migr) => if e.1 = chan then (chan, { m with begun := false, todo := [], back := [], flying := [] }) else e) } }.wr R.DCH_MIGW_W (s.rd R.DCH_MIGW_W chan + 1) chan; if y.host.cxlHold then y else y.goAll))) ∧
  (∀ (s : State) (chan : Nat) (m : Migr),
      smGet none (s.dram.migr.map (fun (e : Nat × Migr) => (e.1, some e.2))) chan = some m →
      s.wayUp (2 * chan) = true → s.dram.caravan = false → m.begun = true → m.todo = [] → m.back = [] →
      m.flying = [] → m.units < 2 ^ R.DCH_MIGW_W.wd → s.rd R.DCH_MIGW_W chan + 1 = m.units → m.loq = none →
      exec (.migrationUnitDone chan (s.rd R.DCH_MIGW_W chan)) s = .next (s.after
        (let y : State := { s.fresh with dram := { s.dram with migr := s.dram.migr.map (fun (e : Nat × Migr) => if e.1 = chan then (chan, { m with begun := false, todo := [], back := [], flying := [] }) else e) } }.wr R.DCH_MIGW_W (s.rd R.DCH_MIGW_W chan + 1) chan; let z : State := { y with dram := { y.dram with migr := y.dram.migr.filter (fun (e : Nat × Migr) => decide (e.1 ≠ chan)), retired := smSet 0 (4 * chan + m.rank) 2 y.dram.retired, q := y.dram.q.map (fun (x : DReq) => if x.way / 2 = chan ∧ x.drank / 8 = m.rank then { x with drank := 8 * y.spareRank chan + x.drank % 8 } else x) } }; let x : State := ((z.put R.DCH_MIG_BUSY false chan).wr R.DCH_RANK_STATE 2 chan m.rank).rankEvent 0 1 chan m.rank; if x.host.cxlHold then x else x.goAll)))

/-- DRIFT_TAKE, DRIFT_READ_DONE, CONFIRMATION and COPY_PROGRAM_FAILURE. A take gives the next page its own GEN and a
copy-table entry, spends 256 tokens and starts the read of its lines; a blocked take moves the scan pointer
to the next region; the end of the read fixes the copy, assigns its slot and issues the program; a
confirmation points the fine map at the slot and the page leaves the held set, or stays when redirtied; a
failed program returns the page to Dirty and schedules its superblock. (R149, R150, R154, R157, R158, R159,
R160, R162) -/
def Obligations.DriftCopies : Prop :=
  (∀ (s : State) (p r : Nat),
      s.driftRuns = true → s.trk.copy.length < 65536 → 256 ≤ s.drift.tokens → s.bufGrants 2 = true →
      s.buf.wait.any (fun (e : Nat × Nat) => decide (e.1 = 2)) = false → s.driftPick = some (p, some r) →
      exec .driftTake s = .next (s.after
        (let x : State := s.fresh.drawGen.2.pageTake p s.fresh.drawGen.1 0; let n : Nat := if (x.freshPages (fun p => decide (regionOf p = r))).isEmpty then (r + 1) % cdiv x.hostPages 2048 else r; (({ x with drift := { x.drift with tokens := x.drift.tokens - 256, scan := n } }.wr R.DFT_STAT_STATE 2).pageStart (pageIo (.drift p) false (p * 4096) x.driftUrg 0)).driftIdle))) ∧
  (∀ (s : State) (p : Nat),
      s.driftRuns = true → s.trk.copy.length < 65536 → 256 ≤ s.drift.tokens → s.bufGrants 2 = true →
      s.buf.wait.any (fun (e : Nat × Nat) => decide (e.1 = 2)) = false → s.driftPick = some (p, none) →
      exec .driftTake s = .next (s.after
        (let x : State := s.fresh.drawGen.2.pageTake p s.fresh.drawGen.1 0; (({ x with drift := { x.drift with tokens := x.drift.tokens - 256 } }.wr R.DFT_STAT_STATE 2).pageStart (pageIo (.drift p) false (p * 4096) 7 0)).driftIdle))) ∧
  (∀ (s : State) (p r : Nat),
      s.driftRuns = true → s.drift.tokens < 256 → s.driftPick = some (p, some r) →
      exec .driftTake s = .next (s.after
        ({ s.fresh with drift := { s.drift with scan := (r + 1) % cdiv s.hostPages 2048 } }.driftIdle))) ∧
  (∀ (s : State) (page : Nat) (j : PageIo) (c : CopyEnt) (a : Nat),
      s.pageJob (DSrc.drift page) = some j → j.done = true → s.copyAt page = some c →
      (s.fresh.assign 0 1).1 = some a →
      exec (.driftReadDone page) s = .next (s.after
        (let x : State := (s.fresh.assign 0 1).2; let y : State := ((x.setSlot a (some { kind := 0x01, key := page, gen := c.gen, data := j.data, md := [], marks := j.marks })).setCopy page (some { c with read := true, slot := a, prog := 1 })).pageDrop (DSrc.drift page); y.fIssue (addrDie a) .program 3 false (y.sbOf a) a (.drift page) j.buf))) ∧
  (∀ (s : State) (page : Nat) (c : CopyEnt),
      s.copyAt page = some c → c.prog = 2 → c.discard = false →
      exec (.confirmation page) s = .next (s.after
        (let x : State := ((s.fresh.setImg page c.slot).pageConfirm page).addSat R.DFT_CONF_CONF 1; { x with drift := { x.drift with confNow := x.drift.confNow + 1, redirtyNow := x.drift.redirtyNow + b2n c.redirty } }))) ∧
  (∀ (s : State) (page : Nat) (c : CopyEnt),
      s.copyAt page = some c → c.prog = 2 → c.discard = true →
      exec (.confirmation page) s = .next (s.after
        (let x : State := ((s.fresh.setSlot c.slot none).pageConfirm page).addSat R.DFT_CONF_CONF 1; { x with drift := { x.drift with confNow := x.drift.confNow + 1, redirtyNow := x.drift.redirtyNow + b2n c.redirty } }))) ∧
  (∀ (s : State) (page : Nat) (c : CopyEnt),
      s.copyAt page = some c → c.prog = 3 →
      (s.sb (s.sbOf c.slot)).retireNext.contains (addrDie c.slot / 128) = false →
      exec (.copyProgramFailure page) s = .next (s.after
        (let b : SbSt := s.sb (s.sbOf c.slot); (((((s.fresh.setSlot c.slot none).setSb (s.sbOf c.slot) { b with retireNext := b.retireNext ++ [addrDie c.slot / 128] }).rewriteSched (s.sbOf c.slot)).pageFail page)).inc R.DFT_PFAIL_PFAIL)))

/-- EPOCH_BOUNDARY, SEGMENT_TIMEOUT, RSAVE_RECOMPUTE, PACING_TICK and SNAPSHOT_COMPLETE. An epoch numbers itself,
marks the regions that reached the minimum age and applies EPOCH; an idle image segment is filled with pads
to its stripe, stream by stream; R_save is recomputed, and the ledger at once where no tick of its own is
next; a run of the loop writes U, F, I and the error and gives the tokens of the tick; a complete snapshot
is the newest and its vector the reference. (R18, R154, R161, R166, R168, R169, R170, R173, R176, R499) -/
def Obligations.DriftEpochsPacingAndSnapshots : Prop :=
  (∀ (s : State),
      s.on R.TRK_STAT_RUN = true → s.trk.epochAt + s.ap R.DFT_AGE_EPOCH ≤ s.tick →
      exec .epochBoundary s = .next (s.after
        (let n : Nat := (s.rd R.TRK_STAT_EPOCH_NOW + 1) % 8; let t : TrkSt := { s.trk with epochAt := s.tick, summary := s.trk.summary.map (fun (e : Nat × Nat) => (e.1, agedAt n (s.rd R.DFT_AGE_MIN_AGE) e.2)) }; ({ s.fresh with trk := t }.wr R.TRK_STAT_EPOCH_NOW n).applyRws R.DFT_AGE_EPOCH))) ∧
  (∀ (s : State) (n : Nat),
      smGet 0 s.ftl.opens 0 = n + 1 → s.stripeSlots (s.sb n) ≠ 0 → (s.sb n).fill % s.stripeSlots (s.sb n) ≠ 0 →
      smGet 0 s.drift.segAt 0 + s.rd R.DFT_SEG_SEG_TMO ≤ s.tick →
      exec .segmentTimeout s = .next (s.after
        ((((List.range (s.stripeSlots (s.sb n) - (s.sb n).fill % s.stripeSlots (s.sb n))).foldl (fun (s : State) (_ : Nat) => s.padSlot 0) s.fresh).segPad 1).segPad 2))) ∧
  (∀ (s : State),
      s.boot.inReset = false → s.tick % 1024 = 1023 →
      exec .rsaveRecompute s = .next (s.after
        (s.fresh.rsaveNow))) ∧
  (∀ (s : State),
      s.boot.inReset = false → s.tick % 1024 ≠ 1023 →
      exec .rsaveRecompute s = .next (s.after
        (s.fresh.rsaveNow.ledgerStart false))) ∧
  (∀ (s : State),
      s.boot.inReset = false → s.rd R.PWR_STAT_STAGE < 3 →
      exec .pacingTick s = .next (s.after
        (let z : State := { s.fresh with drift := { s.drift with ageByp := s.rd R.DFT_PACE_AGE_BYP } }; let p : Pace := pace (s.rd R.LDG_GUAR_G) (s.rd R.TRK_HELD_HELD) s.leaveHeld (s.rd R.DFT_PACE_SETPT) (s.rd R.DFT_PACE_FS) (s.rd R.DFT_GAIN_KP) (s.rd R.DFT_GAIN_KI) (s.rd R.DFT_INT_I) (ofField 18 (s.rd R.DFT_ERR_EN)); let d : Nat := dmaxOf (s.rd R.DFT_RSAVE_RSAVE) (s.rd R.DFT_PACE_CAP); let x : State := ((((z.wr R.DFT_OUT_U p.u).wr R.DFT_FLR_F p.f).wr R.DFT_INT_I p.i).wr R.DFT_ERR_EN (toField 18 p.en)).put R.DFT_STAT_AT_MAX (decide (p.u = 65536)); let y : State := x.wr R.DFT_DMAX_DMAX d; { y with drift := { y.drift with tokens := min (4 * d) (y.drift.tokens + cdiv (y.rd R.DFT_OUT_U * d) 65536) } }.driftIdle))) ∧
  (∀ (s : State) (x : Snap),
      s.drift.snapNow = some x → s.snapFlying x.num = false → x.done = true → s.drift.snapDue = false →
      s.rd R.CVN_STAT_RST_ST = 0 → s.cvn.doneAt ≤ x.tick →
      exec .snapshotComplete s = .next (s.after
        (let w : State := s.fresh.jot 9 [0x03, x.num, x.gen]; let y : State := { w with drift := { s.drift with snapNow := none, snaps := x :: s.drift.snaps.take 1 }, trk := { s.trk with refVec := x.num % 2, refGen := x.gen } }; (((y.wr R.DFT_SNAPST_SIZE x.size).put R.DFT_SNAPST_COARSE (!x.coarse.isEmpty)).wr R.DFT_SNAPT_TICK x.tick).dropSnaps.dropSave)))

/-- LEDGER_PERIODIC_RECOMPUTE, LEDGER_RECOMPUTE_DONE and COUNTDOWN_TICK. At a tick that is a multiple of 1,024 the
windows end, a recomputation starts and a snapshot is due; a recomputation installs the values of R188, then
closes or clears admission, reports a change of G, and a periodic one clears STG_OFF and counts closure; a
tick of a power-failure save takes its energy from the countdown. (R173, R186, R187, R188, R192, R195, R198,
R200, R202) -/
def Obligations.LedgerCommands : Prop :=
  (∀ (s : State),
      s.boot.inReset = false → s.tick % 1024 = 0 → s.cvn.code = 0 →
      exec .ledgerPeriodicRecompute s = .next (s.after
        (({ s.fresh with ledger := { s.ledger with stopped := false } }.driftWindow.ledgerStart true).snapTick))) ∧
  (∀ (s : State),
      s.boot.inReset = false → s.tick % 1024 = 0 → s.cvn.code ≠ 0 →
      exec .ledgerPeriodicRecompute s = .next (s.after
        ((s.fresh.driftWindow.ledgerStart true).snapTick))) ∧
  (∀ (s : State),
      s.ledger.running = some false →
      exec .ledgerRecomputeDone s = .next (s.after
        (let x : State := (s.fresh.install s.recomp).rsvFollow; { x with ledger := { x.ledger with tLast := x.tick } }.closedClear.closedSet.guarEvent.ledgerNext.stgKick))) ∧
  (∀ (s : State),
      s.ledger.running = some true →
      exec .ledgerRecomputeDone s = .next (s.after
        (let x : State := (s.fresh.install s.recomp).rsvFollow; { x with ledger := { x.ledger with tLast := x.tick, rPrev := x.rd R.DFT_RSAVE_RSAVE } }.closedClear.closedSet.guarEvent.ledgerNext.stgOffClear.emCount.stgKick))) ∧
  (∀ (s : State),
      s.on R.LDG_STAT_CDN_ACT = true → s.rd R.CVN_STAT_SAVE_ST = 4 →
      exec .countdownTick s = .next (s.after
        ((s.fresh.sub R.LDG_CDN_CDN (cdiv (s.rd R.LDG_PUSE_P) 32000)).cdnpNow.saveSoc)))

/-- Caravan steps: what 9 commands leave, each from the states that its rules ask for. The commands are
PWR_FAIL_N_LOW, INPUT_RAIL_COLLAPSE, MANIFEST_ISSUED, SAVE_PAGE_ISSUE, SAVE_PROGRAM_DONE,
SAVE_RECORD_CONFIRMED, VALID_MARK_CONFIRMED, TRAILING_DONE and ENERGY_EXHAUSTED. With the sequencer not Off,
the two power-failure triggers start a save of code 1 or 2; every part of the manifest is issued before any
page; the next needed page is issued while R216 allows and a clean one is passed over; a passed program
confirms its page and a failed one is reissued; a confirmed record lets the valid mark be issued, and the
confirmed mark ends a save of code 3 or 4 and begins the trailing pages of a save of code 1 or 2; the rails
go down when nothing is left, and nothing more is written when the energy ends. (R203, R214, R215, R216,
R217, R218, R219, R220, R222, R542, Table 7-6) -/
def Obligations.CaravanSteps : Prop :=
  (∀ (s : State),
      s.seqState ≠ 0 →
      exec .pwrFailNLow s = .next (s.after
        ({ s.fresh with seq := { s.seq with pwrFail := true } }.caravan 1))) ∧
  (∀ (s : State),
      s.seqState = 0 →
      exec .pwrFailNLow s = .next (s.after
        ({ s.fresh with seq := { s.seq with pwrFail := true } }))) ∧
  (∀ (s : State),
      s.seqState ≠ 0 →
      exec .inputRailCollapse s = .next (s.after
        (s.fresh.caravan 2))) ∧
  (∀ (s : State) (m : Manifest),
      s.cvn.building = some m → s.rd R.CVN_STAT_SAVE_ST = 1 →
      exec .manifestIssued s = .next (s.after
        (((List.range m.parts).foldl (fun (s : State) (k : Nat) => s.saveIssue (SaveItem.manifest k) none false) s.fresh).wr R.CVN_STAT_SAVE_ST 2))) ∧
  (∀ (s : State) (p g : Nat) (rest : List SaveItem),
      s.rd R.CVN_STAT_SAVE_ST = 2 → s.cvn.todo = SaveItem.page p g :: rest → s.copyAt p = none →
      s.bufGrants 9 = true → s.dirtyAt p = true → s.saveAllows = true →
      exec .savePageIssue s = .next (s.after
        (s.fresh.savePut (.page p g)))) ∧
  (∀ (s : State) (p g : Nat) (rest : List SaveItem),
      s.rd R.CVN_STAT_SAVE_ST = 2 → s.cvn.todo = SaveItem.page p g :: rest → s.copyAt p = none →
      s.bufGrants 9 = true → s.dirtyAt p = true → s.saveAllows = false →
      exec .savePageIssue s = .next (s.after
        ({ s.fresh with cvn := { s.cvn with stopped := true } }.saveTail))) ∧
  (∀ (s : State) (p g : Nat) (rest : List SaveItem),
      s.rd R.CVN_STAT_SAVE_ST = 2 → s.cvn.todo = SaveItem.page p g :: rest → s.copyAt p = none →
      s.bufGrants 9 = true → s.dirtyAt p = false →
      exec .savePageIssue s = .next (s.after
        (let x : State := { s.fresh with cvn := { s.cvn with todo := rest } }; { x with cvn := { x.cvn with skipped := x.cvn.skipped + 1 } }.deltaNote 0))) ∧
  (∀ (s : State) (k ns lba g : Nat) (d md : List Host.Cell) (rest : List SaveItem),
      s.rd R.CVN_STAT_SAVE_ST = 2 → s.cvn.todo = SaveItem.staged k ns lba g d md :: rest → s.bufGrants 9 = true →
      s.saveAllows = true →
      exec .savePageIssue s = .next (s.after
        (s.fresh.savePut (SaveItem.staged k ns lba g d md)))) ∧
  (∀ (s : State),
      s.rd R.CVN_STAT_SAVE_ST = 2 → s.cvn.todo = [] →
      exec .savePageIssue s = .next (s.after
        (s.fresh.saveTail))) ∧
  (∀ (s : State) (slot : Nat) (x : SaveProg),
      s.cvn.progs.find? (fun (y : SaveProg) => decide (y.slot = slot)) = some x → x.prog = 3 →
      exec (.saveProgramDone slot false) s = .next (s.after
        (s.fresh.saveAgain x))) ∧
  (∀ (s : State) (slot : Nat) (x : SaveProg) (p g : Nat),
      s.cvn.progs.find? (fun (y : SaveProg) => decide (y.slot = slot)) = some x → x.prog = 2 →
      x.item = SaveItem.page p g → (s.copyAt p).any (fun (c : CopyEnt) => c.discard) = false →
      exec (.saveProgramDone slot true) s = .next (s.after
        (((s.fresh.saveDrop x).setImg p x.slot).pageConfirm p))) ∧
  (∀ (s : State) (x : SaveProg),
      s.saveProgOf .record = some x →
      exec .saveRecordConfirmed s = .next (s.after
        (let y : State := s.fresh.saveDrop x; { y with cvn := { y.cvn with record := y.cvn.newRec } }.saveIssue .mark (some (addrDie x.slot)) false))) ∧
  (∀ (s : State) (x : SaveProg),
      s.saveProgOf .mark = some x → s.cvn.code ≤ 2 →
      exec .validMarkConfirmed s = .next (s.after
        (let y : State := s.fresh.saveDrop x; let z : State := { y with cvn := { y.cvn with record := y.cvn.record.map (fun (r : SaveRec) => { r with marked := true }) } }; z.saveSumEnd.wr R.CVN_STAT_SAVE_ST 4))) ∧
  (∀ (s : State) (x : SaveProg),
      s.saveProgOf .mark = some x → 3 ≤ s.cvn.code → s.cvn.progs = [x] →
      exec .validMarkConfirmed s = .next (s.after
        (let y : State := s.fresh.saveDrop x; let z : State := { y with cvn := { y.cvn with record := y.cvn.record.map (fun (r : SaveRec) => { r with marked := true }) } }; z.saveResume))) ∧
  (∀ (s : State),
      s.rd R.CVN_STAT_SAVE_ST = 4 → s.cvn.todo = [] → s.cvn.progs = [] →
      s.flash.ops.all (fun (o : FOp) => decide (o.kind ≠ FKind.program)) = true →
      exec .trailingDone s = .next (s.after
        ((s.fresh.wr R.CVN_STAT_SAVE_ST 5).startDown))) ∧
  (∀ (s : State),
      s.rd R.CVN_STAT_SAVE_ST ≠ 0 →
      exec .energyExhausted s = .next (s.after
        (let x : State := s.fresh.saveTorn.wr R.CVN_STAT_SAVE_ST 5; { x with cvn := { x.cvn with todo := [], progs := [] }, dram := { x.dram with pages := x.dram.pages.filter (fun (j : PageIo) => match j.src with | DSrc.save _ => false | _ => true) } })))

/-- Restore steps: what 9 commands leave, each from the states that its rules ask for. The commands are
RESTORE_MAP_LOAD_DONE, LOSS_COMPUTATION_DONE, MEMORY_READY, BULK_RESTORE_READ_DONE, ON_TOUCH_FETCH_DONE,
BULK_RESTORE_COMPLETE, LOSS_RECORD_REWRITE, PACK_WAIT_END and PACK_WAIT_EXPIRY. The map is the newest slot
of each page, CSEQ is the sequence of the last complete root, and GEN goes above every one found; with
nothing lost the bulk restore begins under the case found; memory becomes ready with an empty snapshot,
tracking from an empty held set and SL3; a page whose read has ended is written to DRAM and the watermark
follows; a fetched page releases its requests; the end of the bulk restore reports losses and counts a dirty
shutdown; the next page of the loss record is read to be rewritten as LRW_SHARE allows. (R224, R225, R226,
R228, R229, R230, R232, R233, R234, R447, R448, R541) -/
def Obligations.RestoreSteps : Prop :=
  (∀ (s : State),
      s.rd R.CVN_STAT_RST_ST = 1 → s.stage = 10 → s.cvn.sanMark = false →
      exec .restoreMapLoadDone s = .next (s.after
        (let x : State := { s.fresh with ftl := { s.ftl with img := s.imgNewest } }.put R.FTL_STAT_MAP_IMG true; (((x.wr R.FTL_CSEQ_CSEQ (match s.ftl.root with | some r => r.seq | none => 0)).wr R.DFT_GEN_GEN (x.maxGen + 1)).saveView).wr R.CVN_STAT_RST_ST 2))) ∧
  (∀ (s : State),
      s.rd R.CVN_STAT_RST_ST = 2 → s.restoreCase = 0 → s.cvn.manifest = none → s.cvn.loss = none →
      s.on R.CVN_STAT_OT = false →
      exec .lossComputationDone s = .next (s.after
        (let x : State := s.fresh.wr R.CVN_STAT_CASE 0; (({ x with cvn := { x.cvn with lost := [], loss := none, sanMark := false, bulkAt := x.tick, bulkNext := 0, got := [] } }.lostRegs).nvmRefresh).wr R.CVN_STAT_RST_ST 4))) ∧
  (∀ (s : State),
      s.on R.CVN_STAT_READY = false → s.stage = 10 → s.rd R.CVN_STAT_RST_ST = 4 → s.hostPages ≤ s.rd R.CVN_RWM_RWM →
      3 ≤ (s.capOf true).1 →
      exec .memoryReady s = .next (s.after
        (let x : State := (s.fresh.emptySnap.put R.CVN_STAT_READY true).put R.TRK_STAT_RUN true; let y : State := { x with trk := { x.trk with gate := !x.on R.ERG_STAT_VOLATILE && !x.on R.FTL_STAT_WITHDRAWN, epochAt := x.tick } }; let z : State := y.clearTracking.setHeld 0 ((y.nvm.stg.filter (fun (e : Nat × StgSt) => e.2.held)).length); let w : State := (((z.wr R.CVN_RTIM_READY_MS (min z.sinceRelease 65535)).wr R.BST_STAT_STAGE 11).setLevel 3).driftStart.account; (if w.trk.gate then w.wr R.LDG_GPUB_G_PUB (w.rd R.LDG_GUAR_G) else w).stgKick.goAll))) ∧
  (∀ (s : State) (page : Nat) (good : Bool) (e : Nat × Bool × Nat),
      s.bulkRuns = true →
      s.cvn.got.find? (fun (e : Nat × Bool × Nat) => decide (e.1 = page) && (e.2.1 == good)) = some e →
      smGet false s.trk.restored page = false → s.pageJob (DSrc.fetch page) = none →
      exec (.bulkRestoreReadDone page good) s = .next (s.after
        (({ s.fresh with cvn := { s.cvn with got := s.cvn.got.filter (fun (x : Nat × Bool × Nat) => decide (x.1 ≠ page)) } }.placePage (DSrc.bulk page) page 1 e.2.2 e.2.1).bulkMark))) ∧
  (∀ (s : State) (page : Nat) (good : Bool) (e : Nat × Bool × Nat),
      s.bulkRuns = true →
      s.cvn.got.find? (fun (e : Nat × Bool × Nat) => decide (e.1 = page) && (e.2.1 == good)) = some e →
      smGet false s.trk.restored page = true →
      exec (.bulkRestoreReadDone page good) s = .next (s.after
        ({ s.fresh with cvn := { s.cvn with got := s.cvn.got.filter (fun (x : Nat × Bool × Nat) => decide (x.1 ≠ page)) } }.bulkMark))) ∧
  (∀ (s : State) (page : Nat),
      s.cvn.fetching.contains page = true → s.fetched page = true →
      exec (.onTouchFetchDone page (decide (s.imgAt page = 0)) (s.isLost page)) s = .next (s.after
        (let x : State := ((s.fresh.pageDrop (DSrc.fetch page)).pageRestored page).inc R.CVN_FETCH_FETCH; ({ x with cvn := { x.cvn with fetching := x.cvn.fetching.filter (fun (y : Nat) => decide (y ≠ page)) }, host := { x.host with trk := x.host.trk.map (fun (r : Req) => if r.stage = TStage.waitFetch ∧ r.dpa / 4096 = page then { r with stage := TStage.waitLine } else r) } }.bulkMark).goAll))) ∧
  (∀ (s : State),
      s.bulkRuns = true → s.hostPages ≤ s.cvn.bulkNext → s.bulkOut = [] → s.on R.CVN_STAT_READY = true →
      exec .bulkRestoreComplete s = .next (s.after
        (let x : State := s.fresh.lossEvents.dirtyCount.nvmLossEvents; let y : State := x.wr R.CVN_RTIM_BULK_DS (min 65535 (cdiv ((x.tick - x.cvn.bulkAt) * 10) 32768)); ({ y with cvn := { y.cvn with doneAt := y.tick } }.wr R.CVN_STAT_RST_ST 5).nsReady))) ∧
  (∀ (s : State) (r : LossRec) (p : Nat),
      s.cvn.loss = some r → s.rd R.CVN_STAT_RST_ST = 5 → s.on R.CVN_STAT_READY = true → s.cvn.code = 0 →
      ((s.fresh.lossTrim r).lrwTokens).rewritePick (s.without (r.gen + 1) r.pages) = some p →
      25600 ≤ ((s.fresh.lossTrim r).lrwTokens).cvn.lrwTok →
      exec .lossRecordRewrite s = .next (s.after
        (let x : State := ((s.fresh.lossTrim r).lrwTokens); { x with cvn := { x.cvn with lrwTok := x.cvn.lrwTok - 25600 } }.imageStart p))) ∧
  (∀ (s : State) (r : LossRec),
      s.cvn.loss = some r → s.rd R.CVN_STAT_RST_ST = 5 → s.on R.CVN_STAT_READY = true → s.cvn.code = 0 →
      ((s.fresh.lossTrim r).lrwTokens).rewritePick (s.without (r.gen + 1) r.pages) = none →
      exec .lossRecordRewrite s = .next (s.after
        (((s.fresh.lossTrim r).lrwTokens)))) ∧
  (∀ (s : State),
      s.stage = 9 → s.boot.inReset = false → s.rd R.GAU_STAT_PSTATE = 1 → s.rd R.LDG_GUAR_G ≠ 0 →
      3 ≤ (s.capOf true).1 →
      exec .packWaitEnd s = .next (s.after
        (((s.fresh.bootSbs.reform.put R.CVN_STAT_OT s.fresh.bootSbs.reform.onTouch).wr R.CVN_STAT_RST_ST 1).wr R.BST_STAT_STAGE 10))) ∧
  (∀ (s : State),
      s.stage = 9 → s.boot.inReset = false → s.boot.packWait ≠ 0 → s.boot.waitAt + s.boot.packWait * 32768 ≤ s.tick →
      exec .packWaitExpiry s = .next (s.after
        (((s.fresh.put R.BST_STAT_PACK_WAIT_EXP true).setBad 5).capRefresh.serveSl2)))

/-- DIE_DISPATCH, FLASH_READ_DONE, DECODE_DONE, FLASH_PROGRAM_DONE, FLASH_ERASE_DONE, SUSPEND, RESUME and
DIE_TIMEOUT. A ready die receives the operation that the ranks pick; the last array read of a step sends the
codeword to decode, and each read is counted; a decode that passes within ITER_MAX returns its result, one
that fails goes to the next step of recovery or to the stripe rebuild; the end of a program and of an erase
is counted with its time and returned; a read suspends a program that has run long enough, which later
resumes; a timeout fails the operation and fences a die that does not answer. (R246, R248, R250, R251, R253,
R256, R260, R261, R281) -/
def Obligations.FlashOperationResults : Prop :=
  (∀ (s : State) (chan die : Nat) (busy : List Nat) (o : FOp),
      s.dieUp (dieKey chan die) = true → (s.die (dieKey chan die)).state ≠ 2 →
      s.dieRunning (dieKey chan die) = none → s.rd R.FCH_STAT_STATE chan = 2 →
      s.diePick (dieKey chan die) busy = some o → s.dieSuspended (dieKey chan die) = none →
      exec (.dieDispatch chan die o.id busy) s = .next (s.after
        ((s.fresh.setFop { o with stage := .running }).opOut o))) ∧
  (∀ (s : State) (id : Nat) (o : FOp),
      s.fop id = some o → o.stage = FStage.running → o.kind = FKind.read → o.src ≠ FSrc.gone → o.left ≤ 1 →
      exec (.flashReadDone id) s = .next (s.after
        (let k : Nat := dieKey o.chan o.die; let d : DieSt := s.die k; let w : State := s.fresh.setDie k { d with reads := satInc 32 d.reads }; let x : State := w.setFop { o with stage := .decoding, left := 0, lane := false }; let b : SbSt := { x.sb o.sb with reads := (x.sb o.sb).reads + 1 }; let y : State := x.setSb o.sb b; let z : State := y.setRef k b.group { y.refAt k b.group with readSince := true }; if 1024 * (if b.native then z.rd R.FTL_RDLIM_RL_NAT else z.rd R.FTL_RDLIM_RL_SLC) < b.reads then z.rewriteSched o.sb else z))) ∧
  (∀ (s : State) (id : Nat) (o : FOp),
      s.fop id = some o → o.stage = FStage.running → o.kind = FKind.read → o.src ≠ FSrc.gone → 1 < o.left →
      exec (.flashReadDone id) s = .next (s.after
        (let k : Nat := dieKey o.chan o.die; let d : DieSt := s.die k; let w : State := s.fresh.setDie k { d with reads := satInc 32 d.reads }; let x : State := w.setFop { o with stage := .queued, left := o.left - 1 }; let b : SbSt := { x.sb o.sb with reads := (x.sb o.sb).reads + 1 }; let y : State := x.setSb o.sb b; let z : State := y.setRef k b.group { y.refAt k b.group with readSince := true }; if 1024 * (if b.native then z.rd R.FTL_RDLIM_RL_NAT else z.rd R.FTL_RDLIM_RL_SLC) < b.reads then z.rewriteSched o.sb else z))) ∧
  (∀ (s : State) (id : Nat) (o : FOp),
      s.fop id = some o → o.stage = FStage.running → o.kind = FKind.read → o.src = FSrc.gone →
      exec (.flashReadDone id) s = .next (s.after
        (let k : Nat := dieKey o.chan o.die; let d : DieSt := s.die k; let w : State := s.fresh.setDie k { d with reads := satInc 32 d.reads }; let x : State := w.endFop o; let b : SbSt := { x.sb o.sb with reads := (x.sb o.sb).reads + 1 }; let y : State := x.setSb o.sb b; let z : State := y.setRef k b.group { y.refAt k b.group with readSince := true }; if 1024 * (if b.native then z.rd R.FTL_RDLIM_RL_NAT else z.rd R.FTL_RDLIM_RL_SLC) < b.reads then z.rewriteSched o.sb else z))) ∧
  (∀ (s : State) (id nb iters : Nat) (o : FOp) (tg k : Nat) (rebuild : Bool),
      s.fop id = some o → o.stage = FStage.decoding → o.lane = true → o.src = FSrc.nvm tg k → o.step < 5 →
      iters ≤ s.rd R.FCC_DEC_ITER_MAX →
      exec (.decodeDone id true false nb iters rebuild false) s = .next (s.after
        ((s.fresh.decodeIters o iters).decodeGood o nb))) ∧
  (∀ (s : State) (id nb iters : Nat) (o : FOp) (tg k : Nat) (rebuild : Bool),
      s.fop id = some o → o.stage = FStage.decoding → o.lane = true → o.src = FSrc.nvm tg k → o.step < 5 →
      exec (.decodeDone id false true nb iters rebuild false) s = .next (s.after
        (s.fresh.readResult o false true))) ∧
  (∀ (s : State) (id nb iters : Nat) (o : FOp) (tg k : Nat) (rebuild : Bool),
      s.fop id = some o → o.stage = FStage.decoding → o.lane = true → o.src = FSrc.nvm tg k → o.step < 5 →
      iters ≤ s.rd R.FCC_DEC_ITER_MAX → s.nextStep o = some (2, 0) →
      exec (.decodeDone id false false nb iters rebuild false) s = .next (s.after
        (let x : State := s.fresh.decodeIters o iters; let d : DieSt := x.die (dieKey o.chan o.die); (x.setDie (dieKey o.chan o.die) { d with soft := satInc 32 d.soft }).setFop { o with stage := .queued, step := 2, retry := 0, lane := false, left := 6 }))) ∧
  (∀ (s : State) (id nb iters : Nat) (o : FOp) (tg k : Nat),
      s.fop id = some o → o.stage = FStage.decoding → o.lane = true → o.src = FSrc.nvm tg k → o.step < 5 →
      iters ≤ s.rd R.FCC_DEC_ITER_MAX → s.nextStep o = none → s.ftl.noPar.contains (o.sb, s.stripeOf o.addr) = false →
      exec (.decodeDone id false false nb iters true false) s = .next (s.after
        (let x : State := s.fresh.decodeIters o iters; let d : DieSt := x.die (dieKey o.chan o.die); ((x.setDie (dieKey o.chan o.die) { d with unc := satInc 32 d.unc }).stripeRebuild o).readResult o true false))) ∧
  (∀ (s : State) (id nb iters : Nat) (o : FOp) (tg k : Nat),
      s.fop id = some o → o.stage = FStage.decoding → o.lane = true → o.src = FSrc.nvm tg k → o.step < 5 →
      iters ≤ s.rd R.FCC_DEC_ITER_MAX → s.nextStep o = none →
      exec (.decodeDone id false false nb iters false false) s = .next (s.after
        (let x : State := s.fresh.decodeIters o iters; let d : DieSt := x.die (dieKey o.chan o.die); (x.setDie (dieKey o.chan o.die) { d with unc := satInc 32 d.unc }).readResult o false false))) ∧
  (∀ (s : State) (id nb iters : Nat) (o : FOp) (tg k : Nat),
      s.fop id = some o → o.stage = FStage.decoding → o.lane = true → o.src = FSrc.nvm tg k → o.step < 5 →
      o.step = 1 → o.soft = false → s.rd R.FCC_DEC_ITER_MAX < iters → s.nextStep o = none →
      exec (.decodeDone id true false nb iters false false) s = .next (s.after
        (let x : State := s.fresh.decodeIters o (s.rd R.FCC_DEC_ITER_MAX); let d : DieSt := x.die (dieKey o.chan o.die); (x.setDie (dieKey o.chan o.die) { d with unc := satInc 32 d.unc }).readResult o false false))) ∧
  (∀ (s : State) (id time : Nat) (o : FOp),
      s.fop id = some o → o.stage = FStage.running → o.kind = FKind.program → (s.sb o.sb).native = false →
      exec (.flashProgramDone id true time) s = .next (s.after
        (let k : Nat := dieKey o.chan o.die; let d : DieSt := s.die k; let w : List (Nat × Nat) := d.win3.filter (fun (e : Nat × Nat) => decide (s.tick < e.1 + cdiv (s.rd R.FCC_LIM_DRIFT_WIN * 32768) 1000000)); let x : State := s.fresh.setDie k { d with progs := satInc 32 d.progs, win3 := if o.cls = 3 then (s.tick, time) :: w else w }; ({ x with drift := { x.drift with tprog := smUpd [] k (fun m => (time :: m).take 256) x.drift.tprog } }.tprogReg k).programResult o true))) ∧
  (∀ (s : State) (id time : Nat) (o : FOp),
      s.fop id = some o → o.stage = FStage.running → o.kind = FKind.program → (s.sb o.sb).native = false →
      exec (.flashProgramDone id false time) s = .next (s.after
        (let k : Nat := dieKey o.chan o.die; let d : DieSt := s.die k; let w : List (Nat × Nat) := d.win3.filter (fun (e : Nat × Nat) => decide (s.tick < e.1 + cdiv (s.rd R.FCC_LIM_DRIFT_WIN * 32768) 1000000)); let x : State := s.fresh.setDie k { d with progs := satInc 32 d.progs, pfail := satInc 16 d.pfail, win3 := if o.cls = 3 then (s.tick, time) :: w else w }; ({ x with drift := { x.drift with tprog := smUpd [] k (fun m => (time :: m).take 256) x.drift.tprog } }.tprogReg k).programResult o false))) ∧
  (∀ (s : State) (id time : Nat) (o : FOp),
      s.fop id = some o → o.stage = FStage.running → o.kind = FKind.erase → s.flash.ops = [o] → s.flash.extra = [] →
      (s.sb o.sb).state ≠ 6 →
      exec (.flashEraseDone id true time) s = .next (s.after
        (let k : Nat := dieKey o.chan o.die; let d : DieSt := s.die k; ((s.fresh.setDie k { d with erases := satInc 32 d.erases, tbers := (time :: d.tbers).take 256 }).endFop o).eraseEnd o.sb))) ∧
  (∀ (s : State) (id time : Nat) (o p : FOp),
      s.fop id = some o → o.stage = FStage.running → o.kind = FKind.erase → s.flash.ops = [o, p] →
      s.flash.extra = [] → p.kind = FKind.erase → p.sb = o.sb → p.id ≠ o.id →
      exec (.flashEraseDone id true time) s = .next (s.after
        (let k : Nat := dieKey o.chan o.die; let d : DieSt := s.die k; (s.fresh.setDie k { d with erases := satInc 32 d.erases, tbers := (time :: d.tbers).take 256 }).endFop o))) ∧
  (∀ (s : State) (chan die id ran : Nat) (o : FOp),
      s.dieRunning (dieKey chan die) = some o → o.kind = FKind.program →
      (s.dieOps (dieKey chan die)).any (fun (x : FOp) => decide (x.id = id) && decide (x.stage = FStage.queued) && decide (x.kind = FKind.read) && (decide (x.cls = 1) || decide (x.cls = 2))) = true →
      s.on R.FCC_SUS_PSUS_EN = true → s.on R.FCH_GEO0_PSUS chan = true → s.rd R.FCC_SUST_SUS_MIN_P ≤ ran →
      o.susp < s.rd R.FCC_SUS_PSUS_MAX → s.suspendable (dieKey chan die) o = true →
      s.dieSuspended (dieKey chan die) = none → s.on R.FCC_STAT_SAVE = false →
      exec (.suspend chan die id ran) s = .next (s.after
        (let d : DieSt := s.die (dieKey chan die); let x : State := s.fresh.setFop { o with stage := .suspended, susp := o.susp + 1 }; x.setDie (dieKey chan die) { d with served := 0, psus := satInc 16 d.psus }))) ∧
  (∀ (s : State) (chan die : Nat) (o : FOp),
      s.dieSuspended (dieKey chan die) = some o → s.dieRunning (dieKey chan die) = none →
      (s.dieOps (dieKey chan die)).any (fun (x : FOp) => decide (x.stage = FStage.queued) && decide (x.kind = FKind.read) && (decide (x.cls = 1) || decide (x.cls = 2))) = false →
      s.on R.FCC_STAT_SAVE = false →
      exec (.resume chan die) s = .next (s.after
        (s.fresh.setFop { o with stage := .running }))) ∧
  (∀ (s : State) (chan die : Nat) (o : FOp),
      s.dieRunning (dieKey chan die) = some o → s.flash.ops = [o] → s.flash.extra = [] → o.kind = FKind.feature →
      exec (.dieTimeout chan die false) s = .next (s.after
        (let k : Nat := dieKey chan die; let d : DieSt := s.die k; ((s.fresh.setDie k { d with tmo := satInc 4 d.tmo }).endFop o).fenceDie chan die)))

/-- PROBE_DUE, PROBE_DONE, EYE_CHECK, GROUP_POWER_DOWN, GROUP_WAKE and PERSISTENCE_RETURN. A group that is due gets
the three reads of a probe; after it one reference moves a step toward the lower count when that is at least
HYST below the centre; a failed eye check and training step a channel in extended timing down; an idle group
switches off and wakes when an operation waits; persistence returns when the pool and the held set permit.
(R239, R240, R258, R259, R265, R300) -/
def Obligations.FlashTrackingTimingAndPower : Prop :=
  (∀ (s : State) (chan die group : Nat),
      s.dieUp (dieKey chan die) = true → s.on R.FCC_RRT_TRK_EN = true →
      16 * s.rd R.FCC_RRT_PROBE_TRIG < (s.refAt (dieKey chan die) group).mean →
      (s.refAt (dieKey chan die) group).probing = false → (s.refAt (dieKey chan die) group).recent ≠ 0 → group < 16 →
      exec (.probeDue chan die group) s = .next (s.after
        (let r : RefSt := s.refAt (dieKey chan die) group; (List.range 3).foldl (fun (s : State) (i : Nat) => s.fIssue (dieKey chan die) .read 7 false (s.sbOf (r.recent - 1)) (r.recent - 1) (FSrc.probe group i)) (s.fresh.setRef (dieKey chan die) group { r with probing := true })))) ∧
  (∀ (s : State) (chan die group c0 cm cp : Nat),
      (s.refAt (dieKey chan die) group).probing = true → group < 16 →
      exec (.probeDone chan die group true c0 cm cp) s = .next (s.after
        (let r : RefSt := s.refAt (dieKey chan die) group; let step : Int := if min cm cp + s.rd R.FCC_RRT_HYST ≤ c0 then (if cm ≤ cp then -1 else 1) else 0; s.fresh.setRef (dieKey chan die) group { r with offs := r.offs.set r.next (s.offClamp (r.offs.getD r.next 0 + step)), probing := false, probes := satInc 16 r.probes, last := s.tick, readSince := false, next := (r.next + 1) % refCount group s.bpc }))) ∧
  (∀ (s : State) (chan : Nat) (moved : Bool),
      s.on R.FCH_XTST_XT_ON chan = true → s.rd R.FCH_STAT_STATE chan = 2 → s.eyeDue chan moved = true →
      exec (.eyeCheck chan EyeResult.passed moved) s = .next (s.after
        (let y : State := (s.fresh.inc R.FCH_XTST_CHECKS chan).eyeNext chan; y))) ∧
  (∀ (s : State) (chan : Nat) (moved : Bool),
      s.on R.FCH_XTST_XT_ON chan = true → s.rd R.FCH_STAT_STATE chan = 2 → s.eyeDue chan moved = true →
      exec (.eyeCheck chan EyeResult.trained moved) s = .next (s.after
        (let y : State := (s.fresh.inc R.FCH_XTST_CHECKS chan).eyeNext chan; y.inc R.FCH_XTST_RETRAINS chan))) ∧
  (∀ (s : State) (chan : Nat) (moved : Bool),
      s.on R.FCH_XTST_XT_ON chan = true → s.rd R.FCH_STAT_STATE chan = 2 → s.eyeDue chan moved = true →
      s.rd R.FCH_STAT_RATE chan = 4800 →
      exec (.eyeCheck chan EyeResult.failed moved) s = .next (s.after
        (let y : State := (s.fresh.inc R.FCH_XTST_CHECKS chan).eyeNext chan; (((y.inc R.FCH_XTST_RETRAINS chan).inc R.FCH_XTST_STEPS chan).wr R.FCH_STAT_RATE 4400 chan).dieChanged))) ∧
  (∀ (s : State) (grp : Nat),
      s.on R.FCC_PWR_PD_EN = true → bit (s.rd R.FCC_STAT_GRP_ON) grp = true →
      (s.grpChans grp).all (fun c => decide (s.slotsUsed c = 0)) = true → s.on R.FCC_STAT_SAVE = false → grp < 8 →
      exec (.groupPowerDown grp) s = .next (s.after
        ((s.grpChans grp).foldl (fun (s : State) c => s.wr R.FCH_STAT_STATE 4 c) ((s.fresh.wr R.FCC_STAT_GRP_ON (setBitTo (s.rd R.FCC_STAT_GRP_ON) grp false)).pdGroup grp false)))) ∧
  (∀ (s : State) (grp : Nat),
      bit s.flash.waking grp = true → bit (s.rd R.FCC_STAT_GRP_ON) grp = false → grp < 8 →
      exec (.groupWake grp) s = .next (s.after
        (s.fresh.groupOn grp))) ∧
  (∀ (s : State),
      s.on R.FTL_STAT_WITHDRAWN = true → s.imageShort (s.rd R.FTL_GCTH_GC_ST) = false →
      s.rd R.TRK_HELD_HELD ≤ s.rd R.LDG_GUAR_G → s.on R.ERG_STAT_VOLATILE = false →
      exec .persistenceReturn s = .next (s.after
        (let x : State := s.fresh.put R.FTL_STAT_WITHDRAWN false; let z : State := { x with trk := { x.trk with gate := true, promised := [] } }.wr R.LDG_GPUB_G_PUB (s.rd R.LDG_GUAR_G); ((z.cxlEvent 1 4 0x0006 [z.persState]).closedClear).note 0x07 2)))

/-- Flash translation steps: what 11 commands leave, each from the states that its rules ask for. The commands are
CHECKPOINT_START, CHECKPOINT_COMPLETE, GC_START, RELOCATION_MOVE, WEAR_LEVELLING_START, MEDIA_SCAN,
BLOCK_GROUP_AGE, FOLD_START, FOLD_SWAP, DESTAGE_CONFIRM and HEALTH_RECORD. Once CP_GIB of slots have been
programmed, or CP_TICKS have passed with a change of the map, a checkpoint begins with the next sequence and
the chunks changed since the last one, or, while one runs, is due after it. A checkpoint whose anchor record
is confirmed becomes the root with its sequence in CSEQ, and the journal before its position is dropped. At
or above SL3, with no erase wanted and F below GC_ST, collection takes its next victim, and with an erase
wanted it goes on to that. The copy of an image slot takes the place of its source in the map when the map
still points there; otherwise the copy is dead; so does the copy of a namespace slot, while no page is
staged. Above WL_SPREAD, with no victim, the one superblock that is closed and not protected is relocated.
Once SCAN_PER hours have passed at SL3 or above, the member whose turn it is of each closed superblock is
read if it is written. A closed superblock past an age boundary takes the older group. Above FOLD_HI, the
first split unit with no Staged and no Unrecovered entry that is not being folded is copied into the
relocation stream. A complete copy that no write has touched replaces its group, and one that a write has
touched is dropped. A destage that has passed and whose page is the newest of its slot gives the map its
address and frees the page and its save slots. After 24 h at SL3 or above a health record with the next
number is written. (R275, R276, R282, R284, R285, R286, R288, R289, R290, R291, R292, R301) -/
def Obligations.FlashTranslationSteps : Prop :=
  (∀ (s : State),
      s.rd R.FTL_CP_CP_GIB * 262144 ≤ s.ftl.cpSlots → s.ftl.cp = none →
      exec .checkpointStart s = .next (s.after
        (let c : CpSt := { seq := s.rd R.FTL_CSEQ_CSEQ + 1, from0 := s.oldestOpen, jpos := s.ftl.jpos, wb := (s.nvm.nss.filter (fun (e : Nat × NsSt) => !e.2.effWt)).map (fun (e : Nat × NsSt) => e.1), offs := s.flash.refs.map (fun (e : Nat × RefSt) => (e.1, e.2.offs)), tags := s.ftl.chunks, todo := s.chunkIds s.ftl.chunks, dirs := [], stage := 0 }; { s.fresh with ftl := { s.ftl with cp := some c, chunks := [], cpDue := false, cpSlots := 0, cpTick := s.tick, mapChanged := false } }.put R.FTL_STAT_CP_BUSY true))) ∧
  (∀ (s : State),
      s.ftl.mapChanged = true → s.ftl.cpTick + s.rd R.FTL_CPT_CP_TICKS ≤ s.tick → s.ftl.cp = none →
      exec .checkpointStart s = .next (s.after
        (let c : CpSt := { seq := s.rd R.FTL_CSEQ_CSEQ + 1, from0 := s.oldestOpen, jpos := s.ftl.jpos, wb := (s.nvm.nss.filter (fun (e : Nat × NsSt) => !e.2.effWt)).map (fun (e : Nat × NsSt) => e.1), offs := s.flash.refs.map (fun (e : Nat × RefSt) => (e.1, e.2.offs)), tags := s.ftl.chunks, todo := s.chunkIds s.ftl.chunks, dirs := [], stage := 0 }; { s.fresh with ftl := { s.ftl with cp := some c, chunks := [], cpDue := false, cpSlots := 0, cpTick := s.tick, mapChanged := false } }.put R.FTL_STAT_CP_BUSY true))) ∧
  (∀ (s : State),
      s.rd R.FTL_CP_CP_GIB * 262144 ≤ s.ftl.cpSlots → s.ftl.cp ≠ none →
      exec .checkpointStart s = .next (s.after
        ({ s.fresh with ftl := { s.ftl with cpDue := true } }))) ∧
  (∀ (s : State) (c : CpSt),
      s.ftl.cp = some c → c.stage = 4 →
      exec .checkpointComplete s = .next (s.after
        (let x : State := ({ s.fresh with ftl := { s.ftl with cp := none, root := some c, journal := s.ftl.journal.drop (s.ftl.journal.length - (s.ftl.jpos - c.jpos)) } }.put R.FTL_STAT_CP_BUSY false).wr R.FTL_CSEQ_CSEQ c.seq; let y : State := (x.sbList.filter (fun (e : Nat × SbSt) => decide (e.2.state = 3) && !e.2.erasing && decide (e.2.movedSeq ≤ c.jpos))).foldl (fun (s : State) (e : Nat × SbSt) => s.startErase e.1) x; if y.ftl.cpDue then y.cpBegin else y))) ∧
  (∀ (s : State),
      s.eraseNext = none → s.on R.FTL_STAT_GC_ACT = false → s.rd R.FTL_FREE_F < s.rd R.FTL_GCTH_GC_ST → 3 ≤ s.level →
      exec .gcStart s = .next (s.after
        ((s.fresh.put R.FTL_STAT_GC_ACT true).gcNext))) ∧
  (∀ (s : State) (n : Nat),
      s.eraseNext = some n → s.ftl.victim = 0 → 3 ≤ s.level →
      exec .gcStart s = .next (s.after
        (s.fresh.startVictim n false))) ∧
  (∀ (s : State) (src dst : Nat) (c : SlotC),
      s.ftl.moves.find? (fun (e : Nat × Nat) => decide (e.1 = src)) = some (src, dst) → s.slot src = some c →
      c.kind = 0x01 → s.imgAt c.key = src →
      exec (.relocationMove src) s = .next (s.after
        (let x : State := { s.fresh with ftl := { s.ftl with moves := s.ftl.moves.filter (fun (e : Nat × Nat) => decide (e.1 ≠ src)) } }; ((x.setImg c.key dst).jot 4 [0, c.key, src, dst]).victimEmptied))) ∧
  (∀ (s : State) (src dst : Nat) (c : SlotC),
      s.ftl.moves.find? (fun (e : Nat × Nat) => decide (e.1 = src)) = some (src, dst) → s.slot src = some c →
      c.kind = 0x01 → s.imgAt c.key ≠ src →
      exec (.relocationMove src) s = .next (s.after
        (let x : State := { s.fresh with ftl := { s.ftl with moves := s.ftl.moves.filter (fun (e : Nat × Nat) => decide (e.1 ≠ src)) } }; (x.setSlot dst none).victimEmptied))) ∧
  (∀ (s : State) (src dst : Nat) (c : SlotC),
      s.ftl.moves.find? (fun (e : Nat × Nat) => decide (e.1 = src)) = some (src, dst) → s.slot src = some c →
      c.kind = 0x10 → s.nvm.stg = [] → s.nsEntry (c.key % 2 ^ 40) = src →
      exec (.relocationMove src) s = .next (s.after
        (let x : State := { s.fresh with ftl := { s.ftl with moves := s.ftl.moves.filter (fun (e : Nat × Nat) => decide (e.1 ≠ src)) } }; ((x.setNsEntry (c.key % 2 ^ 40) dst).jot 4 [1, c.key, src, dst]).victimEmptied))) ∧
  (∀ (s : State) (src dst : Nat) (c : SlotC),
      s.ftl.moves.find? (fun (e : Nat × Nat) => decide (e.1 = src)) = some (src, dst) → s.slot src = some c →
      c.kind = 0x10 → s.nvm.stg = [] → s.nsEntry (c.key % 2 ^ 40) ≠ src →
      exec (.relocationMove src) s = .next (s.after
        (let x : State := { s.fresh with ftl := { s.ftl with moves := s.ftl.moves.filter (fun (e : Nat × Nat) => decide (e.1 ≠ src)) } }; (x.setSlot dst none).victimEmptied))) ∧
  (∀ (s : State) (n : Nat) (b : SbSt),
      s.rd R.FTL_WL_WL_SPREAD < s.rd R.FTL_WEAR_WMAX - s.rd R.FTL_WEAR_WMIN → s.on R.FTL_STAT_WL_BUSY = false →
      s.ftl.victim = 0 →
      s.sbList.filter (fun (e : Nat × SbSt) => decide (e.2.state = 2) && !s.sbProtected e.1) = [(n, b)] →
      exec .wearLevellingStart s = .next (s.after
        ((s.fresh.put R.FTL_STAT_WL_BUSY true).startVictim n true))) ∧
  (∀ (s : State),
      s.ftl.scanTick + s.rd R.FTL_SCAN_SCAN_PER * hourTicks ≤ s.tick → 3 ≤ s.level →
      exec .mediaScan s = .next (s.after
        (let x : State := { s.fresh with ftl := { s.ftl with scanTick := s.tick, scanNext := s.ftl.scanNext + 1 } }; (x.sbList.filter (fun (e : Nat × SbSt) => decide (e.2.state = 2))).foldl (fun (s : State) (e : Nat × SbSt) => let dm : Nat := e.2.members.length - 1; let per : Nat := s.stripeSlots e.2; (List.range (if per = 0 then 0 else cdiv (s.sbSlots e.2) per)).foldl (fun (s : State) (u : Nat) => let a : Nat := s.slotAddr e.1 e.2 (u * per + (x.ftl.scanNext + u) % (if dm = 0 then 1 else dm)); if (s.slot a).isSome then s.fIssue (addrDie a) .read 7 false e.1 a (FSrc.scan e.1) else s) s) x))) ∧
  (∀ (s : State) (sb : Nat),
      (s.sb sb).state = 2 → (s.sb sb).group < ageGroup (s.sb sb).native ((s.tick - (s.sb sb).closeTick) / 32768) →
      exec (.blockGroupAge sb) s = .next (s.after
        (s.fresh.setSb sb { s.sb sb with group := ageGroup (s.sb sb).native ((s.tick - (s.sb sb).closeTick) / 32768) }))) ∧
  (∀ (s : State) (g i a : Nat),
      s.rd R.FTL_CP_FOLD_HI * s.groupsMax < s.ftl.groups.length * 100 →
      s.ftl.groups.find? (fun (e : Nat × Nat) => !s.ftl.folds.any (fun (f : FoldSt) => decide (f.unit = e.2)) && (List.range s.unitSlots).all (fun i => decide (s.fineAt e.1 i ≠ 1) && decide (s.fineAt e.1 i ≠ 2))) = some (g, i) →
      (s.fresh.assign 4 s.unitSlots).1 = some a →
      exec .foldStart s = .next (s.after
        (let x : State := (s.fresh.assign 4 s.unitSlots).2; let u : Nat := s.unitSlots; let y : State := (List.range u).foldl (fun (z : State) e => let c : SlotC := match z.slot (z.fineAt g e) with | some c => c | none => ({ kind := 0x10, key := z.nsOfUnit i * 2 ^ 40 + i * u + e, gen := z.nvm.wseq, data := [], md := cellsOf (List.replicate 512 255), marks := [] } : SlotC); (z.setSlot (a + e) (some c)).fIssue (addrDie a) .program 6 (z.on R.FTL_STAT_GC_URGENT) (z.sbOf a) (a + e) (.fold i)) x; { y with ftl := { y.ftl with folds := y.ftl.folds ++ [({ unit := i, group := g, touched := false, dst := a, left := u } : FoldSt)], folding := true } }))) ∧
  (∀ (s : State) (unit : Nat) (f : FoldSt),
      s.ftl.folds.find? (fun (f : FoldSt) => decide (f.unit = unit)) = some f → f.left = 0 → f.touched = false →
      exec (.foldSwap unit) s = .next (s.after
        (let x : State := { s.fresh with ftl := { s.ftl with folds := s.ftl.folds.filter (fun (y : FoldSt) => decide (y.unit ≠ unit)) } }; let y : State := (x.setCoarse unit (4 * (f.dst / s.unitSlots) + 1)).freeGroup f.group; let z : State := { y with ftl := { y.ftl with splitWait := y.ftl.splitWait - 1 } }.freeRefresh; if z.ftl.groups.length * 100 ≤ z.rd R.FTL_CP_FOLD_LO * z.groupsMax then { z with ftl := { z.ftl with folding := false } } else z))) ∧
  (∀ (s : State) (unit : Nat) (f : FoldSt),
      s.ftl.folds.find? (fun (f : FoldSt) => decide (f.unit = unit)) = some f → f.left = 0 → f.touched = true →
      exec (.foldSwap unit) s = .next (s.after
        (let x : State := { s.fresh with ftl := { s.ftl with folds := s.ftl.folds.filter (fun (y : FoldSt) => decide (y.unit ≠ unit)) } }; let z : State := (List.range s.unitSlots).foldl (fun (y : State) (e : Nat) => y.setSlot (f.dst + e) none) x; if z.ftl.groups.length * 100 ≤ z.rd R.FTL_CP_FOLD_LO * z.groupsMax then { z with ftl := { z.ftl with folding := false } } else z))) ∧
  (∀ (s : State) (stg : Nat) (y : StgSt),
      s.stgAt stg = some y → y.dst = 2 → s.stgFind y.ns y.slot = some stg → s.nvm.cmds = [] → s.cvn.code = 0 →
      exec (.destageConfirm stg) s = .next (s.after
        (let x : State := ((s.fresh.setNsEntry (s.devSlot (s.ns y.ns) y.slot) y.addr).freeStg stg).stagedObsolete y; x.nvmRefresh.stgKick))) ∧
  (∀ (s : State),
      s.ftl.healthTick + 24 * hourTicks ≤ s.tick → 3 ≤ s.level →
      exec .healthRecord s = .next (s.after
        (let x : State := ({ s.fresh with ftl := { s.ftl with healthTick := s.tick, healthRecs := s.ftl.healthRecs + 1 } } : State).wearRefresh; (List.range (max 1 (cdiv s.flash.dies.length 48))).foldl (fun (s : State) (i : Nat) => s.sysWrite 0x24 i s.ftl.healthRecs (cellsOf ((((x.flash.dies.map (fun (e : Nat × DieSt) => e.1)).drop (48 * i)).take 48).flatMap (fun k => leBytes 4 k ++ (s.lifeSums k).flatMap (leBytes 8))))) x)))

/-- BUFFER_REQUEST, BUFFER_FREE, HAND_OFF, SEMAPHORE_ACQUIRE and SEMAPHORE_RELEASE. A request that R342 permits gets
the lowest free buffer, another waits; the owner's free returns a buffer and serves those that wait, while a
double and a foreign free change no book; a hand-off changes the owner; a free semaphore goes to the first
core in rotation and only its holder frees it. (R339, R342, R343, R344, R346, R351, R352) -/
def Obligations.BuffersAndSemaphores : Prop :=
  (∀ (s : State) (who op : Nat),
      1 ≤ who → who ≤ 9 → s.buf.save = false → s.bufGrants who = true → s.buf.wait = [] →
      exec (.bufferRequest who op) s = .next (s.after
        ({ s.fresh with buf := { s.buf with live := smSet false (65536 * who + op % 65536) true s.buf.live } }.bufGive who op))) ∧
  (∀ (s : State) (who op : Nat),
      1 ≤ who → who ≤ 9 → s.buf.save = false → s.bufGrants who = false →
      exec (.bufferRequest who op) s = .next (s.after
        ({ s.fresh with buf := { s.buf with live := smSet false (65536 * who + op % 65536) true s.buf.live, wait := s.buf.wait ++ [(who, op % 65536)] } }))) ∧
  (∀ (s : State) (buf who op : Nat) (e : Nat × Nat),
      s.buf.own.find? (fun (x : Nat × Nat) => decide (x.1 = buf)) = some e → e.2 = 65536 * who + op % 65536 →
      exec (.bufferFree buf who op) s = .next (s.after
        (let own : List (Nat × Nat) := s.buf.own.filter (fun (x : Nat × Nat) => decide (x.1 ≠ buf)); let ends : Bool := own.all (fun (x : Nat × Nat) => decide (x.2 ≠ e.2)) && !s.buf.wait.contains (who, op % 65536); { s.fresh with buf := { s.buf with own := own, live := if ends then smSet false e.2 false s.buf.live else s.buf.live } }.bufServe))) ∧
  (∀ (s : State) (buf who op : Nat),
      s.buf.own.find? (fun (x : Nat × Nat) => decide (x.1 = buf)) = none →
      exec (.bufferFree buf who op) s = .next (s.after
        ({ s.fresh with buf := { s.buf with dbl := inc32 s.buf.dbl } }.signal (.odber 0x0A 1) buf (ownerBytes (65536 * who + op % 65536))))) ∧
  (∀ (s : State) (buf who op : Nat) (e : Nat × Nat),
      s.buf.own.find? (fun (x : Nat × Nat) => decide (x.1 = buf)) = some e → e.2 ≠ 65536 * who + op % 65536 →
      exec (.bufferFree buf who op) s = .next (s.after
        ({ s.fresh with buf := { s.buf with foreign := inc32 s.buf.foreign } }.signal (.odber 0x0A 2) buf (ownerBytes (65536 * who + op % 65536) ++ ownerBytes e.2)))) ∧
  (∀ (s : State) (buf op new : Nat),
      s.buf.own.any (fun (e : Nat × Nat) => decide (e.1 = buf) && decide (e.2 = 65536 * 3 + op % 65536)) = true →
      s.bufGrants 1 = true →
      exec (.handOff buf op new) s = .next (s.after
        ({ s.fresh with buf := { s.buf with own := s.buf.own.map (fun (e : Nat × Nat) => if e.1 = buf then (buf, 65536 + new % 65536) else e), live := smSet false (65536 + new % 65536) true s.buf.live } }.bufServe.handRead buf (new % 65536)))) ∧
  (∀ (s : State) (sem : Nat) (cores : List Nat) (c : Nat),
      sem < 64 → (s.sem sem).holder = 0 →
      ((List.range 4).map (fun i => ((s.sem sem).next + i) % 4)).find? (fun c => cores.contains c && s.coreRuns c) = some c →
      exec (.semaphoreAcquire sem cores) s = .next (s.after
        ((s.fresh.setSem sem { s.sem sem with holder := c + 1, next := (c + 1) % 4 }).emit (.granted (100 + c) (2 * sem + b2n (s.sem sem).ownerReset))))) ∧
  (∀ (s : State) (sem core : Nat),
      sem < 64 → s.coreRuns core = true → (s.sem sem).holder = core + 1 →
      exec (.semaphoreRelease sem core) s = .next (s.after
        (s.fresh.setSem sem { s.sem sem with holder := 0, ownerReset := false }))) ∧
  (∀ (s : State) (sem core : Nat),
      s.coreRuns core = true → (s.sem sem).holder ≠ core + 1 →
      exec (.semaphoreRelease sem core) s = .next (s.after
        ({ s.fresh with buf := { s.buf with faults := inc32 s.buf.faults } }.note 0x0A 3 12)))

/-- Nvme queues and fetch: what 12 commands leave, each from the states that its rules ask for. The commands are
SQ_DOORBELL, CQ_HEAD_DOORBELL, COMMAND_FETCH, RANGE_LOCK_GRANT, STAGING_PAGE_GRANT, AEN_COALESCE_END,
CONTROLLER_ENABLE, CONTROLLER_RESET, SHUTDOWN, FLR, PS3_ENTRY_DONE and PS3_ENTRY_TIMEOUT. A doorbell inside
its queue moves the tail or head; a fetch takes the next function and queue, gives the command the lowest
free tag and the next order; waiting commands take locks and staging pages; a coalesced event is raised; an
enabled controller is ready when the device serves SL4; the resets, the shutdown and the two ends of a PS3
entry have their effects. (R303, R304, R305, R306, R307, R318, R321, R323, R324, R331, R332, R335) -/
def Obligations.NvmeQueuesAndFetch : Prop :=
  (∀ (s : State) (fn sq tail : Nat) (q : SqSt),
      (s.fn fn).en = true → (s.fn fn).ps = 0 →
      (s.fn fn).sqs.find? (fun (e : Nat × SqSt) => decide (e.1 = sq)) = some (sq, q) → tail < q.size →
      exec (.sqDoorbell fn sq tail) s = .next (s.after
        (let x : FnSt := s.fn fn; (s.fresh.setFn fn { x with sqs := x.sqs.map (fun (y : Nat × SqSt) => if y.1 = sq then (sq, { y.2 with tail := tail }) else y) }).psWake fn))) ∧
  (∀ (s : State) (fn cq head : Nat) (q : CqSt),
      (s.fn fn).en = true → (s.fn fn).ps = 0 →
      (s.fn fn).cqs.find? (fun (e : Nat × CqSt) => decide (e.1 = cq)) = some (cq, q) → head < q.size →
      exec (.cqHeadDoorbell fn cq head) s = .next (s.after
        (let x : FnSt := s.fn fn; (s.fresh.setFn fn { x with cqs := x.cqs.map (fun (y : Nat × CqSt) => if y.1 = cq then (cq, { y.2 with head := head }) else y) }).psWake fn))) ∧
  (∀ (s : State) (opc cid nsid slba nlb f q : Nat) (wrr : List Nat),
      s.nvm.stopped = false → s.nvm.cmds.length < 16384 → (s.fn s.nvm.rr).burst = 0 →
      rotNext s.nvm.rr (s.fnIds.filter (fun f => decide (s.sqReady f ≠ []))) = some f →
      sqArbitrate (s.fn f) (s.sqReady f) = some (q, wrr) → (s.fn f).burst = 0 →
      bits ((s.fn f).feat 0x01 0) 0 3 = 0 → (if q = 0 then adminOpcodes else nvmOpcodes).contains opc = true →
      exec (.commandFetch opc cid nsid slba nlb) s = .next (s.after
        (let x : FnSt := s.fn f; let c : CmdSt := { fn := f, sq := q, cid := cid, opc := opc, nsid := nsid, slba := slba, nlb := nlb, order := s.nvm.order, wseq := 0, wt := false, data := [], md := [], prot := [], need := [], got := [], begun := false, stgs := [], ranges := [], stage := .fetched, args := [], att := (s.ns nsid).ctrls.contains f, cq := match x.sqs.find? (fun (e : Nat × SqSt) => decide (e.1 = q)) with | some e => e.2.cq | none => 0 }; let y : State := s.fresh.setFn f { x with sqs := x.sqs.map (fun (e : Nat × SqSt) => if e.1 = q then (q, { e.2 with head := (e.2.head + 1) % e.2.size }) else e), next := q, burst := 0, wrr := wrr }; { y with nvm := { y.nvm with cmds := y.nvm.cmds ++ [(s.freeTag, c)], order := y.nvm.order + 1, rr := f } }.nvmRefresh))) ∧
  (∀ (s : State),
      exec .rangeLockGrant s = .next (s.after
        ((s.nvm.cmds.filter (fun (e : Nat × CmdSt) => decide (e.2.stage = CStage.waitLock))).foldl (fun (s : State) (e : Nat × CmdSt) => s.nvmStart e.1) s.fresh))) ∧
  (∀ (s : State),
      exec .stagingPageGrant s = .next (s.after
        (s.fresh.stgKick))) ∧
  (∀ (s : State) (fn : Nat),
      (s.fn fn).modePend = true → (s.fn fn).modeAt + 1023 ≤ s.tick →
      exec (.aenCoalesceEnd fn) s = .next (s.after
        (s.fresh.modeEvent fn))) ∧
  (∀ (s : State) (fn : Nat) (ams : Bool),
      s.fnPresent fn = true → (s.fn fn).en = false →
      exec (.controllerEnable fn ams) s = .next (s.after
        (let sq : SqSt := { size := 4096, cq := 0, prio := 0, head := 0, tail := 0, stalled := false }; let cq : CqSt := { size := 4096, ien := true, vec := 0, head := 0, tail := 0 }; s.fresh.setFn fn { s.fn fn with en := true, rdy := s.on R.BST_STAT_DONE && decide (s.level = 4), shst := false, shutReq := false, ams := ams, sqs := [(0, sq)], cqs := [(0, cq)] }))) ∧
  (∀ (s : State) (fn : Nat),
      s.nvm.cmds = [] →
      exec (.controllerReset fn) s = .next (s.after
        (((s.fresh.setFn fn { fnInit with changed := (s.fn fn).changed, errCnt := (s.fn fn).errCnt, errs := (s.fn fn).errs }).nvmRefresh).nvmKick))) ∧
  (∀ (s : State) (fn : Nat),
      (s.fn fn).en = true →
      exec (.shutdown fn) s = .next (s.after
        ((s.fresh.setFn fn { s.fn fn with shutReq := true }).nvmKick))) ∧
  (∀ (s : State) (port ld fn : Nat),
      s.cvn.code = 0 → 1 ≤ fn → s.fnPresent (fn - 1) = true →
      exec (.flr port ld fn) s = .next (s.after
        ({ s.fresh with host := { s.host with msixOff := setIns (1000 + (fn - 1)) s.host.msixOff } }.fnReset (fn - 1)))) ∧
  (∀ (s : State) (port ld : Nat),
      s.cvn.code = 0 →
      exec (.flr port ld 0) s = .next (s.after
        ({ s.fresh with host := { s.host with msixOff := setIns (ldKey port ld) s.host.msixOff } }.crcHostRelease (fun k => decide (k = ldKey port ld))))) ∧
  (∀ (s : State) (port ld fn : Nat),
      s.cvn.code ≠ 0 →
      exec (.flr port ld fn) s = .next (s.after
        ({ s.fresh with cvn := { s.cvn with deferred := s.cvn.deferred ++ [(1, 65536 * fn + ldKey port ld)] } }))) ∧
  (∀ (s : State) (fn n : Nat),
      (s.fn fn).psEntry ≠ 0 → s.psEntries fn = [n] → s.fnInfl fn = (s.fn fn).aers.length + 1 →
      exec (.ps3EntryDone fn) s = .next (s.after
        ((s.fresh.setFn fn { s.fn fn with ps := 3, psEntry := 0 }).nvmFinish n 0 0))) ∧
  (∀ (s : State) (fn n : Nat),
      (s.fn fn).psEntry ≠ 0 → s.psEntries fn = [n] →
      exec (.ps3EntryTimeout fn) s = .next (s.after
        ((s.fresh.setFn fn { s.fn fn with ps := (s.fn fn).lastOp, psEntry := 0 }).nvmFinish n 0 0)))

/-- The admin commands of queues, logs, features, abort and events. A fetched admin command of its opcode has its
effect and completes: queues are created within the allotment and deleted, a supported log page and Identify
data are returned, a command not yet executed is aborted, features are set and read, a power state is taken,
the write mode and the loss flags of a namespace change, and an event request stands or takes a waiting
event. (R303, R307, R308, R309, R321, R327, R330, R331, R332, Table 10-3, Table 10-9) -/
def Obligations.NvmeAdminQueuesFeaturesAndLogs : Prop :=
  (∀ (s : State) (tag qid size vec : Nat) (c : CmdSt),
      s.cmd tag = some c → c.sq = 0 → c.opc = 0x05 → c.stage = CStage.fetched → s.roleRuns 1 = true → qid ≠ 0 →
      qid ≤ s.fnQp c.fn → (s.fn c.fn).cqs.any (fun (e : Nat × CqSt) => decide (e.1 = qid)) = false → 2 ≤ size →
      size ≤ s.mqes → vec < s.fnVec c.fn →
      exec (.createIoCompletionQueue tag qid size vec true true) s = .next (s.after
        ((s.fresh.setFn c.fn { s.fn c.fn with cqs := (s.fn c.fn).cqs ++ [(qid, ({ size := size, ien := true, vec := vec, head := 0, tail := 0 } : CqSt))] }).nvmFinish tag 0 0))) ∧
  (∀ (s : State) (tag qid size cqid prio : Nat) (c : CmdSt),
      s.cmd tag = some c → c.sq = 0 → c.opc = 0x01 → c.stage = CStage.fetched → s.roleRuns 1 = true → qid ≠ 0 →
      qid ≤ s.fnQp c.fn → (s.fn c.fn).sqs.any (fun (e : Nat × SqSt) => decide (e.1 = qid)) = false → 2 ≤ size →
      size ≤ s.mqes → cqid ≠ 0 → (s.fn c.fn).cqs.any (fun (e : Nat × CqSt) => decide (e.1 = cqid)) = true →
      exec (.createIoSubmissionQueue tag qid size cqid prio true) s = .next (s.after
        ((s.fresh.setFn c.fn { s.fn c.fn with sqs := (s.fn c.fn).sqs ++ [(qid, ({ size := size, cq := cqid, prio := prio % 4, head := 0, tail := 0, stalled := false } : SqSt))] }).nvmFinish tag 0 0))) ∧
  (∀ (s : State) (tag qid : Nat) (c : CmdSt),
      s.cmd tag = some c → c.sq = 0 → c.opc = 0x04 → c.stage = CStage.fetched → s.roleRuns 1 = true → qid ≠ 0 →
      (s.fn c.fn).cqs.any (fun (e : Nat × CqSt) => decide (e.1 = qid)) = true →
      (s.fn c.fn).sqs.any (fun (e : Nat × SqSt) => decide (e.2.cq = qid)) = false →
      exec (.deleteIoCompletionQueue tag qid) s = .next (s.after
        ((s.fresh.setFn c.fn { s.fn c.fn with cqs := (s.fn c.fn).cqs.filter (fun (e : Nat × CqSt) => decide (e.1 ≠ qid)) }).nvmFinish tag 0 0))) ∧
  (∀ (s : State) (tag qid : Nat) (c : CmdSt),
      s.cmd tag = some c → c.sq = 0 → c.opc = 0x00 → c.stage = CStage.fetched → s.roleRuns 1 = true → qid ≠ 0 →
      (s.fn c.fn).sqs.any (fun (e : Nat × SqSt) => decide (e.1 = qid)) = true → s.nvm.cmds = [(tag, c)] →
      exec (.deleteIoSubmissionQueue tag qid) s = .next (s.after
        ((s.fresh.setFn c.fn { s.fn c.fn with sqs := (s.fn c.fn).sqs.filter (fun (e : Nat × SqSt) => decide (e.1 ≠ qid)) }).nvmFinish tag 0 0))) ∧
  (∀ (s : State) (tag : Nat) (c : CmdSt) (lid : Nat) (d : List Nat),
      s.cmd tag = some c → c.sq = 0 → c.opc = 0x02 → c.stage = CStage.fetched → s.roleRuns 1 = true →
      s.logPage c.fn lid = some d → lid ≠ 4 →
      exec (.getLogPage tag lid) s = .next (s.after
        (s.fresh.nvmFinish tag 0 0 d))) ∧
  (∀ (s : State) (tag : Nat) (c : CmdSt) (cns : Nat) (d : List Nat),
      s.cmd tag = some c → c.sq = 0 → c.opc = 0x06 → c.stage = CStage.fetched → s.roleRuns 1 = true →
      s.identify c.fn cns c.nsid = some d →
      exec (.identify tag cns) s = .next (s.after
        (s.fresh.nvmFinish tag 0 0 d))) ∧
  (∀ (s : State) (tag sq cid : Nat) (c : CmdSt),
      s.cmd tag = some c → c.sq = 0 → c.opc = 0x08 → c.stage = CStage.fetched → s.roleRuns 1 = true →
      s.nvm.cmds.find? (fun (e : Nat × CmdSt) => decide (e.2.fn = c.fn) && decide (e.2.sq = sq) && decide (e.2.cid = cid) && decide (e.1 ≠ tag)) = none →
      exec (.abort tag sq cid) s = .next (s.after
        ((s.fresh.inc R.NVC_ABRT_ABRT_REQ).nvmFinish tag 0 0 [1]))) ∧
  (∀ (s : State) (tag : Nat) (c : CmdSt) (sq cid n : Nat) (d : CmdSt),
      s.cmd tag = some c → c.sq = 0 → c.opc = 0x08 → c.stage = CStage.fetched → s.roleRuns 1 = true →
      s.nvm.cmds.find? (fun (e : Nat × CmdSt) => decide (e.2.fn = c.fn) && decide (e.2.sq = sq) && decide (e.2.cid = cid) && decide (e.1 ≠ tag)) = some (n, d) →
      d.begun = false → d.stage = CStage.fetched → s.nvm.stg = [] →
      exec (.abort tag sq cid) s = .next (s.after
        (let y : State := ((s.fresh.inc R.NVC_ABRT_ABRT_REQ).inc R.NVC_ABRT_ABRT_HIT).bufDrop (65536 + n); let x : FnSt := y.fn d.fn; ((y.setFn d.fn { x with aers := x.aers.filter (fun (a : Nat) => decide (a ≠ n)) }).nvmFinish n 0 7).nvmFinish tag 0 0 [0]))) ∧
  (∀ (s : State) (tag value : Nat) (c : CmdSt),
      s.cmd tag = some c → c.sq = 0 → c.opc = 0x09 → c.stage = CStage.fetched → s.roleRuns 1 = true → c.nsid = 0 →
      exec (.setFeatures tag 0x0B value false) s = .next (s.after
        ((s.fresh.setFn c.fn ((s.fn c.fn).setFeat 0x0B value)).nvmFinish tag 0 0))) ∧
  (∀ (s : State) (tag fid value : Nat) (c : CmdSt),
      s.cmd tag = some c → c.sq = 0 → c.opc = 0x09 → c.stage = CStage.fetched → s.roleRuns 1 = true →
      exec (.setFeatures tag fid value true) s = .next (s.after
        (s.fresh.nvmFinish tag 1 0x0D))) ∧
  (∀ (s : State) (tag ps : Nat) (c : CmdSt),
      s.cmd tag = some c → c.sq = 0 → c.opc = 0x09 → c.stage = CStage.fetched → s.roleRuns 1 = true → ps < 3 →
      exec (.powerManagement tag ps) s = .next (s.after
        ((s.fresh.setFn c.fn { s.fn c.fn with ps := ps, lastOp := ps }).nvmFinish tag 0 0))) ∧
  (∀ (s : State) (tag : Nat) (c : CmdSt),
      s.cmd tag = some c → c.sq = 0 → c.opc = 0x09 → c.stage = CStage.fetched → s.roleRuns 1 = true →
      exec (.powerManagement tag 3) s = .next (s.after
        ((s.fresh.setFn c.fn { s.fn c.fn with psEntry := tag + 1 }).setCmd tag { c with stage := .waitCmds, begun := true }))) ∧
  (∀ (s : State) (tag value : Nat) (c : CmdSt),
      s.cmd tag = some c → c.sq = 0 → c.opc = 0x09 → c.stage = CStage.fetched → s.roleRuns 1 = true →
      s.nsUp c.nsid = true → value ≤ 1 →
      exec (.configuredWriteMode tag value) s = .next (s.after
        ((s.fresh.setNs c.nsid { s.ns c.nsid with cfgWt := decide (value = 1) }).nvmFinish tag 0 0))) ∧
  (∀ (s : State) (tag : Nat) (c : CmdSt),
      s.cmd tag = some c → c.sq = 0 → c.opc = 0x09 → c.stage = CStage.fetched → s.roleRuns 1 = true →
      s.nsUp c.nsid = true →
      exec (.lossAcknowledge tag) s = .next (s.after
        ((s.fresh.setNs c.nsid { s.ns c.nsid with lossStg := false, lossUnk := false }).nvmRefresh.nvmFinish tag 0 0))) ∧
  (∀ (s : State) (tag : Nat) (c : CmdSt),
      s.cmd tag = some c → c.sq = 0 → c.opc = 0x0A → c.stage = CStage.fetched → s.roleRuns 1 = true →
      exec (.getFeatures tag 0x02) s = .next (s.after
        (s.fresh.nvmFinish tag 0 0 [(s.fn c.fn).ps]))) ∧
  (∀ (s : State) (tag : Nat) (c : CmdSt),
      s.cmd tag = some c → c.sq = 0 → c.opc = 0x0C → c.stage = CStage.fetched → s.roleRuns 1 = true →
      (s.fn c.fn).aers.length < 4 → (s.fn c.fn).events = [] →
      exec (.asynchronousEventRequest tag) s = .next (s.after
        ((s.fresh.setFn c.fn { s.fn c.fn with aers := (s.fn c.fn).aers ++ [tag] }).setCmd tag { c with stage := .waitCmds }))) ∧
  (∀ (s : State) (tag : Nat) (c : CmdSt) (e : Nat) (es : List Nat),
      s.cmd tag = some c → c.sq = 0 → c.opc = 0x0C → c.stage = CStage.fetched → s.roleRuns 1 = true →
      (s.fn c.fn).aers.length < 4 → (s.fn c.fn).events = e :: es →
      exec (.asynchronousEventRequest tag) s = .next (s.after
        ((s.fresh.setFn c.fn { s.fn c.fn with events := es }).nvmFinish tag 0 0 [e])))

/-- Nvme namespace and io commands: what 16 commands leave, each from the states that its rules ask for. The
commands are NAMESPACE_MANAGEMENT, NAMESPACE_ATTACHMENT, FIRMWARE_COMMIT, FIRMWARE_IMAGE_DOWNLOAD,
ACTIVATION_WAIT_EXPIRY, CXL_HOLD_END, FORMAT_NVM, SANITIZE_BLOCK_ERASE, FLUSH, WRITE, READ,
WRITE_UNCORRECTABLE, COMPARE, WRITE_ZEROES, DATASET_MANAGEMENT and VERIFY. A namespace is created in a free
contiguous range, attached, formatted and sanitized; a firmware image is downloaded and committed; each I/O
command starts under its range locks, and Flush waits for the earlier writes. (R307, R310, R311, R313, R314,
R315, R320, R325, R326, R477, Table 10-2) -/
def Obligations.NvmeNamespaceAndIoCommands : Prop :=
  (∀ (s : State) (tag : Nat) (c : CmdSt) (i b size lbaf : Nat),
      s.cmd tag = some c → c.sq = 0 → c.opc = 0x0D → c.stage = CStage.fetched → s.roleRuns 1 = true →
      isPf c.fn = true → lbaf ≤ 1 → size ≠ 0 →
      (s.nvm.nss.map (fun (e : Nat × NsSt) => e.2.units)).sum + cdiv size (s.unitSlots * lbasPerSlot lbaf) ≤ s.poolUnits →
      (List.range 1024).find? (fun i => !s.nsUp (i + 1)) = some i →
      s.freeRange (cdiv size (s.unitSlots * lbasPerSlot lbaf)) = some b →
      exec (.namespaceManagement tag false size lbaf false 0 false) s = .next (s.after
        (let u : Nat := cdiv size (s.unitSlots * lbasPerSlot lbaf); let x : State := (s.fresh.setNs (i + 1) { nsInit with size := u * (s.unitSlots * lbasPerSlot lbaf), base := b, units := u, lbaf := lbaf, ext := false, pit := 0, pil := false, ready := s.on R.FTL_STAT_MAP_NS }).jot 6 [i + 1]; x.account.nvmFinish tag 0 0 [i + 1]))) ∧
  (∀ (s : State) (tag : Nat) (c : CmdSt) (size lbaf pit : Nat) (ext pil : Bool),
      s.cmd tag = some c → c.sq = 0 → c.opc = 0x0D → c.stage = CStage.fetched → s.roleRuns 1 = true →
      isPf c.fn = true → (s.ns c.nsid).units ≠ 0 → (s.ns c.nsid).closed = 0 →
      exec (.namespaceManagement tag true size lbaf ext pit pil) s = .next (s.after
        (((s.fresh.setNs c.nsid { s.ns c.nsid with closed := 2 }).setCmd tag { c with stage := .waitCmds }).nvmKick))) ∧
  (∀ (s : State) (tag : Nat) (c : CmdSt) (ctrls : List Nat),
      s.cmd tag = some c → c.sq = 0 → c.opc = 0x15 → c.stage = CStage.fetched → s.roleRuns 1 = true →
      isPf c.fn = true → (s.ns c.nsid).units ≠ 0 → ctrls ≠ [] → ctrls.any (fun f => !s.fnPresent f) = false →
      ctrls.any (fun f => (s.ns c.nsid).ctrls.contains f) = false →
      exec (.namespaceAttachment tag false ctrls) s = .next (s.after
        (((s.fresh.setNs c.nsid { s.ns c.nsid with ctrls := ctrls.foldl (fun m f => setIns f m) (s.ns c.nsid).ctrls }).nsChanged c.nsid ctrls).nvmFinish tag 0 0))) ∧
  (∀ (s : State) (tag : Nat) (c : CmdSt) (ctrls : List Nat),
      s.cmd tag = some c → c.sq = 0 → c.opc = 0x15 → c.stage = CStage.fetched → s.roleRuns 1 = true →
      isPf c.fn = true → (s.ns c.nsid).units ≠ 0 → ctrls ≠ [] → ctrls.any (fun f => !s.fnPresent f) = false →
      ctrls.any (fun f => !(s.ns c.nsid).ctrls.contains f) = false →
      exec (.namespaceAttachment tag true ctrls) s = .next (s.after
        (((s.fresh.setNs c.nsid { s.ns c.nsid with ctrls := (s.ns c.nsid).ctrls.filter (fun f => !ctrls.contains f) }).nsChanged c.nsid ctrls).nvmFinish tag 0 0))) ∧
  (∀ (s : State) (tag slot : Nat) (c : CmdSt),
      s.cmd tag = some c → c.sq = 0 → c.opc = 0x10 → c.stage = CStage.fetched → s.roleRuns 1 = true →
      isPf c.fn = true → slot = 1 ∨ slot = 2 → slot - 1 ≠ s.fwu.run →
      exec (.firmwareCommit tag 0 slot) s = .next (s.after
        (let r : Nat × State := s.fresh.fwClose.fwCheck (slot - 1) 7; if r.1 = 0 then r.2.nvmFinish tag 0 0 else r.2.nvmFinish tag 1 (fwStatus r.1)))) ∧
  (∀ (s : State) (tag : Nat) (c : CmdSt) (off : Nat) (data : List Byte),
      s.cmd tag = some c → c.sq = 0 → c.opc = 0x11 → c.stage = CStage.fetched → s.roleRuns 1 = true →
      isPf c.fn = true → s.rd R.FWU_STAT_STATE = 0 → s.fwu.act = 0 → off % 4096 = 0 → data.length % 4096 = 0 →
      data ≠ [] → off + data.length ≤ 12582912 →
      exec (.firmwareImageDownload tag off data) s = .next (s.after
        (let x : State := ((s.fresh.fwData (c.fn + 1) off (data.map (fun (b : Byte) => b.toNat))).2).setCmd tag { c with stage := .running }; { x with fwu := { x.fwu with waits := x.fwu.waits ++ [(tag, (List.range (data.length / 4096)).map (fun k => k + off / 4096))] } }))) ∧
  (∀ (s : State),
      s.cvn.code = 0 → s.fwu.act = 1 ∨ s.fwu.act = 2 → s.fwu.holdAt + 32768 ≤ s.tick →
      exec .activationWaitExpiry s = .next (s.after
        (s.fresh.actRefuse))) ∧
  (∀ (s : State),
      s.fwu.act = 3 →
      exec .cxlHoldEnd s = .next (s.after
        (s.fresh.actEnd))) ∧
  (∀ (s : State) (tag : Nat) (c : CmdSt) (lbaf pit ses : Nat) (ext pil : Bool),
      s.cmd tag = some c → c.sq = 0 → c.opc = 0x80 → c.stage = CStage.fetched → s.roleRuns 1 = true →
      (s.ns c.nsid).units ≠ 0 → (s.ns c.nsid).ctrls.contains c.fn = true → (s.ns c.nsid).closed = 0 → ses ≤ 1 →
      lbaf ≤ 1 → pit = 0 → s.nvm.sanitize = 0 →
      exec (.formatNvm tag lbaf ext pit pil ses) s = .next (s.after
        (((s.fresh.setNs c.nsid { s.ns c.nsid with closed := 1 }).setCmd tag { c with stage := .waitCmds, args := [lbaf, b2n ext, pit, b2n pil, ses] }).nvmKick))) ∧
  (∀ (s : State) (tag : Nat) (c : CmdSt),
      s.cmd tag = some c → c.sq = 0 → c.opc = 0x84 → c.stage = CStage.fetched → s.roleRuns 1 = true →
      isPf c.fn = true → s.nvm.sanitize = 0 → s.nsSbs none = [] → s.nvm.nss = [] → s.nvm.cmds = [(tag, c)] →
      exec (.sanitizeBlockErase tag 2) s = .next (s.after
        (let x : State := { s.fresh with nvm := { s.nvm with sanitize := 100001, sanStatus := 2 }, ftl := { s.ftl with eraseWait := s.ftl.eraseWait ++ [(100000, [])] } }; (x.nvmFinish tag 0 0).eraseKick.gcNext))) ∧
  (∀ (s : State) (tag : Nat) (c : CmdSt),
      s.cmd tag = some c → c.sq ≠ 0 → c.opc = 0x00 → c.stage = CStage.fetched →
      c.nsid = 0xFFFFFFFF ∨ s.nvmGate c = 0 →
      exec (.flush tag) s = .next (s.after
        ((s.fresh.setCmd tag { c with stage := .waitCmds }).nvmKick))) ∧
  (∀ (s : State) (tag : Nat) (c : CmdSt) (data md : List Byte) (prot : List Nat),
      s.cmd tag = some c → c.sq ≠ 0 → c.opc = 0x01 → c.stage = CStage.fetched →
      exec (.write tag data md prot false) s = .next (s.after
        ((s.fresh.setCmd tag { c with data := data, md := md, prot := prot }).nvmStart tag))) ∧
  (∀ (s : State) (tag : Nat) (c : CmdSt) (data md : List Byte) (prot : List Nat),
      s.cmd tag = some c → c.sq ≠ 0 → c.opc = 0x01 → c.stage = CStage.fetched →
      exec (.write tag data md prot true) s = .next (s.after
        (s.fresh.nvmFinish tag 0 4))) ∧
  (∀ (s : State) (tag : Nat) (c : CmdSt) (prot : List Nat),
      s.cmd tag = some c → c.sq ≠ 0 → c.opc = 0x02 → c.stage = CStage.fetched →
      exec (.read tag prot) s = .next (s.after
        ((s.fresh.setCmd tag { c with data := [], md := [], prot := prot }).nvmStart tag))) ∧
  (∀ (s : State) (tag : Nat) (c : CmdSt) (data md : List Byte) (prot : List Nat),
      s.cmd tag = some c → c.sq ≠ 0 → c.opc = 0x05 → c.stage = CStage.fetched →
      exec (.compare tag data md prot) s = .next (s.after
        ((s.fresh.setCmd tag { c with data := data, md := md, prot := prot }).nvmStart tag))) ∧
  (∀ (s : State) (tag : Nat) (c : CmdSt) (prot : List Nat),
      s.cmd tag = some c → c.sq ≠ 0 → c.opc = 0x0C → c.stage = CStage.fetched →
      exec (.verify tag prot) s = .next (s.after
        ((s.fresh.setCmd tag { c with data := [], md := [], prot := prot }).nvmStart tag))) ∧
  (∀ (s : State) (tag : Nat) (c : CmdSt),
      s.cmd tag = some c → c.sq ≠ 0 → c.opc = 0x04 → c.stage = CStage.fetched →
      exec (.writeUncorrectable tag) s = .next (s.after
        (s.fresh.nvmStart tag))) ∧
  (∀ (s : State) (tag : Nat) (c : CmdSt),
      s.cmd tag = some c → c.sq ≠ 0 → c.opc = 0x08 → c.stage = CStage.fetched →
      exec (.writeZeroes tag) s = .next (s.after
        (s.fresh.nvmStart tag))) ∧
  (∀ (s : State) (tag : Nat) (c : CmdSt) (ranges : List Nat),
      s.cmd tag = some c → c.sq ≠ 0 → c.opc = 0x09 → c.stage = CStage.fetched → (pairs ranges).length ≤ 256 →
      exec (.datasetManagement tag true ranges) s = .next (s.after
        ((s.fresh.setCmd tag { c with ranges := pairs ranges }).nvmStart tag))) ∧
  (∀ (s : State) (tag : Nat) (c : CmdSt) (ranges : List Nat),
      s.cmd tag = some c → c.sq ≠ 0 → c.opc = 0x09 → c.stage = CStage.fetched → (pairs ranges).length ≤ 256 →
      exec (.datasetManagement tag false ranges) s = .next (s.after
        (s.fresh.nvmFinish tag 0 (s.nvmGate c))))

/-- Gauge samples estimates and audits: what 10 commands leave, each from the states that its rules ask for. The
commands are GAUGE_SAMPLE, ESTIMATE, FAULT_CAUSE_CLEARED, SOC_REP_STEP, AUDIT_START, AUDIT_REST_REACHED,
AUDIT_LOAD_SAMPLE, LEARNED_VALUE_WRITE, HIBERNATION_SAMPLE and ISNS_WAKE. A sample is recorded, the pack
state and the state of charge follow it, and a trigger of an estimate is noted; an estimate publishes the
deliverable energy to the ledger; a pack whose fault has been absent long enough is treated as arriving;
SOC_REP moves one point; a due audit starts, connects its load at rest and takes its resistance from the
loaded sample; the learned values are written; the gauge samples in hibernation too. (R364, R365, R367,
R368, R370, R371, R372, R373, R374, R378, R379) -/
def Obligations.GaugeSamplesEstimatesAndAudits : Prop :=
  (∀ (s : State) (v tm id ser : Nat) (serOk ntcBad : Bool),
      s.seq.main = true ∨ s.cvn.code ≠ 0 →
      exec (.gaugeSample v tm id ser serOk ntcBad) s = .next (s.after
        (let m : State := ((((s.fresh.wr R.GAU_MEAS_V v).wr R.GAU_MEAS_T tm).wr R.GAU_ID_ID_CODE id).put R.GAU_ID_SER_OK (serOk && s.serReads)).wr R.GAU_SER_SER (if serOk && s.serReads then ser else 0); let n : State := ({ m with gau := { s.gau with ntcBad := ntcBad } }.restSample).packPolicyCheck.packStep; let p : State := if !n.packOn then n else if n.gau.aud ≠ 0 ∨ n.cvn.code = 1 ∨ n.cvn.code = 2 then n else n.idleRule; p.audSample.coldNow.estFall))) ∧
  (∀ (s : State),
      s.on R.GAU_STAT_HIB = false → s.ledger.started = true ∨ s.gau.lrnDue = false →
      s.gau.estDue = true ∨ (s.rd R.GAU_SMP_EST_INT ≠ 0 ∧ s.tick % s.rd R.GAU_SMP_EST_INT = 512 % s.rd R.GAU_SMP_EST_INT) →
      exec .estimate s = .next (s.after
        (let e : Nat := min s.deliverable (2 ^ 32 - 1); let x : State := { (s.fresh.wr R.GAU_EG_E_G e).wr R.LDG_EGAU_E_G e with gau := { s.gau with estDue := false, socEst := s.rd R.GAU_SOC_SOC, tEst := s.gauT } }; let y : State := if s.on R.LDG_STAT_CDN_ACT && decide (e < s.rd R.LDG_CDN_CDN) then (x.wr R.LDG_CDN_CDN e).cdnpNow else x; (if s.ledger.started then y else { y.wr R.LDG_EUSE_E_USE e with ledger := { s.ledger with started := true, tLast := s.tick } }).ledgerStart false))) ∧
  (∀ (s : State),
      s.rd R.GAU_STAT_PSTATE = 3 → s.gau.causeGone ≠ 0 → s.gau.causeGone + 32767 ≤ s.tick → s.causeStays = false →
      exec .faultCauseCleared s = .next (s.after
        (s.fresh.packArrive))) ∧
  (∀ (s : State),
      s.packOn = true → s.gau.repAt + 983040 ≤ s.tick →
      exec .socRepStep s = .next (s.after
        (let want : Nat := s.rd R.GAU_SOC_SOC * 100 / 65536; let r : Nat := s.rd R.GAU_SOC_SOC_REP; let x : State := s.fresh.wr R.GAU_SOC_SOC_REP (if r < want then r + 1 else if want < r then r - 1 else r); { x with gau := { s.gau with repAt := s.tick } }))) ∧
  (∀ (s : State),
      s.gau.aud = 0 → s.gau.audDue = true ∨ s.gau.learned.audTick + s.ap R.GAU_AUD_AUD_PER * 2831155200 ≤ s.tick →
      s.gau.audRetry ≤ s.tick → s.audBar = 0 →
      exec .auditStart s = .next (s.after
        ({ s.fresh with gau := { s.gau with aud := 1, audAt := s.tick, audQ := 0, audLoq := 0, audDue := false } }.put R.GAU_STAT_AUD_BUSY true))) ∧
  (∀ (s : State),
      s.on R.GAU_STAT_REST = true → s.gau.aud = 1 →
      exec .auditRestReached s = .next (s.after
        (let so : Nat := s.socV s.gauV s.gauT; let x : State := s.fresh.wr R.GAU_SOC_SOC so; { x with gau := { s.gau with aud := 2, audAt := s.tick, audSoc0 := so, audO0 := s.gauV } }.audLoad true))) ∧
  (∀ (s : State),
      s.on R.GAU_STAT_REST = true → s.gau.aud = 4 → s.gau.audSoc0 < s.socV s.gauV s.gauT + 1311 →
      exec .auditRestReached s = .next (s.after
        ((s.fresh.wr R.GAU_SOC_SOC (s.socV s.gauV s.gauT)).audDisq 7))) ∧
  (∀ (s : State) (v : Nat),
      s.gau.aud = 2 → s.gau.audAt + 64 ≤ s.tick →
      exec (.auditLoadSample v) s = .next (s.after
        (let rm : Nat := cdiv ((s.gau.audO0 - v) * s.gp 11 1) v; let r0 : Nat := s.resT (segBelow s.gau.audSoc0) ((s.cols s.gauT).headD 0) (s.rateClass (cdiv (v * 1000) (s.gp 11 1))); { s.fresh.wr R.GAU_MEAS_V v with gau := { s.gau with aud := 3, audAt := s.tick, audRf := cdiv (rm * 1000) r0 } }))) ∧
  (∀ (s : State),
      s.gau.lrnDue = true ∨ s.rd R.GAU_LRNT_TICK + 2831155200 ≤ s.tick → s.seq.main = true → s.cvn.code = 0 →
      exec .learnedValueWrite s = .next (s.after
        (let nv : Learned := { s.gau.learned with soc := s.rd R.GAU_SOC_SOC }; ({ s.fresh with gau := { s.gau with learned := nv, lvFlash := some nv, lrnDue := false } }.lvAppend).wr R.GAU_LRNT_TICK s.tick))) ∧
  (∀ (s : State) (v tm id ser : Nat) (serOk ntcBad : Bool),
      s.on R.GAU_STAT_HIB = true →
      exec (.hibernationSample v tm id ser serOk ntcBad) s = .next (s.after
        (s.fresh.gauSample v tm id ser serOk ntcBad))) ∧
  (∀ (s : State) (v tm id ser : Nat) (serOk ntcBad : Bool),
      s.on R.GAU_STAT_HIB = true →
      exec (.isnsWake v tm id ser serOk ntcBad) s = .next (s.after
        (let x : State := s.fresh.gauSample v tm id ser serOk ntcBad; if x.packOn && !x.seq.main then x.signal (.fixed 0x0C01 2) 0xFFFFFFFF (leBytes 2 v ++ leBytes 2 tm ++ leBytes 4 (x.rd R.GAU_SOC_SOC)) else x)))

/-- MAIN_POWER_ON, RAIL_ENABLE, PG_TIMEOUT, PHASE_END, RAIL_DISABLE, OFF_WAIT_EXPIRY, DOWN_SEQUENCE_END,
T_MIN_OFF_EXPIRY and PWR_FAIL_N_RELEASE. A rail whose delay has passed and whose predecessors are good is
enabled; one that is not good in time fails; a phase ends when each of its rails is good or has failed; a
rail is disabled when its dependants are off, and anyway at the end of the wait; the chip is in cold reset
when a down-sequence has ended; an on request starts phase 1 when its conditions hold. (R384, R385, R386,
R387, R388, R389, R397, R542, Table 14-3) -/
def Obligations.SequencerPhasesAndRails : Prop :=
  (∀ (s : State),
      s.seq.main = false →
      exec .mainPowerOn s = .next (s.after
        (let x : State := ({ s.fresh with seq := { s.seq with main := true } }.put R.GAU_STAT_HIB false).estNow; (if s.seqState = 4 then x.put R.SEQ_STAT_ON_LATCH true else x).startIfReady))) ∧
  (∀ (s : State) (rail : Nat),
      rail < 32 → s.phaseRail rail = true → s.railOn rail = false → s.railFailed rail = false →
      bit s.seq.dropped rail = false → s.seq.start + s.rd R.SEQ_RDLY_ON_DLY rail ≤ s.tick →
      rails.all (fun (d : Nat) => !s.dependsOn rail d || s.railGood d) = true →
      exec (.railEnable rail) s = .next (s.after
        (let x : State := (s.fresh.wr R.SEQ_ON_RAILS (setBitTo (s.rd R.SEQ_ON_RAILS) rail true)).emit (.issue 1 [rail, 1]); { x with seq := { s.seq with enAt := smSet 0 rail s.tick s.seq.enAt } }))) ∧
  (∀ (s : State) (rail : Nat),
      rail < 32 → s.phaseRail rail = true → s.railOn rail = true → s.railGood rail = false →
      smGet 0 s.seq.enAt rail + s.rd R.SEQ_GLB_PG_TMO ≤ s.tick →
      exec (.pgTimeout rail) s = .next (s.after
        (let deps : List Nat := s.dependants rail; let x : State := (s.fresh.railDrive rail false).wr R.SEQ_FAIL_RAILS (setBitTo (s.rd R.SEQ_FAIL_RAILS) rail true); let waiting : List Nat := deps.filter (fun (d : Nat) => !x.railOn d); let y : State := { x with seq := { x.seq with dropped := Nat.lor s.seq.dropped (railMask (fun (d : Nat) => waiting.contains d)) } }; let z : State := y.offList deps; z.seqLog rail 1 (if s.seqState = 2 then 1 else 0)))) ∧
  (∀ (s : State),
      s.seqState = 1 →
      rails.all (fun (n : Nat) => !s.phaseRail n || s.railGood n || s.railFailed n || bit s.seq.dropped n) = true →
      exec .phaseEnd s = .next (s.after
        (let x : State := { s.fresh with boot := { s.boot with p1done := true, p1bad := rails.any (fun (n : Nat) => s.phaseRail n && (s.railFailed n || bit s.seq.dropped n)) } }; if s.seq.phase2Ready then x.startPhase2 else x))) ∧
  (∀ (s : State),
      s.seqState = 2 →
      rails.all (fun (n : Nat) => !s.phaseRail n || s.railGood n || s.railFailed n || bit s.seq.dropped n) = true →
      exec .phaseEnd s = .next (s.after
        (let x : State := s.fresh.wr R.SEQ_STAT_STATE 3; if s.rd R.BST_STAT_STAGE = 7 then x.stage8 else x))) ∧
  (∀ (s : State) (rail : Nat),
      rail < 32 → smGet 0 s.seq.offs rail ≠ 0 → s.railOn rail = true →
      smGet 0 s.seq.offs rail - 1 + s.rd R.SEQ_RDLY_OFF_DLY rail ≤ s.tick → s.dependantsOff rail = true →
      exec (.railDisable rail) s = .next (s.after
        (s.fresh.railDrive rail false))) ∧
  (∀ (s : State) (rail : Nat),
      rail < 32 → smGet 0 s.seq.offs rail ≠ 0 → s.railOn rail = true →
      smGet 0 s.seq.offs rail - 1 + s.rd R.SEQ_RDLY_OFF_DLY rail + s.rd R.SEQ_GLB_OFF_WAIT ≤ s.tick →
      s.dependantsOff rail = false →
      exec (.offWaitExpiry rail) s = .next (s.after
        (let bad : Nat := (rails.find? (fun (m : Nat) => s.dependsOn m rail && bit s.seq.wasOn m && decide (s.rd R.SEQ_RTH_OFF_TH m ≤ s.rd R.SEQ_RDG_LAST m))).getD rail; (s.fresh.railDrive rail false).seqLog bad 3 0))) ∧
  (∀ (s : State),
      s.seqState = 4 →
      rails.all (fun (n : Nat) => !s.railDriven n || (!s.railOn n && (!bit s.seq.wasOn n || decide (s.rd R.SEQ_RDG_LAST n < s.rd R.SEQ_RTH_OFF_TH n) || decide (smGet 0 s.seq.offAt n + s.rd R.SEQ_GLB_OFF_WAIT ≤ s.tick)))) = true →
      exec .downSequenceEnd s = .next (s.after
        (let x : State := (s.fresh.coldAssert 1).wr R.SEQ_STAT_STATE 0; let y : State := { x with seq := { x.seq with endAt := x.tick + 1, offs := [], wasOn := 0, snap := false, holdAt := if x.on R.SEQ_STAT_FLT_DRV then x.tick + x.rd R.SEQ_TIM_FLT_HOLD + 1 else 0 } }; if y.seq.main then y else y.put R.GAU_STAT_HIB true))) ∧
  (∀ (s : State),
      s.canStart = true →
      exec .tMinOffExpiry s = .next (s.after
        (let x : State := if s.seq.tblOk then s.fresh else s.fresh.seqBootstrap; let y : State := (((x.put R.SEQ_STAT_BOOTSTRAP (!s.seq.tblOk)).wr R.SEQ_STAT_STATE 1).put R.SEQ_STAT_ON_LATCH false).wr R.SEQ_FAIL_RAILS 0; { y with seq := { x.seq with start := s.tick, wasOn := 0, offs := [], dropped := 0, logged := false, snap := false, oow := [], pgLow := [], phase2Ready := false }, boot := { x.boot with p1done := false, p1bad := false } }))) ∧
  (∀ (s : State),
      exec .pwrFailNRelease s = .next (s.after
        ({ s.fresh with seq := { s.seq with pwrFail := false } }.startIfReady)))

/-- Supervision and supplies: what 9 commands leave, each from the states that its rules ask for. The commands are
FAULT_SCAN, TELEMETRY_AVERAGE, FLT_HOLD_EXPIRY, SEQ_FLT_N_RELEASE, SEQUENCER_SUPPLY_COLLAPSE,
MAIN_POWER_LOSS, ALWAYS_ON_RESET, VBAT_AON_RETURN and CHIP_RST_N_ASSERT. A scan records the readings of the
configured rails, judges each rail and the fault line; an average is recorded; a held fault line is
released; a collapse releases every rail and asserts cold reset; without main power the gauge hibernates;
CHIP_RST_N asserts cold reset outside a save, is ignored in a save of code 1 or 2 and latched in one of code
3 or 4. (R386, R393, R394, R395, R396, R450, R451, R486, R526, R542) -/
def Obligations.SupervisionAndSupplies : Prop :=
  (∀ (s : State) (readings : List Nat) (pg : Nat) (fltLow : Bool),
      s.seqState ≠ 0 →
      exec (.faultScan readings pg fltLow) s = .next (s.after
        (let x : State := (rails.filter (fun (n : Nat) => s.railFlag n 0)).foldl (fun (y : State) (n : Nat) => y.wr R.SEQ_RDG_LAST (readings.getD n 0) n) s.fresh; (rails.foldl (fun (y : State) (n : Nat) => y.scanRail n pg) x).faultLine fltLow))) ∧
  (∀ (s : State) (avgs : List Nat),
      s.seqState ≠ 0 →
      exec (.telemetryAverage avgs) s = .next (s.after
        ((rails.filter (fun (n : Nat) => s.railFlag n 0)).foldl (fun (y : State) (n : Nat) => y.wr R.SEQ_RDG_AVG (avgs.getD n 0) n) s.fresh))) ∧
  (∀ (s : State),
      s.on R.SEQ_STAT_FLT_DRV = true → s.seq.holdAt ≠ 0 → s.seq.holdAt - 1 ≤ s.tick →
      exec .fltHoldExpiry s = .next (s.after
        (let x : State := { s.fresh.put R.SEQ_STAT_FLT_DRV false with seq := { s.seq with holdAt := 0, fltCnt := 0 } }; (x.emit (.issue 2 [0])).startIfReady))) ∧
  (∀ (s : State),
      exec .seqFltNRelease s = .next (s.after
        ({ s.fresh with seq := { s.seq with fltLow := false, fltCnt := 0 } }.startIfReady))) ∧
  (∀ (s : State),
      exec .sequencerSupplyCollapse s = .next (s.after
        (let pay : List Nat := leBytes 4 (s.rd R.SEQ_ON_RAILS) ++ leBytes 4 (s.rd R.SEQ_GOOD_RAILS); let x : State := if s.seq.vbat ∧ s.seqState = 4 then s.fresh.signal (.fixed 0x0D04 4) 0xFFFFFFFF pay else s.fresh; let y : State := ((x.wr R.SEQ_ON_RAILS 0).wr R.SEQ_GOOD_RAILS 0).wr R.SEQ_STAT_STATE 0; { y with seq := { y.seq with offs := [], wasOn := 0, snap := false } }.coldAssert 1))) ∧
  (∀ (s : State),
      s.seq.main = true → s.gau.aud = 0 →
      exec .mainPowerLoss s = .next (s.after
        (let x : State := { s.fresh with seq := { s.seq with main := false } }; if s.cvn.code = 0 then x.put R.GAU_STAT_HIB true else x))) ∧
  (∀ (s : State),
      s.seq.main = true → s.gau.aud ≠ 0 →
      exec .mainPowerLoss s = .next (s.after
        (let x : State := { s.fresh with seq := { s.seq with main := false } }.audDisq 3; if x.cvn.code = 0 then x.put R.GAU_STAT_HIB true else x))) ∧
  (∀ (s : State),
      exec .alwaysOnReset s = .next (s.after
        ((s.fresh.coldAssert 0).alwaysClear))) ∧
  (∀ (s : State),
      s.seq.vbat = false →
      exec .vbatAonReturn s = .next (s.after
        (let x : State := { s.fresh with seq := { s.seq with vbat := true } }; if s.seq.main then x else x.put R.GAU_STAT_HIB true))) ∧
  (∀ (s : State),
      s.cvn.code = 0 →
      exec .chipRstNAssert s = .next (s.after
        (let x : State := s.fresh.coldAssert 2; let y : State := { x with boot := { x.boot with p1done := s.boot.p1done, p1bad := s.boot.p1bad } }; (if y.seqState = 4 then y.put R.SEQ_STAT_ON_LATCH true else y).startIfReady))) ∧
  (∀ (s : State),
      s.cvn.code = 1 ∨ s.cvn.code = 2 →
      exec .chipRstNAssert s = .next (s.after
        (s.fresh))) ∧
  (∀ (s : State),
      3 ≤ s.cvn.code →
      exec .chipRstNAssert s = .next (s.after
        ({ s.fresh with cvn := { s.cvn with coldLatched := true } })))

/-- IDENT, STATUS, ALERT_ACK, REC_SEL, REC_READ, MCTP, ALERT_RESPONSE, MCTP_ASSEMBLY_TIMEOUT and FAST_PATH_WAKE. An
awake two-wire port answers IDENT with its identity and service level and STATUS with its states; an
acknowledged write with a good PEC clears alert causes or selects a record, and one with a bad PEC is
counted and discarded; a record read answers the latched record; packets join their message; the alert
response releases the line; a sleeping fast path wakes. (R399, R408, R410, R411, R412, R413, R467, Table
15-5, Table 15-6) -/
def Obligations.TwoWireCommandCodesAndAlerts : Prop :=
  (∀ (s : State),
      s.seq.main = true ∨ s.seq.vbat = true → s.seq.main = false ∨ s.on R.TWI_STAT_SLEEP 0 = false →
      exec .ident s = .next (s.after
        (s.fresh.emit (.twi 0 ([Config.standardByte 0 0 % 256, Config.standardByte 0 1 % 256] ++ leBytes 2 (s.rd R.CAL_HWTYPE_HW_TYPE) ++ [0xB0, s.level, 0, 0] ++ (List.range 4).flatMap (fun (k : Nat) => leBytes 4 (s.rd R.CAL_UID_UID k))))))) ∧
  (∀ (s : State),
      s.seq.main = true ∨ s.seq.vbat = true → s.seq.main = false ∨ s.on R.TWI_STAT_SLEEP 0 = false →
      exec .status s = .next (s.after
        (s.fresh.emit (.twi 0 [s.level, s.rd R.SEQ_STAT_STATE, s.rd R.GAU_STAT_PSTATE, s.rd R.EVR_STAT_RET_CNT, s.rd R.TWI0_ALERT_CAUSE, s.persState, 0, 0])))) ∧
  (∀ (s : State) (mask : Nat),
      s.seq.main = true ∨ s.seq.vbat = true → s.seq.main = false ∨ s.on R.TWI_STAT_SLEEP 0 = false → mask < 256 →
      exec (.alertAck mask true) s = .next (s.after
        ((s.fresh.wr R.TWI0_ALERT_CAUSE (s.rd R.TWI0_ALERT_CAUSE - Nat.land (s.rd R.TWI0_ALERT_CAUSE) mask)).alertRefresh))) ∧
  (∀ (s : State) (mask : Nat),
      s.seq.main = true ∨ s.seq.vbat = true → s.seq.main = false ∨ s.on R.TWI_STAT_SLEEP 0 = false →
      exec (.alertAck mask false) s = .next (s.after
        ((s.fresh.inc R.TWI_CNT1_PEC_ERR 0).emit .twiNack))) ∧
  (∀ (s : State) (area index : Nat),
      s.seq.main = true ∨ s.seq.vbat = true → s.seq.main = false ∨ s.on R.TWI_STAT_SLEEP 0 = false → area < 256 →
      index < 65536 →
      exec (.recSel area index true) s = .next (s.after
        ({ s.fresh with evr := { s.evr with twiArea := area, twiIndex := index, twiFetching := true, twiLatch := none } }))) ∧
  (∀ (s : State),
      s.seq.main = true ∨ s.seq.vbat = true → s.seq.main = false ∨ s.on R.TWI_STAT_SLEEP 0 = false →
      s.evr.twiArea = 0 ∨ (s.seq.main = true ∧ s.level ≠ 0) → s.evr.twiLatch.isSome = true →
      exec .recRead s = .next (s.after
        (let x : State := match s.evr.twiLatch with | some (_, some y) => s.fresh.emit (.twi 64 (recBytes y.record y.seq)) | _ => s.fresh.emit (.twi 0 []); { x with evr := { s.evr with twiIndex := nextIndex s.evr.twiArea s.evr.twiIndex, twiFetching := true, twiLatch := none } }))) ∧
  (∀ (s : State),
      s.seq.main = true ∨ s.seq.vbat = true → s.seq.main = false ∨ s.on R.TWI_STAT_SLEEP 0 = false →
      s.evr.twiArea = 0 ∨ (s.seq.main = true ∧ s.level ≠ 0) → s.evr.twiLatch = none →
      s.on R.TWI_STAT_STRETCH 0 = false →
      exec .recRead s = .next (s.after
        ({ s.fresh with evr := { s.evr with twiFetching := true } }.emit .twiNack))) ∧
  (∀ (s : State) (src tag : Nat) (data : List Byte),
      s.seq.main = true → s.on R.TWI_STAT_SLEEP 0 = false → s.fastPath = true →
      s.twi.asm.any (fun (m : MctpAsm) => decide (m.src = src) && decide (m.tag = tag)) = false →
      s.twi.asm.length < 4 → data.length ≤ 64 →
      exec (.mctp src tag true false data true) s = .next (s.after
        ({ s.fresh with twi := { s.twi with asm := s.twi.asm ++ [({ src := src, tag := tag, data := data.map (fun (b : Byte) => b.toNat), tick := s.tick } : MctpAsm)] } }))) ∧
  (∀ (s : State) (src tag : Nat) (som eom : Bool) (data : List Byte),
      s.seq.main = true → s.on R.TWI_STAT_SLEEP 0 = false → s.fastPath = true →
      exec (.mctp src tag som eom data true) s = .next (s.after
        (s.fresh.mctpPacket src tag som eom (data.map (fun (b : Byte) => b.toNat))))) ∧
  (∀ (s : State),
      s.on R.TWI0_ALERT_ASSERTED = true →
      exec (.alertResponse true) s = .next (s.after
        (({ s.fresh with twi := { s.twi with acked := true } }.alertRefresh).emit (.twi 0 [2 * s.rd R.TWI_STAT_OWN_ADDR 0])))) ∧
  (∀ (s : State),
      exec (.alertResponse false) s = .next (s.after
        (s.fresh))) ∧
  (∀ (s : State) (src tag : Nat),
      s.twi.asm.any (fun (m : MctpAsm) => decide (m.src = src) && decide (m.tag = tag) && decide (m.tick + 3277 ≤ s.tick)) = true →
      exec (.mctpAssemblyTimeout src tag) s = .next (s.after
        ({ s.fresh with twi := { s.twi with asm := s.twi.asm.filter (fun (m : MctpAsm) => decide (¬ (m.src = src ∧ m.tag = tag))) } }.inc R.TWI_CNT2_MCTP_DROP 0))) ∧
  (∀ (s : State),
      s.seq.main = true → s.on R.TWI_STAT_SLEEP 0 = true → s.on R.TWI_STAT_STRETCH 0 = true →
      exec .fastPathWake s = .next (s.after
        (s.fresh.pdWake 29))) ∧
  (∀ (s : State),
      s.seq.main = true → s.on R.TWI_STAT_SLEEP 0 = true → s.on R.TWI_STAT_STRETCH 0 = false →
      exec .fastPathWake s = .next (s.after
        (((s.fresh.pdWake 29).inc R.TWI_CNT2_WAKE_NACK 0).emit .twiNack)))

/-- Management messages: what 12 commands leave, each from the states that its rules ask for. The commands are
SET_ENDPOINT_ID, GET_ENDPOINT_ID, GET_ENDPOINT_UUID, GET_MCTP_VERSION_SUPPORT, GET_MESSAGE_TYPE_SUPPORT,
GET_VENDOR_DEFINED_MESSAGE_SUPPORT, READ_NVME_MI_DATA_STRUCTURE, NVM_SUBSYSTEM_HEALTH_STATUS_POLL,
CONTROLLER_HEALTH_STATUS_POLL, CONFIGURATION_SET, CONFIGURATION_GET and NVME_ADMIN_TUNNEL. While the fast
path serves and no firmware activation runs, each message of the two-wire management bus is answered, an
NVMe-MI message once Odber runs on a core. The layouts of the control and NVMe-MI answers are the standards'
(a log entry marks them PRESUMED). (R413, R414, R415) -/
def Obligations.ManagementMessages : Prop :=
  (∀ (s : State) (eid : Nat),
      s.mctpNow = true → eid ≠ 0 → eid < 255 → s.ergBase 0x06 3 0 = 0 →
      exec (.setEndpointId eid) s = .next (s.after
        ({ s.fresh with twi := { s.twi with eid := eid } }.emit (.twi 0 [0, eid, 0])))) ∧
  (∀ (s : State) (eid : Nat),
      s.mctpNow = true → eid ≠ 0 → eid < 255 → s.ergBase 0x06 3 0 ≠ 0 →
      exec (.setEndpointId eid) s = .next (s.after
        (s.fresh.emit (.twi 0 [0x10, s.ergBase 0x06 3 0, 0])))) ∧
  (∀ (s : State),
      s.mctpNow = true →
      exec .getEndpointId s = .next (s.after
        (s.fresh.emit (.twi 0 [if s.ergBase 0x06 3 0 ≠ 0 then s.ergBase 0x06 3 0 else s.twi.eid, b2n (decide (s.ergBase 0x06 3 0 ≠ 0)), 0])))) ∧
  (∀ (s : State),
      s.mctpNow = true →
      exec .getEndpointUuid s = .next (s.after
        (s.fresh.emit (.twi 0 ((List.range 16).map (fun (k : Nat) => Config.standardByte 3 k % 256)))))) ∧
  (∀ (s : State) (mtype : Nat),
      s.mctpNow = true → mtype = 255 ∨ mtype = 0 →
      exec (.getMctpVersionSupport mtype) s = .next (s.after
        (s.fresh.emit (.twi 0 [1, 0xF1, 0xF3, 0xF0, 0])))) ∧
  (∀ (s : State) (mtype : Nat),
      s.mctpNow = true → mtype ≠ 0 → mtype ≠ 255 → mtype ≠ 4 → mtype ≠ 0x7E →
      exec (.getMctpVersionSupport mtype) s = .next (s.after
        (s.fresh.emit (.twi 0x80 [])))) ∧
  (∀ (s : State),
      s.mctpNow = true →
      exec .getMessageTypeSupport s = .next (s.after
        (s.fresh.emit (.twi 0 [3, 0x00, 0x04, 0x7E])))) ∧
  (∀ (s : State),
      s.mctpNow = true →
      exec (.getVendorDefinedMessageSupport 0) s = .next (s.after
        (s.fresh.emit (.twi 0 [0xFF, 0, Config.standardByte 0 0 % 256, Config.standardByte 0 1 % 256, 0, 0])))) ∧
  (∀ (s : State) (port ctrl : Nat),
      s.mctpNow = true → s.boot.bootBlock = false →
      exec (.readNvmeMiDataStructure 2 port ctrl) s = .next (s.after
        (let cs : List Nat := s.fnIds.filter (fun (f : Nat) => decide (ctrl ≤ f)); s.fresh.emit (.twi 0 (cs.length :: cs))))) ∧
  (∀ (s : State) (dtype port ctrl : Nat),
      s.mctpNow = true → s.boot.bootBlock = false → dtype ≤ 4 → dtype ≠ 2 → dtype ≠ 3 ∨ s.fnIds.contains ctrl = true →
      exec (.readNvmeMiDataStructure dtype port ctrl) s = .next (s.after
        (s.fresh.emit (.twi 0 ((List.range 32).map (fun (k : Nat) => Config.standardByte (16 + dtype) (32 * port + k) % 256)))))) ∧
  (∀ (s : State) (clear : Bool),
      s.mctpNow = true → s.boot.bootBlock = false →
      exec (.nvmSubsystemHealthStatusPoll clear) s = .next (s.after
        (let r : Nat × State := s.fresh.free; r.2.emit (.twi 0 [0x30 + 8 * b2n (s.on R.HP_STAT_ACTIVE 0) + 4 * b2n (s.on R.HP_STAT_ACTIVE 1), 255 - s.critWarn, s.rd R.PWR_THERM_TJ, s.rd R.FTL_LIFE_PCT_USED, r.1 % 65536])))) ∧
  (∀ (s : State) (ctrl count : Nat),
      s.mctpNow = true → s.boot.bootBlock = false →
      exec (.controllerHealthStatusPoll ctrl count) s = .next (s.after
        (let cs : List Nat := (s.fnIds.filter (fun (f : Nat) => decide (ctrl ≤ f))).take count; let cfs : Bool := s.on R.BST_STAT_DONE && decide (s.level < 4); s.fresh.emit (.twi 0 (cs.length :: cs.flatMap (fun (f : Nat) => [f, b2n (s.fn f).rdy + 2 * b2n cfs + 8 * b2n (s.fn f).shst, s.rd R.PWR_THERM_TJ, s.rd R.FTL_LIFE_PCT_USED, s.rd R.FTL_AVAIL_AVAIL, s.critWarn])))))) ∧
  (∀ (s : State) (id value : Nat),
      s.mctpNow = true → s.boot.bootBlock = false → (id = 1 ∧ value % 16 ≠ 0 ∧ value % 16 ≤ 3) ∨ id = 2 →
      exec (.configurationSet id value) s = .next (s.after
        ({ s.fresh with twi := { s.twi with miConf := smSet 0 id value s.twi.miConf } }.emit (.twi 0 [])))) ∧
  (∀ (s : State) (value : Nat),
      s.mctpNow = true → s.boot.bootBlock = false → value % 65536 = 64 →
      exec (.configurationSet 3 value) s = .next (s.after
        (s.fresh.emit (.twi 0 [])))) ∧
  (∀ (s : State),
      s.mctpNow = true → s.boot.bootBlock = false →
      exec (.configurationGet 1) s = .next (s.after
        (s.fresh.emit (.twi 0 [if smGet 0 s.twi.miConf 1 = 0 then s.rd R.TWI_STAT_RATE 0 + 1 else smGet 0 s.twi.miConf 1])))) ∧
  (∀ (s : State),
      s.mctpNow = true → s.boot.bootBlock = false →
      exec (.configurationGet 3) s = .next (s.after
        (s.fresh.emit (.twi 0 [64])))) ∧
  (∀ (s : State) (ctrl nsid arg : Nat) (d : List Nat),
      s.mctpNow = true → s.boot.bootBlock = false → s.fnIds.contains ctrl = true →
      s.identify ctrl (arg % 256) nsid = some d →
      exec (.nvmeAdminTunnel ctrl 0x06 nsid arg) s = .next (s.after
        (s.fresh.emit (.cqe ctrl 0 0 0 0 d)))) ∧
  (∀ (s : State) (ctrl nsid arg : Nat) (d : List Nat),
      s.mctpNow = true → s.boot.bootBlock = false → s.fnIds.contains ctrl = true →
      [0x01, 0x02, 0x03, 0xC0, 0xC1].contains (arg % 256) = true → s.logPage ctrl (arg % 256) = some d →
      exec (.nvmeAdminTunnel ctrl 0x02 nsid arg) s = .next (s.after
        (s.fresh.emit (.cqe ctrl 0 0 0 0 d)))) ∧
  (∀ (s : State) (ctrl nsid arg v : Nat),
      s.mctpNow = true → s.boot.bootBlock = false → s.fnIds.contains ctrl = true →
      s.featureOf ctrl (arg % 256) nsid = some v →
      exec (.nvmeAdminTunnel ctrl 0x0A nsid arg) s = .next (s.after
        (s.fresh.emit (.cqe ctrl 0 0 0 0 [v])))) ∧
  (∀ (s : State) (ctrl opc nsid arg : Nat),
      s.mctpNow = true → s.boot.bootBlock = false → s.fnIds.contains ctrl = true → opc ≠ 0x06 → opc ≠ 0x02 →
      opc ≠ 0x0A →
      exec (.nvmeAdminTunnel ctrl opc nsid arg) s = .next (s.after
        (s.fresh.emit (.cqe ctrl 0 0 0 1 []))))

/-- TWI1_TRANSFER, ADDRESS_RETRY, TARGET_STRETCH_TIMEOUT, STRETCH_LIMIT, TARGET_SCL_TIMEOUT, BUS_CLEAR_ATTEMPT and
CLEAR_WAIT_EXPIRY. A transfer of an idle port ends with the status its outcome has; an unanswered address is
sent again until RETRY_N; a stretched target and a held clock time out; a bus clear returns the port to Idle
or waits, and the third failure leaves it Faulted. (R401, R404, R405, R406, R407, R409, R416, R418, Table
15-4) -/
def Obligations.TwoWireTransfers : Prop :=
  (∀ (s : State) (port addr seg losses : Nat) (muxNack : Bool),
      port < 2 → addr < 128 → seg < 4 → s.saveHard = false → s.rd R.TWI_STAT_STATE port < 3 →
      smGet none s.twi.run port = none → port = 0 ∨ s.ergBase 0x06 5 0 = 0 ∨ s.twi.mux = seg + 1 →
      losses < s.rd R.TWI_POL_ARB_MAX port →
      exec (.twi1Transfer port addr seg 0 losses muxNack) s = .next (s.after
        (let x : State := ((((s.fresh.addSat R.TWI_CNT1_ARB_LOST (min losses (s.rd R.TWI_POL_ARB_MAX port)) port).wr R.TWI_LAST_STATUS 0 port).wr R.TWI_LAST_ADDR addr port).wr R.TWI_LAST_TRIES 1 port).inc R.TWI_CNT0_XFER_OK port; { x with twi := { s.twi with run := smSet none port none s.twi.run } }))) ∧
  (∀ (s : State) (port addr seg losses : Nat) (muxNack : Bool),
      port < 2 → addr < 128 → seg < 4 → s.saveHard = false → s.rd R.TWI_STAT_STATE port < 3 →
      smGet none s.twi.run port = none → port = 0 ∨ s.ergBase 0x06 5 0 = 0 ∨ s.twi.mux = seg + 1 →
      losses < s.rd R.TWI_POL_ARB_MAX port → s.rd R.TWI_POL_RETRY_N port = 0 →
      exec (.twi1Transfer port addr seg 1 losses muxNack) s = .next (s.after
        (let x : State := ((((s.fresh.addSat R.TWI_CNT1_ARB_LOST (min losses (s.rd R.TWI_POL_ARB_MAX port)) port).wr R.TWI_LAST_STATUS 1 port).wr R.TWI_LAST_ADDR addr port).wr R.TWI_LAST_TRIES 1 port).inc R.TWI_CNT0_NORESP port; { x with twi := { s.twi with run := smSet none port none s.twi.run } }))) ∧
  (∀ (s : State) (port addr seg losses : Nat) (muxNack : Bool),
      port < 2 → addr < 128 → seg < 4 → s.saveHard = false → s.rd R.TWI_STAT_STATE port < 3 →
      smGet none s.twi.run port = none → port = 0 ∨ s.ergBase 0x06 5 0 = 0 ∨ s.twi.mux = seg + 1 →
      losses < s.rd R.TWI_POL_ARB_MAX port → s.rd R.TWI_POL_RETRY_N port ≠ 0 →
      exec (.twi1Transfer port addr seg 1 losses muxNack) s = .next (s.after
        ({ s.fresh.addSat R.TWI_CNT1_ARB_LOST (min losses (s.rd R.TWI_POL_ARB_MAX port)) port with twi := { s.twi with run := smSet none port (some ({ port := port, addr := addr, seg := seg, outcome := 1, losses := losses, tries := 1, pec := decide (port = 0) || (bit (s.ergBase 0x06 14 0) 8 && decide (addr = s.pol 0x12 6 0)), muxNack := muxNack } : TwiXfer)) s.twi.run } }.wr R.TWI_STAT_STATE 1 port))) ∧
  (∀ (s : State) (port addr seg losses : Nat) (muxNack : Bool),
      port < 2 → addr < 128 → seg < 4 → s.saveHard = false → s.rd R.TWI_STAT_STATE port < 3 →
      smGet none s.twi.run port = none → port = 0 ∨ s.ergBase 0x06 5 0 = 0 ∨ s.twi.mux = seg + 1 →
      losses < s.rd R.TWI_POL_ARB_MAX port →
      exec (.twi1Transfer port addr seg 2 losses muxNack) s = .next (s.after
        (let x : State := ((((s.fresh.addSat R.TWI_CNT1_ARB_LOST (min losses (s.rd R.TWI_POL_ARB_MAX port)) port).wr R.TWI_LAST_STATUS 2 port).wr R.TWI_LAST_ADDR addr port).wr R.TWI_LAST_TRIES 1 port); { x with twi := { s.twi with run := smSet none port none s.twi.run } }))) ∧
  (∀ (s : State) (port addr seg outcome losses : Nat) (muxNack : Bool),
      port < 2 → s.saveHard = false → s.rd R.TWI_STAT_STATE port < 3 → (smGet none s.twi.run port).isSome = true →
      exec (.twi1Transfer port addr seg outcome losses muxNack) s = .next (s.after
        ({ s.fresh with twi := { s.twi with queue := s.twi.queue ++ [({ port := port, addr := addr % 128, seg := seg % 4, outcome := outcome, losses := losses, tries := 0, pec := decide (port = 0) || (bit (s.ergBase 0x06 14 0) 8 && decide (addr % 128 = s.pol 0x12 6 0)), muxNack := muxNack } : TwiXfer)] } }))) ∧
  (∀ (s : State) (port addr seg outcome losses : Nat) (muxNack : Bool),
      port < 2 → addr < 128 → 3 ≤ s.rd R.TWI_STAT_STATE port → s.saveHard = false → smGet none s.twi.run port = none →
      exec (.twi1Transfer port addr seg outcome losses muxNack) s = .next (s.after
        (let x : State := ((s.fresh.wr R.TWI_LAST_STATUS 6 port).wr R.TWI_LAST_ADDR addr port).wr R.TWI_LAST_TRIES 0 port; { x with twi := { s.twi with run := smSet none port none s.twi.run } }))) ∧
  (∀ (s : State) (port : Nat) (x : TwiXfer),
      smGet none s.twi.run port = some x → x.outcome = 1 → x.port = port →
      exec (.addressRetry port true) s = .next (s.after
        ((s.fresh.xferEnd { x with tries := x.tries + 1 } 0).xferIdle port))) ∧
  (∀ (s : State) (port : Nat) (x : TwiXfer),
      smGet none s.twi.run port = some x → x.outcome = 1 → x.port = port → s.rd R.TWI_POL_RETRY_N port < x.tries + 1 →
      exec (.addressRetry port false) s = .next (s.after
        ((s.fresh.xferEnd { x with tries := x.tries + 1 } 1).xferIdle port))) ∧
  (∀ (s : State) (port : Nat) (x : TwiXfer),
      smGet none s.twi.run port = some x → x.outcome = 1 → x.port = port → x.tries + 1 ≤ s.rd R.TWI_POL_RETRY_N port →
      exec (.addressRetry port false) s = .next (s.after
        ({ s.fresh with twi := { s.twi with run := smSet none port (some { x with tries := x.tries + 1 }) s.twi.run } }))) ∧
  (∀ (s : State) (port : Nat) (x : TwiXfer),
      smGet none s.twi.run port = some x →
      exec (.targetStretchTimeout port) s = .next (s.after
        (((s.fresh.inc R.TWI_CNT1_TMO port).xferEnd x 5).xferIdle port))) ∧
  (∀ (s : State),
      s.on R.TWI_STAT_STRETCH 0 = true →
      exec .stretchLimit s = .next (s.after
        (s.fresh.inc R.TWI_CNT1_TMO 0))) ∧
  (∀ (s : State),
      exec (.targetSclTimeout 0) s = .next (s.after
        (let x : State := s.fresh.inc R.TWI_CNT1_TMO 0; if s.rd R.TWI_STAT_STATE 0 = 2 then x.wr R.TWI_STAT_STATE 0 0 else x))) ∧
  (∀ (s : State) (port : Nat),
      port < 2 → s.rd R.TWI_STAT_STATE port ≠ 4 → s.rd R.TWI_STAT_STATE port ≠ 5 → smGet none s.twi.run port = none →
      exec (.busClearAttempt port true) s = .next (s.after
        (((s.fresh.wr R.TWI_STAT_STATE 3 port).wr R.TWI_STAT_CLR_TRY 0 port).xferIdle port))) ∧
  (∀ (s : State) (port : Nat),
      port < 2 → s.rd R.TWI_STAT_STATE port ≠ 4 → s.rd R.TWI_STAT_STATE port ≠ 5 →
      smGet none s.twi.run port = none → s.rd R.TWI_STAT_CLR_TRY port < 2 →
      exec (.busClearAttempt port false) s = .next (s.after
        (let x : State := (((s.fresh.wr R.TWI_STAT_STATE 3 port).wr R.TWI_STAT_CLR_TRY (s.rd R.TWI_STAT_CLR_TRY port + 1) port).inc R.TWI_CNT1_STUCK port).signal (.fixed 0x0E01 2) 0xFFFFFFFF [port, s.rd R.TWI_STAT_CLR_TRY port + 1]; { x.wr R.TWI_STAT_STATE 4 port with twi := { x.twi with waitAt := smSet 0 port (x.tick + 1148) x.twi.waitAt } }))) ∧
  (∀ (s : State) (port : Nat),
      port < 2 → s.rd R.TWI_STAT_STATE port ≠ 4 → s.rd R.TWI_STAT_STATE port ≠ 5 →
      smGet none s.twi.run port = none → s.rd R.TWI_STAT_CLR_TRY port = 2 →
      exec (.busClearAttempt port false) s = .next (s.after
        (let x : State := ((((s.fresh.wr R.TWI_STAT_STATE 3 port).wr R.TWI_STAT_CLR_TRY (s.rd R.TWI_STAT_CLR_TRY port + 1) port).inc R.TWI_CNT1_STUCK port).signal (.fixed 0x0E01 2) 0xFFFFFFFF [port, s.rd R.TWI_STAT_CLR_TRY port + 1]); let y : State := (x.wr R.TWI_STAT_STATE 5 port).xferFlush port 6; if port = 1 then ((y.alert 6).put R.GAU_ID_SER_OK false).wr R.GAU_SER_SER 0 else y))) ∧
  (∀ (s : State) (port : Nat),
      s.rd R.TWI_STAT_STATE port = 4 → smGet 0 s.twi.waitAt port ≠ 0 → smGet 0 s.twi.waitAt port - 1 ≤ s.tick →
      exec (.clearWaitExpiry port) s = .next (s.after
        ({ s.fresh.wr R.TWI_STAT_STATE 3 port with twi := { s.twi with waitAt := smSet 0 port 0 s.twi.waitAt } })))

/-- PROGRAM, CFL_PROGRAM_DONE, ERASE, CFL_ERASE_DONE, SELECT and BANK_READ. The descriptor at the head of an idle
bank starts: a protected, an erase-interrupted and a not-erased target end it at once, and any other runs; a
program that is done has written its pages, an erase that is done leaves its sector erased, a selection
writes the next word; a read of an idle bank answers the word, and one of a busy bank is counted as a bus
fault. (R421, R426, R428, R430, R431, R434, R435, R437, Table 16-4) -/
def Obligations.CodeFlashBanks : Prop :=
  (∀ (s : State) (bank : Nat) (data : List Byte) (d : CflDesc),
      s.nextDesc bank = some d → d.op = 1 → s.bankSt bank = 0 → s.protectedSector (d.addr / 65536) = true →
      exec (.program bank data) s = .next (s.after
        (s.fresh.cflEnd { d with data := data.map (fun (b : Byte) => b.toNat) } 3 0 d.addr))) ∧
  (∀ (s : State) (bank : Nat) (data : List Byte) (d : CflDesc),
      s.nextDesc bank = some d → d.op = 1 → s.bankSt bank = 0 → s.protectedSector (d.addr / 65536) = false →
      s.eint (d.addr / 65536) = true →
      exec (.program bank data) s = .next (s.after
        (s.fresh.cflEnd { d with data := data.map (fun (b : Byte) => b.toNat) } 5 0 d.addr))) ∧
  (∀ (s : State) (bank : Nat) (data : List Byte) (d : CflDesc),
      s.nextDesc bank = some d → d.op = 1 → s.bankSt bank = 0 → s.protectedSector (d.addr / 65536) = false →
      s.eint (d.addr / 65536) = false →
      exec (.program bank data) s = .next (s.after
        (if s.notErased (d.addr / 4) (pageWords (data.map (fun (b : Byte) => b.toNat)) 0) then s.fresh.cflEnd { d with data := data.map (fun (b : Byte) => b.toNat) } 4 0 d.addr else (s.fresh.setDesc { d with data := data.map (fun (b : Byte) => b.toNat), stage := 1 }).setBankSt d.bank 1))) ∧
  (∀ (s : State) (bank : Nat) (data : List Byte) (d e : CflDesc),
      s.nextDesc bank = some d → d.op = 1 → d.sus = true → s.bankSt bank = 2 → s.runDesc bank 2 = some e →
      e.by0 ≠ 0 → d.addr / 65536 ≠ e.addr / 65536 → e.susps < 32 →
      exec (.program bank data) s = .next (s.after
        (((s.fresh.setDesc { e with stage := 2, susps := e.susps + 1 }).setBankSt bank 3).programSus bank d (data.map (fun (b : Byte) => b.toNat))))) ∧
  (∀ (s : State) (bank pulses : Nat) (d : CflDesc),
      s.runDesc bank 1 = some d → s.runDesc bank 2 = none →
      (List.range d.count).find? (fun (i : Nat) => s.notErased (d.addr / 4 + 64 * i) (pageWords d.data i)) = none →
      exec (.cflProgramDone bank pulses 0) s = .next (s.after
        (((s.fresh.cflPages d d.count).cflEnd d 0 pulses (d.addr + 256 * (d.count - 1))).eraseResume bank))) ∧
  (∀ (s : State) (bank pulses fail : Nat) (d : CflDesc),
      s.runDesc bank 1 = some d →
      (List.range d.count).find? (fun (i : Nat) => s.notErased (d.addr / 4 + 64 * i) (pageWords d.data i)) = none →
      1 ≤ fail → fail ≤ d.count →
      exec (.cflProgramDone bank pulses fail) s = .next (s.after
        (((((s.fresh.cflPages d (fail - 1)).cflPartial (d.addr / 4 + 64 * (fail - 1)) (pageWords d.data (fail - 1))).put R.CFL_STAT_FAIL_P true).cflEnd d 1 8 (d.addr + 256 * (fail - 1))).eraseResume bank))) ∧
  (∀ (s : State) (bank : Nat) (d : CflDesc),
      s.nextDesc bank = some d → d.op = 2 → s.bankSt bank = 0 →
      (if d.by0 = 5 then s.wpFrozen (d.addr / 65536) else s.protectedSector (d.addr / 65536)) = false →
      exec (.erase bank) s = .next (s.after
        ((((s.fresh.inc R.CFL_ECNT_ECNT (d.addr / 65536)).setFlag (d.addr / 65536) true).setDesc { d with stage := 1 }).setBankSt bank 2))) ∧
  (∀ (s : State) (bank : Nat) (d : CflDesc),
      s.nextDesc bank = some d → d.op = 2 → s.bankSt bank = 0 → d.by0 ≠ 5 →
      s.protectedSector (d.addr / 65536) = true →
      exec (.erase bank) s = .next (s.after
        (s.fresh.cflEnd d 3 0 d.addr))) ∧
  (∀ (s : State) (bank pulses : Nat) (d : CflDesc),
      s.runDesc bank 2 = some d → d.stage = 1 →
      exec (.cflEraseDone bank pulses true) s = .next (s.after
        ((((s.fresh.setBankSt bank 0).eraseOk (d.addr / 65536)).cflEnd d 0 pulses d.addr).committerRelease))) ∧
  (∀ (s : State) (bank pulses : Nat) (d : CflDesc),
      s.runDesc bank 2 = some d → d.stage = 1 →
      exec (.cflEraseDone bank pulses false) s = .next (s.after
        ((((s.fresh.setBankSt bank 0).put R.CFL_STAT_FAIL_E true).cflEnd d 2 24 d.addr).committerRelease))) ∧
  (∀ (s : State) (d : CflDesc),
      s.nextDesc 0 = some d → d.op = 3 → s.bankSt 0 = 0 → s.cfl.selAny = false ∨ s.cfl.selSeq ≠ 0xFFFF →
      exec .select s = .next (s.after
        ((s.fresh.selectWord d.ba).cflEnd d 0 0 0))) ∧
  (∀ (s : State) (d : CflDesc),
      s.nextDesc 0 = some d → d.op = 3 → s.bankSt 0 = 0 → s.cfl.selAny = true → s.cfl.selSeq = 0xFFFF →
      exec .select s = .next (s.after
        (s.fresh.cflEnd d 8 0 0))) ∧
  (∀ (s : State) (core addr : Nat),
      s.coreRuns core = true → addr < 33554432 → s.bankSt (addr / 16777216) = 0 →
      exec (.bankRead core addr) s = .next (s.after
        (s.fresh.emit (.coreData core addr (s.cflWord (addr / 4)))))) ∧
  (∀ (s : State) (core addr : Nat),
      s.coreRuns core = true → addr < 33554432 → s.bankSt (addr / 16777216) = 1 →
      exec (.bankRead core addr) s = .next (s.after
        ((s.fresh.inc R.CFL_BFLT_BFLT).emit (.busFault (addr / 16777216) addr))))

/-- Boot and watchdogs: what 13 commands leave, each from the states that its rules ask for. The commands are
COLD_RESET_RELEASE, SLICE_DONE, SLICE_BUDGET_EXPIRY, CORE_CHECK_DONE, BOOT_AREA_VERIFY, ODBER_LOAD,
ERG_VALIDATION, HARDWARE_INIT_DONE, HOST_PORT_READY, BOOT_END, WARM_RESET_COMPLETE, WATCHDOG_EXPIRY and
CORE_RESTART. Cold reset is released once phase 1 has ended, and boot stands at stage 2; a slice that
passes, fails or overruns has its result recorded; the core checks, the boot area, the firmware slot, the
image and the hardware follow stage by stage; a port trains when it is ready; boot ends at the level the
units permit, and a structure image that is new is recorded then; a warm reset ends when its stages have; a
core reset by its watchdog is down until it restarts. (R52, R399, R438, R439, R440, R442, R443, R444, R445,
R447, R452, R454) -/
def Obligations.BootAndWatchdogs : Prop :=
  (∀ (s : State) (pins : Nat),
      s.boot.inReset = true → s.boot.p1done = true → s.seq.main = true → s.boot.cause ≠ 0 → pins < 8 →
      exec (.coldResetRelease pins) s = .next (s.after
        (let x : State := ((s.fresh.wr R.BST_BOOTN_BOOT_CNT (s.rd R.BST_BOOTN_BOOT_CNT + 1)).wr R.BST_RST_TYPE s.boot.cause).wr R.BST_RST_SRC 0; let y : State := { x with boot := { s.boot with inReset := false, relAt := s.tick, bud := x.rd R.BST_CFG_BUD, packWait := x.rd R.BST_CFG_PACK_WAIT }, twi := { s.twi with pins := pins }, seq := { s.seq with logSaved := s.seq.log } }; let z : State := (y.wr R.CFL_SEL_SEQ s.cfl.selSeq).wr R.CFL_SEL_BA_NEXT s.cfl.selBa; let p : State := (([24, 25, 26, 27, 28, 29, 30, 31, 36, 37, 38].foldl (fun (x : State) (n : Nat) => x.pdSet n true) z).audDisq 8).flagScan.recorderScan; let q : State := p.avsAsk Config.vboot; (q.wr R.BST_ABS_SLICES (if q.on R.TOP_ID_PART then (absent7416.map (fun (k : Nat) => 2 ^ k)).sum else 0)).wr R.BST_STAT_STAGE 2))) ∧
  (∀ (s : State) (slice sig us pats : Nat),
      s.sliceRuns slice = true → us ≤ s.boot.bud * 1000 →
      exec (.sliceDone slice true sig us pats) s = .next (s.after
        (((((s.fresh.wr R.BST_SIG_SIG sig slice).wr R.BST_TIME_RUN_US (min us 65535) slice).wr R.BST_TIME_PATS pats slice).put R.BST_TIME_OVERRUN false slice).sliceEnd slice true))) ∧
  (∀ (s : State) (slice sig us pats : Nat),
      s.sliceRuns slice = true →
      exec (.sliceDone slice false sig us pats) s = .next (s.after
        (((((s.fresh.wr R.BST_SIG_SIG sig slice).wr R.BST_TIME_RUN_US (min us 65535) slice).wr R.BST_TIME_PATS pats slice).put R.BST_TIME_OVERRUN false slice).sliceEnd slice false))) ∧
  (∀ (s : State) (slice sig pats : Nat),
      s.sliceRuns slice = true →
      exec (.sliceBudgetExpiry slice sig pats) s = .next (s.after
        (((((s.fresh.wr R.BST_SIG_SIG sig slice).wr R.BST_TIME_RUN_US (min (s.boot.bud * 1000) 65535) slice).wr R.BST_TIME_PATS pats slice).put R.BST_TIME_OVERRUN true slice).sliceEnd slice false))) ∧
  (∀ (s : State) (core : Nat),
      s.stage = 3 → core < 4 → bit s.boot.checked core = false → s.sliceFenced 22 = false →
      setBitTo s.boot.checked core true ≠ 15 →
      exec (.coreCheckDone core true) s = .next (s.after
        ({ s.fresh with boot := { s.boot with checked := setBitTo s.boot.checked core true } }.wr R.BST_CORE_PASS (setBitTo (s.rd R.BST_CORE_PASS) core true)))) ∧
  (∀ (s : State) (core : Nat),
      s.stage = 3 → core < 4 → bit s.boot.checked core = false → s.sliceFenced 22 = false →
      setBitTo s.boot.checked core true ≠ 15 →
      exec (.coreCheckDone core false) s = .next (s.after
        (({ s.fresh with boot := { s.boot with checked := setBitTo s.boot.checked core true } }.wr R.BST_CORE_FENCED (setBitTo (s.rd R.BST_CORE_FENCED) core true)).pdSleep (24 + core)))) ∧
  (∀ (s : State) (ok1 : Bool),
      s.stage = 4 → s.cfl.selAny = true → s.cfl.selBa = 0 → s.areaFlagged 0 = false →
      exec (.bootAreaVerify true ok1) s = .next (s.after
        ((s.fresh.wr R.CFL_SEL_BA_ACT 0).wr R.BST_STAT_STAGE 5))) ∧
  (∀ (s : State),
      s.stage = 4 → s.cfl.selAny = true → s.cfl.selBa = 0 → s.areaFlagged 1 = false →
      exec (.bootAreaVerify false true) s = .next (s.after
        (((s.fresh.wr R.CFL_SEL_BA_ACT 1).wr R.BST_STAT_STAGE 5).note 0x10 3))) ∧
  (∀ (s : State),
      s.stage = 4 →
      exec (.bootAreaVerify false false) s = .next (s.after
        ({ s.fresh with boot := { s.boot with bad := Nat.lor s.boot.bad (2 ^ 0) } }))) ∧
  (∀ (s : State),
      s.stage = 5 → s.boot.bootBlock = false →
      exec .odberLoad s = .next (s.after
        (let f : FwuSt := s.fwu; let tries : Nat := if f.trial then f.tries + 1 else f.tries; let a : Nat × State := if f.trial && decide (3 ≤ tries) then (1, s.fresh) else s.fresh.fwCheck f.next 8; if a.1 = 0 then (a.2.fwSelect f.next f.next f.trial tries).odberRuns else let b : Nat × State := a.2.fwCheck (1 - f.next) 8; if b.1 = 0 then (((b.2.fwSelect (1 - f.next) (1 - f.next) false 0).put R.FWU_STAT_FALLBACK true).note 0x11 3).odberRuns else let x : State := { b.2 with boot := { b.2.boot with bad := Nat.lor b.2.boot.bad (2 ^ 1), bootBlock := true } }; if x.level = 0 then (x.setLevel 1).wr R.BST_BTIME_T_SL1 (min 65535 x.sinceRelease) else x))) ∧
  (∀ (s : State),
      s.stage = 6 → s.unitBad 2 = false → s.boot.warm = false →
      exec .ergValidation s = .next (s.after
        (let a : Nat := s.rd R.ERG_SEL_NEXT_SLOT; let v : Nat := s.ergCheck a; let x : State := s.fresh.ergResult a v; if v = 0 then x.ergApply a else let y : State := (x.put R.ERG_STAT_FALLBACK true).note 0x13 1 a; let w : Nat := y.ergCheck (1 - a); let z : State := y.ergResult (1 - a) w; if w = 0 then z.ergApply (1 - a) else { z with boot := { z.boot with bad := Nat.lor z.boot.bad (2 ^ 2) } }))) ∧
  (∀ (s : State),
      s.stage = 6 → s.unitBad 2 = false → s.boot.warm = true →
      exec .ergValidation s = .next (s.after
        (s.fresh.wr R.BST_STAT_STAGE 11))) ∧
  (∀ (s : State) (found : HwFound),
      s.stage = 8 → s.flash.stopping = false ∨ s.flash.ops = [] →
      exec (.hardwareInitDone found) s = .next (s.after
        (let x : State := ([18, 19, 20, 21, 23].foldl (fun (x : State) (n : Nat) => x.pdSet n true) ((({ s.fresh with flash := { s.flash with stopping := false }, cvn := { s.cvn with unread := found.unread } } : State).dramBoot found).flashBoot found)).account; let y : State := { x.wr R.BST_STAT_STAGE 9 with boot := { x.boot with waitAt := x.tick } }; if (y.capOf true).1 < 3 then y.serveSl2 else y))) ∧
  (∀ (s : State) (port : Nat),
      s.boot.inReset = false → port < 2 → s.on R.HP_STAT_ACTIVE port = true →
      exec (.hostPortReady port) s = .next (s.after
        (let x : State := { s.fresh with host := { s.host with ready := setBitTo s.host.ready port true } }; if bit s.host.perst port ∨ s.rd R.HP_STAT_LINK port ≠ 0 then x else x.wr R.HP_STAT_LINK 1 port))) ∧
  (∀ (s : State),
      s.boot.inReset = false → s.on R.BST_STAT_DONE = false → s.boot.warm = false → s.level ≠ 3 →
      s.level = (s.capOf true).1 →
      exec .bootEnd s = .next (s.after
        (let x : State := (s.fresh.put R.BST_STAT_DONE true).wr R.BST_BTIME_T_END (min 65535 (s.sinceRelease / 10)); let y : State := if s.fwu.tries = 0 then x else x.fwSelect s.fwu.run s.fwu.next s.fwu.trial 0; let z : State := if y.erg.loaded ∧ y.erg.reformMark = false then (if y.erg.recStruct = some (structOf y.erg.base) then y else ({ y with erg := { y.erg with recStruct := some (structOf y.erg.base) } } : State).digestWrite) else y; z.signal (.fixed 0x1001 0) 0xFFFFFFFF (leBytes 4 (z.rd R.BST_RST_TYPE + 8 * z.rd R.BST_RST_SRC) ++ leBytes 4 (z.level + 8 * z.rd R.BST_SL_CAP + 256 * z.rd R.BST_SL_LIMIT) ++ leBytes 4 (z.rd R.BST_BTIME_T_SL1 + 65536 * z.rd R.BST_BTIME_T_END))))) ∧
  (∀ (s : State),
      s.boot.inReset = false → s.on R.BST_STAT_DONE = false → s.boot.warm = false → s.level ≠ (s.capOf true).1 →
      s.level ≠ 3 ∨ (s.capOf true).1 ≠ 4 ∨ s.on R.CVN_STAT_READY = false ∨ s.on R.FTL_STAT_MAP_IMG = false →
      exec .bootEnd s = .next (s.after
        (s.fresh))) ∧
  (∀ (s : State),
      s.boot.warm = true → s.warmStaged = true → s.flash.ops = [] →
      exec .warmResetComplete s = .next (s.after
        (let x : State := { s.fresh with boot := { s.boot with warm := false }, host := { s.host with cxlHold := false }, flash := { s.flash with stopping := false }, dram := { s.dram with selfRef := false } }; let y : State := if s.rd R.DFT_STAT_STATE = 3 then x.driftStart else x; let z : State := if y.fwu.tries = 0 then y else y.fwSelect y.fwu.run y.fwu.next y.fwu.trial 0; z.slotFill.goAll))) ∧
  (∀ (s : State) (core : Nat),
      core < 4 → s.coreUp core = true → bit s.boot.down core = false → s.boot.inReset = false → s.level ≠ 0 →
      exec (.watchdogExpiry core) s = .next (s.after
        (let ts : List Nat := (s.tick :: smGet [] s.boot.wdt core).filter (fun (x : Nat) => decide (s.tick < x + 117964800)); let x : State := (s.fresh.coreClear core).cflDrain; let y : State := x.wr R.BST_WDTC_CNT (min 255 (x.rd R.BST_WDTC_CNT 0 core + 1)) 0 core; let z : State := { y with boot := { y.boot with wdt := smSet [] core ts y.boot.wdt, down := setBitTo y.boot.down core true } }; if z.rd R.BST_WDT_WDT_LIM ≤ ts.length then (z.fenceCore core).pdSleep (24 + core) else z.note 0x10 2 core))) ∧
  (∀ (s : State) (core : Nat),
      core < 4 → bit s.boot.down core = true → s.coreUp core = true →
      exec (.coreRestart core) s = .next (s.after
        ({ s.fresh with boot := { s.boot with down := setBitTo s.boot.down core false } })))

/-- EVENT_RAISE, RATE_WINDOW_END, RECORD_COMMIT, PREFETCH_DONE, FIRMWARE_BLOCK_RECEIVED and DOWNLOAD_IDLE_TIMEOUT.
The oldest reported event becomes a record unless its type is over its rate; the end of a rate window raises
one record of each suppressed type; the committer programs the next record when it has the bank; a prefetch
fills its latch; a whole firmware block with a good CRC is programmed and one with a bad CRC is counted; a
download idle for 1,966,080 ticks is abandoned. (R422, R456, R459, R461, R462, R463, R467, R473, R474) -/
def Obligations.RecorderAndDownload : Prop :=
  (∀ (s : State),
      s.tick / 32768 = s.evr.winAt / 32768 → s.evr.reports = [] →
      exec .eventRaise s = .next (s.after
        (s.fresh))) ∧
  (∀ (s : State) (r : EvReport) (rest : List EvReport),
      s.tick / 32768 = s.evr.winAt / 32768 → s.evr.reports = r :: rest → r.grp = 0 → s.reportable r = true →
      exec .eventRaise s = .next (s.after
        (let x : State := { s.fresh with evr := { s.evr with reports := rest } }; if !neverSuppressed r.typ && decide (s.rd R.EVR_CFG_RATE_MAX ≤ seenOf s.evr.seen r.typ) then let y : State := x.inc R.EVR_SUPP_SUPP; { y with evr := { y.evr with supp := seenAdd y.evr.supp r.typ } } else let y : State := { x with evr := { x.evr with seen := seenAdd x.evr.seen r.typ } }; (y.recEnter [recOf r]).fsRaise (y.ownerOf (r.typ.num / 256))))) ∧
  (∀ (s : State),
      s.tick / 32768 ≠ s.evr.winAt / 32768 → s.evr.supp = [] →
      exec .rateWindowEnd s = .next (s.after
        ({ s.fresh with evr := { s.evr with seen := [], supp := [], winAt := s.tick / 32768 * 32768 } }))) ∧
  (∀ (s : State) (e : EvType × Nat),
      s.tick / 32768 ≠ s.evr.winAt / 32768 → s.evr.supp = [e] →
      exec .rateWindowEnd s = .next (s.after
        (let x : State := s.fresh.recEnter [s.suppRecord e]; { x with evr := { x.evr with seen := [], supp := [], winAt := x.tick / 32768 * 32768 } }))) ∧
  (∀ (s : State) (good : Bool) (r : EvRecord),
      s.nextRecord = some r → s.seq.main = true → 2 ≤ s.rd R.BST_STAT_STAGE → s.committerBank = true →
      s.cfl.queue.length < 64 → s.erase1 = none → s.rd R.CFL_STAT_B1_ST = 0 →
      s.eint (459 + poolSlot (s.rd R.EVR_NEXT_SEQ) / 1024) = false →
      s.wpFrozen (459 + poolSlot (s.rd R.EVR_NEXT_SEQ) / 1024) = false →
      exec (.recordCommit good) s = .next (s.after
        (((s.fresh.committerOwns true).commitOne r good).committerRelease))) ∧
  (∀ (s : State) (good : Bool),
      s.nextRecord = none →
      exec (.recordCommit good) s = .next (s.after
        (s.fresh.committerRelease))) ∧
  (∀ (s : State),
      s.evr.twiFetching = true →
      exec (.prefetchDone true) s = .next (s.after
        (let r : State × (Nat × Option EvSlot) := s.fresh.recordAt s.evr.twiArea s.evr.twiIndex; { r.1 with evr := { r.1.evr with twiFetching := false, twiLatch := some r.2 } }))) ∧
  (∀ (s : State),
      s.evr.fetching = true →
      exec (.prefetchDone false) s = .next (s.after
        (s.fresh.evrLatch))) ∧
  (∀ (s : State) (block : Nat),
      s.rd R.FWU_STAT_STATE = 1 → block < 3072 →
      (List.range 4096).all (fun (k : Nat) => (s.fwPart (4096 * block + k)).isSome) = true →
      exec (.firmwareBlockReceived block) s = .next (s.after
        (let bs : List Nat := (List.range 4096).map (fun (k : Nat) => (s.fwPart (4096 * block + k)).getD 0); let x : State := { s.fresh with fwu := { s.fwu with part := smErase (fun (k : Nat) => decide (k / 4096 = block)) s.fwu.part } }; if crc32c (bs.take 4092) ≠ ofLe (bs.drop 4092) then (x.inc R.FWU_DLST_CRC_ERR).fwFailWaits (fun (e : Nat × List Nat) => e.2.contains block) else if s.fwu.blocks.contains block then (if x.fwBytes (1 - s.fwu.run) (1024 * block) 1024 = bs then x.fwBlockDone block else x.fwAbandon) else if s.wpFrozen (fwSector (1 - s.fwu.run) + block / 16) then x else (x.fwProgram block bs).fwBlockDone block))) ∧
  (∀ (s : State),
      s.fwu.lastAt + 1966080 ≤ s.tick →
      exec .downloadIdleTimeout s = .next (s.after
        (s.fresh.fwAbandon)))

/-- Clocks loops and domains: what 11 commands leave, each from the states that its rules ask for. The commands are
CRYSTAL_STABLE, CRYSTAL_STOP, AVS_LOOP_RUN, AVS_TRANSACTION_DONE, CPM_EMERGENCY, STRETCH_END, FS_WINDOW_END,
THERMAL_READ, EQ_MEASUREMENT, DOMAIN_IDLE and DOMAIN_WAKE. The tick counter changes its source; the voltage
loop asks for 5 mV more below the low slack and for 5 mV less above the high slack, within its limits, and
stops at the fourth failed transaction; an emergency stretches the clock; a core level follows its activity;
the thermal stage follows the hottest sensor; a third low margin repeats equalization; a domain switches off
when idle and wakes on request. (R486, R487, R488, R489, R490, R492, R494, R495, R496, R498, R502, Table
20-3) -/
def Obligations.ClocksLoopsAndDomains : Prop :=
  (∀ (s : State),
      s.pwr.xtal = false → s.seq.main = true ∨ s.seq.vbat = true →
      exec .crystalStable s = .next (s.after
        ({ s.fresh with pwr := { s.pwr with xtal := true } }.put R.PWR_STAT_RC_ACT false))) ∧
  (∀ (s : State),
      s.pwr.xtal = true →
      exec .crystalStop s = .next (s.after
        (({ s.fresh with pwr := { s.pwr with xtal := false } }.put R.PWR_STAT_RC_ACT true).note 0x12 1))) ∧
  (∀ (s : State) (slack : Nat),
      s.on R.PWR_LOOP_AVS_EN = true → s.on R.PWR_STAT_AVS_FLT = false → s.boot.inReset = false →
      s.pwr.avsWait = false → slack < s.rd R.PWR_CPM_SLACK_LO → s.rd R.PWR_AVSST_VSET + 5 ≤ s.rd R.PWR_AVS_VMAX →
      exec (.avsLoopRun slack) s = .next (s.after
        (let x : State := s.fresh.wr R.PWR_CPM_SLACK_MIN (min slack 63); { x.wr R.PWR_AVSST_VSET (s.rd R.PWR_AVSST_VSET + 5) with pwr := { s.pwr with avsWait := true, avsTry := 0 } }.emit (.issue 3 [s.rd R.PWR_AVSST_VSET + 5])))) ∧
  (∀ (s : State) (slack : Nat),
      s.on R.PWR_LOOP_AVS_EN = true → s.on R.PWR_STAT_AVS_FLT = false → s.boot.inReset = false →
      s.pwr.avsWait = false → s.rd R.PWR_CPM_SLACK_LO ≤ slack → s.rd R.PWR_CPM_SLACK_HI < slack →
      705 ≤ s.rd R.PWR_AVSST_VSET → s.cvn.code = 0 → s.boot.warm = false →
      exec (.avsLoopRun slack) s = .next (s.after
        (let x : State := s.fresh.wr R.PWR_CPM_SLACK_MIN (min slack 63); { x.wr R.PWR_AVSST_VSET (s.rd R.PWR_AVSST_VSET - 5) with pwr := { s.pwr with avsWait := true, avsTry := 0 } }.emit (.issue 3 [s.rd R.PWR_AVSST_VSET - 5])))) ∧
  (∀ (s : State) (slack : Nat),
      s.on R.PWR_LOOP_AVS_EN = true → s.on R.PWR_STAT_AVS_FLT = false → s.boot.inReset = false →
      s.pwr.avsWait = true ∨ (s.rd R.PWR_CPM_SLACK_LO ≤ slack ∧ slack ≤ s.rd R.PWR_CPM_SLACK_HI) →
      exec (.avsLoopRun slack) s = .next (s.after
        (s.fresh.wr R.PWR_CPM_SLACK_MIN (min slack 63)))) ∧
  (∀ (s : State) (volts : Nat),
      s.pwr.avsWait = true → s.boot.inReset = false → s.on R.PWR_STAT_AVS_FLT = false → s.pwr.avsTry < 3 →
      exec (.avsTransactionDone false volts) s = .next (s.after
        ({ s.fresh with pwr := { s.pwr with avsTry := s.pwr.avsTry + 1 } }.emit (.issue 3 [s.rd R.PWR_AVSST_VSET])))) ∧
  (∀ (s : State) (volts : Nat),
      s.pwr.avsWait = true → s.boot.inReset = false → s.on R.PWR_STAT_AVS_FLT = false → 3 ≤ s.pwr.avsTry →
      exec (.avsTransactionDone false volts) s = .next (s.after
        (({ s.fresh with pwr := { s.pwr with avsWait := false, avsTry := 0 } }.put R.PWR_STAT_AVS_FLT true).note 0x12 2))) ∧
  (∀ (s : State) (volts : Nat),
      s.pwr.avsWait = true → s.boot.inReset = false → s.on R.PWR_STAT_AVS_FLT = false →
      exec (.avsTransactionDone true volts) s = .next (s.after
        (let x : State := s.fresh.wr R.PWR_AVSST_VREAD volts; { x with pwr := { s.pwr with avsTry := 0, avsWait := decide (volts + 10 < s.rd R.PWR_AVSST_VSET) || decide (s.rd R.PWR_AVSST_VSET + 10 < volts) } }))) ∧
  (∀ (s : State) (slack : Nat),
      s.pwr.stretch = false → s.boot.inReset = false → slack < s.rd R.PWR_CPM_SLACK_EMG →
      exec (.cpmEmergency slack) s = .next (s.after
        ({ s.fresh with pwr := { s.pwr with stretch := true } }.inc R.PWR_CPM_STRETCH))) ∧
  (∀ (s : State) (slack : Nat),
      s.rd R.PWR_CPM_SLACK_LO ≤ slack →
      exec (.stretchEnd slack) s = .next (s.after
        ({ s.fresh with pwr := { s.pwr with stretch := false } }))) ∧
  (∀ (s : State) (core busy : Nat),
      core < 4 → s.boot.inReset = false → s.pdOn (24 + core) = true →
      exec (.fsWindowEnd core busy) s = .next (s.after
        (let v : Nat := s.rd R.PWR_FS_LVL 0 core; let n : Nat := if busy < 25 then smGet 0 s.pwr.fsLow core + 1 else 0; let w : Nat × Nat := if 75 < busy then (v - 1, n) else if 4 ≤ n then (v + 1, 0) else (v, n); { s.fresh with pwr := { s.pwr with fsLow := smSet 0 core w.2 s.pwr.fsLow } }.fsSet core w.1))) ∧
  (∀ (s : State) (temps : List Nat),
      s.boot.inReset = false →
      exec (.thermalRead temps) s = .next (s.after
        (let x : State := (List.range 32).foldl (fun (x : State) (k : Nat) => x.wr R.PWR_TSNS_T (temps.getD k 0) k) s.fresh; let h : Nat := hottest temps; let y : State := (x.wr R.PWR_THERM_TJ (temps.getD h 0)).wr R.PWR_THERM_HOT h; let tj : Int := s16 (temps.getD h 0); let cool : List (Nat × Nat) := [1, 2, 3, 4].foldl (fun (m : List (Nat × Nat)) (k : Nat) => if y.stageAt k - 48 < tj then smSet 0 k 0 m else if smGet 0 m k = 0 then smSet 0 k (y.tick + 1) m else m) y.pwr.coolAt; let z : State := { y with pwr := { y.pwr with coolAt := cool } }; let new : Nat := ([4, 3, 2, 1].find? (fun (k : Nat) => decide (z.stageAt k ≤ tj) || (decide (k ≤ z.rd R.PWR_STAT_STAGE) && !(decide (smGet 0 cool k ≠ 0) && decide (smGet 0 cool k - 1 + 1024 ≤ z.tick))))).getD 0; ((z.wr R.PWR_STAT_STAGE new).stageEnter (z.rd R.PWR_STAT_STAGE) new).fsAll))) ∧
  (∀ (s : State) (port marg rate width : Nat),
      port < 2 → s.on R.PWR_LOOP_EQ_EN = true → s.rd R.HP_STAT_LINK port = 2 → 5 ≤ s.rd R.HP_STAT_RATE port →
      s.rd R.PWR_EQ_EQ_MARG port ≤ marg →
      exec (.eqMeasurement port marg rate width) s = .next (s.after
        ({ s.fresh.wr R.PWR_EQ_MARG_MIN (min marg 127) port with pwr := { s.pwr with eqLow := smSet 0 port 0 s.pwr.eqLow } }))) ∧
  (∀ (s : State) (port marg rate width : Nat),
      port < 2 → s.on R.PWR_LOOP_EQ_EN = true → s.rd R.HP_STAT_LINK port = 2 → 5 ≤ s.rd R.HP_STAT_RATE port →
      marg < s.rd R.PWR_EQ_EQ_MARG port → 2 ≤ smGet 0 s.pwr.eqLow port →
      smGet 0 s.pwr.eqAt port = 0 ∨ smGet 0 s.pwr.eqAt port - 1 + 1966080 ≤ s.tick →
      exec (.eqMeasurement port marg rate width) s = .next (s.after
        (let x : State := { s.fresh.wr R.PWR_EQ_MARG_MIN (min marg 127) port with pwr := { s.pwr with eqLow := smSet 0 port 0 s.pwr.eqLow, eqAt := smSet 0 port (s.tick + 1) s.pwr.eqAt } }.inc R.PWR_EQ_REDO port; let y : State := (x.wr R.HP_STAT_RATE rate port).wr R.HP_STAT_WIDTH width port; if rate < s.rd R.HP_STAT_RATE port ∨ width < s.rd R.HP_STAT_WIDTH port then y.note 0x12 5 port else y))) ∧
  (∀ (s : State) (pd : Nat),
      s.pdOn pd = true → s.pdIdle pd = true → s.ap R.PWR_IDLE_IDLE pd ≠ 0 → s.pwr.saveOn = false →
      s.boot.inReset = false →
      exec (.domainIdle pd) s = .next (s.after
        (s.fresh.pdSleep pd))) ∧
  (∀ (s : State) (pd : Nat),
      s.boot.inReset = false → [19, 20, 29, 30, 31].contains pd = true → s.pdOn pd = false →
      exec (.domainWake pd) s = .next (s.after
        (let x : State := (((s.fresh.pdSet pd true).inc R.PWR_IDLE_WAKES pd).applyRws R.PWR_IDLE_IDLE pd); if pd = 29 then (x.put R.TWI_STAT_SLEEP false 0).put R.TWI_STAT_SLEEP false 1 else x)))

/-- A step runs the command at the front of the queue. With a command at the front of its queue the block carries
out that command with the queue's rest. The queue is the model's own (a log entry). (R15, Table 21-5) -/
def Obligations.StepRunsFrontCommand : Prop :=
  ∀ (s : State) (c : Instr) (q : List Instr), s.pending = c :: q → step s = exec c { s with pending := q }

/-- What a step does with no command waiting. With both queues empty one tick passes while a supply is present, and
waiting mailbox commands are looked at again; a command that the device itself holds ready runs before a
tick. That the tick stands in an empty queue's step is the model's choice (a log entry). (R12, R478, R510,
R526) -/
def Obligations.StepOnEmptyQueue : Prop :=
  (∀ s : State, s.pending = [] → s.resumed = [] → s.seq.main = true ∨ s.seq.vbat = true → step s = .next (s.after (s.fresh.wr R.PWR_TICK_TICK ((s.tick + 1) % 2 ^ 48)).releaseWaiting)) ∧
  (∀ s : State, s.pending = [] → s.resumed = [] → s.seq.main = false → s.seq.vbat = false → step s = .next (s.after s.fresh.releaseWaiting)) ∧
  (∀ (s : State) (c : Instr) (q : List Instr), s.pending = [] → s.resumed = c :: q → step s = exec c { s with resumed := q })

/-- Every command answers a next state and leaves the queue alone. Each command in every state answers a next state,
never a fault or a refusal, and the commands that wait still wait. (R21) -/
def Obligations.EveryCommandAnswers : Prop :=
  ∀ (c : Instr) (s : State), ∃ t, exec c s = .next t ∧ t.pending = s.pending

/-- The state right after reset. Right after the always-on reset no command waits, host memory reads zero without a
poison mark, the device serves SL0 in cold reset, the tick counter stands at 0 on the RC oscillator, and
every register field stands at its reset value. What memory reads and reset values that no register
description gives are the model's choices (log entries). (R19, R450, R486, R536, Table 17-4) -/
def Obligations.ResetState : Prop :=
  (State.reset.pending = [] ∧ State.reset.resumed = [] ∧ (∀ a, State.reset.byteAt a = 0) ∧ (∀ a, State.reset.poisoned a = false) ∧ State.reset.level = 0 ∧ State.reset.boot.inReset = true ∧ State.reset.tick = 0 ∧ State.reset.on R.PWR_STAT_RC_ACT = true) ∧
  (allFlds.all (fun f => decide (State.reset.rd f 0 0 = f.reset 0) && decide (State.reset.rd f (f.n - 1) (f.n2 - 1) = f.reset (f.n - 1))) = true)

/-- Right after reset the status follows the state. The invariant of StatusFollowsEveryStep holds right after reset.
(R100, R101, R156, R191, R540) -/
def Obligations.ResetReports : Prop :=
  State.reset.reports

/-- After every step the reported status follows the state. Whatever the state was, after every step LDG_STAT.STATE
is the persistence state, the ledger level of the registers and of both ports is the level of R191, the hold
limit in force is the applied one, DFT_STAT.AGE_BYPASS reads the bypass of R156, and the Media Status, the
Health Status and the Life Used that the logs have reported are those the rules give. (R100, R101, R156,
R191, R540, Table 3-7, Table 3-8) -/
def Obligations.StatusFollowsEveryStep : Prop :=
  ∀ s t : State, step s = .next t → t.reports

/-- What a write that lands in DRAM does to host memory. A write that lands gives each byte that its enables select
its data, leaves every other byte of memory as it was, marks its line with poison set, clears the mark when
it writes the whole line without poison, leaves it otherwise, and leaves the mark of every other line. (R89,
R130) -/
def Obligations.LandedWriteBytesFrameAndPoison : Prop :=
  ∀ (s : State) (a be : Nat) (data : List Byte) (psn : Bool), (∀ b, b < a ∨ a + 64 ≤ b ∨ a + data.length ≤ b → (s.landWrite a be data psn).byteAt b = s.byteAt b) ∧ (∀ i, i < 64 → i < data.length → (s.landWrite a be data psn).byteAt (a + i) = if be.testBit i then data.getD i 0 else s.byteAt (a + i)) ∧ (s.landWrite a be data psn).poisoned a = (psn || (s.poisoned a && !decide (be % 2 ^ 64 = 2 ^ 64 - 1))) ∧ (∀ b, b / 64 ≠ a / 64 → (s.landWrite a be data psn).poisoned b = s.poisoned b)

/-- What follows a command in its step changes no host memory. What follows every command in the same step (levels,
readiness, held stores that are admitted, activations and switches that go on) leaves every byte of host
memory and every poison mark as the command left it; so a command changes the bytes that its own effect
changes and no other. (R85, R192, R236, R328, R446, R478) -/
def Obligations.FollowUpLeavesMemory : Prop :=
  ∀ s t : State, (s.after t).mem = t.mem ∧ (s.after t).poison = t.poison

/-- Each device physical address has one way and one subchannel address, and each pair one address. With masks as
R112 demands them, two addresses of 48 bits with the same way and the same subchannel address are the same
address, and every way and subchannel address is that of some address. (R111, R112) -/
def Obligations.AddressDecodeIsOneToOne : Prop :=
  (∀ s : State, s.masksOk → ∀ a b : Nat, a < 2 ^ 48 → b < 2 ^ 48 → s.wayOf a = s.wayOf b → s.subAddr a = s.subAddr b → a = b) ∧
  (∀ s : State, s.masksOk → ∀ w v : Nat, w < 2 ^ s.rd R.DRM_STAT_WAYS → v < 2 ^ (48 - s.rd R.DRM_STAT_WAYS) → ∃ a, a < 2 ^ 48 ∧ s.wayOf a = w + 2 * s.rd R.DRM_STAT_GRP_BASE ∧ s.subAddr a = v)

/-- The three cases of a buffer free. The owner's free makes the buffer free and touches no other buffer; a free of
a free buffer is ignored, counted as a double free and recorded with buffer, consumer and tag; a free by
another consumer or tag leaves the buffer with its owner, is counted as a foreign free and recorded with
buffer, presenting owner and actual owner. The two faulty frees change no book. (R344) -/
def Obligations.BufferFreeCases : Prop :=
  (∀ (s : State) (b k op : Nat) (e : Nat × Nat), s.buf.own.find? (fun x => decide (x.1 = b)) = some e → e.2 = 65536 * k + op % 65536 → ∃ y : State, exec (.bufferFree b k op) s = .next (s.after y.bufServe) ∧ y.buf.own.any (fun x => decide (x.1 = b)) = false ∧ (∀ d, d ≠ b → y.buf.own.find? (fun x => decide (x.1 = d)) = s.buf.own.find? (fun x => decide (x.1 = d))) ∧ y.buf.dbl = s.buf.dbl ∧ y.buf.foreign = s.buf.foreign) ∧
  (∀ (s : State) (b k op : Nat), s.buf.own.find? (fun x => decide (x.1 = b)) = none → ∃ y : State, exec (.bufferFree b k op) s = .next (s.after y) ∧ y.buf.own = s.buf.own ∧ y.buf.wait = s.buf.wait ∧ y.buf.dbl = min (s.buf.dbl + 1) (2 ^ 32 - 1) ∧ y.buf.foreign = s.buf.foreign ∧ ∃ r : EvReport, y.evr.reports = s.evr.reports ++ [r] ∧ r.inst = b ∧ r.payload = ownerBytes (65536 * k + op % 65536)) ∧
  (∀ (s : State) (b k op : Nat) (e : Nat × Nat), s.buf.own.find? (fun x => decide (x.1 = b)) = some e → e.2 ≠ 65536 * k + op % 65536 → ∃ y : State, exec (.bufferFree b k op) s = .next (s.after y) ∧ y.buf.own = s.buf.own ∧ y.buf.wait = s.buf.wait ∧ y.buf.dbl = s.buf.dbl ∧ y.buf.foreign = min (s.buf.foreign + 1) (2 ^ 32 - 1) ∧ ∃ r : EvReport, y.evr.reports = s.evr.reports ++ [r] ∧ r.inst = b ∧ r.payload = ownerBytes (65536 * k + op % 65536) ++ ownerBytes e.2)

/-- What the three data inputs of a check-value engine consume. A write of DIN_B by the engine's owner takes bits
7:0 into the running value, one of DIN_H bits 15:0 and one of DIN_W bits 31:0, each byte in turn from the
least significant up, for every polynomial, and LEN rises by one for each byte; every other register field
stays as it was. (R358) -/
def Obligations.EngineTakesBytesInOrder : Prop :=
  (∀ (s : State) (p : Path) (e data : Nat), e < 8 → s.pathUp p = true → s.mayWrite p (geReg e 0x08) = true → s.rd R.CRC_GE_OWN_OWNER e = geWho p → ∃ y : State, exec (.dinB p e data) s = .next (s.after y) ∧ y.rd R.CRC_GE_VAL_VAL e = (geByte (s.rd R.CRC_GE_CTL_POLY e) (s.rd R.CRC_GE_VAL_VAL e % 2 ^ gePolyW (s.rd R.CRC_GE_CTL_POLY e)) (data % 256)) % 2 ^ R.CRC_GE_VAL_VAL.wd ∧ y.rd R.CRC_GE_LEN_LEN e = (s.rd R.CRC_GE_LEN_LEN e + 1) % 2 ^ 32 ∧ (∀ (f : Fld) (i j : Nat), f.key i j ≠ R.CRC_GE_VAL_VAL.key e → f.key i j ≠ R.CRC_GE_LEN_LEN.key e → y.rd f i j = s.rd f i j)) ∧
  (∀ (s : State) (p : Path) (e data : Nat), e < 8 → s.pathUp p = true → s.mayWrite p (geReg e 0x0C) = true → s.rd R.CRC_GE_OWN_OWNER e = geWho p → ∃ y : State, exec (.dinH p e data) s = .next (s.after y) ∧ y.rd R.CRC_GE_VAL_VAL e = (geByte (s.rd R.CRC_GE_CTL_POLY e) (geByte (s.rd R.CRC_GE_CTL_POLY e) (s.rd R.CRC_GE_VAL_VAL e % 2 ^ gePolyW (s.rd R.CRC_GE_CTL_POLY e)) (data % 256)) (data / 256 % 256)) % 2 ^ R.CRC_GE_VAL_VAL.wd ∧ y.rd R.CRC_GE_LEN_LEN e = (s.rd R.CRC_GE_LEN_LEN e + 2) % 2 ^ 32 ∧ (∀ (f : Fld) (i j : Nat), f.key i j ≠ R.CRC_GE_VAL_VAL.key e → f.key i j ≠ R.CRC_GE_LEN_LEN.key e → y.rd f i j = s.rd f i j)) ∧
  (∀ (s : State) (p : Path) (e data : Nat), e < 8 → s.pathUp p = true → s.mayWrite p (geReg e 0x10) = true → s.rd R.CRC_GE_OWN_OWNER e = geWho p → ∃ y : State, exec (.dinW p e data) s = .next (s.after y) ∧ y.rd R.CRC_GE_VAL_VAL e = (geByte (s.rd R.CRC_GE_CTL_POLY e) (geByte (s.rd R.CRC_GE_CTL_POLY e) (geByte (s.rd R.CRC_GE_CTL_POLY e) (geByte (s.rd R.CRC_GE_CTL_POLY e) (s.rd R.CRC_GE_VAL_VAL e % 2 ^ gePolyW (s.rd R.CRC_GE_CTL_POLY e)) (data % 256)) (data / 256 % 256)) (data / 65536 % 256)) (data / 16777216 % 256)) % 2 ^ R.CRC_GE_VAL_VAL.wd ∧ y.rd R.CRC_GE_LEN_LEN e = (s.rd R.CRC_GE_LEN_LEN e + 4) % 2 ^ 32 ∧ (∀ (f : Fld) (i j : Nat), f.key i j ≠ R.CRC_GE_VAL_VAL.key e → f.key i j ≠ R.CRC_GE_LEN_LEN.key e → y.rd f i j = s.rd f i j))

/-- The guarantee never promises more pages than its energy saves. For every deliverable energy, reserve, fixed
energy, page cost, rate and cap, the guarantee is a multiple of 256 pages, no larger than the cap, and its
pages at the page cost take no more than the energy that the reserve and the fixed energy leave; without a
usable rate it is 0. (R14, R188) -/
def Obligations.GuaranteeIsBackedByEnergy : Prop :=
  ∀ eUse oasis fix c r gmax : Nat, 0 < c → guarantee eUse oasis fix c r gmax % 256 = 0 ∧ guarantee eUse oasis fix c r gmax ≤ gmax ∧ guarantee eUse oasis fix c r gmax * c ≤ (eUse - oasis - fix) * 65536 ∧ (r = 0 → guarantee eUse oasis fix c r gmax = 0)

/-- Every page event moves HELD_MEM by the membership of its page. While tracking runs, an admitted store, a take, a
confirmation, a failed program and a release keep the page in one of the states of Table 5-2, leave the
membership of every other page, and move the held-page counter by exactly the change of the page's own
membership. (R149, R150, Table 5-2) -/
def Obligations.HeldCountFollowsMembership : Prop :=
  ∀ (s : State) (p : Nat), s.on R.TRK_STAT_RUN = true → s.pageOk p → (s.inHeld p = true → 1 ≤ s.rd R.TRK_HMEM_HELD_MEM) → s.rd R.TRK_HMEM_HELD_MEM + 1 < 2 ^ 32 → s.pageMoved (s.pageStore p) p ∧ (∀ gen slot, s.pageMoved (s.pageTake p gen slot) p) ∧ s.pageMoved (s.pageConfirm p) p ∧ s.pageMoved (s.pageFail p) p ∧ s.pageMoved (s.pageRelease p) p

/-- What a program of code-flash words changes. A program of words from an address gives each of them the bits that
both the old word and the data have, so that it only clears bits, and leaves every other word of the array
as it was. (R420, R430) -/
def Obligations.CodeFlashProgramOnlyClearsBits : Prop :=
  ∀ (s : State) (k : Nat) (ws : List Nat), (∀ i, i < ws.length → smGet 0xFFFFFFFF (s.cflProgram k ws).cfl.arr (k + i) = Nat.land (smGet 0xFFFFFFFF s.cfl.arr (k + i)) (ws.getD i 0 % 2 ^ 32)) ∧ (∀ j, j < k ∨ k + ws.length ≤ j → smGet 0xFFFFFFFF (s.cflProgram k ws).cfl.arr j = smGet 0xFFFFFFFF s.cfl.arr j)

/-- The 64 bytes of a record. A record is 64 bytes: its type in the first two, the CRC-32C of its first 58 bytes in
bytes 58 to 61, and the mark 0x5AC3 in the last two. (R455, R456, Table 18-1) -/
def Obligations.RecordBytesCarryTheirCheck : Prop :=
  ∀ (r : EvRecord) (seq : Nat), (recBytes r seq).length = 64 ∧ (recBytes r seq).take 2 = leBytes 2 r.typ.num ∧ ofLe (((recBytes r seq).drop 58).take 4) = crc32c ((recBytes r seq).take 58) ∧ ofLe ((recBytes r seq).drop 62) = 0x5AC3
end

