-- ==== Sys2Proof/Laws/Fresh.lean ====
section
/-!
SUPPORT. What a state reads as does not depend on the responses of the last command: every observation of `s.fresh` is that of `s`.
-/
namespace Sys2Proof.Machine

@[simp] theorem State.fresh_regs (s : State) : s.fresh.regs = s.regs := rfl
@[simp] theorem State.fresh_act (s : State) : s.fresh.act = s.act := rfl
@[simp] theorem State.fresh_latch (s : State) : s.fresh.latch = s.latch := rfl
@[simp] theorem State.fresh_pending (s : State) : s.fresh.pending = s.pending := rfl
@[simp] theorem State.fresh_resumed (s : State) : s.fresh.resumed = s.resumed := rfl
@[simp] theorem State.fresh_freeCtr (s : State) : s.fresh.freeCtr = s.freeCtr := rfl
@[simp] theorem State.fresh_mem (s : State) : s.fresh.mem = s.mem := rfl
@[simp] theorem State.fresh_poison (s : State) : s.fresh.poison = s.poison := rfl
@[simp] theorem State.fresh_erg (s : State) : s.fresh.erg = s.erg := rfl
@[simp] theorem State.fresh_host (s : State) : s.fresh.host = s.host := rfl
@[simp] theorem State.fresh_dram (s : State) : s.fresh.dram = s.dram := rfl
@[simp] theorem State.fresh_trk (s : State) : s.fresh.trk = s.trk := rfl
@[simp] theorem State.fresh_drift (s : State) : s.fresh.drift = s.drift := rfl
@[simp] theorem State.fresh_ledger (s : State) : s.fresh.ledger = s.ledger := rfl
@[simp] theorem State.fresh_cvn (s : State) : s.fresh.cvn = s.cvn := rfl
@[simp] theorem State.fresh_loq (s : State) : s.fresh.loq = s.loq := rfl
@[simp] theorem State.fresh_flash (s : State) : s.fresh.flash = s.flash := rfl
@[simp] theorem State.fresh_ftl (s : State) : s.fresh.ftl = s.ftl := rfl
@[simp] theorem State.fresh_nvm (s : State) : s.fresh.nvm = s.nvm := rfl
@[simp] theorem State.fresh_buf (s : State) : s.fresh.buf = s.buf := rfl
@[simp] theorem State.fresh_gau (s : State) : s.fresh.gau = s.gau := rfl
@[simp] theorem State.fresh_seq (s : State) : s.fresh.seq = s.seq := rfl
@[simp] theorem State.fresh_twi (s : State) : s.fresh.twi = s.twi := rfl
@[simp] theorem State.fresh_cfl (s : State) : s.fresh.cfl = s.cfl := rfl
@[simp] theorem State.fresh_boot (s : State) : s.fresh.boot = s.boot := rfl
@[simp] theorem State.fresh_fwu (s : State) : s.fresh.fwu = s.fwu := rfl
@[simp] theorem State.fresh_pwr (s : State) : s.fresh.pwr = s.pwr := rfl
@[simp] theorem State.fresh_evr (s : State) : s.fresh.evr = s.evr := rfl
@[simp] theorem State.fresh_out (s : State) : s.fresh.out = [] := rfl
@[simp] theorem State.fresh_rd (s : State) (f : Fld) (i : Nat) (j : Nat) :
  s.fresh.rd f i j = s.rd f i j := rfl
@[simp] theorem State.fresh_ap (s : State) (f : Fld) (i : Nat) (j : Nat) :
  s.fresh.ap f i j = s.ap f i j := rfl
@[simp] theorem State.fresh_on (s : State) (f : Fld) (i : Nat) (j : Nat) :
  s.fresh.on f i j = s.on f i j := rfl
@[simp] theorem State.fresh_tick (s : State) :
  s.fresh.tick = s.tick := rfl
@[simp] theorem State.fresh_level (s : State) :
  s.fresh.level = s.level := rfl
@[simp] theorem State.fresh_byteAt (s : State) (a : Nat) :
  s.fresh.byteAt a = s.byteAt a := rfl
@[simp] theorem State.fresh_bytesAt (s : State) (a n : Nat) :
  s.fresh.bytesAt a n = s.bytesAt a n := rfl
@[simp] theorem State.fresh_poisoned (s : State) (dpa : Nat) :
  s.fresh.poisoned dpa = s.poisoned dpa := rfl
@[simp] theorem State.fresh_hostPages (s : State) :
  s.fresh.hostPages = s.hostPages := rfl
@[simp] theorem State.fresh_stgPages (s : State) :
  s.fresh.stgPages = s.stgPages := rfl
@[simp] theorem State.fresh_ergBase (s : State) (sec idx dflt : Nat) :
  s.fresh.ergBase sec idx dflt = s.ergBase sec idx dflt := rfl
@[simp] theorem State.fresh_ld (s : State) (port ld : Nat) :
  s.fresh.ld port ld = s.ld port ld := rfl
@[simp] theorem State.fresh_ldHome (s : State) (port ld : Nat) :
  s.fresh.ldHome port ld = s.ldHome port ld := rfl
@[simp] theorem State.fresh_ldBase (s : State) (port ld : Nat) :
  s.fresh.ldBase port ld = s.ldBase port ld := rfl
@[simp] theorem State.fresh_ldCap (s : State) (port ld : Nat) :
  s.fresh.ldCap port ld = s.ldCap port ld := rfl
@[simp] theorem State.fresh_ldCount (s : State) (port : Nat) :
  s.fresh.ldCount port = s.ldCount port := rfl
@[simp] theorem State.fresh_ldVisits (s : State) (port ld : Nat) :
  s.fresh.ldVisits port ld = s.ldVisits port ld := rfl
@[simp] theorem State.fresh_ldNums (s : State) (port : Nat) :
  s.fresh.ldNums port = s.ldNums port := rfl
@[simp] theorem State.fresh_ldKeys (s : State) :
  s.fresh.ldKeys = s.ldKeys := rfl
@[simp] theorem State.fresh_ldShown (s : State) (port ld : Nat) :
  s.fresh.ldShown port ld = s.ldShown port ld := rfl
@[simp] theorem State.fresh_hostNow (s : State) :
  s.fresh.hostNow = s.hostNow := rfl
@[simp] theorem State.fresh_ldRuns (s : State) (k : Nat) :
  s.fresh.ldRuns k = s.ldRuns k := rfl
@[simp] theorem State.fresh_ldsOf (s : State) (dpa len : Nat) :
  s.fresh.ldsOf dpa len = s.ldsOf dpa len := rfl
@[simp] theorem State.fresh_heldNow (s : State) (port : Nat) :
  s.fresh.heldNow port = s.heldNow port := rfl
@[simp] theorem State.fresh_admClosed (s : State) :
  s.fresh.admClosed = s.admClosed := rfl
@[simp] theorem State.fresh_coresGone (s : State) :
  s.fresh.coresGone = s.coresGone := rfl
@[simp] theorem State.fresh_persistent (s : State) :
  s.fresh.persistent = s.persistent := rfl
@[simp] theorem State.fresh_persState (s : State) :
  s.fresh.persState = s.persState := rfl
@[simp] theorem State.fresh_leaveHeld (s : State) :
  s.fresh.leaveHeld = s.leaveHeld := rfl
@[simp] theorem State.fresh_ageBypass (s : State) :
  s.fresh.ageBypass = s.ageBypass := rfl
@[simp] theorem State.fresh_ledgerLevel (s : State) :
  s.fresh.ledgerLevel = s.ledgerLevel := rfl
@[simp] theorem State.fresh_mediaStatus (s : State) :
  s.fresh.mediaStatus = s.mediaStatus := rfl
@[simp] theorem State.fresh_healthStatus (s : State) :
  s.fresh.healthStatus = s.healthStatus := rfl
@[simp] theorem State.fresh_dirtyAt (s : State) (p : Nat) :
  s.fresh.dirtyAt p = s.dirtyAt p := rfl
@[simp] theorem State.fresh_copyAt (s : State) (p : Nat) :
  s.fresh.copyAt p = s.copyAt p := rfl
@[simp] theorem State.fresh_copyLive (s : State) (p : Nat) :
  s.fresh.copyLive p = s.copyLive p := rfl
@[simp] theorem State.fresh_inHeld (s : State) (p : Nat) :
  s.fresh.inHeld p = s.inHeld p := rfl
@[simp] theorem State.fresh_summaryAt (s : State) (r : Nat) :
  s.fresh.summaryAt r = s.summaryAt r := rfl
@[simp] theorem State.fresh_heldPages (s : State) (lo n : Nat) :
  s.fresh.heldPages lo n = s.heldPages lo n := rfl
@[simp] theorem State.fresh_chMask (s : State) (k : Nat) :
  s.fresh.chMask k = s.chMask k := rfl
@[simp] theorem State.fresh_bkMask (s : State) (k : Nat) :
  s.fresh.bkMask k = s.bkMask k := rfl
@[simp] theorem State.fresh_wayOf (s : State) (a : Nat) :
  s.fresh.wayOf a = s.wayOf a := rfl
@[simp] theorem State.fresh_subAddr (s : State) (a : Nat) :
  s.fresh.subAddr a = s.subAddr a := rfl
@[simp] theorem State.fresh_ranksOf (s : State) (c : Nat) :
  s.fresh.ranksOf c = s.ranksOf c := rfl
@[simp] theorem State.fresh_spareRank (s : State) (c : Nat) :
  s.fresh.spareRank c = s.spareRank c := rfl
@[simp] theorem State.fresh_bankBit (s : State) (sub raw k : Nat) :
  s.fresh.bankBit sub raw k = s.bankBit sub raw k := rfl
@[simp] theorem State.fresh_locOf (s : State) (a : Nat) :
  s.fresh.locOf a = s.locOf a := rfl
@[simp] theorem State.fresh_addrOf (s : State) (w sub : Nat) :
  s.fresh.addrOf w sub = s.addrOf w sub := rfl
@[simp] theorem State.fresh_bankQ (s : State) (way bank : Nat) :
  s.fresh.bankQ way bank = s.bankQ way bank := rfl
@[simp] theorem State.fresh_wrCount (s : State) (way : Nat) :
  s.fresh.wrCount way = s.wrCount way := rfl
@[simp] theorem State.fresh_bankFullOfWrites (s : State) (way : Nat) :
  s.fresh.bankFullOfWrites way = s.bankFullOfWrites way := rfl
@[simp] theorem State.fresh_draining (s : State) (way : Nat) :
  s.fresh.draining way = s.draining way := rfl
@[simp] theorem State.fresh_driftUrg (s : State) :
  s.fresh.driftUrg = s.driftUrg := rfl
@[simp] theorem State.fresh_unitBusy (s : State) (l : DramLoc) :
  s.fresh.unitBusy l = s.unitBusy l := rfl
@[simp] theorem State.fresh_liveRank (s : State) (l : DramLoc) :
  s.fresh.liveRank l = s.liveRank l := rfl
@[simp] theorem State.fresh_dramRoom (s : State) (line : Nat) :
  s.fresh.dramRoom line = s.dramRoom line := rfl
@[simp] theorem State.fresh_destRank (s : State) (l : DramLoc) (wr : Bool) (src : DSrc) :
  s.fresh.destRank l wr src = s.destRank l wr src := rfl
@[simp] theorem State.fresh_rankRange (s : State) (r : Nat) :
  s.fresh.rankRange r = s.rankRange r := rfl
@[simp] theorem State.fresh_holdsCarve (s : State) (c r : Nat) :
  s.fresh.holdsCarve c r = s.holdsCarve c r := rfl
@[simp] theorem State.fresh_lineLost (s : State) (a : Nat) :
  s.fresh.lineLost a = s.lineLost a := rfl
@[simp] theorem State.fresh_isOffline (s : State) (a : Nat) :
  s.fresh.isOffline a = s.isOffline a := rfl
@[simp] theorem State.fresh_rowHit (s : State) (r : DReq) :
  s.fresh.rowHit r = s.rowHit r := rfl
@[simp] theorem State.fresh_actLimit (s : State) (r : DReq) :
  s.fresh.actLimit r = s.actLimit r := rfl
@[simp] theorem State.fresh_actCharge (s : State) (key limit : Nat) :
  s.fresh.actCharge key limit = s.actCharge key limit := rfl
@[simp] theorem State.fresh_actAllowed (s : State) (r : DReq) :
  s.fresh.actAllowed r = s.actAllowed r := rfl
@[simp] theorem State.fresh_pageJob (s : State) (src : DSrc) :
  s.fresh.pageJob src = s.pageJob src := rfl
@[simp] theorem State.fresh_mapAddr (s : State) (byte : Nat) :
  s.fresh.mapAddr byte = s.mapAddr byte := rfl
@[simp] theorem State.fresh_stgAddr (s : State) (n : Nat) :
  s.fresh.stgAddr n = s.stgAddr n := rfl
@[simp] theorem State.fresh_bitmapAddr (s : State) (n : Nat) :
  s.fresh.bitmapAddr n = s.bitmapAddr n := rfl
@[simp] theorem State.fresh_bulkOut (s : State) :
  s.fresh.bulkOut = s.bulkOut := rfl
@[simp] theorem State.fresh_congLevel (s : State) (port : Nat) :
  s.fresh.congLevel port = s.congLevel port := rfl
@[simp] theorem State.fresh_devLoad (s : State) (port : Nat) (qent : Option Nat) :
  s.fresh.devLoad port qent = s.devLoad port qent := rfl
@[simp] theorem State.fresh_req (s : State) (id : Nat) :
  s.fresh.req id = s.req id := rfl
@[simp] theorem State.fresh_ldOwns (s : State) (port ld dpa : Nat) :
  s.fresh.ldOwns port ld dpa = s.ldOwns port ld dpa := rfl
@[simp] theorem State.fresh_resolve (s : State) (port ld hpa : Nat) :
  s.fresh.resolve port ld hpa = s.resolve port ld hpa := rfl
@[simp] theorem State.fresh_qosValid (s : State) :
  s.fresh.qosValid = s.qosValid := rfl
@[simp] theorem State.fresh_sourceId (s : State) (port sid : Nat) :
  s.fresh.sourceId port sid = s.sourceId port sid := rfl
@[simp] theorem State.fresh_ldClass (s : State) (port ld : Nat) :
  s.fresh.ldClass port ld = s.ldClass port ld := rfl
@[simp] theorem State.fresh_qosFind (s : State) (port ld sid : Nat) :
  s.fresh.qosFind port ld sid = s.qosFind port ld sid := rfl
@[simp] theorem State.fresh_reqClass (s : State) (qent : Option Nat) (port ld : Nat) :
  s.fresh.reqClass qent port ld = s.reqClass qent port ld := rfl
@[simp] theorem State.fresh_urgency (s : State) (cls age : Nat) :
  s.fresh.urgency cls age = s.urgency cls age := rfl
@[simp] theorem State.fresh_hasToken (s : State) (qent : Option Nat) :
  s.fresh.hasToken qent = s.hasToken qent := rfl
@[simp] theorem State.fresh_oldestHeld (s : State) :
  s.fresh.oldestHeld = s.oldestHeld := rfl
@[simp] theorem State.fresh_admits (s : State) (page : Nat) :
  s.fresh.admits page = s.admits page := rfl
@[simp] theorem State.fresh_earlierWrite (s : State) (r : Req) :
  s.fresh.earlierWrite r = s.earlierWrite r := rfl
@[simp] theorem State.fresh_serving (s : State) (port : Nat) :
  s.fresh.serving port = s.serving port := rfl
@[simp] theorem State.fresh_hasCredit (s : State) (port : Nat) (rwd : Bool) :
  s.fresh.hasCredit port rwd = s.hasCredit port rwd := rfl
@[simp] theorem State.fresh_saving (s : State) :
  s.fresh.saving = s.saving := rfl
@[simp] theorem State.fresh_newReq (s : State) (port ld tag : Nat) (op : ReqOp) (data : List Byte) (be : Nat) (psn : Bool) (q : Option Nat) :
  s.fresh.newReq port ld tag op data be psn q = s.newReq port ld tag op data be psn q := rfl
@[simp] theorem State.fresh_validateErg (s : State) (w : Nat → Nat) :
  s.fresh.validateErg w = s.validateErg w := rfl
@[simp] theorem State.fresh_activeOvl (s : State) (idx : Nat) :
  s.fresh.activeOvl idx = s.activeOvl idx := rfl
@[simp] theorem State.fresh_inForce (s : State) (ovl sec idx : Nat) :
  s.fresh.inForce ovl sec idx = s.inForce ovl sec idx := rfl
@[simp] theorem State.fresh_pol (s : State) (sec idx dflt : Nat) :
  s.fresh.pol sec idx dflt = s.pol sec idx dflt := rfl
@[simp] theorem State.fresh_polValue (s : State) (ovl : Nat) (e : PolFld) :
  s.fresh.polValue ovl e = s.polValue ovl e := rfl
@[simp] theorem State.fresh_die (s : State) (k : Nat) :
  s.fresh.die k = s.die k := rfl
@[simp] theorem State.fresh_dieUp (s : State) (k : Nat) :
  s.fresh.dieUp k = s.dieUp k := rfl
@[simp] theorem State.fresh_chansUp (s : State) :
  s.fresh.chansUp = s.chansUp := rfl
@[simp] theorem State.fresh_fop (s : State) (id : Nat) :
  s.fresh.fop id = s.fop id := rfl
@[simp] theorem State.fresh_slotsUsed (s : State) (c : Nat) :
  s.fresh.slotsUsed c = s.slotsUsed c := rfl
@[simp] theorem State.fresh_dieOps (s : State) (k : Nat) :
  s.fresh.dieOps k = s.dieOps k := rfl
@[simp] theorem State.fresh_dieRunning (s : State) (k : Nat) :
  s.fresh.dieRunning k = s.dieRunning k := rfl
@[simp] theorem State.fresh_dieSuspended (s : State) (k : Nat) :
  s.fresh.dieSuspended k = s.dieSuspended k := rfl
@[simp] theorem State.fresh_share3 (s : State) (k : Nat) :
  s.fresh.share3 k = s.share3 k := rfl
@[simp] theorem State.fresh_driftFirst (s : State) (k : Nat) :
  s.fresh.driftFirst k = s.driftFirst k := rfl
@[simp] theorem State.fresh_psLimit (s : State) :
  s.fresh.psLimit = s.psLimit := rfl
@[simp] theorem State.fresh_thermLimit (s : State) (cls : Nat) :
  s.fresh.thermLimit cls = s.thermLimit cls := rfl
@[simp] theorem State.fresh_clsFree (s : State) (busy : List Nat) (o : FOp) :
  s.fresh.clsFree busy o = s.clsFree busy o := rfl
@[simp] theorem State.fresh_jrnlOk (s : State) (o : FOp) :
  s.fresh.jrnlOk o = s.jrnlOk o := rfl
@[simp] theorem State.fresh_diePick (s : State) (k : Nat) (busy : List Nat) :
  s.fresh.diePick k busy = s.diePick k busy := rfl
@[simp] theorem State.fresh_suspendable (s : State) (k : Nat) (o : FOp) :
  s.fresh.suspendable k o = s.suspendable k o := rfl
@[simp] theorem State.fresh_refAt (s : State) (k g : Nat) :
  s.fresh.refAt k g = s.refAt k g := rfl
@[simp] theorem State.fresh_offClamp (s : State) (v : Int) :
  s.fresh.offClamp v = s.offClamp v := rfl
@[simp] theorem State.fresh_retryOffs (s : State) (k : Nat) :
  s.fresh.retryOffs k = s.retryOffs k := rfl
@[simp] theorem State.fresh_clusterOf (s : State) (c : Nat) :
  s.fresh.clusterOf c = s.clusterOf c := rfl
@[simp] theorem State.fresh_laneOps (s : State) (k : Nat) (soft lane : Bool) :
  s.fresh.laneOps k soft lane = s.laneOps k soft lane := rfl
@[simp] theorem State.fresh_pageKib (s : State) :
  s.fresh.pageKib = s.pageKib := rfl
@[simp] theorem State.fresh_planesLog (s : State) :
  s.fresh.planesLog = s.planesLog := rfl
@[simp] theorem State.fresh_bpc (s : State) :
  s.fresh.bpc = s.bpc := rfl
@[simp] theorem State.fresh_pagesPer (s : State) :
  s.fresh.pagesPer = s.pagesPer := rfl
@[simp] theorem State.fresh_blocksPer (s : State) :
  s.fresh.blocksPer = s.blocksPer := rfl
@[simp] theorem State.fresh_spb (s : State) :
  s.fresh.spb = s.spb := rfl
@[simp] theorem State.fresh_spbIn (s : State) (native : Bool) :
  s.fresh.spbIn native = s.spbIn native := rfl
@[simp] theorem State.fresh_unitSlots (s : State) :
  s.fresh.unitSlots = s.unitSlots := rfl
@[simp] theorem State.fresh_minW (s : State) :
  s.fresh.minW = s.minW := rfl
@[simp] theorem State.fresh_sbOf (s : State) (a : Nat) :
  s.fresh.sbOf a = s.sbOf a := rfl
@[simp] theorem State.fresh_sbReserved (s : State) (n : Nat) :
  s.fresh.sbReserved n = s.sbReserved n := rfl
@[simp] theorem State.fresh_dieChans (s : State) (d : Nat) :
  s.fresh.dieChans d = s.dieChans d := rfl
@[simp] theorem State.fresh_sbView (s : State) (n : Nat) (b : SbSt) :
  s.fresh.sbView n b = s.sbView n b := rfl
@[simp] theorem State.fresh_sb (s : State) (n : Nat) :
  s.fresh.sb n = s.sb n := rfl
@[simp] theorem State.fresh_sbList (s : State) :
  s.fresh.sbList = s.sbList := rfl
@[simp] theorem State.fresh_sbWidth (s : State) (n : Nat) (b : SbSt) :
  s.fresh.sbWidth n b = s.sbWidth n b := rfl
@[simp] theorem State.fresh_eraseWear (s : State) (native : Bool) :
  s.fresh.eraseWear native = s.eraseWear native := rfl
@[simp] theorem State.fresh_grain (s : State) (native : Bool) :
  s.fresh.grain native = s.grain native := rfl
@[simp] theorem State.fresh_sbSlots (s : State) (b : SbSt) :
  s.fresh.sbSlots b = s.sbSlots b := rfl
@[simp] theorem State.fresh_slotAddr (s : State) (n : Nat) (b : SbSt) (k : Nat) :
  s.fresh.slotAddr n b k = s.slotAddr n b k := rfl
@[simp] theorem State.fresh_unitSpan (s : State) (native : Bool) :
  s.fresh.unitSpan native = s.unitSpan native := rfl
@[simp] theorem State.fresh_stripeSlots (s : State) (b : SbSt) :
  s.fresh.stripeSlots b = s.stripeSlots b := rfl
@[simp] theorem State.fresh_stripeOf (s : State) (a : Nat) :
  s.fresh.stripeOf a = s.stripeOf a := rfl
@[simp] theorem State.fresh_stripesFull (s : State) (b : SbSt) (f : Nat) :
  s.fresh.stripesFull b f = s.stripesFull b f := rfl
@[simp] theorem State.fresh_stripesBegun (s : State) (b : SbSt) (f : Nat) :
  s.fresh.stripesBegun b f = s.stripesBegun b f := rfl
@[simp] theorem State.fresh_freeListed (s : State) :
  s.fresh.freeListed = s.freeListed := rfl
@[simp] theorem State.fresh_unlistedFree (s : State) (d : Nat) :
  s.fresh.unlistedFree d = s.unlistedFree d := rfl
@[simp] theorem State.fresh_freeAll (s : State) :
  s.fresh.freeAll = s.freeAll := rfl
@[simp] theorem State.fresh_sumWidth (s : State) :
  s.fresh.sumWidth = s.sumWidth := rfl
@[simp] theorem State.fresh_fullWidth (s : State) :
  s.fresh.fullWidth = s.fullWidth := rfl
@[simp] theorem State.fresh_dSlc (s : State) :
  s.fresh.dSlc = s.dSlc := rfl
@[simp] theorem State.fresh_cNat (s : State) :
  s.fresh.cNat = s.cNat := rfl
@[simp] theorem State.fresh_poolS (s : State) :
  s.fresh.poolS = s.poolS := rfl
@[simp] theorem State.fresh_nImg (s : State) :
  s.fresh.nImg = s.nImg := rfl
@[simp] theorem State.fresh_nRsv (s : State) :
  s.fresh.nRsv = s.nRsv := rfl
@[simp] theorem State.fresh_oNs (s : State) :
  s.fresh.oNs = s.oNs := rfl
@[simp] theorem State.fresh_nNsFull (s : State) :
  s.fresh.nNsFull = s.nNsFull := rfl
@[simp] theorem State.fresh_nNs (s : State) :
  s.fresh.nNs = s.nNs := rfl
@[simp] theorem State.fresh_nSys (s : State) :
  s.fresh.nSys = s.nSys := rfl
@[simp] theorem State.fresh_poolP (s : State) :
  s.fresh.poolP = s.poolP := rfl
@[simp] theorem State.fresh_imageShort (s : State) (m : Nat) :
  s.fresh.imageShort m = s.imageShort m := rfl
@[simp] theorem State.fresh_hasFch (s : State) (c : Nat) :
  s.fresh.hasFch c = s.hasFch c := rfl
@[simp] theorem State.fresh_dieDeclared (s : State) (c d : Nat) :
  s.fresh.dieDeclared c d = s.dieDeclared c d := rfl
@[simp] theorem State.fresh_sbCount (s : State) :
  s.fresh.sbCount = s.sbCount := rfl
@[simp] theorem State.fresh_sumWidthFactory (s : State) :
  s.fresh.sumWidthFactory = s.sumWidthFactory := rfl
@[simp] theorem State.fresh_poolP0 (s : State) :
  s.fresh.poolP0 = s.poolP0 := rfl
@[simp] theorem State.fresh_firstUnlisted (s : State) (d : Nat) :
  s.fresh.firstUnlisted d = s.firstUnlisted d := rfl
@[simp] theorem State.fresh_barredDie (s : State) (t d : Nat) :
  s.fresh.barredDie t d = s.barredDie t d := rfl
@[simp] theorem State.fresh_pickFree (s : State) (t : Nat) :
  s.fresh.pickFree t = s.pickFree t := rfl
@[simp] theorem State.fresh_mayOpen (s : State) (t : Nat) :
  s.fresh.mayOpen t = s.mayOpen t := rfl
@[simp] theorem State.fresh_tpOf (s : State) (k : Nat) :
  s.fresh.tpOf k = s.tpOf k := rfl
@[simp] theorem State.fresh_usableDies (s : State) (c : Nat) :
  s.fresh.usableDies c = s.usableDies c := rfl
@[simp] theorem State.fresh_chanSave (s : State) (c : Nat) :
  s.fresh.chanSave c = s.chanSave c := rfl
@[simp] theorem State.fresh_groupSave (s : State) (cs : List Nat) :
  s.fresh.groupSave cs = s.groupSave cs := rfl
@[simp] theorem State.fresh_slot (s : State) (a : Nat) :
  s.fresh.slot a = s.slot a := rfl
@[simp] theorem State.fresh_unissued (s : State) (n u : Nat) :
  s.fresh.unissued n u = s.unissued n u := rfl
@[simp] theorem State.fresh_lifeSums (s : State) (k : Nat) :
  s.fresh.lifeSums k = s.lifeSums k := rfl
@[simp] theorem State.fresh_dieRetired (s : State) (k : Nat) :
  s.fresh.dieRetired k = s.dieRetired k := rfl
@[simp] theorem State.fresh_imgAt (s : State) (p : Nat) :
  s.fresh.imgAt p = s.imgAt p := rfl
@[simp] theorem State.fresh_fmapBase (s : State) :
  s.fresh.fmapBase = s.fmapBase := rfl
@[simp] theorem State.fresh_coarseAt (s : State) (i : Nat) :
  s.fresh.coarseAt i = s.coarseAt i := rfl
@[simp] theorem State.fresh_fineAt (s : State) (g e : Nat) :
  s.fresh.fineAt g e = s.fineAt g e := rfl
@[simp] theorem State.fresh_groupsMax (s : State) :
  s.fresh.groupsMax = s.groupsMax := rfl
@[simp] theorem State.fresh_nsEntry (s : State) (x : Nat) :
  s.fresh.nsEntry x = s.nsEntry x := rfl
@[simp] theorem State.fresh_slotValid (s : State) (a : Nat) :
  s.fresh.slotValid a = s.slotValid a := rfl
@[simp] theorem State.fresh_validIn (s : State) (n : Nat) :
  s.fresh.validIn n = s.validIn n := rfl
@[simp] theorem State.fresh_sbProtected (s : State) (n : Nat) :
  s.fresh.sbProtected n = s.sbProtected n := rfl
@[simp] theorem State.fresh_gcScore (s : State) (n : Nat) (b : SbSt) :
  s.fresh.gcScore n b = s.gcScore n b := rfl
@[simp] theorem State.fresh_pickVictim (s : State) :
  s.fresh.pickVictim = s.pickVictim := rfl
@[simp] theorem State.fresh_eraseNext (s : State) :
  s.fresh.eraseNext = s.eraseNext := rfl
@[simp] theorem State.fresh_vfs (s : State) (port : Nat) :
  s.fresh.vfs port = s.vfs port := rfl
@[simp] theorem State.fresh_fnAllotted (s : State) (fn : Nat) :
  s.fresh.fnAllotted fn = s.fnAllotted fn := rfl
@[simp] theorem State.fresh_fnPort (s : State) (fn : Nat) :
  s.fresh.fnPort fn = s.fnPort fn := rfl
@[simp] theorem State.fresh_fnPresent (s : State) (fn : Nat) :
  s.fresh.fnPresent fn = s.fnPresent fn := rfl
@[simp] theorem State.fresh_fnIds (s : State) :
  s.fresh.fnIds = s.fnIds := rfl
@[simp] theorem State.fresh_fnQp (s : State) (fn : Nat) :
  s.fresh.fnQp fn = s.fnQp fn := rfl
@[simp] theorem State.fresh_fnVec (s : State) (fn : Nat) :
  s.fresh.fnVec fn = s.fnVec fn := rfl
@[simp] theorem State.fresh_cmdMax (s : State) :
  s.fresh.cmdMax = s.cmdMax := rfl
@[simp] theorem State.fresh_mqes (s : State) :
  s.fresh.mqes = s.mqes := rfl
@[simp] theorem State.fresh_fn (s : State) (f : Nat) :
  s.fresh.fn f = s.fn f := rfl
@[simp] theorem State.fresh_ns (s : State) (n : Nat) :
  s.fresh.ns n = s.ns n := rfl
@[simp] theorem State.fresh_nsUp (s : State) (n : Nat) :
  s.fresh.nsUp n = s.nsUp n := rfl
@[simp] theorem State.fresh_devSlot (s : State) (x : NsSt) (k : Nat) :
  s.fresh.devSlot x k = s.devSlot x k := rfl
@[simp] theorem State.fresh_modeCause (s : State) (x : NsSt) :
  s.fresh.modeCause x = s.modeCause x := rfl
@[simp] theorem State.fresh_cmd (s : State) (t : Nat) :
  s.fresh.cmd t = s.cmd t := rfl
@[simp] theorem State.fresh_fnInfl (s : State) (f : Nat) :
  s.fresh.fnInfl f = s.fnInfl f := rfl
@[simp] theorem State.fresh_stgAt (s : State) (n : Nat) :
  s.fresh.stgAt n = s.stgAt n := rfl
@[simp] theorem State.fresh_stgFind (s : State) (ns k : Nat) :
  s.fresh.stgFind ns k = s.stgFind ns k := rfl
@[simp] theorem State.fresh_slotNow (s : State) (ns k : Nat) :
  s.fresh.slotNow ns k = s.slotNow ns k := rfl
@[simp] theorem State.fresh_nvmGate (s : State) (c : CmdSt) :
  s.fresh.nvmGate c = s.nvmGate c := rfl
@[simp] theorem State.fresh_stgFree (s : State) :
  s.fresh.stgFree = s.stgFree := rfl
@[simp] theorem State.fresh_nsSbs (s : State) (ns : Option Nat) :
  s.fresh.nsSbs ns = s.nsSbs ns := rfl
@[simp] theorem State.fresh_destageOpen (s : State) :
  s.fresh.destageOpen = s.destageOpen := rfl
@[simp] theorem State.fresh_pdOn (s : State) (n : Nat) :
  s.fresh.pdOn n = s.pdOn n := rfl
@[simp] theorem State.fresh_fsCap (s : State) :
  s.fresh.fsCap = s.fsCap := rfl
@[simp] theorem State.fresh_coreUp (s : State) (n : Nat) :
  s.fresh.coreUp n = s.coreUp n := rfl
@[simp] theorem State.fresh_coreRuns (s : State) (n : Nat) :
  s.fresh.coreRuns n = s.coreRuns n := rfl
@[simp] theorem State.fresh_roleRuns (s : State) (k : Nat) :
  s.fresh.roleRuns k = s.roleRuns k := rfl
@[simp] theorem State.fresh_ownerOf (s : State) (src : Nat) :
  s.fresh.ownerOf src = s.ownerOf src := rfl
@[simp] theorem State.fresh_loqEnt (s : State) (e : Nat) :
  s.fresh.loqEnt e = s.loqEnt e := rfl
@[simp] theorem State.fresh_loqHandle (s : State) (e : Nat) :
  s.fresh.loqHandle e = s.loqHandle e := rfl
@[simp] theorem State.fresh_slotPermits (s : State) (slot op : Nat) :
  s.fresh.slotPermits slot op = s.slotPermits slot op := rfl
@[simp] theorem State.fresh_loqRunning (s : State) (op : Nat) :
  s.fresh.loqRunning op = s.loqRunning op := rfl
@[simp] theorem State.fresh_ringCnt (s : State) (r : Nat) :
  s.fresh.ringCnt r = s.ringCnt r := rfl
@[simp] theorem State.fresh_ringPhase (s : State) (r : Nat) :
  s.fresh.ringPhase r = s.ringPhase r := rfl
@[simp] theorem State.fresh_bufBusy (s : State) :
  s.fresh.bufBusy = s.bufBusy := rfl
@[simp] theorem State.fresh_lbWord (s : State) (k : Nat) :
  s.fresh.lbWord k = s.lbWord k := rfl
@[simp] theorem State.fresh_sliceFenced (s : State) (k : Nat) :
  s.fresh.sliceFenced k = s.sliceFenced k := rfl
@[simp] theorem State.fresh_unitBad (s : State) (k : Nat) :
  s.fresh.unitBad k = s.unitBad k := rfl
@[simp] theorem State.fresh_ldpcLost (s : State) :
  s.fresh.ldpcLost = s.ldpcLost := rfl
@[simp] theorem State.fresh_limits (s : State) (wd : Bool) :
  s.fresh.limits wd = s.limits wd := rfl
@[simp] theorem State.fresh_capOf (s : State) (wd : Bool) :
  s.fresh.capOf wd = s.capOf wd := rfl
@[simp] theorem State.fresh_flagged (s : State) (n : Nat) :
  s.fresh.flagged n = s.flagged n := rfl
@[simp] theorem State.fresh_protectedSector (s : State) (n : Nat) :
  s.fresh.protectedSector n = s.protectedSector n := rfl
@[simp] theorem State.fresh_wpFrozen (s : State) (n : Nat) :
  s.fresh.wpFrozen n = s.wpFrozen n := rfl
@[simp] theorem State.fresh_cflWord (s : State) (k : Nat) :
  s.fresh.cflWord k = s.cflWord k := rfl
@[simp] theorem State.fresh_notErased (s : State) (k : Nat) (ws : List Nat) :
  s.fresh.notErased k ws = s.notErased k ws := rfl
@[simp] theorem State.fresh_ovlTag (s : State) (i : Nat) :
  s.fresh.ovlTag i = s.ovlTag i := rfl
@[simp] theorem State.fresh_bulkOver (s : State) :
  s.fresh.bulkOver = s.bulkOver := rfl
@[simp] theorem State.fresh_ovlApplied (s : State) :
  s.fresh.ovlApplied = s.ovlApplied := rfl
@[simp] theorem State.fresh_fwWord (s : State) (slot k : Nat) :
  s.fresh.fwWord slot k = s.fwWord slot k := rfl
@[simp] theorem State.fresh_fwBytes (s : State) (slot k n : Nat) :
  s.fresh.fwBytes slot k n = s.fwBytes slot k n := rfl
@[simp] theorem State.fresh_fwBlocks (s : State) (slot : Nat) :
  s.fresh.fwBlocks slot = s.fwBlocks slot := rfl
@[simp] theorem State.fresh_fwFlags (s : State) (slot : Nat) :
  s.fresh.fwFlags slot = s.fwFlags slot := rfl
@[simp] theorem State.fresh_fwClass (s : State) (slot : Nat) :
  s.fresh.fwClass slot = s.fwClass slot := rfl
@[simp] theorem State.fresh_fwBoot (s : State) (slot : Nat) :
  s.fresh.fwBoot slot = s.fwBoot slot := rfl
@[simp] theorem State.fresh_fwSvn (s : State) (slot : Nat) :
  s.fresh.fwSvn slot = s.fwSvn slot := rfl
@[simp] theorem State.fresh_fwLvFmt (s : State) (slot : Nat) :
  s.fresh.fwLvFmt slot = s.fwLvFmt slot := rfl
@[simp] theorem State.fresh_fwBlockOk (s : State) (slot b : Nat) :
  s.fresh.fwBlockOk slot b = s.fwBlockOk slot b := rfl
@[simp] theorem State.fresh_fwSigned (s : State) (slot : Nat) :
  s.fresh.fwSigned slot = s.fwSigned slot := rfl
@[simp] theorem State.fresh_fwSigBlock (s : State) (slot : Nat) :
  s.fresh.fwSigBlock slot = s.fwSigBlock slot := rfl
@[simp] theorem State.fresh_ergWord (s : State) (slot k : Nat) :
  s.fresh.ergWord slot k = s.ergWord slot k := rfl
@[simp] theorem State.fresh_fwTakesErg (s : State) (slot fmt : Nat) :
  s.fresh.fwTakesErg slot fmt = s.fwTakesErg slot fmt := rfl
@[simp] theorem State.fresh_fwHeaderOk (s : State) (slot : Nat) :
  s.fresh.fwHeaderOk slot = s.fwHeaderOk slot := rfl
@[simp] theorem State.fresh_fwVerify (s : State) (slot upTo : Nat) :
  s.fresh.fwVerify slot upTo = s.fwVerify slot upTo := rfl
@[simp] theorem State.fresh_ergKept (s : State) (erg : Nat) :
  s.fresh.ergKept erg = s.ergKept erg := rfl
@[simp] theorem State.fresh_ergProtected (s : State) (erg : Nat) :
  s.fresh.ergProtected erg = s.ergProtected erg := rfl
@[simp] theorem State.fresh_fwPart (s : State) (k : Nat) :
  s.fresh.fwPart k = s.fwPart k := rfl
@[simp] theorem State.fresh_actClassOf (s : State) (slot : Nat) :
  s.fresh.actClassOf slot = s.actClassOf slot := rfl
@[simp] theorem State.fresh_adminBusy (s : State) :
  s.fresh.adminBusy = s.adminBusy := rfl
@[simp] theorem State.fresh_loqBusy (s : State) :
  s.fresh.loqBusy = s.loqBusy := rfl
@[simp] theorem State.fresh_coresFree (s : State) :
  s.fresh.coresFree = s.coresFree := rfl
@[simp] theorem State.fresh_readOffs (s : State) (o : FOp) :
  s.fresh.readOffs o = s.readOffs o := rfl
@[simp] theorem State.fresh_nextStep (s : State) (o : FOp) :
  s.fresh.nextStep o = s.nextStep o := rfl
@[simp] theorem State.fresh_volumes (s : State) (c : Nat) :
  s.fresh.volumes c = s.volumes c := rfl
@[simp] theorem State.fresh_eyeDue (s : State) (c : Nat) (moved : Bool) :
  s.fresh.eyeDue c moved = s.eyeDue c moved := rfl
@[simp] theorem State.fresh_grpChans (s : State) (g : Nat) :
  s.fresh.grpChans g = s.grpChans g := rfl
@[simp] theorem State.fresh_oldestOpen (s : State) :
  s.fresh.oldestOpen = s.oldestOpen := rfl
@[simp] theorem State.fresh_nsOfUnit (s : State) (i : Nat) :
  s.fresh.nsOfUnit i = s.nsOfUnit i := rfl
@[simp] theorem State.fresh_sem (s : State) (n : Nat) :
  s.fresh.sem n = s.sem n := rfl
@[simp] theorem State.fresh_sqReady (s : State) (f : Nat) :
  s.fresh.sqReady f = s.sqReady f := rfl
@[simp] theorem State.fresh_freeTag (s : State) :
  s.fresh.freeTag = s.freeTag := rfl
@[simp] theorem State.fresh_critWarn (s : State) :
  s.fresh.critWarn = s.critWarn := rfl
@[simp] theorem State.fresh_modeLog (s : State) (f : Nat) :
  s.fresh.modeLog f = s.modeLog f := rfl
@[simp] theorem State.fresh_logPage (s : State) (f lid : Nat) :
  s.fresh.logPage f lid = s.logPage f lid := rfl
@[simp] theorem State.fresh_identify (s : State) (f cns nsid : Nat) :
  s.fresh.identify f cns nsid = s.identify f cns nsid := rfl
@[simp] theorem State.fresh_poolUnits (s : State) :
  s.fresh.poolUnits = s.poolUnits := rfl
@[simp] theorem State.fresh_freeRange (s : State) (units : Nat) :
  s.fresh.freeRange units = s.freeRange units := rfl
@[simp] theorem State.fresh_psEntries (s : State) (f : Nat) :
  s.fresh.psEntries f = s.psEntries f := rfl
@[simp] theorem State.fresh_gauWord (s : State) (k : Nat) :
  s.fresh.gauWord k = s.gauWord k := rfl
@[simp] theorem State.fresh_gauHalf (s : State) (n : Nat) :
  s.fresh.gauHalf n = s.gauHalf n := rfl
@[simp] theorem State.fresh_ocv (s : State) (j k : Nat) :
  s.fresh.ocv j k = s.ocv j k := rfl
@[simp] theorem State.fresh_resT (s : State) (j k c : Nat) :
  s.fresh.resT j k c = s.resT j k c := rfl
@[simp] theorem State.fresh_rateClass (s : State) (x : Nat) :
  s.fresh.rateClass x = s.rateClass x := rfl
@[simp] theorem State.fresh_tempK (s : State) (k : Nat) :
  s.fresh.tempK k = s.tempK k := rfl
@[simp] theorem State.fresh_cols (s : State) (t : Int) :
  s.fresh.cols t = s.cols t := rfl
@[simp] theorem State.fresh_ocvAt (s : State) (soc k : Nat) :
  s.fresh.ocvAt soc k = s.ocvAt soc k := rfl
@[simp] theorem State.fresh_socCol (s : State) (v k : Nat) :
  s.fresh.socCol v k = s.socCol v k := rfl
@[simp] theorem State.fresh_socV (s : State) (v : Nat) (t : Int) :
  s.fresh.socV v t = s.socV v t := rfl
@[simp] theorem State.fresh_gauV (s : State) :
  s.fresh.gauV = s.gauV := rfl
@[simp] theorem State.fresh_gauT (s : State) :
  s.fresh.gauT = s.gauT := rfl
@[simp] theorem State.fresh_packPower (s : State) :
  s.fresh.packPower = s.packPower := rfl
@[simp] theorem State.fresh_packOn (s : State) :
  s.fresh.packOn = s.packOn := rfl
@[simp] theorem State.fresh_packSer (s : State) :
  s.fresh.packSer = s.packSer := rfl
@[simp] theorem State.fresh_serKnown (s : State) :
  s.fresh.serKnown = s.serKnown := rfl
@[simp] theorem State.fresh_packFault (s : State) :
  s.fresh.packFault = s.packFault := rfl
@[simp] theorem State.fresh_causeStays (s : State) :
  s.fresh.causeStays = s.causeStays := rfl
@[simp] theorem State.fresh_packChanged (s : State) (a b : Nat) :
  s.fresh.packChanged a b = s.packChanged a b := rfl
@[simp] theorem State.fresh_audBar (s : State) :
  s.fresh.audBar = s.audBar := rfl
@[simp] theorem State.fresh_atRest (s : State) :
  s.fresh.atRest = s.atRest := rfl
@[simp] theorem State.fresh_serReads (s : State) :
  s.fresh.serReads = s.serReads := rfl
@[simp] theorem State.fresh_railFlag (s : State) (n k : Nat) :
  s.fresh.railFlag n k = s.railFlag n k := rfl
@[simp] theorem State.fresh_railDriven (s : State) (n : Nat) :
  s.fresh.railDriven n = s.railDriven n := rfl
@[simp] theorem State.fresh_railOn (s : State) (n : Nat) :
  s.fresh.railOn n = s.railOn n := rfl
@[simp] theorem State.fresh_railGood (s : State) (n : Nat) :
  s.fresh.railGood n = s.railGood n := rfl
@[simp] theorem State.fresh_railFailed (s : State) (n : Nat) :
  s.fresh.railFailed n = s.railFailed n := rfl
@[simp] theorem State.fresh_dependsOn (s : State) (n d : Nat) :
  s.fresh.dependsOn n d = s.dependsOn n d := rfl
@[simp] theorem State.fresh_seqState (s : State) :
  s.fresh.seqState = s.seqState := rfl
@[simp] theorem State.fresh_dependants (s : State) (n : Nat) :
  s.fresh.dependants n = s.dependants n := rfl
@[simp] theorem State.fresh_canStart (s : State) :
  s.fresh.canStart = s.canStart := rfl
@[simp] theorem State.fresh_phaseRail (s : State) (n : Nat) :
  s.fresh.phaseRail n = s.phaseRail n := rfl
@[simp] theorem State.fresh_dependantsOff (s : State) (n : Nat) :
  s.fresh.dependantsOff n = s.dependantsOff n := rfl
@[simp] theorem State.fresh_railOut (s : State) (n pg : Nat) :
  s.fresh.railOut n pg = s.railOut n pg := rfl
@[simp] theorem State.fresh_suppRecord (s : State) (e : EvType × Nat) :
  s.fresh.suppRecord e = s.suppRecord e := rfl
@[simp] theorem State.fresh_reportable (s : State) (r : EvReport) :
  s.fresh.reportable r = s.reportable r := rfl
@[simp] theorem State.fresh_eint (s : State) (sector : Nat) :
  s.fresh.eint sector = s.eint sector := rfl
@[simp] theorem State.fresh_committerBank (s : State) :
  s.fresh.committerBank = s.committerBank := rfl
@[simp] theorem State.fresh_nextRecord (s : State) :
  s.fresh.nextRecord = s.nextRecord := rfl
@[simp] theorem State.fresh_erase1 (s : State) :
  s.fresh.erase1 = s.erase1 := rfl
@[simp] theorem State.fresh_recorderMax (s : State) :
  s.fresh.recorderMax = s.recorderMax := rfl
@[simp] theorem State.fresh_saveHard (s : State) :
  s.fresh.saveHard = s.saveHard := rfl
@[simp] theorem State.fresh_fastPath (s : State) :
  s.fresh.fastPath = s.fastPath := rfl
@[simp] theorem State.fresh_eidNow (s : State) :
  s.fresh.eidNow = s.eidNow := rfl
@[simp] theorem State.fresh_featureOf (s : State) (f fid nsid : Nat) :
  s.fresh.featureOf f fid nsid = s.featureOf f fid nsid := rfl
@[simp] theorem State.fresh_bankSt (s : State) (b : Nat) :
  s.fresh.bankSt b = s.bankSt b := rfl
@[simp] theorem State.fresh_nextDesc (s : State) (b : Nat) :
  s.fresh.nextDesc b = s.nextDesc b := rfl
@[simp] theorem State.fresh_runDesc (s : State) (b op : Nat) :
  s.fresh.runDesc b op = s.runDesc b op := rfl
@[simp] theorem State.fresh_firstBad (s : State) (d : CflDesc) (n : Nat) :
  s.fresh.firstBad d n = s.firstBad d n := rfl
@[simp] theorem State.fresh_sinceRelease (s : State) :
  s.fresh.sinceRelease = s.sinceRelease := rfl
@[simp] theorem State.fresh_stage (s : State) :
  s.fresh.stage = s.stage := rfl
@[simp] theorem State.fresh_slices (s : State) :
  s.fresh.slices = s.slices := rfl
@[simp] theorem State.fresh_firstRun (s : State) (k : Nat) :
  s.fresh.firstRun k = s.firstRun k := rfl
@[simp] theorem State.fresh_sliceRuns (s : State) (k : Nat) :
  s.fresh.sliceRuns k = s.sliceRuns k := rfl
@[simp] theorem State.fresh_areaFlagged (s : State) (ba : Nat) :
  s.fresh.areaFlagged ba = s.areaFlagged ba := rfl
@[simp] theorem State.fresh_ergErased (s : State) (slot : Nat) :
  s.fresh.ergErased slot = s.ergErased slot := rfl
@[simp] theorem State.fresh_lossMask (s : State) (old new : List (Nat × Nat)) :
  s.fresh.lossMask old new = s.lossMask old new := rfl
@[simp] theorem State.fresh_ergCheck (s : State) (slot : Nat) :
  s.fresh.ergCheck slot = s.ergCheck slot := rfl
@[simp] theorem State.fresh_bootOvl (s : State) (dig : Nat) (ovls : List Overlay) (dflt : Nat) :
  s.fresh.bootOvl dig ovls dflt = s.bootOvl dig ovls dflt := rfl
@[simp] theorem State.fresh_fineGroups (s : State) :
  s.fresh.fineGroups = s.fineGroups := rfl
@[simp] theorem State.fresh_calTablesOk (s : State) :
  s.fresh.calTablesOk = s.calTablesOk := rfl
@[simp] theorem State.fresh_ratedNow (s : State) (gmax : Nat) :
  s.fresh.ratedNow gmax = s.ratedNow gmax := rfl
@[simp] theorem State.fresh_gpfDuration (s : State) (hostPages stg : Nat) :
  s.fresh.gpfDuration hostPages stg = s.gpfDuration hostPages stg := rfl
@[simp] theorem State.fresh_popRate (s : State) (c : Nat) :
  s.fresh.popRate c = s.popRate c := rfl
@[simp] theorem State.fresh_popOk (s : State) (h : HwFound) (c : Nat) :
  s.fresh.popOk h c = s.popOk h c := rfl
@[simp] theorem State.fresh_chanRate (s : State) (h : HwFound) (c : Nat) :
  s.fresh.chanRate h c = s.chanRate h c := rfl
@[simp] theorem State.fresh_chanSound (s : State) (h : HwFound) (pop c : Nat) :
  s.fresh.chanSound h pop c = s.chanSound h pop c := rfl
@[simp] theorem State.fresh_geometryOk (s : State) :
  s.fresh.geometryOk = s.geometryOk := rfl
@[simp] theorem State.fresh_diesUp (s : State) (c : Nat) :
  s.fresh.diesUp c = s.diesUp c := rfl
@[simp] theorem State.fresh_xtFound (s : State) (h : HwFound) (c : Nat) :
  s.fresh.xtFound h c = s.xtFound h c := rfl
@[simp] theorem State.fresh_stageAt (s : State) (k : Nat) :
  s.fresh.stageAt k = s.stageAt k := rfl
@[simp] theorem State.fresh_pdIdle (s : State) (n : Nat) :
  s.fresh.pdIdle n = s.pdIdle n := rfl
@[simp] theorem State.fresh_manifestCells (s : State) (m : Manifest) (volatile : Bool) :
  s.fresh.manifestCells m volatile = s.manifestCells m volatile := rfl
@[simp] theorem State.fresh_saveCheckpoint (s : State) :
  s.fresh.saveCheckpoint = s.saveCheckpoint := rfl
@[simp] theorem State.fresh_savedStg (s : State) :
  s.fresh.savedStg = s.savedStg := rfl
@[simp] theorem State.fresh_stgLba (s : State) (y : StgSt) :
  s.fresh.stgLba y = s.stgLba y := rfl
@[simp] theorem State.fresh_refRegions (s : State) :
  s.fresh.refRegions = s.refRegions := rfl
@[simp] theorem State.fresh_buildManifest (s : State) (code : Nat) :
  s.fresh.buildManifest code = s.buildManifest code := rfl
@[simp] theorem State.fresh_saveOrder (s : State) (m : Manifest) :
  s.fresh.saveOrder m = s.saveOrder m := rfl
@[simp] theorem State.fresh_flashAgain (s : State) (o : FOp) :
  s.fresh.flashAgain o = s.flashAgain o := rfl
@[simp] theorem State.fresh_saveFlying (s : State) :
  s.fresh.saveFlying = s.saveFlying := rfl
@[simp] theorem State.fresh_saveAllows (s : State) :
  s.fresh.saveAllows = s.saveAllows := rfl
@[simp] theorem State.fresh_makeRecord (s : State) :
  s.fresh.makeRecord = s.makeRecord := rfl
@[simp] theorem State.fresh_saveProgOf (s : State) (i : SaveItem) :
  s.fresh.saveProgOf i = s.saveProgOf i := rfl
@[simp] theorem State.fresh_recomp (s : State) :
  s.fresh.recomp = s.recomp := rfl
@[simp] theorem State.fresh_freshPages (s : State) (p : Nat → Bool) :
  s.fresh.freshPages p = s.freshPages p := rfl
@[simp] theorem State.fresh_eligible (s : State) :
  s.fresh.eligible = s.eligible := rfl
@[simp] theorem State.fresh_driftPick (s : State) :
  s.fresh.driftPick = s.driftPick := rfl
@[simp] theorem State.fresh_driftRuns (s : State) :
  s.fresh.driftRuns = s.driftRuns := rfl
@[simp] theorem State.fresh_driftBlocked (s : State) :
  s.fresh.driftBlocked = s.driftBlocked := rfl
@[simp] theorem State.fresh_thermU (s : State) (u f : Nat) :
  s.fresh.thermU u f = s.thermU u f := rfl
@[simp] theorem State.fresh_snapFlying (s : State) (num : Nat) :
  s.fresh.snapFlying num = s.snapFlying num := rfl
@[simp] theorem State.fresh_newestGen (s : State) (p : Nat) :
  s.fresh.newestGen p = s.newestGen p := rfl
@[simp] theorem State.fresh_pagesFrom (s : State) (g : Nat) :
  s.fresh.pagesFrom g = s.pagesFrom g := rfl
@[simp] theorem State.fresh_recordValid (s : State) (m : Manifest) :
  s.fresh.recordValid m = s.recordValid m := rfl
@[simp] theorem State.fresh_restoreCase (s : State) :
  s.fresh.restoreCase = s.restoreCase := rfl
@[simp] theorem State.fresh_stagedSlots (s : State) :
  s.fresh.stagedSlots = s.stagedSlots := rfl
@[simp] theorem State.fresh_stagedSlotOf (s : State) (e : Nat × Nat) :
  s.fresh.stagedSlotOf e = s.stagedSlotOf e := rfl
@[simp] theorem State.fresh_savePending (s : State) :
  s.fresh.savePending = s.savePending := rfl
@[simp] theorem State.fresh_onTouch (s : State) :
  s.fresh.onTouch = s.onTouch := rfl
@[simp] theorem State.fresh_imgNewest (s : State) :
  s.fresh.imgNewest = s.imgNewest := rfl
@[simp] theorem State.fresh_maxGen (s : State) :
  s.fresh.maxGen = s.maxGen := rfl
@[simp] theorem State.fresh_without (s : State) (g : Nat) (m : List (Nat × Nat)) :
  s.fresh.without g m = s.without g m := rfl
@[simp] theorem State.fresh_lostPages (s : State) (case : Nat) :
  s.fresh.lostPages case = s.lostPages case := rfl
@[simp] theorem State.fresh_lostSet (s : State) (case : Nat) :
  s.fresh.lostSet case = s.lostSet case := rfl
@[simp] theorem State.fresh_trailing (s : State) :
  s.fresh.trailing = s.trailing := rfl
@[simp] theorem State.fresh_fetched (s : State) (p : Nat) :
  s.fresh.fetched p = s.fetched p := rfl
@[simp] theorem State.fresh_ldLost (s : State) (port ld : Nat) :
  s.fresh.ldLost port ld = s.ldLost port ld := rfl
@[simp] theorem State.fresh_rewritePick (s : State) (m : List (Nat × Nat)) :
  s.fresh.rewritePick m = s.rewritePick m := rfl
@[simp] theorem State.fresh_readUrg (s : State) (x : DReq) :
  s.fresh.readUrg x = s.readUrg x := rfl
@[simp] theorem State.fresh_jobUrg (s : State) (j : PageIo) :
  s.fresh.jobUrg j = s.jobUrg j := rfl
@[simp] theorem State.fresh_portUp (s : State) (p : Nat) :
  s.fresh.portUp p = s.portUp p := rfl
@[simp] theorem State.fresh_portLanes (s : State) (p : Nat) :
  s.fresh.portLanes p = s.portLanes p := rfl
@[simp] theorem State.fresh_ldServed (s : State) (port ld : Nat) :
  s.fresh.ldServed port ld = s.ldServed port ld := rfl
@[simp] theorem State.fresh_memDevStatus (s : State) (port ld : Nat) :
  s.fresh.memDevStatus port ld = s.memDevStatus port ld := rfl
@[simp] theorem State.fresh_gpfPort (s : State) (port : Nat) :
  s.fresh.gpfPort port = s.gpfPort port := rfl
@[simp] theorem State.fresh_decoderOk (s : State) (port ld dec ways gran : Nat) :
  s.fresh.decoderOk port ld dec ways gran = s.decoderOk port ld dec ways gran := rfl
@[simp] theorem State.fresh_dcAddressed (s : State) (e : Nat × Nat) :
  s.fresh.dcAddressed e = s.dcAddressed e := rfl
@[simp] theorem State.fresh_wayUp (s : State) (w : Nat) :
  s.fresh.wayUp w = s.wayUp w := rfl
@[simp] theorem State.fresh_wayQ (s : State) (w : Nat) :
  s.fresh.wayQ w = s.wayQ w := rfl
@[simp] theorem State.fresh_lineWaits (s : State) (r : DReq) :
  s.fresh.lineWaits r = s.lineWaits r := rfl
@[simp] theorem State.fresh_capped (s : State) (r : DReq) :
  s.fresh.capped r = s.capped r := rfl
@[simp] theorem State.fresh_migMay (s : State) (r : DReq) :
  s.fresh.migMay r = s.migMay r := rfl
@[simp] theorem State.fresh_colPick (s : State) (w : Nat) (blocked : List Nat) :
  s.fresh.colPick w blocked = s.colPick w blocked := rfl
@[simp] theorem State.fresh_bankTop (s : State) (w b : Nat) :
  s.fresh.bankTop w b = s.bankTop w b := rfl
@[simp] theorem State.fresh_rowPick (s : State) (w : Nat) (blocked : List Nat) :
  s.fresh.rowPick w blocked = s.rowPick w blocked := rfl
@[simp] theorem State.fresh_scrubLines (s : State) (w : Nat) :
  s.fresh.scrubLines w = s.scrubLines w := rfl
@[simp] theorem State.fresh_scrubPer (s : State) :
  s.fresh.scrubPer = s.scrubPer := rfl
@[simp] theorem State.fresh_scrubEnd (s : State) :
  s.fresh.scrubEnd = s.scrubEnd := rfl
@[simp] theorem State.fresh_scrubRank (s : State) (w pr off : Nat) :
  s.fresh.scrubRank w pr off = s.scrubRank w pr off := rfl
@[simp] theorem State.fresh_scrubNext (s : State) (w : Nat) :
  s.fresh.scrubNext w = s.scrubNext w := rfl
@[simp] theorem State.fresh_migrLines (s : State) (c : Nat) (m : Migr) :
  s.fresh.migrLines c m = s.migrLines c m := rfl
@[simp] theorem State.fresh_rfmPick (s : State) (w : Nat) (blocked : List Nat) :
  s.fresh.rfmPick w blocked = s.rfmPick w blocked := rfl
@[simp] theorem State.fresh_sameBank (s : State) (w : Nat) :
  s.fresh.sameBank w = s.sameBank w := rfl
@[simp] theorem State.fresh_refreshed (s : State) (w k : Nat) :
  s.fresh.refreshed w k = s.refreshed w k := rfl
@[simp] theorem State.fresh_spareOf (s : State) (c : Nat) :
  s.fresh.spareOf c = s.spareOf c := rfl
@[simp] theorem State.fresh_trains (s : State) (c r : Nat) :
  s.fresh.trains c r = s.trains c r := rfl
@[simp] theorem State.fresh_lbWords (s : State) (n : Nat) :
  s.fresh.lbWords n = s.lbWords n := rfl
@[simp] theorem State.fresh_calFrozen (s : State) :
  s.fresh.calFrozen = s.calFrozen := rfl
@[simp] theorem State.fresh_calPermits (s : State) (slot : Nat) :
  s.fresh.calPermits slot = s.calPermits slot := rfl
@[simp] theorem State.fresh_bufLeaks (s : State) :
  s.fresh.bufLeaks = s.bufLeaks := rfl
@[simp] theorem State.fresh_creditDiff (s : State) (p : Nat) (rwd : Bool) :
  s.fresh.creditDiff p rwd = s.creditDiff p rwd := rfl
@[simp] theorem State.fresh_bookDiff (s : State) (b : Nat) :
  s.fresh.bookDiff b = s.bookDiff b := rfl
@[simp] theorem State.fresh_bookRecord (s : State) (sel bad leaks got : Nat) (ds : List Int) :
  s.fresh.bookRecord sel bad leaks got ds = s.bookRecord sel bad leaks got ds := rfl
@[simp] theorem State.fresh_anyDecoder (s : State) :
  s.fresh.anyDecoder = s.anyDecoder := rfl
@[simp] theorem State.fresh_mbxUp (s : State) (port ld : Nat) :
  s.fresh.mbxUp port ld = s.mbxUp port ld := rfl
@[simp] theorem State.fresh_deviceTemp (s : State) :
  s.fresh.deviceTemp = s.deviceTemp := rfl
@[simp] theorem State.fresh_lineOf (s : State) (port ld dpa : Nat) :
  s.fresh.lineOf port ld dpa = s.lineOf port ld dpa := rfl
@[simp] theorem State.fresh_mbxTakes (s : State) (a : Nat) :
  s.fresh.mbxTakes a = s.mbxTakes a := rfl
@[simp] theorem State.fresh_dcRegions (s : State) (port ld : Nat) :
  s.fresh.dcRegions port ld = s.dcRegions port ld := rfl
@[simp] theorem State.fresh_dcInUse (s : State) :
  s.fresh.dcInUse = s.dcInUse := rfl
@[simp] theorem State.fresh_staticBlocks (s : State) (k : Nat) :
  s.fresh.staticBlocks k = s.staticBlocks k := rfl
@[simp] theorem State.fresh_persRecord (s : State) :
  s.fresh.persRecord = s.persRecord := rfl
@[simp] theorem State.fresh_mgmtWr (s : State) (k : Nat) :
  s.fresh.mgmtWr k = s.mgmtWr k := rfl
@[simp] theorem State.fresh_resWord (s : State) (slot : Nat) :
  s.fresh.resWord slot = s.resWord slot := rfl
@[simp] theorem State.fresh_mayWrite (s : State) (p : Path) (a : Nat) :
  s.fresh.mayWrite p a = s.mayWrite p a := rfl
@[simp] theorem State.fresh_regAbsent (s : State) (a : Nat) :
  s.fresh.regAbsent a = s.regAbsent a := rfl
@[simp] theorem State.fresh_rwlIdle (s : State) (f : Fld) (i : Nat) :
  s.fresh.rwlIdle f i = s.rwlIdle f i := rfl
@[simp] theorem State.fresh_fieldTakes (s : State) (f : Fld) (i j v : Nat) :
  s.fresh.fieldTakes f i j v = s.fieldTakes f i j v := rfl
@[simp] theorem State.fresh_crossOk (s : State) (a : Nat) :
  s.fresh.crossOk a = s.crossOk a := rfl
@[simp] theorem State.fresh_selDie (s : State) (c : Nat) :
  s.fresh.selDie c = s.selDie c := rfl
@[simp] theorem State.fresh_selSb (s : State) :
  s.fresh.selSb = s.selSb := rfl
@[simp] theorem State.fresh_selChan (s : State) :
  s.fresh.selChan = s.selChan := rfl
@[simp] theorem State.fresh_selCal (s : State) :
  s.fresh.selCal = s.selCal := rfl
@[simp] theorem State.fresh_selLoq (s : State) :
  s.fresh.selLoq = s.selLoq := rfl
@[simp] theorem State.fresh_viewFch (s : State) (f : Fld) (c : Nat) :
  s.fresh.viewFch f c = s.viewFch f c := rfl
@[simp] theorem State.fresh_viewFtl (s : State) (f : Fld) :
  s.fresh.viewFtl f = s.viewFtl f := rfl
@[simp] theorem State.fresh_viewNvc (s : State) (f : Fld) :
  s.fresh.viewNvc f = s.viewNvc f := rfl
@[simp] theorem State.fresh_viewRest (s : State) (f : Fld) (i j : Nat) :
  s.fresh.viewRest f i j = s.viewRest f i j := rfl
@[simp] theorem State.fresh_warmStaged (s : State) :
  s.fresh.warmStaged = s.warmStaged := rfl

end Sys2Proof.Machine
end

