-- ==== Sys2Proof/Laws/SMap.lean ====
section
/-!
SUPPORT. The laws of sparse data: what a key reads after a write, a removal or a fill, and that each keeps the canonical form.
-/
namespace Sys2Proof.Machine

variable {α : Type}

/-! ### What a key reads -/

/-- A removed key reads the default; every other key reads as before. -/
@[simp] theorem smGet_smErase (d : α) (p : Nat → Bool) (m : List (Nat × α)) (j : Nat) :
    smGet d (smErase p m) j = if p j then d else smGet d m j := by
  induction m with
  | nil => simp [smErase, smGet]
  | cons e m ih =>
    obtain ⟨k, v⟩ := e
    have ih' : smGet d (List.filter (fun e => !p e.1) m) j = if p j then d else smGet d m j := ih
    by_cases hk : p k = true
    · by_cases hj : j = k
      · subst hj; simp [smErase, hk, ih', smGet]
      · simp [smErase, hk, ih', smGet, hj]
    · have hk' : p k = false := by simpa using hk
      by_cases hj : j = k
      · subst hj; simp [smErase, hk', smGet]
      · simp [smErase, hk', smGet, hj, ih']

/-- What any key reads after a write: the value at the key written, and what it read before at every other. -/
theorem smGet_smSet [DecidableEq α] (d : α) (k : Nat) (v : α) (m : List (Nat × α)) (j : Nat) :
    smGet d (smSet d k v m) j = if j = k then v else smGet d m j := by
  induction m with
  | nil =>
    by_cases hv : v = d
    · subst hv; simp [smSet, smGet]
    · simp [smSet, hv, smGet]
  | cons e m ih =>
    obtain ⟨a, w⟩ := e
    unfold smSet
    by_cases h1 : k < a
    · by_cases hv : v = d
      · subst hv
        rw [if_pos h1, if_pos rfl]
        by_cases hj : j = k
        · subst hj; simp [smGet, Nat.ne_of_lt h1]
        · simp [smGet, hj]
      · rw [if_pos h1, if_neg hv]
        simp [smGet]
    · rw [if_neg h1]
      by_cases h2 : k = a
      · subst h2
        rw [if_pos rfl]
        by_cases hv : v = d
        · subst hv
          rw [if_pos rfl]
          by_cases hj : j = k
          · subst hj; simp
          · simp [smGet, hj]
        · rw [if_neg hv]
          by_cases hj : j = k
          · subst hj; simp [smGet]
          · simp [smGet, hj]
      · rw [if_neg h2]
        by_cases hj : j = a
        · subst hj
          have hjk : ¬ j = k := fun h => h2 h.symm
          simp [smGet, hjk]
        · simp [smGet, hj, ih]

/-- A key reads what was last written to it. -/
@[simp] theorem smGet_smSet_same [DecidableEq α] (d : α) (k : Nat) (v : α) (m : List (Nat × α)) :
    smGet d (smSet d k v m) k = v := by rw [smGet_smSet, if_pos rfl]

/-- A write leaves every other key as it was. -/
theorem smGet_smSet_other [DecidableEq α] (d : α) {k j : Nat} (v : α) (m : List (Nat × α)) (h : j ≠ k) :
    smGet d (smSet d k v m) j = smGet d m j := by rw [smGet_smSet, if_neg h]

/-! ### The canonical form -/

/-- The keys that stay after a removal lie above what all lay above. -/
theorem smAbove_smErase (k : Nat) (p : Nat → Bool) (m : List (Nat × α)) (h : smAbove k m = true) :
    smAbove k (smErase p m) = true := by
  rw [smAbove, List.all_eq_true] at *
  exact fun e he => h e (List.mem_of_mem_filter he)

/-- A write of a key above `k` leaves every key above `k`. -/
theorem smAbove_smSet [DecidableEq α] (d : α) (k j : Nat) (v : α) (hj : k < j) :
    ∀ m : List (Nat × α), smAbove k m = true → smAbove k (smSet d j v m) = true
  | [], _ => by
    unfold smSet
    by_cases hv : v = d <;> simp [hv, smAbove, hj]
  | (a, w) :: m, h => by
    have ha : k < a := by simp [smAbove] at h; exact h.1
    have hm : smAbove k m = true := by simp [smAbove] at h ⊢; exact h.2
    have he : smAbove k (smErase (fun x => decide (x = j)) m) = true := smAbove_smErase k _ m hm
    have ih := smAbove_smSet d k j v hj m hm
    simp only [smAbove] at hm he ih
    unfold smSet
    split
    · split <;> simp [smAbove, ha, hj, hm, he]
    · split
      · split
        · exact he
        · simp [smAbove, hj, hm]
      · simp [smAbove, ha, ih]

/-- A removal keeps the canonical form. -/
theorem smWf_smErase [DecidableEq α] (d : α) (p : Nat → Bool) :
    ∀ m : List (Nat × α), smWf d m = true → smWf d (smErase p m) = true
  | [], _ => rfl
  | (a, w) :: m, h => by
    simp only [smWf, Bool.and_eq_true, decide_eq_true_eq] at h
    have ih := smWf_smErase d p m h.2
    by_cases hp : p a = true
    · simpa [smErase, hp] using ih
    · have hp' : p a = false := by simpa using hp
      have hc : smErase p ((a, w) :: m) = (a, w) :: smErase p m := by simp [smErase, hp']
      rw [hc]
      simp only [smWf, Bool.and_eq_true, decide_eq_true_eq]
      exact ⟨⟨h.1.1, smAbove_smErase a p m h.1.2⟩, ih⟩

/-- Every key above a greater number is above a lesser one. -/
theorem smAbove_mono {k j : Nat} (hk : k < j) (m : List (Nat × α)) (h : smAbove j m = true) : smAbove k m = true := by
  rw [smAbove, List.all_eq_true] at *
  intro e he
  have := h e he
  simp only [decide_eq_true_eq] at this ⊢
  exact Nat.lt_trans hk this

/-- A write keeps the canonical form. -/
theorem smWf_smSet [DecidableEq α] (d : α) (k : Nat) (v : α) :
    ∀ m : List (Nat × α), smWf d m = true → smWf d (smSet d k v m) = true
  | [], _ => by
    unfold smSet
    by_cases hv : v = d <;> simp [hv, smWf, smAbove]
  | (a, w) :: m, h => by
    have h' := h
    simp only [smWf, Bool.and_eq_true, decide_eq_true_eq] at h'
    unfold smSet
    by_cases h1 : k < a
    · rw [if_pos h1]
      by_cases hv : v = d
      · rw [if_pos hv]
        simp only [smWf, Bool.and_eq_true, decide_eq_true_eq]
        exact ⟨⟨h'.1.1, smAbove_smErase a _ m h'.1.2⟩, smWf_smErase d _ m h'.2⟩
      · rw [if_neg hv]
        simp only [smWf, Bool.and_eq_true, decide_eq_true_eq]
        refine ⟨⟨hv, ?_⟩, h'⟩
        have hm := smAbove_mono h1 m h'.1.2
        simp only [smAbove] at hm
        simp [smAbove, h1, hm]
    · rw [if_neg h1]
      by_cases h2 : k = a
      · rw [if_pos h2]
        by_cases hv : v = d
        · rw [if_pos hv]; exact smWf_smErase d _ m h'.2
        · rw [if_neg hv]
          simp only [smWf, Bool.and_eq_true, decide_eq_true_eq]
          subst h2
          exact ⟨⟨hv, h'.1.2⟩, h'.2⟩
      · rw [if_neg h2]
        simp only [smWf, Bool.and_eq_true, decide_eq_true_eq]
        exact ⟨⟨h'.1.1, smAbove_smSet d a k v (by omega) m h'.1.2⟩, smWf_smSet d k v m h'.2⟩

/-- An update keeps the canonical form. -/
theorem smWf_smUpd [DecidableEq α] (d : α) (k : Nat) (f : α → α) (m : List (Nat × α)) (h : smWf d m = true) :
    smWf d (smUpd d k f m) = true := smWf_smSet d k _ m h

/-- A fill keeps the canonical form. -/
theorem smWf_smFill [DecidableEq α] (d : α) (v : α) :
    ∀ (n k : Nat) (m : List (Nat × α)), smWf d m = true → smWf d (smFill d k v n m) = true
  | 0, _, _, h => h
  | n + 1, k, m, h => smWf_smFill d v n (k + 1) _ (smWf_smSet d k v m h)

end Sys2Proof.Machine
end

