-- ==== Sys2Proof/Laws/State.lean ====
section
/-!
SUPPORT. What the basic updates of the state leave alone: one lemma per field and update, so that no proof unfolds a record
update, and what a register field reads after a write.
-/
namespace Sys2Proof.Machine

/-! ### wr -/

@[simp] theorem State.wr_regs (s : State) (f : Fld) (v i j : Nat) :
    (s.wr f v i j).regs = smSet 0 (f.key i j) (v % 2 ^ f.wd) s.regs := rfl
@[simp] theorem State.wr_act (s : State) (f : Fld) (v i j : Nat) : (s.wr f v i j).act = s.act := rfl
@[simp] theorem State.wr_latch (s : State) (f : Fld) (v i j : Nat) : (s.wr f v i j).latch = s.latch := rfl
@[simp] theorem State.wr_pending (s : State) (f : Fld) (v i j : Nat) : (s.wr f v i j).pending = s.pending := rfl
@[simp] theorem State.wr_resumed (s : State) (f : Fld) (v i j : Nat) : (s.wr f v i j).resumed = s.resumed := rfl
@[simp] theorem State.wr_out (s : State) (f : Fld) (v i j : Nat) : (s.wr f v i j).out = s.out := rfl
@[simp] theorem State.wr_freeCtr (s : State) (f : Fld) (v i j : Nat) : (s.wr f v i j).freeCtr = s.freeCtr := rfl
@[simp] theorem State.wr_mem (s : State) (f : Fld) (v i j : Nat) : (s.wr f v i j).mem = s.mem := rfl
@[simp] theorem State.wr_poison (s : State) (f : Fld) (v i j : Nat) : (s.wr f v i j).poison = s.poison := rfl
@[simp] theorem State.wr_erg (s : State) (f : Fld) (v i j : Nat) : (s.wr f v i j).erg = s.erg := rfl
@[simp] theorem State.wr_host (s : State) (f : Fld) (v i j : Nat) : (s.wr f v i j).host = s.host := rfl
@[simp] theorem State.wr_dram (s : State) (f : Fld) (v i j : Nat) : (s.wr f v i j).dram = s.dram := rfl
@[simp] theorem State.wr_trk (s : State) (f : Fld) (v i j : Nat) : (s.wr f v i j).trk = s.trk := rfl
@[simp] theorem State.wr_drift (s : State) (f : Fld) (v i j : Nat) : (s.wr f v i j).drift = s.drift := rfl
@[simp] theorem State.wr_ledger (s : State) (f : Fld) (v i j : Nat) : (s.wr f v i j).ledger = s.ledger := rfl
@[simp] theorem State.wr_cvn (s : State) (f : Fld) (v i j : Nat) : (s.wr f v i j).cvn = s.cvn := rfl
@[simp] theorem State.wr_loq (s : State) (f : Fld) (v i j : Nat) : (s.wr f v i j).loq = s.loq := rfl
@[simp] theorem State.wr_flash (s : State) (f : Fld) (v i j : Nat) : (s.wr f v i j).flash = s.flash := rfl
@[simp] theorem State.wr_ftl (s : State) (f : Fld) (v i j : Nat) : (s.wr f v i j).ftl = s.ftl := rfl
@[simp] theorem State.wr_nvm (s : State) (f : Fld) (v i j : Nat) : (s.wr f v i j).nvm = s.nvm := rfl
@[simp] theorem State.wr_buf (s : State) (f : Fld) (v i j : Nat) : (s.wr f v i j).buf = s.buf := rfl
@[simp] theorem State.wr_gau (s : State) (f : Fld) (v i j : Nat) : (s.wr f v i j).gau = s.gau := rfl
@[simp] theorem State.wr_seq (s : State) (f : Fld) (v i j : Nat) : (s.wr f v i j).seq = s.seq := rfl
@[simp] theorem State.wr_twi (s : State) (f : Fld) (v i j : Nat) : (s.wr f v i j).twi = s.twi := rfl
@[simp] theorem State.wr_cfl (s : State) (f : Fld) (v i j : Nat) : (s.wr f v i j).cfl = s.cfl := rfl
@[simp] theorem State.wr_boot (s : State) (f : Fld) (v i j : Nat) : (s.wr f v i j).boot = s.boot := rfl
@[simp] theorem State.wr_fwu (s : State) (f : Fld) (v i j : Nat) : (s.wr f v i j).fwu = s.fwu := rfl
@[simp] theorem State.wr_pwr (s : State) (f : Fld) (v i j : Nat) : (s.wr f v i j).pwr = s.pwr := rfl
@[simp] theorem State.wr_evr (s : State) (f : Fld) (v i j : Nat) : (s.wr f v i j).evr = s.evr := rfl

/-! ### put -/

@[simp] theorem State.put_act (s : State) (f : Fld) (b : Bool) (i j : Nat) : (s.put f b i j).act = s.act := rfl
@[simp] theorem State.put_latch (s : State) (f : Fld) (b : Bool) (i j : Nat) : (s.put f b i j).latch = s.latch := rfl
@[simp] theorem State.put_pending (s : State) (f : Fld) (b : Bool) (i j : Nat) : (s.put f b i j).pending = s.pending := rfl
@[simp] theorem State.put_resumed (s : State) (f : Fld) (b : Bool) (i j : Nat) : (s.put f b i j).resumed = s.resumed := rfl
@[simp] theorem State.put_out (s : State) (f : Fld) (b : Bool) (i j : Nat) : (s.put f b i j).out = s.out := rfl
@[simp] theorem State.put_freeCtr (s : State) (f : Fld) (b : Bool) (i j : Nat) : (s.put f b i j).freeCtr = s.freeCtr := rfl
@[simp] theorem State.put_mem (s : State) (f : Fld) (b : Bool) (i j : Nat) : (s.put f b i j).mem = s.mem := rfl
@[simp] theorem State.put_poison (s : State) (f : Fld) (b : Bool) (i j : Nat) : (s.put f b i j).poison = s.poison := rfl
@[simp] theorem State.put_erg (s : State) (f : Fld) (b : Bool) (i j : Nat) : (s.put f b i j).erg = s.erg := rfl
@[simp] theorem State.put_host (s : State) (f : Fld) (b : Bool) (i j : Nat) : (s.put f b i j).host = s.host := rfl
@[simp] theorem State.put_dram (s : State) (f : Fld) (b : Bool) (i j : Nat) : (s.put f b i j).dram = s.dram := rfl
@[simp] theorem State.put_trk (s : State) (f : Fld) (b : Bool) (i j : Nat) : (s.put f b i j).trk = s.trk := rfl
@[simp] theorem State.put_drift (s : State) (f : Fld) (b : Bool) (i j : Nat) : (s.put f b i j).drift = s.drift := rfl
@[simp] theorem State.put_ledger (s : State) (f : Fld) (b : Bool) (i j : Nat) : (s.put f b i j).ledger = s.ledger := rfl
@[simp] theorem State.put_cvn (s : State) (f : Fld) (b : Bool) (i j : Nat) : (s.put f b i j).cvn = s.cvn := rfl
@[simp] theorem State.put_loq (s : State) (f : Fld) (b : Bool) (i j : Nat) : (s.put f b i j).loq = s.loq := rfl
@[simp] theorem State.put_flash (s : State) (f : Fld) (b : Bool) (i j : Nat) : (s.put f b i j).flash = s.flash := rfl
@[simp] theorem State.put_ftl (s : State) (f : Fld) (b : Bool) (i j : Nat) : (s.put f b i j).ftl = s.ftl := rfl
@[simp] theorem State.put_nvm (s : State) (f : Fld) (b : Bool) (i j : Nat) : (s.put f b i j).nvm = s.nvm := rfl
@[simp] theorem State.put_buf (s : State) (f : Fld) (b : Bool) (i j : Nat) : (s.put f b i j).buf = s.buf := rfl
@[simp] theorem State.put_gau (s : State) (f : Fld) (b : Bool) (i j : Nat) : (s.put f b i j).gau = s.gau := rfl
@[simp] theorem State.put_seq (s : State) (f : Fld) (b : Bool) (i j : Nat) : (s.put f b i j).seq = s.seq := rfl
@[simp] theorem State.put_twi (s : State) (f : Fld) (b : Bool) (i j : Nat) : (s.put f b i j).twi = s.twi := rfl
@[simp] theorem State.put_cfl (s : State) (f : Fld) (b : Bool) (i j : Nat) : (s.put f b i j).cfl = s.cfl := rfl
@[simp] theorem State.put_boot (s : State) (f : Fld) (b : Bool) (i j : Nat) : (s.put f b i j).boot = s.boot := rfl
@[simp] theorem State.put_fwu (s : State) (f : Fld) (b : Bool) (i j : Nat) : (s.put f b i j).fwu = s.fwu := rfl
@[simp] theorem State.put_pwr (s : State) (f : Fld) (b : Bool) (i j : Nat) : (s.put f b i j).pwr = s.pwr := rfl
@[simp] theorem State.put_evr (s : State) (f : Fld) (b : Bool) (i j : Nat) : (s.put f b i j).evr = s.evr := rfl

/-! ### addSat -/

@[simp] theorem State.addSat_act (s : State) (f : Fld) (n i j : Nat) : (s.addSat f n i j).act = s.act := rfl
@[simp] theorem State.addSat_latch (s : State) (f : Fld) (n i j : Nat) : (s.addSat f n i j).latch = s.latch := rfl
@[simp] theorem State.addSat_pending (s : State) (f : Fld) (n i j : Nat) : (s.addSat f n i j).pending = s.pending := rfl
@[simp] theorem State.addSat_resumed (s : State) (f : Fld) (n i j : Nat) : (s.addSat f n i j).resumed = s.resumed := rfl
@[simp] theorem State.addSat_out (s : State) (f : Fld) (n i j : Nat) : (s.addSat f n i j).out = s.out := rfl
@[simp] theorem State.addSat_freeCtr (s : State) (f : Fld) (n i j : Nat) : (s.addSat f n i j).freeCtr = s.freeCtr := rfl
@[simp] theorem State.addSat_mem (s : State) (f : Fld) (n i j : Nat) : (s.addSat f n i j).mem = s.mem := rfl
@[simp] theorem State.addSat_poison (s : State) (f : Fld) (n i j : Nat) : (s.addSat f n i j).poison = s.poison := rfl
@[simp] theorem State.addSat_erg (s : State) (f : Fld) (n i j : Nat) : (s.addSat f n i j).erg = s.erg := rfl
@[simp] theorem State.addSat_host (s : State) (f : Fld) (n i j : Nat) : (s.addSat f n i j).host = s.host := rfl
@[simp] theorem State.addSat_dram (s : State) (f : Fld) (n i j : Nat) : (s.addSat f n i j).dram = s.dram := rfl
@[simp] theorem State.addSat_trk (s : State) (f : Fld) (n i j : Nat) : (s.addSat f n i j).trk = s.trk := rfl
@[simp] theorem State.addSat_drift (s : State) (f : Fld) (n i j : Nat) : (s.addSat f n i j).drift = s.drift := rfl
@[simp] theorem State.addSat_ledger (s : State) (f : Fld) (n i j : Nat) : (s.addSat f n i j).ledger = s.ledger := rfl
@[simp] theorem State.addSat_cvn (s : State) (f : Fld) (n i j : Nat) : (s.addSat f n i j).cvn = s.cvn := rfl
@[simp] theorem State.addSat_loq (s : State) (f : Fld) (n i j : Nat) : (s.addSat f n i j).loq = s.loq := rfl
@[simp] theorem State.addSat_flash (s : State) (f : Fld) (n i j : Nat) : (s.addSat f n i j).flash = s.flash := rfl
@[simp] theorem State.addSat_ftl (s : State) (f : Fld) (n i j : Nat) : (s.addSat f n i j).ftl = s.ftl := rfl
@[simp] theorem State.addSat_nvm (s : State) (f : Fld) (n i j : Nat) : (s.addSat f n i j).nvm = s.nvm := rfl
@[simp] theorem State.addSat_buf (s : State) (f : Fld) (n i j : Nat) : (s.addSat f n i j).buf = s.buf := rfl
@[simp] theorem State.addSat_gau (s : State) (f : Fld) (n i j : Nat) : (s.addSat f n i j).gau = s.gau := rfl
@[simp] theorem State.addSat_seq (s : State) (f : Fld) (n i j : Nat) : (s.addSat f n i j).seq = s.seq := rfl
@[simp] theorem State.addSat_twi (s : State) (f : Fld) (n i j : Nat) : (s.addSat f n i j).twi = s.twi := rfl
@[simp] theorem State.addSat_cfl (s : State) (f : Fld) (n i j : Nat) : (s.addSat f n i j).cfl = s.cfl := rfl
@[simp] theorem State.addSat_boot (s : State) (f : Fld) (n i j : Nat) : (s.addSat f n i j).boot = s.boot := rfl
@[simp] theorem State.addSat_fwu (s : State) (f : Fld) (n i j : Nat) : (s.addSat f n i j).fwu = s.fwu := rfl
@[simp] theorem State.addSat_pwr (s : State) (f : Fld) (n i j : Nat) : (s.addSat f n i j).pwr = s.pwr := rfl
@[simp] theorem State.addSat_evr (s : State) (f : Fld) (n i j : Nat) : (s.addSat f n i j).evr = s.evr := rfl

/-! ### inc -/

@[simp] theorem State.inc_act (s : State) (f : Fld) (i j : Nat) : (s.inc f i j).act = s.act := rfl
@[simp] theorem State.inc_latch (s : State) (f : Fld) (i j : Nat) : (s.inc f i j).latch = s.latch := rfl
@[simp] theorem State.inc_pending (s : State) (f : Fld) (i j : Nat) : (s.inc f i j).pending = s.pending := rfl
@[simp] theorem State.inc_resumed (s : State) (f : Fld) (i j : Nat) : (s.inc f i j).resumed = s.resumed := rfl
@[simp] theorem State.inc_out (s : State) (f : Fld) (i j : Nat) : (s.inc f i j).out = s.out := rfl
@[simp] theorem State.inc_freeCtr (s : State) (f : Fld) (i j : Nat) : (s.inc f i j).freeCtr = s.freeCtr := rfl
@[simp] theorem State.inc_mem (s : State) (f : Fld) (i j : Nat) : (s.inc f i j).mem = s.mem := rfl
@[simp] theorem State.inc_poison (s : State) (f : Fld) (i j : Nat) : (s.inc f i j).poison = s.poison := rfl
@[simp] theorem State.inc_erg (s : State) (f : Fld) (i j : Nat) : (s.inc f i j).erg = s.erg := rfl
@[simp] theorem State.inc_host (s : State) (f : Fld) (i j : Nat) : (s.inc f i j).host = s.host := rfl
@[simp] theorem State.inc_dram (s : State) (f : Fld) (i j : Nat) : (s.inc f i j).dram = s.dram := rfl
@[simp] theorem State.inc_trk (s : State) (f : Fld) (i j : Nat) : (s.inc f i j).trk = s.trk := rfl
@[simp] theorem State.inc_drift (s : State) (f : Fld) (i j : Nat) : (s.inc f i j).drift = s.drift := rfl
@[simp] theorem State.inc_ledger (s : State) (f : Fld) (i j : Nat) : (s.inc f i j).ledger = s.ledger := rfl
@[simp] theorem State.inc_cvn (s : State) (f : Fld) (i j : Nat) : (s.inc f i j).cvn = s.cvn := rfl
@[simp] theorem State.inc_loq (s : State) (f : Fld) (i j : Nat) : (s.inc f i j).loq = s.loq := rfl
@[simp] theorem State.inc_flash (s : State) (f : Fld) (i j : Nat) : (s.inc f i j).flash = s.flash := rfl
@[simp] theorem State.inc_ftl (s : State) (f : Fld) (i j : Nat) : (s.inc f i j).ftl = s.ftl := rfl
@[simp] theorem State.inc_nvm (s : State) (f : Fld) (i j : Nat) : (s.inc f i j).nvm = s.nvm := rfl
@[simp] theorem State.inc_buf (s : State) (f : Fld) (i j : Nat) : (s.inc f i j).buf = s.buf := rfl
@[simp] theorem State.inc_gau (s : State) (f : Fld) (i j : Nat) : (s.inc f i j).gau = s.gau := rfl
@[simp] theorem State.inc_seq (s : State) (f : Fld) (i j : Nat) : (s.inc f i j).seq = s.seq := rfl
@[simp] theorem State.inc_twi (s : State) (f : Fld) (i j : Nat) : (s.inc f i j).twi = s.twi := rfl
@[simp] theorem State.inc_cfl (s : State) (f : Fld) (i j : Nat) : (s.inc f i j).cfl = s.cfl := rfl
@[simp] theorem State.inc_boot (s : State) (f : Fld) (i j : Nat) : (s.inc f i j).boot = s.boot := rfl
@[simp] theorem State.inc_fwu (s : State) (f : Fld) (i j : Nat) : (s.inc f i j).fwu = s.fwu := rfl
@[simp] theorem State.inc_pwr (s : State) (f : Fld) (i j : Nat) : (s.inc f i j).pwr = s.pwr := rfl
@[simp] theorem State.inc_evr (s : State) (f : Fld) (i j : Nat) : (s.inc f i j).evr = s.evr := rfl

/-! ### sub -/

@[simp] theorem State.sub_act (s : State) (f : Fld) (n i j : Nat) : (s.sub f n i j).act = s.act := rfl
@[simp] theorem State.sub_latch (s : State) (f : Fld) (n i j : Nat) : (s.sub f n i j).latch = s.latch := rfl
@[simp] theorem State.sub_pending (s : State) (f : Fld) (n i j : Nat) : (s.sub f n i j).pending = s.pending := rfl
@[simp] theorem State.sub_resumed (s : State) (f : Fld) (n i j : Nat) : (s.sub f n i j).resumed = s.resumed := rfl
@[simp] theorem State.sub_out (s : State) (f : Fld) (n i j : Nat) : (s.sub f n i j).out = s.out := rfl
@[simp] theorem State.sub_freeCtr (s : State) (f : Fld) (n i j : Nat) : (s.sub f n i j).freeCtr = s.freeCtr := rfl
@[simp] theorem State.sub_mem (s : State) (f : Fld) (n i j : Nat) : (s.sub f n i j).mem = s.mem := rfl
@[simp] theorem State.sub_poison (s : State) (f : Fld) (n i j : Nat) : (s.sub f n i j).poison = s.poison := rfl
@[simp] theorem State.sub_erg (s : State) (f : Fld) (n i j : Nat) : (s.sub f n i j).erg = s.erg := rfl
@[simp] theorem State.sub_host (s : State) (f : Fld) (n i j : Nat) : (s.sub f n i j).host = s.host := rfl
@[simp] theorem State.sub_dram (s : State) (f : Fld) (n i j : Nat) : (s.sub f n i j).dram = s.dram := rfl
@[simp] theorem State.sub_trk (s : State) (f : Fld) (n i j : Nat) : (s.sub f n i j).trk = s.trk := rfl
@[simp] theorem State.sub_drift (s : State) (f : Fld) (n i j : Nat) : (s.sub f n i j).drift = s.drift := rfl
@[simp] theorem State.sub_ledger (s : State) (f : Fld) (n i j : Nat) : (s.sub f n i j).ledger = s.ledger := rfl
@[simp] theorem State.sub_cvn (s : State) (f : Fld) (n i j : Nat) : (s.sub f n i j).cvn = s.cvn := rfl
@[simp] theorem State.sub_loq (s : State) (f : Fld) (n i j : Nat) : (s.sub f n i j).loq = s.loq := rfl
@[simp] theorem State.sub_flash (s : State) (f : Fld) (n i j : Nat) : (s.sub f n i j).flash = s.flash := rfl
@[simp] theorem State.sub_ftl (s : State) (f : Fld) (n i j : Nat) : (s.sub f n i j).ftl = s.ftl := rfl
@[simp] theorem State.sub_nvm (s : State) (f : Fld) (n i j : Nat) : (s.sub f n i j).nvm = s.nvm := rfl
@[simp] theorem State.sub_buf (s : State) (f : Fld) (n i j : Nat) : (s.sub f n i j).buf = s.buf := rfl
@[simp] theorem State.sub_gau (s : State) (f : Fld) (n i j : Nat) : (s.sub f n i j).gau = s.gau := rfl
@[simp] theorem State.sub_seq (s : State) (f : Fld) (n i j : Nat) : (s.sub f n i j).seq = s.seq := rfl
@[simp] theorem State.sub_twi (s : State) (f : Fld) (n i j : Nat) : (s.sub f n i j).twi = s.twi := rfl
@[simp] theorem State.sub_cfl (s : State) (f : Fld) (n i j : Nat) : (s.sub f n i j).cfl = s.cfl := rfl
@[simp] theorem State.sub_boot (s : State) (f : Fld) (n i j : Nat) : (s.sub f n i j).boot = s.boot := rfl
@[simp] theorem State.sub_fwu (s : State) (f : Fld) (n i j : Nat) : (s.sub f n i j).fwu = s.fwu := rfl
@[simp] theorem State.sub_pwr (s : State) (f : Fld) (n i j : Nat) : (s.sub f n i j).pwr = s.pwr := rfl
@[simp] theorem State.sub_evr (s : State) (f : Fld) (n i j : Nat) : (s.sub f n i j).evr = s.evr := rfl

/-! ### applyRws -/

@[simp] theorem State.applyRws_regs (s : State) (f : Fld) (i j : Nat) : (s.applyRws f i j).regs = s.regs := rfl
@[simp] theorem State.applyRws_act (s : State) (f : Fld) (i j : Nat) :
    (s.applyRws f i j).act = smSet 0 (f.key i j) (s.rd f i j) s.act := rfl
@[simp] theorem State.applyRws_latch (s : State) (f : Fld) (i j : Nat) : (s.applyRws f i j).latch = s.latch := rfl
@[simp] theorem State.applyRws_pending (s : State) (f : Fld) (i j : Nat) : (s.applyRws f i j).pending = s.pending := rfl
@[simp] theorem State.applyRws_resumed (s : State) (f : Fld) (i j : Nat) : (s.applyRws f i j).resumed = s.resumed := rfl
@[simp] theorem State.applyRws_out (s : State) (f : Fld) (i j : Nat) : (s.applyRws f i j).out = s.out := rfl
@[simp] theorem State.applyRws_freeCtr (s : State) (f : Fld) (i j : Nat) : (s.applyRws f i j).freeCtr = s.freeCtr := rfl
@[simp] theorem State.applyRws_mem (s : State) (f : Fld) (i j : Nat) : (s.applyRws f i j).mem = s.mem := rfl
@[simp] theorem State.applyRws_poison (s : State) (f : Fld) (i j : Nat) : (s.applyRws f i j).poison = s.poison := rfl
@[simp] theorem State.applyRws_erg (s : State) (f : Fld) (i j : Nat) : (s.applyRws f i j).erg = s.erg := rfl
@[simp] theorem State.applyRws_host (s : State) (f : Fld) (i j : Nat) : (s.applyRws f i j).host = s.host := rfl
@[simp] theorem State.applyRws_dram (s : State) (f : Fld) (i j : Nat) : (s.applyRws f i j).dram = s.dram := rfl
@[simp] theorem State.applyRws_trk (s : State) (f : Fld) (i j : Nat) : (s.applyRws f i j).trk = s.trk := rfl
@[simp] theorem State.applyRws_drift (s : State) (f : Fld) (i j : Nat) : (s.applyRws f i j).drift = s.drift := rfl
@[simp] theorem State.applyRws_ledger (s : State) (f : Fld) (i j : Nat) : (s.applyRws f i j).ledger = s.ledger := rfl
@[simp] theorem State.applyRws_cvn (s : State) (f : Fld) (i j : Nat) : (s.applyRws f i j).cvn = s.cvn := rfl
@[simp] theorem State.applyRws_loq (s : State) (f : Fld) (i j : Nat) : (s.applyRws f i j).loq = s.loq := rfl
@[simp] theorem State.applyRws_flash (s : State) (f : Fld) (i j : Nat) : (s.applyRws f i j).flash = s.flash := rfl
@[simp] theorem State.applyRws_ftl (s : State) (f : Fld) (i j : Nat) : (s.applyRws f i j).ftl = s.ftl := rfl
@[simp] theorem State.applyRws_nvm (s : State) (f : Fld) (i j : Nat) : (s.applyRws f i j).nvm = s.nvm := rfl
@[simp] theorem State.applyRws_buf (s : State) (f : Fld) (i j : Nat) : (s.applyRws f i j).buf = s.buf := rfl
@[simp] theorem State.applyRws_gau (s : State) (f : Fld) (i j : Nat) : (s.applyRws f i j).gau = s.gau := rfl
@[simp] theorem State.applyRws_seq (s : State) (f : Fld) (i j : Nat) : (s.applyRws f i j).seq = s.seq := rfl
@[simp] theorem State.applyRws_twi (s : State) (f : Fld) (i j : Nat) : (s.applyRws f i j).twi = s.twi := rfl
@[simp] theorem State.applyRws_cfl (s : State) (f : Fld) (i j : Nat) : (s.applyRws f i j).cfl = s.cfl := rfl
@[simp] theorem State.applyRws_boot (s : State) (f : Fld) (i j : Nat) : (s.applyRws f i j).boot = s.boot := rfl
@[simp] theorem State.applyRws_fwu (s : State) (f : Fld) (i j : Nat) : (s.applyRws f i j).fwu = s.fwu := rfl
@[simp] theorem State.applyRws_pwr (s : State) (f : Fld) (i j : Nat) : (s.applyRws f i j).pwr = s.pwr := rfl
@[simp] theorem State.applyRws_evr (s : State) (f : Fld) (i j : Nat) : (s.applyRws f i j).evr = s.evr := rfl

/-! ### emit -/

@[simp] theorem State.emit_regs (s : State) (o : Output) : (s.emit o).regs = s.regs := rfl
@[simp] theorem State.emit_act (s : State) (o : Output) : (s.emit o).act = s.act := rfl
@[simp] theorem State.emit_latch (s : State) (o : Output) : (s.emit o).latch = s.latch := rfl
@[simp] theorem State.emit_pending (s : State) (o : Output) : (s.emit o).pending = s.pending := rfl
@[simp] theorem State.emit_resumed (s : State) (o : Output) : (s.emit o).resumed = s.resumed := rfl
@[simp] theorem State.emit_out (s : State) (o : Output) :
    (s.emit o).out = s.out ++ [o] := rfl
@[simp] theorem State.emit_freeCtr (s : State) (o : Output) : (s.emit o).freeCtr = s.freeCtr := rfl
@[simp] theorem State.emit_mem (s : State) (o : Output) : (s.emit o).mem = s.mem := rfl
@[simp] theorem State.emit_poison (s : State) (o : Output) : (s.emit o).poison = s.poison := rfl
@[simp] theorem State.emit_erg (s : State) (o : Output) : (s.emit o).erg = s.erg := rfl
@[simp] theorem State.emit_host (s : State) (o : Output) : (s.emit o).host = s.host := rfl
@[simp] theorem State.emit_dram (s : State) (o : Output) : (s.emit o).dram = s.dram := rfl
@[simp] theorem State.emit_trk (s : State) (o : Output) : (s.emit o).trk = s.trk := rfl
@[simp] theorem State.emit_drift (s : State) (o : Output) : (s.emit o).drift = s.drift := rfl
@[simp] theorem State.emit_ledger (s : State) (o : Output) : (s.emit o).ledger = s.ledger := rfl
@[simp] theorem State.emit_cvn (s : State) (o : Output) : (s.emit o).cvn = s.cvn := rfl
@[simp] theorem State.emit_loq (s : State) (o : Output) : (s.emit o).loq = s.loq := rfl
@[simp] theorem State.emit_flash (s : State) (o : Output) : (s.emit o).flash = s.flash := rfl
@[simp] theorem State.emit_ftl (s : State) (o : Output) : (s.emit o).ftl = s.ftl := rfl
@[simp] theorem State.emit_nvm (s : State) (o : Output) : (s.emit o).nvm = s.nvm := rfl
@[simp] theorem State.emit_buf (s : State) (o : Output) : (s.emit o).buf = s.buf := rfl
@[simp] theorem State.emit_gau (s : State) (o : Output) : (s.emit o).gau = s.gau := rfl
@[simp] theorem State.emit_seq (s : State) (o : Output) : (s.emit o).seq = s.seq := rfl
@[simp] theorem State.emit_twi (s : State) (o : Output) : (s.emit o).twi = s.twi := rfl
@[simp] theorem State.emit_cfl (s : State) (o : Output) : (s.emit o).cfl = s.cfl := rfl
@[simp] theorem State.emit_boot (s : State) (o : Output) : (s.emit o).boot = s.boot := rfl
@[simp] theorem State.emit_fwu (s : State) (o : Output) : (s.emit o).fwu = s.fwu := rfl
@[simp] theorem State.emit_pwr (s : State) (o : Output) : (s.emit o).pwr = s.pwr := rfl
@[simp] theorem State.emit_evr (s : State) (o : Output) : (s.emit o).evr = s.evr := rfl

/-! ### signal -/

@[simp] theorem State.signal_regs (s : State) (e : EvType) (n : Nat) (p : List Nat) (g : Nat) : (s.signal e n p g).regs = s.regs := rfl
@[simp] theorem State.signal_act (s : State) (e : EvType) (n : Nat) (p : List Nat) (g : Nat) : (s.signal e n p g).act = s.act := rfl
@[simp] theorem State.signal_latch (s : State) (e : EvType) (n : Nat) (p : List Nat) (g : Nat) : (s.signal e n p g).latch = s.latch := rfl
@[simp] theorem State.signal_pending (s : State) (e : EvType) (n : Nat) (p : List Nat) (g : Nat) : (s.signal e n p g).pending = s.pending := rfl
@[simp] theorem State.signal_resumed (s : State) (e : EvType) (n : Nat) (p : List Nat) (g : Nat) : (s.signal e n p g).resumed = s.resumed := rfl
@[simp] theorem State.signal_out (s : State) (e : EvType) (n : Nat) (p : List Nat) (g : Nat) : (s.signal e n p g).out = s.out := rfl
@[simp] theorem State.signal_freeCtr (s : State) (e : EvType) (n : Nat) (p : List Nat) (g : Nat) : (s.signal e n p g).freeCtr = s.freeCtr := rfl
@[simp] theorem State.signal_mem (s : State) (e : EvType) (n : Nat) (p : List Nat) (g : Nat) : (s.signal e n p g).mem = s.mem := rfl
@[simp] theorem State.signal_poison (s : State) (e : EvType) (n : Nat) (p : List Nat) (g : Nat) : (s.signal e n p g).poison = s.poison := rfl
@[simp] theorem State.signal_erg (s : State) (e : EvType) (n : Nat) (p : List Nat) (g : Nat) : (s.signal e n p g).erg = s.erg := rfl
@[simp] theorem State.signal_host (s : State) (e : EvType) (n : Nat) (p : List Nat) (g : Nat) : (s.signal e n p g).host = s.host := rfl
@[simp] theorem State.signal_dram (s : State) (e : EvType) (n : Nat) (p : List Nat) (g : Nat) : (s.signal e n p g).dram = s.dram := rfl
@[simp] theorem State.signal_trk (s : State) (e : EvType) (n : Nat) (p : List Nat) (g : Nat) : (s.signal e n p g).trk = s.trk := rfl
@[simp] theorem State.signal_drift (s : State) (e : EvType) (n : Nat) (p : List Nat) (g : Nat) : (s.signal e n p g).drift = s.drift := rfl
@[simp] theorem State.signal_ledger (s : State) (e : EvType) (n : Nat) (p : List Nat) (g : Nat) : (s.signal e n p g).ledger = s.ledger := rfl
@[simp] theorem State.signal_cvn (s : State) (e : EvType) (n : Nat) (p : List Nat) (g : Nat) : (s.signal e n p g).cvn = s.cvn := rfl
@[simp] theorem State.signal_loq (s : State) (e : EvType) (n : Nat) (p : List Nat) (g : Nat) : (s.signal e n p g).loq = s.loq := rfl
@[simp] theorem State.signal_flash (s : State) (e : EvType) (n : Nat) (p : List Nat) (g : Nat) : (s.signal e n p g).flash = s.flash := rfl
@[simp] theorem State.signal_ftl (s : State) (e : EvType) (n : Nat) (p : List Nat) (g : Nat) : (s.signal e n p g).ftl = s.ftl := rfl
@[simp] theorem State.signal_nvm (s : State) (e : EvType) (n : Nat) (p : List Nat) (g : Nat) : (s.signal e n p g).nvm = s.nvm := rfl
@[simp] theorem State.signal_buf (s : State) (e : EvType) (n : Nat) (p : List Nat) (g : Nat) : (s.signal e n p g).buf = s.buf := rfl
@[simp] theorem State.signal_gau (s : State) (e : EvType) (n : Nat) (p : List Nat) (g : Nat) : (s.signal e n p g).gau = s.gau := rfl
@[simp] theorem State.signal_seq (s : State) (e : EvType) (n : Nat) (p : List Nat) (g : Nat) : (s.signal e n p g).seq = s.seq := rfl
@[simp] theorem State.signal_twi (s : State) (e : EvType) (n : Nat) (p : List Nat) (g : Nat) : (s.signal e n p g).twi = s.twi := rfl
@[simp] theorem State.signal_cfl (s : State) (e : EvType) (n : Nat) (p : List Nat) (g : Nat) : (s.signal e n p g).cfl = s.cfl := rfl
@[simp] theorem State.signal_boot (s : State) (e : EvType) (n : Nat) (p : List Nat) (g : Nat) : (s.signal e n p g).boot = s.boot := rfl
@[simp] theorem State.signal_fwu (s : State) (e : EvType) (n : Nat) (p : List Nat) (g : Nat) : (s.signal e n p g).fwu = s.fwu := rfl
@[simp] theorem State.signal_pwr (s : State) (e : EvType) (n : Nat) (p : List Nat) (g : Nat) : (s.signal e n p g).pwr = s.pwr := rfl

/-! ### note -/

@[simp] theorem State.note_regs (s : State) (src k n : Nat) : (s.note src k n).regs = s.regs := rfl
@[simp] theorem State.note_act (s : State) (src k n : Nat) : (s.note src k n).act = s.act := rfl
@[simp] theorem State.note_latch (s : State) (src k n : Nat) : (s.note src k n).latch = s.latch := rfl
@[simp] theorem State.note_pending (s : State) (src k n : Nat) : (s.note src k n).pending = s.pending := rfl
@[simp] theorem State.note_resumed (s : State) (src k n : Nat) : (s.note src k n).resumed = s.resumed := rfl
@[simp] theorem State.note_out (s : State) (src k n : Nat) : (s.note src k n).out = s.out := rfl
@[simp] theorem State.note_freeCtr (s : State) (src k n : Nat) : (s.note src k n).freeCtr = s.freeCtr := rfl
@[simp] theorem State.note_mem (s : State) (src k n : Nat) : (s.note src k n).mem = s.mem := rfl
@[simp] theorem State.note_poison (s : State) (src k n : Nat) : (s.note src k n).poison = s.poison := rfl
@[simp] theorem State.note_erg (s : State) (src k n : Nat) : (s.note src k n).erg = s.erg := rfl
@[simp] theorem State.note_host (s : State) (src k n : Nat) : (s.note src k n).host = s.host := rfl
@[simp] theorem State.note_dram (s : State) (src k n : Nat) : (s.note src k n).dram = s.dram := rfl
@[simp] theorem State.note_trk (s : State) (src k n : Nat) : (s.note src k n).trk = s.trk := rfl
@[simp] theorem State.note_drift (s : State) (src k n : Nat) : (s.note src k n).drift = s.drift := rfl
@[simp] theorem State.note_ledger (s : State) (src k n : Nat) : (s.note src k n).ledger = s.ledger := rfl
@[simp] theorem State.note_cvn (s : State) (src k n : Nat) : (s.note src k n).cvn = s.cvn := rfl
@[simp] theorem State.note_loq (s : State) (src k n : Nat) : (s.note src k n).loq = s.loq := rfl
@[simp] theorem State.note_flash (s : State) (src k n : Nat) : (s.note src k n).flash = s.flash := rfl
@[simp] theorem State.note_ftl (s : State) (src k n : Nat) : (s.note src k n).ftl = s.ftl := rfl
@[simp] theorem State.note_nvm (s : State) (src k n : Nat) : (s.note src k n).nvm = s.nvm := rfl
@[simp] theorem State.note_buf (s : State) (src k n : Nat) : (s.note src k n).buf = s.buf := rfl
@[simp] theorem State.note_gau (s : State) (src k n : Nat) : (s.note src k n).gau = s.gau := rfl
@[simp] theorem State.note_seq (s : State) (src k n : Nat) : (s.note src k n).seq = s.seq := rfl
@[simp] theorem State.note_twi (s : State) (src k n : Nat) : (s.note src k n).twi = s.twi := rfl
@[simp] theorem State.note_cfl (s : State) (src k n : Nat) : (s.note src k n).cfl = s.cfl := rfl
@[simp] theorem State.note_boot (s : State) (src k n : Nat) : (s.note src k n).boot = s.boot := rfl
@[simp] theorem State.note_fwu (s : State) (src k n : Nat) : (s.note src k n).fwu = s.fwu := rfl
@[simp] theorem State.note_pwr (s : State) (src k n : Nat) : (s.note src k n).pwr = s.pwr := rfl

/-! ### alertRefresh -/

@[simp] theorem State.alertRefresh_act (s : State) : s.alertRefresh.act = s.act := rfl
@[simp] theorem State.alertRefresh_latch (s : State) : s.alertRefresh.latch = s.latch := rfl
@[simp] theorem State.alertRefresh_pending (s : State) : s.alertRefresh.pending = s.pending := rfl
@[simp] theorem State.alertRefresh_resumed (s : State) : s.alertRefresh.resumed = s.resumed := rfl
@[simp] theorem State.alertRefresh_out (s : State) : s.alertRefresh.out = s.out := rfl
@[simp] theorem State.alertRefresh_freeCtr (s : State) : s.alertRefresh.freeCtr = s.freeCtr := rfl
@[simp] theorem State.alertRefresh_mem (s : State) : s.alertRefresh.mem = s.mem := rfl
@[simp] theorem State.alertRefresh_poison (s : State) : s.alertRefresh.poison = s.poison := rfl
@[simp] theorem State.alertRefresh_erg (s : State) : s.alertRefresh.erg = s.erg := rfl
@[simp] theorem State.alertRefresh_host (s : State) : s.alertRefresh.host = s.host := rfl
@[simp] theorem State.alertRefresh_dram (s : State) : s.alertRefresh.dram = s.dram := rfl
@[simp] theorem State.alertRefresh_trk (s : State) : s.alertRefresh.trk = s.trk := rfl
@[simp] theorem State.alertRefresh_drift (s : State) : s.alertRefresh.drift = s.drift := rfl
@[simp] theorem State.alertRefresh_ledger (s : State) : s.alertRefresh.ledger = s.ledger := rfl
@[simp] theorem State.alertRefresh_cvn (s : State) : s.alertRefresh.cvn = s.cvn := rfl
@[simp] theorem State.alertRefresh_loq (s : State) : s.alertRefresh.loq = s.loq := rfl
@[simp] theorem State.alertRefresh_flash (s : State) : s.alertRefresh.flash = s.flash := rfl
@[simp] theorem State.alertRefresh_ftl (s : State) : s.alertRefresh.ftl = s.ftl := rfl
@[simp] theorem State.alertRefresh_nvm (s : State) : s.alertRefresh.nvm = s.nvm := rfl
@[simp] theorem State.alertRefresh_buf (s : State) : s.alertRefresh.buf = s.buf := rfl
@[simp] theorem State.alertRefresh_gau (s : State) : s.alertRefresh.gau = s.gau := rfl
@[simp] theorem State.alertRefresh_seq (s : State) : s.alertRefresh.seq = s.seq := rfl
@[simp] theorem State.alertRefresh_twi (s : State) : s.alertRefresh.twi = s.twi := rfl
@[simp] theorem State.alertRefresh_cfl (s : State) : s.alertRefresh.cfl = s.cfl := rfl
@[simp] theorem State.alertRefresh_boot (s : State) : s.alertRefresh.boot = s.boot := rfl
@[simp] theorem State.alertRefresh_fwu (s : State) : s.alertRefresh.fwu = s.fwu := rfl
@[simp] theorem State.alertRefresh_pwr (s : State) : s.alertRefresh.pwr = s.pwr := rfl
@[simp] theorem State.alertRefresh_evr (s : State) : s.alertRefresh.evr = s.evr := rfl

/-! ### setLd -/

@[simp] theorem State.setLd_regs (s : State) (k : Nat) (d : Ld) : (s.setLd k d).regs = s.regs := rfl
@[simp] theorem State.setLd_act (s : State) (k : Nat) (d : Ld) : (s.setLd k d).act = s.act := rfl
@[simp] theorem State.setLd_latch (s : State) (k : Nat) (d : Ld) : (s.setLd k d).latch = s.latch := rfl
@[simp] theorem State.setLd_pending (s : State) (k : Nat) (d : Ld) : (s.setLd k d).pending = s.pending := rfl
@[simp] theorem State.setLd_resumed (s : State) (k : Nat) (d : Ld) : (s.setLd k d).resumed = s.resumed := rfl
@[simp] theorem State.setLd_out (s : State) (k : Nat) (d : Ld) : (s.setLd k d).out = s.out := rfl
@[simp] theorem State.setLd_freeCtr (s : State) (k : Nat) (d : Ld) : (s.setLd k d).freeCtr = s.freeCtr := rfl
@[simp] theorem State.setLd_mem (s : State) (k : Nat) (d : Ld) : (s.setLd k d).mem = s.mem := rfl
@[simp] theorem State.setLd_poison (s : State) (k : Nat) (d : Ld) : (s.setLd k d).poison = s.poison := rfl
@[simp] theorem State.setLd_erg (s : State) (k : Nat) (d : Ld) : (s.setLd k d).erg = s.erg := rfl
@[simp] theorem State.setLd_host (s : State) (k : Nat) (d : Ld) :
    (s.setLd k d).host = { s.host with lds := smSet ldInit k d s.host.lds } := rfl
@[simp] theorem State.setLd_dram (s : State) (k : Nat) (d : Ld) : (s.setLd k d).dram = s.dram := rfl
@[simp] theorem State.setLd_trk (s : State) (k : Nat) (d : Ld) : (s.setLd k d).trk = s.trk := rfl
@[simp] theorem State.setLd_drift (s : State) (k : Nat) (d : Ld) : (s.setLd k d).drift = s.drift := rfl
@[simp] theorem State.setLd_ledger (s : State) (k : Nat) (d : Ld) : (s.setLd k d).ledger = s.ledger := rfl
@[simp] theorem State.setLd_cvn (s : State) (k : Nat) (d : Ld) : (s.setLd k d).cvn = s.cvn := rfl
@[simp] theorem State.setLd_loq (s : State) (k : Nat) (d : Ld) : (s.setLd k d).loq = s.loq := rfl
@[simp] theorem State.setLd_flash (s : State) (k : Nat) (d : Ld) : (s.setLd k d).flash = s.flash := rfl
@[simp] theorem State.setLd_ftl (s : State) (k : Nat) (d : Ld) : (s.setLd k d).ftl = s.ftl := rfl
@[simp] theorem State.setLd_nvm (s : State) (k : Nat) (d : Ld) : (s.setLd k d).nvm = s.nvm := rfl
@[simp] theorem State.setLd_buf (s : State) (k : Nat) (d : Ld) : (s.setLd k d).buf = s.buf := rfl
@[simp] theorem State.setLd_gau (s : State) (k : Nat) (d : Ld) : (s.setLd k d).gau = s.gau := rfl
@[simp] theorem State.setLd_seq (s : State) (k : Nat) (d : Ld) : (s.setLd k d).seq = s.seq := rfl
@[simp] theorem State.setLd_twi (s : State) (k : Nat) (d : Ld) : (s.setLd k d).twi = s.twi := rfl
@[simp] theorem State.setLd_cfl (s : State) (k : Nat) (d : Ld) : (s.setLd k d).cfl = s.cfl := rfl
@[simp] theorem State.setLd_boot (s : State) (k : Nat) (d : Ld) : (s.setLd k d).boot = s.boot := rfl
@[simp] theorem State.setLd_fwu (s : State) (k : Nat) (d : Ld) : (s.setLd k d).fwu = s.fwu := rfl
@[simp] theorem State.setLd_pwr (s : State) (k : Nat) (d : Ld) : (s.setLd k d).pwr = s.pwr := rfl
@[simp] theorem State.setLd_evr (s : State) (k : Nat) (d : Ld) : (s.setLd k d).evr = s.evr := rfl

/-! ### landWrite -/

@[simp] theorem State.landWrite_regs (s : State) (a be : Nat) (data : List Byte) (p : Bool) : (s.landWrite a be data p).regs = s.regs := rfl
@[simp] theorem State.landWrite_act (s : State) (a be : Nat) (data : List Byte) (p : Bool) : (s.landWrite a be data p).act = s.act := rfl
@[simp] theorem State.landWrite_latch (s : State) (a be : Nat) (data : List Byte) (p : Bool) : (s.landWrite a be data p).latch = s.latch := rfl
@[simp] theorem State.landWrite_pending (s : State) (a be : Nat) (data : List Byte) (p : Bool) : (s.landWrite a be data p).pending = s.pending := rfl
@[simp] theorem State.landWrite_resumed (s : State) (a be : Nat) (data : List Byte) (p : Bool) : (s.landWrite a be data p).resumed = s.resumed := rfl
@[simp] theorem State.landWrite_out (s : State) (a be : Nat) (data : List Byte) (p : Bool) : (s.landWrite a be data p).out = s.out := rfl
@[simp] theorem State.landWrite_freeCtr (s : State) (a be : Nat) (data : List Byte) (p : Bool) : (s.landWrite a be data p).freeCtr = s.freeCtr := rfl
@[simp] theorem State.landWrite_mem (s : State) (a be : Nat) (data : List Byte) (p : Bool) :
    (s.landWrite a be data p).mem = memWrite a be (data.take 64) s.mem := rfl
@[simp] theorem State.landWrite_erg (s : State) (a be : Nat) (data : List Byte) (p : Bool) : (s.landWrite a be data p).erg = s.erg := rfl
@[simp] theorem State.landWrite_host (s : State) (a be : Nat) (data : List Byte) (p : Bool) : (s.landWrite a be data p).host = s.host := rfl
@[simp] theorem State.landWrite_dram (s : State) (a be : Nat) (data : List Byte) (p : Bool) : (s.landWrite a be data p).dram = s.dram := rfl
@[simp] theorem State.landWrite_trk (s : State) (a be : Nat) (data : List Byte) (p : Bool) : (s.landWrite a be data p).trk = s.trk := rfl
@[simp] theorem State.landWrite_drift (s : State) (a be : Nat) (data : List Byte) (p : Bool) : (s.landWrite a be data p).drift = s.drift := rfl
@[simp] theorem State.landWrite_ledger (s : State) (a be : Nat) (data : List Byte) (p : Bool) : (s.landWrite a be data p).ledger = s.ledger := rfl
@[simp] theorem State.landWrite_cvn (s : State) (a be : Nat) (data : List Byte) (p : Bool) : (s.landWrite a be data p).cvn = s.cvn := rfl
@[simp] theorem State.landWrite_loq (s : State) (a be : Nat) (data : List Byte) (p : Bool) : (s.landWrite a be data p).loq = s.loq := rfl
@[simp] theorem State.landWrite_flash (s : State) (a be : Nat) (data : List Byte) (p : Bool) : (s.landWrite a be data p).flash = s.flash := rfl
@[simp] theorem State.landWrite_ftl (s : State) (a be : Nat) (data : List Byte) (p : Bool) : (s.landWrite a be data p).ftl = s.ftl := rfl
@[simp] theorem State.landWrite_nvm (s : State) (a be : Nat) (data : List Byte) (p : Bool) : (s.landWrite a be data p).nvm = s.nvm := rfl
@[simp] theorem State.landWrite_buf (s : State) (a be : Nat) (data : List Byte) (p : Bool) : (s.landWrite a be data p).buf = s.buf := rfl
@[simp] theorem State.landWrite_gau (s : State) (a be : Nat) (data : List Byte) (p : Bool) : (s.landWrite a be data p).gau = s.gau := rfl
@[simp] theorem State.landWrite_seq (s : State) (a be : Nat) (data : List Byte) (p : Bool) : (s.landWrite a be data p).seq = s.seq := rfl
@[simp] theorem State.landWrite_twi (s : State) (a be : Nat) (data : List Byte) (p : Bool) : (s.landWrite a be data p).twi = s.twi := rfl
@[simp] theorem State.landWrite_cfl (s : State) (a be : Nat) (data : List Byte) (p : Bool) : (s.landWrite a be data p).cfl = s.cfl := rfl
@[simp] theorem State.landWrite_boot (s : State) (a be : Nat) (data : List Byte) (p : Bool) : (s.landWrite a be data p).boot = s.boot := rfl
@[simp] theorem State.landWrite_fwu (s : State) (a be : Nat) (data : List Byte) (p : Bool) : (s.landWrite a be data p).fwu = s.fwu := rfl
@[simp] theorem State.landWrite_pwr (s : State) (a be : Nat) (data : List Byte) (p : Bool) : (s.landWrite a be data p).pwr = s.pwr := rfl
@[simp] theorem State.landWrite_evr (s : State) (a be : Nat) (data : List Byte) (p : Bool) : (s.landWrite a be data p).evr = s.evr := rfl

/-! ### zeroPages -/

@[simp] theorem State.zeroPages_regs (s : State) (p n : Nat) : (s.zeroPages p n).regs = s.regs := rfl
@[simp] theorem State.zeroPages_act (s : State) (p n : Nat) : (s.zeroPages p n).act = s.act := rfl
@[simp] theorem State.zeroPages_latch (s : State) (p n : Nat) : (s.zeroPages p n).latch = s.latch := rfl
@[simp] theorem State.zeroPages_pending (s : State) (p n : Nat) : (s.zeroPages p n).pending = s.pending := rfl
@[simp] theorem State.zeroPages_resumed (s : State) (p n : Nat) : (s.zeroPages p n).resumed = s.resumed := rfl
@[simp] theorem State.zeroPages_out (s : State) (p n : Nat) : (s.zeroPages p n).out = s.out := rfl
@[simp] theorem State.zeroPages_freeCtr (s : State) (p n : Nat) : (s.zeroPages p n).freeCtr = s.freeCtr := rfl
@[simp] theorem State.zeroPages_erg (s : State) (p n : Nat) : (s.zeroPages p n).erg = s.erg := rfl
@[simp] theorem State.zeroPages_host (s : State) (p n : Nat) : (s.zeroPages p n).host = s.host := rfl
@[simp] theorem State.zeroPages_dram (s : State) (p n : Nat) : (s.zeroPages p n).dram = s.dram := rfl
@[simp] theorem State.zeroPages_trk (s : State) (p n : Nat) : (s.zeroPages p n).trk = s.trk := rfl
@[simp] theorem State.zeroPages_drift (s : State) (p n : Nat) : (s.zeroPages p n).drift = s.drift := rfl
@[simp] theorem State.zeroPages_ledger (s : State) (p n : Nat) : (s.zeroPages p n).ledger = s.ledger := rfl
@[simp] theorem State.zeroPages_cvn (s : State) (p n : Nat) : (s.zeroPages p n).cvn = s.cvn := rfl
@[simp] theorem State.zeroPages_loq (s : State) (p n : Nat) : (s.zeroPages p n).loq = s.loq := rfl
@[simp] theorem State.zeroPages_flash (s : State) (p n : Nat) : (s.zeroPages p n).flash = s.flash := rfl
@[simp] theorem State.zeroPages_ftl (s : State) (p n : Nat) : (s.zeroPages p n).ftl = s.ftl := rfl
@[simp] theorem State.zeroPages_nvm (s : State) (p n : Nat) : (s.zeroPages p n).nvm = s.nvm := rfl
@[simp] theorem State.zeroPages_buf (s : State) (p n : Nat) : (s.zeroPages p n).buf = s.buf := rfl
@[simp] theorem State.zeroPages_gau (s : State) (p n : Nat) : (s.zeroPages p n).gau = s.gau := rfl
@[simp] theorem State.zeroPages_seq (s : State) (p n : Nat) : (s.zeroPages p n).seq = s.seq := rfl
@[simp] theorem State.zeroPages_twi (s : State) (p n : Nat) : (s.zeroPages p n).twi = s.twi := rfl
@[simp] theorem State.zeroPages_cfl (s : State) (p n : Nat) : (s.zeroPages p n).cfl = s.cfl := rfl
@[simp] theorem State.zeroPages_boot (s : State) (p n : Nat) : (s.zeroPages p n).boot = s.boot := rfl
@[simp] theorem State.zeroPages_fwu (s : State) (p n : Nat) : (s.zeroPages p n).fwu = s.fwu := rfl
@[simp] theorem State.zeroPages_pwr (s : State) (p n : Nat) : (s.zeroPages p n).pwr = s.pwr := rfl
@[simp] theorem State.zeroPages_evr (s : State) (p n : Nat) : (s.zeroPages p n).evr = s.evr := rfl

/-! ### Reading a field -/

/-- A field reads what was last written to it, kept to its width. -/
@[simp] theorem State.rd_wr (s : State) (f : Fld) (v i j : Nat) : (s.wr f v i j).rd f i j = v % 2 ^ f.wd :=
  smGet_smSet_same 0 _ _ s.regs

/-- A write of another field instance leaves a field as it was. -/
theorem State.rd_wr_other (s : State) (f g : Fld) (v i j a b : Nat) (h : g.key a b ≠ f.key i j) :
    (s.wr f v i j).rd g a b = s.rd g a b := smGet_smSet_other 0 _ s.regs h

@[simp] theorem State.wr_ap (s : State) (f : Fld) (v i j : Nat) (f' : Fld) (x y : Nat) : (s.wr f v i j).ap f' x y = s.ap f' x y := rfl
@[simp] theorem State.put_ap (s : State) (f : Fld) (b : Bool) (i j : Nat) (f' : Fld) (x y : Nat) : (s.put f b i j).ap f' x y = s.ap f' x y := rfl
@[simp] theorem State.addSat_ap (s : State) (f : Fld) (n i j : Nat) (f' : Fld) (x y : Nat) : (s.addSat f n i j).ap f' x y = s.ap f' x y := rfl
@[simp] theorem State.inc_ap (s : State) (f : Fld) (i j : Nat) (f' : Fld) (x y : Nat) : (s.inc f i j).ap f' x y = s.ap f' x y := rfl
@[simp] theorem State.sub_ap (s : State) (f : Fld) (n i j : Nat) (f' : Fld) (x y : Nat) : (s.sub f n i j).ap f' x y = s.ap f' x y := rfl
@[simp] theorem State.applyRws_rd (s : State) (f : Fld) (i j : Nat) (f' : Fld) (x y : Nat) : (s.applyRws f i j).rd f' x y = s.rd f' x y := rfl
@[simp] theorem State.emit_rd (s : State) (o : Output) (f' : Fld) (x y : Nat) : (s.emit o).rd f' x y = s.rd f' x y := rfl
@[simp] theorem State.emit_ap (s : State) (o : Output) (f' : Fld) (x y : Nat) : (s.emit o).ap f' x y = s.ap f' x y := rfl
@[simp] theorem State.signal_rd (s : State) (e : EvType) (n : Nat) (p : List Nat) (g : Nat) (f' : Fld) (x y : Nat) : (s.signal e n p g).rd f' x y = s.rd f' x y := rfl
@[simp] theorem State.signal_ap (s : State) (e : EvType) (n : Nat) (p : List Nat) (g : Nat) (f' : Fld) (x y : Nat) : (s.signal e n p g).ap f' x y = s.ap f' x y := rfl
@[simp] theorem State.note_rd (s : State) (src k n : Nat) (f' : Fld) (x y : Nat) : (s.note src k n).rd f' x y = s.rd f' x y := rfl
@[simp] theorem State.note_ap (s : State) (src k n : Nat) (f' : Fld) (x y : Nat) : (s.note src k n).ap f' x y = s.ap f' x y := rfl
@[simp] theorem State.alertRefresh_ap (s : State) (f' : Fld) (x y : Nat) : s.alertRefresh.ap f' x y = s.ap f' x y := rfl
@[simp] theorem State.setLd_rd (s : State) (k : Nat) (d : Ld) (f' : Fld) (x y : Nat) : (s.setLd k d).rd f' x y = s.rd f' x y := rfl
@[simp] theorem State.setLd_ap (s : State) (k : Nat) (d : Ld) (f' : Fld) (x y : Nat) : (s.setLd k d).ap f' x y = s.ap f' x y := rfl
@[simp] theorem State.landWrite_rd (s : State) (a be : Nat) (data : List Byte) (p : Bool) (f' : Fld) (x y : Nat) : (s.landWrite a be data p).rd f' x y = s.rd f' x y := rfl
@[simp] theorem State.landWrite_ap (s : State) (a be : Nat) (data : List Byte) (p : Bool) (f' : Fld) (x y : Nat) : (s.landWrite a be data p).ap f' x y = s.ap f' x y := rfl
@[simp] theorem State.zeroPages_rd (s : State) (p n : Nat) (f' : Fld) (x y : Nat) : (s.zeroPages p n).rd f' x y = s.rd f' x y := rfl
@[simp] theorem State.zeroPages_ap (s : State) (p n : Nat) (f' : Fld) (x y : Nat) : (s.zeroPages p n).ap f' x y = s.ap f' x y := rfl

/-- A one-bit field reads 1 exactly when it was last set. -/
theorem State.on_put (s : State) (f : Fld) (b : Bool) (i j : Nat) (h : f.wd ≠ 0) : (s.put f b i j).on f i j = b := by
  unfold State.on State.put
  rw [State.rd_wr]
  cases b
  · simp [b2n]
  · have h2 : 1 < 2 ^ f.wd := Nat.one_lt_two_pow h
    simp [b2n, Nat.mod_eq_of_lt h2]

/-- A count never falls when it is raised, while it stands within its width. -/
theorem State.rd_inc (s : State) (f : Fld) (i j : Nat) :
    (s.inc f i j).rd f i j = min (s.rd f i j + 1) (2 ^ f.wd - 1) := by
  unfold State.inc State.addSat
  rw [State.rd_wr]
  refine Nat.mod_eq_of_lt ?_
  have h : 0 < 2 ^ f.wd := Nat.two_pow_pos f.wd
  omega

/-- What is applied is what the field held when it was applied. -/
@[simp] theorem State.ap_applyRws (s : State) (f : Fld) (i j : Nat) : (s.applyRws f i j).ap f i j = s.rd f i j :=
  smGet_smSet_same 0 _ _ s.act

end Sys2Proof.Machine
end

