-- ==== Sys2Proof/Laws/Ops.lean ====
section
/-!
SUPPORT. What the shared operations of the block can do, each once: the operations over host memory keep its canonical form,
an event record changes nothing but the logs and what is sent, and the follow-up of a command depends on the state that the
command's own effect gives alone.
-/
namespace Sys2Proof.Machine

/-! ### Host memory -/

/-- A write of any bytes keeps the canonical form of memory. -/
theorem memWrite_wf : ∀ (bs : List Byte) (a be : Nat) (m : List Host.Cell), Memory.wf m = true → Memory.wf (memWrite a be bs m) = true
  | [], _, _, _, h => h
  | b :: bs, a, be, m, h => by
    unfold memWrite
    refine memWrite_wf bs (a + 1) (be / 2) _ ?_
    split
    · exact smWf_smSet 0 a b m h
    · exact h

/-- A write that lands in DRAM keeps the canonical form of memory. -/
theorem landWrite_wf (s : State) (a be : Nat) (data : List Byte) (p : Bool) (h : Memory.wf s.mem = true) :
    Memory.wf (s.landWrite a be data p).mem = true := memWrite_wf (data.take 64) a be s.mem h

/-- Zeroing whole pages keeps the canonical form of memory. -/
theorem zeroPages_wf (s : State) (p n : Nat) (h : Memory.wf s.mem = true) : Memory.wf (s.zeroPages p n).mem = true := by
  have hm : (s.zeroPages p n).mem = smErase (fun a => decide (p * 4096 ≤ a) && decide (a < (p + n) * 4096)) s.mem := rfl
  unfold Memory.wf at h ⊢
  rw [hm]
  exact smWf_smErase 0 _ s.mem h

/-- The bytes of a slot written into a page by a restore keep the canonical form of memory. -/
theorem fill_wf (a : Nat) : ∀ (d : List (Nat × Byte)) (m : List Host.Cell), Memory.wf m = true →
    Memory.wf (d.foldl (fun m (e : Nat × Byte) => smSet 0 (a + e.1) e.2 m) m) = true
  | [], _, h => h
  | e :: d, m, h => fill_wf a d _ (smWf_smSet 0 (a + e.1) e.2 m h)

/-- Memory right after reset is in its canonical form. -/
theorem reset_mem_wf : Memory.wf State.reset.mem = true := rfl

/-- Poison marks keep their canonical form when a write lands. -/
theorem landWrite_poison_wf (s : State) (a be : Nat) (data : List Byte) (p : Bool) (h : smWf false s.poison = true) :
    smWf false (s.landWrite a be data p).poison = true := by
  unfold State.landWrite
  dsimp only
  split
  · exact smWf_smSet false _ _ _ h
  · split
    · exact smWf_smSet false _ _ _ h
    · exact h

/-! ### Event records and alerts -/

/-- What an event record of one logical device leaves alone: everything but the device's logs and what is sent. -/
theorem State.cxlEventLd_frame (s : State) (k log typ sub : Nat) (data : List Nat) :
    ∃ (l : List (Nat × Ld)) (o : List Output),
      s.cxlEventLd k log typ sub data = { s with host := { s.host with lds := l }, out := o } := by
  unfold State.cxlEventLd
  dsimp only
  split
  · exact ⟨_, _, rfl⟩
  · exact ⟨_, s.out, rfl⟩

/-- The same of a record that goes to every logical device of a list. -/
theorem State.cxlEvents_frame (log typ sub : Nat) (data : List Nat) : ∀ (ks : List Nat) (s : State),
    ∃ (l : List (Nat × Ld)) (o : List Output),
      ks.foldl (fun s k => s.cxlEventLd k log typ sub data) s = { s with host := { s.host with lds := l }, out := o }
  | [], s => ⟨s.host.lds, s.out, rfl⟩
  | k :: ks, s => by
    obtain ⟨l1, o1, h1⟩ := s.cxlEventLd_frame k log typ sub data
    obtain ⟨l2, o2, h2⟩ := State.cxlEvents_frame log typ sub data ks (s.cxlEventLd k log typ sub data)
    refine ⟨l2, o2, ?_⟩
    rw [List.foldl_cons, h2, h1]

/-- What a device-wide event record leaves alone: everything but the logical devices' logs and what is sent. -/
theorem State.cxlEvent_frame (s : State) (log typ sub : Nat) (data : List Nat) :
    ∃ (l : List (Nat × Ld)) (o : List Output),
      s.cxlEvent log typ sub data = { s with host := { s.host with lds := l }, out := o } :=
  State.cxlEvents_frame log typ sub data s.ldKeys s

/-! ### The follow-up of a command -/

/-- A command has its effect: what it answers is the follow-up of the state that its effect gives. -/
theorem ok_eq (s : State) (f : State → State) : ok s f = .next (s.after (f s.fresh)) := rfl

/-- The commands that wait are not a command's to change. -/
@[simp] theorem State.after_pending (s t : State) : (s.after t).pending = s.pending := rfl

/-- Two effects that are equal have equal follow-ups. -/
theorem State.after_congr (s : State) {t u : State} (h : t = u) : s.after t = s.after u := by rw [h]

end Sys2Proof.Machine
end

