-- ==== Sys2Proof/Tests/Witness.lean ====
section
/-!
SUPPORT. For every statement with hypotheses, a state and operands that meet them, clause by clause.
-/
set_option Elab.async false

namespace Sys2Proof.Tests
open Sys2Proof Sys2Proof.Machine

/-- A state out of cold reset with no register set. -/
def w0 : State := { State.reset with regs := [], act := [], boot := { bootInit with inReset := false } }.wr R.BST_CORE_PASS 15 |>.put R.HP_STAT_ACTIVE true 0

/-- The image gives logical device 0 of port A its range, and to each port one logical device. -/
def wErg : List (Nat × Nat) := [(65536 + 2, 257 + 1), (65536 + 8, 0x00010000 + 1)]

/-- A logical device online. -/
def wLd : Ld := { ldInit with offline := false }

/-- A port that serves CXL 2.0, memory ready at SL3, one committed decoder and one QoS entry. -/
def wHost : State :=
  let s : State := { w0 with erg := { ergInit with base := wErg }, host := { hostInit with ready := 3, perst := 0, lds :=
    [(0, { wLd with decs := [{ committed := true, base := 0, size := 4096, ways := 1, gran := 256, dpaBase := 0, locked := false }] })] } }
  let s := ((s.put R.HP_STAT_ACTIVE true 0).put R.HP_STAT_ACTIVE true 1).wr R.HP_STAT_LINK 2 0
  let s := (s.wr R.HP_STAT_PROTO 2 0).put R.HP_CTL_L1_EN true 0
  let s := (s.put R.CVN_STAT_READY true).wr R.BST_SL_CUR 3
  (s.wr R.DRM_HOSTSZ_HOST_SZ 1).put R.QOS_KEY_VALID true 0 |>.put R.QOS_KEY_VALID true 4095

/-- The same during a save. -/
def wHostS : State := { wHost with cvn := { wHost.cvn with code := 3 } }

/-- Port B ready with its link down, and in training. -/
def wHost1 : State := wHost.wr R.HP_STAT_LINK 0 1
def wHost2 : State := wHost.wr R.HP_STAT_LINK 1 1

/-- A held store. -/
def wReq : Req :=
  { id := 5, port := 0, ld := 0, tag := 1, op := .wr, dpa := 64, data := [], be := 0, psn := false, age := 60000, heldFor := 50001,
    cls := 0, urg := 0, qent := none, stage := .held, expired := false, stalled := false }
def wHeld : State := ({ wHost with host := { wHost.host with trk := [wReq] } }.wr R.HP_HOLD_HOLD_ACT 50 0).wr R.LDG_GUAR_G 1

/-- A read that waits for its data since 2,000 µs. -/
def wReqR : Req := { wReq with op := .rd, stage := .readQ, heldFor := 0, age := 2000000 }
def wRead : State := { wHost with host := { wHost.host with trk := [wReqR] } }.wr R.HP_TMO_RD_TMO 2000 0

/-- A port whose logical device has no committed decoder. -/
def wDec : State := wHost.setLd 0 { wLd with decs := List.replicate 8 decoderNone }

/-- A log with one record. -/
def wLog : EvLog := { recs := [{ handle := 1, typ := 0, sub := 1, data := [], time := 0 }], dropped := 0, overAt := (0, 0), next := 2 }
def wMbx : State := wHost.setLd 0 { wLd with logs := [wLog, evLogInit, evLogInit, evLogInit] }

/-- No decoder is committed and the queue is empty. -/
def wSan : State := wHost.setLd 0 wLd

/-- CXL 3.1 mode with a region, a pool and one block on its way in, one in use and one on its way out. -/
def wDc : State :=
  let s : State := { wHost with erg := { ergInit with base := [(65536 + 2, 257 + 1), (65536 + 4, 9), (65536 + 8, 0x00010000 + 1), (65536 + 9, 2)] } }
  ((s.setLd 0 { wLd with adding := [(2, 1)], extents := [(3, 1)], releasing := [(5, 1)] }).wr R.HP_STAT_PROTO 3 0).wr R.DRM_HOSTSZ_HOST_SZ 100

/-- Room under G. -/
def wAdm : State := wHost.wr R.LDG_GUAR_G 10

/-- A valid image in slot A. -/
def wFwOk : State := wHost.put R.FWU_SLOT_VALID true 0

/-- Boot is over, below SL3: no bulk restore runs. -/
def wDone : State := w0.put R.BST_STAT_DONE true

/-- A switch whose batch every block has applied, and one that waits to leave a volatile mode. -/
def wOvl4 : State := { w0 with loq := { loqInit with ovlStep := 4, ovlNew := 15 } }
def wOvl5 : State := { w0 with loq := { loqInit with ovlStep := 5 } }

/-- User calibration is permitted to the mailbox. -/
def wCal : State := { w0 with erg := { ergInit with base := [(65536 * 0x17, 2)] } }

/-- A channel with a free spare. -/
def wRank : State :=
  let s : State := { w0 with erg := { ergInit with base := [(65536 * 3 + 2, 3)] } }
  ((s.put R.DCH_STAT_SPARE_FREE true 0).wr R.DRM_STAT_WAYS 4).wr R.DCH_STAT_STATE 2 0

/-- Nothing bars an audit. -/
def wAud : State :=
  let s : State := { w0 with erg := { ergInit with base := [(65536 * 0x12 + 10, 6)] }, trk := { trkInit with gate := false },
                             seq := { seqInit with main := true } }
  (((s.put R.GAU_AUD_AUD_EN true).wr R.GAU_STAT_PSTATE 1).wr R.GAU_MEAS_T 400).wr R.GAU_SOC_SOC 52429

/-- A trial image runs. -/
def wTrial : State := { w0 with fwu := { fwuInit with trial := true } }

/-- A completion of slot 0 waits to be posted. -/
def wPost : State := (w0.fresh.issueLong 0 0x0B []).1.loqEnd 0 loSuccess 0

/-- Main power is present: the management cores reach the registers; and from there, each state an action needs. -/
def wCore : State := { w0 with seq := { seqInit with main := true } }
def wCoreL : State := (wCore.put R.HP_STAT_ACTIVE true 1).wr R.HP_STAT_LINK 2 1
def wCoreQ : State :=
  { wCore with loq := { loqInit with ents := [(0, { loqEntInit with gen := 1, used := true, ended := true, posted := true })], cnt1 := 2 } }
def wCoreF : State := wCore.put R.SEQ_STAT_FLT_DRV true
def wCoreT : State := wCore.wr R.TWI_STAT_STATE 5 1
def wCoreB : State := wCore.wr R.CFL_OWN_OWNER 1 0
def wCoreP : State := ((wCore.wr R.CFL_DQ_WORD 2 0).wr R.CFL_OWN_OWNER 1 0) |> fun s => { s with cfl := { cflInit with cnt := 1 } }
def wCoreD : State := wCore.wr R.FWU_STAT_STATE 1
def wCoreS : State := wCore.wr R.BST_SL_CUR 1
def wCoreE : State := (wCore.wr R.CRC_GE_OWN_OWNER 1 0).wr R.CRC_GE_CTL_POLY 1 0
def wTwi : State := wCoreS

/-- A subchannel in service with one host read queued; the same with its row open, with another row open, and so on. -/
def wDReq : DReq :=
  { id := 0, way := 1, bank := 3, drank := 0, row := 7, line := 64, wr := false, data := [], be := 0, psn := false, src := .host 9,
    urg := 2, qent := none }
def wCh : State := { (w0.wr R.DCH_STAT_STATE 2 0).wr R.DCH_CTL_HIT_CAP 4 0 with erg := { ergInit with base := [(65536 * 3 + 2, 3)] } }
def wUrg : State := { wHeld with dram := { dramInit with q := [wDReq, { wDReq with id := 1, wr := true, src := .rewrite }] } }
def wSlot : State := { wCh with dram := { dramInit with q := [wDReq] } }
def wSlotP : State := { wCh with dram := { dramInit with q := [wDReq], pdown := 2 } }
def wSlotF : State := { wCh with dram := { dramInit with rfmDue := [(1024, 1)] } }
def wSlotO : State := { wCh with dram := { dramInit with q := [wDReq], openRow := [(1027, 8)] } }
def wSlotC : State := { wCh with dram := { dramInit with q := [wDReq], openRow := [(1027, 3)] } }
def wSlotI : State := { wCh with dram := { dramInit with openRow := [(1027, 3)] } }
def wSlotS : State :=
  { (wCh.put R.DRM_SCRUB_EN true).wr R.PWR_TICK_TICK 9 with dram := { dramInit with scrubFrom := 1 } }.wr R.DCH_GEO_RANK_GIB 1 0
def wSlotB : State := { wSlotC with act := [(R.DCH_REF_REF_SB_EN.key 0 0, 1)], dram := { wSlotC.dram with sbRef := 1 } }
def wSlotQ : State := { wSlot with dram := { dramInit with ovfQuiet := 2, groups := [(1027, [(1, 1)])] } }.put R.DRM_RDOVF_OVF_ACT true
def wSlotD : State := wCh.wr R.DCH_CTL_PD_IDLE 1 0
def wTrn : State := { wCh.put R.DCH_TRN_DQS_EN true 0 with dram := { dramInit with ctrFail := [(0, 2)] } }
def wDRead : DReq := { wDReq with id := 3, src := .host 5 }
def wDScrub : DReq := { wDReq with id := 4, src := .scrub }
def wReading : State :=
  { wCh with host := { hostInit with trk := [wReqR], lds := [(0, wLd)] }, dram := { dramInit with reading := [wDRead, wDScrub] } }
def wReadingP : State := { wReading with dram := { dramInit with reading := [{ wDRead with psn := true }] } }
def wMg (n : Nat) : Migr := { rank := 0, units := n, loq := none, begun := true, todo := [], back := [], flying := [] }
def wMigr : State := { wCh with dram := { dramInit with migr := [(0, wMg 9)] } }
def wMigrE : State := { wCh with dram := { dramInit with migr := [(0, wMg 1)] } }
/-- Drift runs, with an open superblock of the image stream, one dirty page and one copy whose read runs. -/
def wGeo : List (Nat × Nat) :=
  [(65536 * 4 + 36, 17), (65536 * 4 + 37, 2), (65536 * 4 + 38, 3), (65536 * 4 + 39, 301), (65536 * 4 + 40, 11)]
def wSb : SbSt := { sbInit with state := 1, tenant := 0, members := [0, 1, 2, 3], fill := 1 }
def wSbV : SbSt := { wSb with stream := 1 }
def wFtl : FtlSt := { ftlInit with sbs := [(3, some wSb), (4, some wSbV)], opens := [(0, 4), (1, 5)] }
def wTrk : TrkSt :=
  { trkInit with dirty := [(3, true)], summary := [(0, 1)],
                 copy := [(9, { gen := 5, redirty := false, discard := false, read := false, slot := 0, prog := 0 })] }
def wSnap : Snap :=
  { num := 3, gen := 9, held := [], coarse := [], tick := 4, size := 2, head := [], parts := 1, todo := [], got := [0] }
def wDr : DriftSt := { driftInit with tokens := 300, ageByp := 0, snapNow := some wSnap }
def wDrift : State :=
  let s : State := { w0 with erg := { ergInit with base := wGeo }, ftl := wFtl, trk := wTrk, drift := wDr }
  (((s.wr R.DFT_STAT_STATE 1).put R.TRK_STAT_RUN true).wr R.DRM_HOSTSZ_HOST_SZ 1).wr R.LDG_GUAR_G 100
def wDriftJ : State := { wDrift with dram := { dramInit with pages := [pageIo (.drift 9) false 36864 3 1 |> fun j => { j with wait := [] }] } }
def wDriftO : State := { wDrift with host := { hostInit with offline := [(0, 9)] } }
def wConf : State := { wDrift with trk := { wDrift.trk with copy :=
  [(10, { gen := 5, redirty := false, discard := false, read := true, slot := 77, prog := 2 }),
   (11, { gen := 5, redirty := false, discard := false, read := true, slot := 77, prog := 3 })] } }
def wConfD : State := { wDrift with trk := { wDrift.trk with copy :=
  [(10, { gen := 5, redirty := false, discard := true, read := true, slot := 77, prog := 2 })] } }
def wRs : State := wDrift.wr R.PWR_TICK_TICK 1023

/-- The ledger at a tick of its period, in a save, and with a recomputation running. -/
def wLed : State := wDrift.wr R.PWR_TICK_TICK 2048
def wLedS : State := { wLed with cvn := { cvnInit with code := 3 } }
def wLedR : State := { wLed with ledger := { ledgerInit with running := some false } }
def wLedP : State := { wLed with ledger := { ledgerInit with running := some true } }
def wCdn : State :=
  (((wDrift.put R.LDG_STAT_CDN_ACT true).wr R.CVN_STAT_SAVE_ST 4).wr R.LDG_CDN_CDN 5).wr R.LDG_PUSE_P 1000

/-- The rails are up; a save at its manifest, at its pages, and with nothing left to issue. -/
def wSq : State := wDrift.wr R.SEQ_STAT_STATE 2
def wMan : Manifest :=
  { gen0 := 0, ssn := 1, tick := 0, code := 1, refGen := 0, refVec := [], pages := [3], promised := [], inflight := [],
    staging := [], parts := 2, got := [0] }
def wProg : SaveProg := { slot := 70, item := .page 3 7, again := false, prog := 2 }
def wProgR : SaveProg := { slot := 71, item := .record, again := false, prog := 2 }
def wProgK : SaveProg := { slot := 72, item := .mark, again := false, prog := 2 }
def wProgF : SaveProg := { slot := 73, item := .page 5 8, again := false, prog := 3 }
def wSvM : State := { wDrift with cvn := { cvnInit with code := 1, building := some wMan } }.wr R.CVN_STAT_SAVE_ST 1
def wSv : State := { wDrift with cvn := { cvnInit with code := 1, todo := [.page 3 0], gTrig := 4 } }.wr R.CVN_STAT_SAVE_ST 2
def wSvN : State := { wSv with cvn := { wSv.cvn with gTrig := 0 } }
def wSvC : State := { wSv with cvn := { wSv.cvn with todo := [.page 4 0] } }
def wSvE : State := { wSv with cvn := { wSv.cvn with todo := [], progs := [wProg, wProgR, wProgK, wProgF] } }
def wSvK : State := { wSv with cvn := { wSv.cvn with code := 4, todo := [], progs := [wProgK] } }
/-- Restore at its map load, at its loss computation, ready, in its bulk restore and at its end. -/
def wRst1 : State := ((wDrift.put R.TRK_STAT_RUN false).wr R.BST_STAT_STAGE 10).wr R.CVN_STAT_RST_ST 1
def wRst2 : State := wRst1.wr R.CVN_STAT_RST_ST 2
def wBoot : BootSt := { bootInit with inReset := false, bad := 0 }
def wRst4 : State := { ((wRst1.wr R.CVN_STAT_RST_ST 4).wr R.CVN_RWM_RWM 65536).wr R.BST_SL_CAP 4 with boot := wBoot }
def wRstB : State :=
  { (wRst1.wr R.CVN_STAT_RST_ST 4).wr R.CVN_RWM_RWM 7 with cvn := { cvnInit with bulkNext := 65536, got := [(7, true, 0)] } }
def wRstR : State := { wRstB with trk := { wTrk with restored := [(7, true)] } }
def wRstT : State := { (wRstB.put R.CVN_STAT_OT true).wr R.CVN_STAT_RST_ST 3 with
    cvn := { cvnInit with fetching := [3], bulkNext := 65536 }, trk := { wTrk with restored := [(3, true)] } }
def wRstE : State :=
  { (wRstB.put R.CVN_STAT_READY true).wr R.CVN_RWM_RWM 65536 with cvn := { cvnInit with bulkNext := 65536 } }
def wRstL : State :=
  { (wRstE.wr R.CVN_STAT_RST_ST 5) with cvn := { cvnInit with loss := some { gen := 2, pages := [(5, 1)] }, lrwTok := 25600 } }
def wPack : State := { ((wRst1.wr R.BST_STAT_STAGE 9).wr R.GAU_STAT_PSTATE 1) with boot := wBoot }
def wPackX : State := { wPack.wr R.PWR_TICK_TICK 99999 with boot := { wBoot with packWait := 2 } }

/-- A die in service with one operation: queued, running, in decode, suspended. -/
def wFop : FOp :=
  { id := 0, chan := 0, die := 0, kind := .read, cls := 1, urgent := false, sb := 3, addr := 0, src := .nvm 1 0, stage := .queued,
    susp := 0, step := 1, retry := 0, left := 1, lane := true, buf := 0 }
def wFopR : FOp := { wFop with stage := .running }
def wFopD : FOp := { wFop with stage := .decoding }
def wFopP : FOp := { wFop with kind := .program, cls := 3, src := .drift 9, stage := .running }
def wFopE : FOp := { wFop with kind := .erase, cls := 6, src := .system 0, stage := .running }
def wFopU : FOp := { wFopP with stage := .suspended }
def wFs (ops : List FOp) : FlashSt := { flashInit with dies := [(0, { dieInit with state := 1 })], ops := ops }
def wFl : State := { (wDrift.wr R.FCH_STAT_STATE 2 0).wr R.FCC_DEC_ITER_MAX 20 with flash := wFs [wFop] }
def wFlR : State := { wFl with flash := wFs [wFopR] }
def wFlD : State := { wFl with flash := wFs [wFopD] }
def wFlS : State := wFlD.put R.FCC_DEC_SOFT_EN true
def wFlP : State := { wFl with flash := wFs [wFopP] }
def wFlE : State := { wFl with flash := wFs [wFopE] }
def wFlE2 : State := { wFl with flash := wFs [wFopE, { wFopE with id := 1 }] }
def wFlU : State :=
  { ((wFl.put R.FCC_SUS_PSUS_EN true).put R.FCH_GEO0_PSUS true 0).wr R.FCC_SUS_PSUS_MAX 2 with flash := wFs [wFopP, { wFop with id := 1 }] }
def wFlV : State := { wFl with flash := wFs [wFopU] }
def wFlT : State := { wFl with flash := wFs [{ wFopE with kind := .feature }] }
def wRef : RefSt := { refInit with mean := 40, recent := 1 }
def wPrb : State :=
  { wFl.put R.FCC_RRT_TRK_EN true with flash := { wFs [] with refs := [(2, wRef), (3, { wRef with probing := true })] } }.wr
    R.FCC_RRT_OFF_MAX 20
def wEye : State :=
  (((wFl.put R.FCH_XTST_XT_ON true 0).wr R.FCH_STAT_RATE 4800 0).put R.FCC_PWR_PD_EN true).wr R.FCC_STAT_GRP_ON 1 |>
    fun s => { s with flash := wFs [] }
def wWake : State := { wFl with flash := { wFs [] with waking := 1 } }
def wPool : List (Nat × Nat) :=
  [(65536 * 4 + 36, 17), (65536 * 4 + 37, 2), (65536 * 4 + 38, 3), (65536 * 4 + 39, 301), (65536 * 4 + 40, 1001),
   (65536 * 4 + 47, 3), (65536 * 4 + 49, 3)]
def wWith : State :=
  let d : List (Nat × DieSt) := [0, 128, 256, 384].map (fun k => (k, { dieInit with state := 1 }))
  let s : State := { w0 with erg := { ergInit with base := wPool }, flash := { flashInit with dies := d },
                             trk := { wTrk with gate := false } }
  (s.put R.FTL_STAT_WITHDRAWN true).wr R.FCC_CHPOP_POP 15
/-- Flash translation: a checkpoint due, one running, the pool low, a move, a worn and an old superblock, a fold. -/
def wFtlS : State := wDrift
def wFtlC : State := { wDrift with ftl := { wFtl with cp := some { seq := 4, from0 := 0, jpos := 0, wb := [], offs := [], tags := [], todo := [], dirs := [], stage := 4 } } }
def wFtlG : State := ((wDrift.wr R.FTL_GCTH_GC_STOP 6).wr R.FTL_GCTH_GC_ST 5).wr R.BST_SL_CUR 3
def wSlotC1 : SlotC := { kind := 0x01, key := 3, gen := 1, data := [], md := [], marks := [] }
def wFtlM : State := { wDrift with ftl := { wFtl with slots := [(70, some wSlotC1), (90, some wSlotC1)], moves := [(70, 90)], img := [(3, 70)] } }
def wFtlN : State := { wFtlM with ftl := { wFtlM.ftl with img := [(3, 60)] } }
def wFtlW : State :=
  { wDrift with ftl := { wFtl with sbs := [(7, some { wSb with state := 2 })] } }.wr R.FTL_WEAR_WMAX 9
def wFtlA : State := wFtlW.wr R.PWR_TICK_TICK 400000000
def wFtlH : State := wFtlG.wr R.PWR_TICK_TICK 4000000000
def wFold : State := { wWith with ftl := { ftlInit with groups := [(0, 2)], fine := [(0, 5)] } }
def wSwap : State :=
  { wWith with ftl := { ftlInit with folds := [{ unit := 2, group := 0, touched := false, dst := 320, left := 0 }] } }
def wStg : StgSt :=
  { ns := 1, slot := 0, held := true, data := [], md := [], wseq := 1, tag := 0, prev := 0, dst := 2, addr := 300, fails := 0, full := true }
def wDst : State := { wWith with nvm := { nvmInit with stg := [(1, wStg)], nss := [(1, { nsInit with units := 4, size := 64 })] } }

/-- Buffers in use by an NVMe operation and by a relocation; none free; a semaphore held by core 2. -/
def wBuf : State :=
  { w0 with buf := { bufInit with own := [(0, 65541), (1, 196615)], sems := [(5, { holder := 3, ownerReset := false, next := 3 })] } }
def wBufW : State := { w0 with buf := { bufInit with own := (List.range 64).map (fun b => (b, 65536 * 7)) } }

/-- An NVMe function with its admin queues, one I/O queue pair's completion queue 2 and submission queue 1, and one fetched admin
command of an opcode. -/
def wSq0 : SqSt := { size := 4096, cq := 0, prio := 0, head := 0, tail := 0, stalled := false }
def wCq0 : CqSt := { size := 4096, ien := true, vec := 0, head := 0, tail := 0 }
def wFn : FnSt := { fnInit with en := true, rdy := true, sqs := [(0, wSq0), (1, wSq0)], cqs := [(0, wCq0), (2, wCq0)] }
def wCmd (opc : Nat) : CmdSt :=
  { fn := 0, sq := 0, cid := 7, opc := opc, nsid := (if opc = 9 then 0 else 1), slba := 0, nlb := 1, order := 0, wseq := 0, wt := false,
    data := [], md := [], prot := [], need := [], got := [], begun := false, stgs := [], ranges := [], stage := .fetched, args := [], att := true, cq := 0 }
def wNvm (opc : Nat) : State := { w0 with nvm := { nvmInit with fns := [(0, wFn)], cmds := [(0, wCmd opc)] } }
def wFetch : State := { w0 with nvm := { nvmInit with fns := [(0, { wFn with sqs := [(0, { wSq0 with tail := 1 })] })] } }.wr R.BST_SL_CUR 4
def wAen : State := { w0 with nvm := { nvmInit with fns := [(0, { wFn with modePend := true, modeAt := 0 })] } }.wr R.PWR_TICK_TICK 5000
def wPs3 : State := { wNvm 9 with nvm := { (wNvm 9).nvm with cmds := [(0, { wCmd 9 with stage := .waitCmds })], fns := [(0, { wFn with psEntry := 1 })] } }
def wAbort : State :=
  { wNvm 8 with nvm := { (wNvm 8).nvm with cmds := [(0, wCmd 8), (5, { wCmd 2 with sq := 1, cid := 9 })] } }
def wEvt : State := { wNvm 12 with nvm := { (wNvm 12).nvm with fns := [(0, { wFn with events := [5] })] } }
def wN1 : NsSt := { nsInit with size := 16, units := 1, ctrls := [0], ready := true, lossStg := true }
def wNs (opc : Nat) : State := { wNvm opc with nvm := { (wNvm opc).nvm with nss := [(1, wN1)], cmds := [(0, { wCmd opc with nsid := 1 })] } }
def wNsD (opc : Nat) : State := { wNs opc with nvm := { (wNs opc).nvm with nss := [(1, { wN1 with ctrls := [] })] } }
def wPoolNs (opc : Nat) : State := { wNvm opc with erg := { ergInit with base := [(65536 * 4 + 48, 3)] } }
def wIo (opc : Nat) : CmdSt := { wCmd opc with sq := 1, nsid := 1 }
def wIoS (opc : Nat) : State := { wNs opc with nvm := { (wNs opc).nvm with cmds := [(0, wIo opc)] } }
def wAct : State := { w0.wr R.PWR_TICK_TICK 40000 with fwu := { fwuInit with act := 1 } }
def wActH : State := { wAct with fwu := { fwuInit with act := 3, actTag := 1 } }

/-- A pack under main power; an estimate due; a fault gone; a full percentage to move; an audit due, at rest and loaded. -/
def wPak : State :=
  { (w0.wr R.PWR_TICK_TICK 4000000000).wr R.GAU_REST_REST_T 100 with seq := { seqInit with main := true } }
def wEst : State := { wPak with gau := { gauInit with estDue := true } }
def wPakF : State := (({ wPak with gau := { gauInit with causeGone := 5 } }).wr R.GAU_STAT_PSTATE 3).wr R.GAU_STAT_FCAUSE 2
def wRep : State := (wPak.wr R.GAU_STAT_PSTATE 2).wr R.GAU_SOC_SOC 65536
def wCapA : State :=
  (((({ wRep with gau := { gauInit with audDue := true }, trk := { trkInit with gate := false }, erg := { ergInit with base := [(65536 * 18 + 10, 6), (65536 * 18 + 11, 501)] } }).put
    R.GAU_AUD_AUD_EN true).applyRws R.GAU_AUD_AUD_EN).wr R.GAU_MEAS_T 400).put R.LDG_STAT_CDN_ACT false
def wAud1 : State := ({ wCapA with gau := { gauInit with aud := 1 } }).put R.GAU_STAT_REST true
def wAud4 : State := { wAud1 with gau := { gauInit with aud := 4 } }
def wAud2 : State := { wAud1 with gau := { gauInit with aud := 2, audO0 := 4100 } }
def wLrn : State := { wPak with gau := { gauInit with lrnDue := true } }
def wHib : State := wPak.put R.GAU_STAT_HIB true
/-- The sequencer in phase 1 with rail 0 not yet driven, driven, good; in phase 2; in a down-sequence. -/
def wUp : State :=
  ((wPak.wr R.SEQ_STAT_STATE 1).wr R.SEQ_RFLG_FLAGS 3 0).wr R.SEQ_RTH_UV_TH 3000 0
def wUpOn : State := wUp.wr R.SEQ_ON_RAILS 1
def wUpGood : State := wUpOn.wr R.SEQ_GOOD_RAILS 1
def wUp2 : State := (wUpGood.wr R.SEQ_STAT_STATE 2).wr R.BST_STAT_STAGE 7
def wDown : State :=
  { wUpGood.wr R.SEQ_STAT_STATE 4 with seq := { seqInit with main := true, vbat := true, offs := [(0, 9)], wasOn := 3 } }
def wDownW : State := ((wDown.wr R.SEQ_RDEP_DEP 1 1).wr R.SEQ_RDG_LAST 900 1).wr R.SEQ_RTH_OFF_TH 500 1
def wDownE : State := (wDown.wr R.SEQ_ON_RAILS 0).wr R.SEQ_RTH_OFF_TH 500 0
def wCan : State := { wPak with seq := { seqInit with main := true } }
def wCanP : State := { wPak with seq := { seqInit with main := true, pwrFail := true } }
def wFlt : State := ({ wPak with seq := { seqInit with main := true, holdAt := 7 } }).put R.SEQ_STAT_FLT_DRV true
def wFltL : State := { wPak with seq := { seqInit with main := true, fltLow := true } }
def wC1 : State := { wPak with cvn := { cvnInit with code := 1 } }
def wC3 : State := { wPak with cvn := { cvnInit with code := 3 } }

/-- The two-wire ports served at SL3: an alert, a message in assembly, a latch, a sleeping fast path, functions, transfers. -/
def wT : State := ({ wPak with ledger := wPak.ledger }).wr R.BST_SL_CUR 3
def wTAl : State := (wT.wr R.TWI0_ALERT_CAUSE 5).put R.TWI0_ALERT_ASSERTED true
def wTAsm : State := { wT with twi := { twiInit with asm := [{ src := 9, tag := 1, data := [1], tick := 4 }] } }
def wTLat : State := { wT with evr := { evrInit with twiArea := 1, twiLatch := some (0, none) } }
def wTSn : State := (wT.put R.TWI_STAT_SLEEP true 0).put R.TWI_STAT_STRETCH false 0
def wTSl : State := wTSn.put R.TWI_STAT_STRETCH true 0
def wTEid : State := { wT with erg := { ergInit with base := [(65536 * 6 + 3, 10)] } }
def wTFn : State := { wT with nvm := { nvmInit with fns := [(0, wFn)] } }
def wTx : State := (wT.wr R.TWI_POL_ARB_MAX 4 1).wr R.TWI_POL_RETRY_N 0 1
def wTxR : State := (wT.wr R.TWI_POL_ARB_MAX 4 1).wr R.TWI_POL_RETRY_N 2 1
def wXf : TwiXfer := { port := 1, addr := 5, seg := 0, outcome := 1, losses := 0, tries := 1, pec := false, muxNack := false }
def wTRun : State := { wTx.wr R.TWI_STAT_STATE 1 1 with twi := { twiInit with run := [(1, some wXf)] } }
def wTRunR : State := { wTxR.wr R.TWI_STAT_STATE 1 1 with twi := { twiInit with run := [(1, some wXf)] } }
def wTF : State := wT.wr R.TWI_STAT_STATE 5 1
def wT2 : State := wT.wr R.TWI_STAT_STATE 2 0
def wTx2 : State := wTx.wr R.TWI_STAT_CLR_TRY 2 1
def wTWt : State := { wT.wr R.TWI_STAT_STATE 4 1 with twi := { twiInit with waitAt := [(1, 9)] } }
/-- The code flash with one descriptor of an operation at the head of bank 0; its sector protected, interrupted; running. -/
def wDs (op : Nat) : CflDesc :=
  { id := 1, op := op, sus := false, tag := 7, addr := (if op = 3 then 0 else 65536), src := 0, count := (if op = 1 then 1 else 0), ba := 1, by0 := 1, stage := 0,
    susps := 0, data := [], status := 0, pulses := 0, endAddr := 0 }
def wCf (op : Nat) : State := { wPak.wr R.CFL_WP_WP 0 with cfl := { cflInit with queue := [wDs op] } }
def wCfP : State := (wCf 1).wr R.CFL_WP_WP 2
def wCfQ : State := (wCf 2).wr R.CFL_WP_WP 2
def wCfE : State := (wCf 1).wr R.CFL_EINT_EINT 2
def wEr : CflDesc := { wDs 2 with id := 2, addr := 131072, stage := 1 }
def wCfS : State :=
  { wPak.wr R.CFL_STAT_B0_ST 2 with cfl := { cflInit with queue := [{ wDs 1 with sus := true }, wEr] } }
def wCfR : State := { wPak.wr R.CFL_STAT_B0_ST 1 with cfl := { cflInit with queue := [{ wDs 1 with stage := 1 }] } }
def wCfX : State := { wCf 3 with cfl := { (wCf 3).cfl with selAny := true, selSeq := 0xFFFF } }

/-- Boot stage by stage. -/
def wRel : State := { wPak with boot := { bootInit with p1done := true, cause := 1 } }
def wBist : State := { (wPak.wr R.BST_STAT_STAGE 2) with boot := { bootInit with inReset := false, bud := 2 } }
def wChk : State := wPak.wr R.BST_STAT_STAGE 3
def wBa : State := wPak.wr R.BST_STAT_STAGE 4
def wOd : State := wPak.wr R.BST_STAT_STAGE 5
def wEv : State := wPak.wr R.BST_STAT_STAGE 6
def wEvW : State := { wEv with boot := { wEv.boot with warm := true } }
def wHwS : State := wPak.wr R.BST_STAT_STAGE 8
def wHw : HwFound :=
  { dramPop := 0, ranks := [], rankGib := [], x4 := 0, refSb := 0, dramRate := [], colw := [], cidw := [], roww := [], rfm := 0, rankBad := [], serials := [],
    dies := [], extra := [], dieRate := [], xtDesc := [], xtTrain := [], psus := 0, esus := 0, tRead := [],
    tProgSlc := [], tProg := [], tErase := [], unread := [] }
def wPrt : State := { wPak.put R.HP_STAT_ACTIVE true 1 with host := { hostInit with perst := 1 } }
def wBe : State := { wPak.wr R.BST_SL_CUR 1 with boot := { bootInit with inReset := false, bad := 2 } }
def wBe0 : State := wBe.wr R.BST_SL_CUR 0
def wWarm : State := { wPak.wr R.BST_STAT_STAGE 11 with boot := { wPak.boot with warm := true } }
def wWd : State := ((wT.wr R.BST_CORE_PASS 15).wr R.BST_WDT_WDT_LIM 3).wr R.CFL_OWN_OWNER 3 1
def wWdD : State := { wWd with boot := { wWd.boot with down := 4 } }
/-- The recorder: nothing reported, one event reported, a window that ends, a record to commit, prefetches. -/
def wEvW0 : State := { wT with evr := { evrInit with winAt := 4000000000 / 32768 * 32768 } }
def wEr0 : State := wEvW0
def wRep0 : EvReport :=
  { typ := .fixed 0x0D04 4, tick := 5, boot := 1, inst := 3, payload := [1], grp := 0, vbat := false }
def wEr1 : State := { wEvW0 with evr := { wEvW0.evr with reports := [wRep0] } }
def wEr2 : State := { wT with evr := { evrInit with seen := [(.fixed 0x0D04 4, 3)] } }
def wEr3 : State := { wT with evr := { evrInit with supp := [(.fixed 0x0D04 4, 3)] } }
def wRec0 : EvRecord := recOf wRep0
def wCm : State := { wT.wr R.BST_STAT_STAGE 2 with evr := { evrInit with queue := [wRec0] } }
def wCm0 : State := wT.wr R.CFL_OWN_OWNER 5 1
def wPf : State := { wT with evr := { evrInit with fetching := true, twiFetching := true, twiArea := 2 } }
/-- A download open with every byte of block 0. -/
@[irreducible] def wParts (n : Nat) : List (Nat × Nat) := (List.range n).map (fun k => (k, 1))
def wBlk : State := { wT.wr R.FWU_STAT_STATE 1 with fwu := { fwuInit with part := wParts 4096 } }
theorem wGet_one (k : Nat) : ∀ m : List (Nat × Nat), (∀ e ∈ m, e.2 = 1) → (∃ e ∈ m, e.1 = k) → smGet 0 m k = 1
  | [], _, h => by obtain ⟨e, he, _⟩ := h; cases he
  | (a, v) :: m, hv, h => by
    unfold smGet
    by_cases hk : k = a
    · rw [if_pos hk]; exact hv (a, v) (List.mem_cons_self)
    · rw [if_neg hk]
      refine wGet_one k m (fun e he => hv e (List.mem_cons_of_mem _ he)) ?_
      obtain ⟨e, he, hek⟩ := h
      rcases List.mem_cons.mp he with h1 | h1
      · subst h1; exact absurd hek.symm hk
      · exact ⟨e, h1, hek⟩
theorem wParts_get (n k : Nat) (h : k < n) : smGet 0 (wParts n) k = 1 :=
  by
    unfold wParts
    exact wGet_one k _ (fun e he => by obtain ⟨j, _, rfl⟩ := List.mem_map.mp he; rfl)
      ⟨(k, 1), List.mem_map.mpr ⟨k, List.mem_range.mpr h, rfl⟩, rfl⟩
theorem wBlk_parts : wBlk.fwu.part = wParts 4096 := rfl
theorem fwPart_isSome (s : State) (k : Nat) (h : smGet 0 s.fwu.part k = 1) : (s.fwPart k).isSome = true := by
  unfold State.fwPart; rw [h]; rfl
theorem wBlk_part : ((List.range 4096).all (fun (k : Nat) => (wBlk.fwPart (4096 * 0 + k)).isSome)) = true := by
  rw [List.all_eq_true]
  intro k hk
  apply fwPart_isSome
  rw [Nat.mul_zero, Nat.zero_add, wBlk_parts]
  exact wParts_get 4096 k (List.mem_range.mp hk)
/-- Loops: the voltage loop, a request outstanding, a core at F0, a link at Gen 5, a domain on and off. -/
def wXt : State := { wT with pwr := { pwrInit with xtal := true } }
def wAvs : State :=
  (((((wT.put R.PWR_LOOP_AVS_EN true).wr R.PWR_CPM_SLACK_LO 5).wr R.PWR_CPM_SLACK_HI 20).wr R.PWR_CPM_SLACK_EMG 2).wr R.PWR_AVS_VMAX 900).wr
    R.PWR_AVSST_VSET 800
def wAvw : State := { wAvs with pwr := { pwrInit with avsWait := true } }
def wAvw3 : State := { wAvs with pwr := { pwrInit with avsWait := true, avsTry := 3 } }
def wFsl : State :=
  { (((wT.wr R.PWR_DON_ON 0x8000000).put R.PWR_LOOP_FS_EN true).wr R.PWR_TTH0_TJ_WARN 1520).wr R.PWR_TTH0_TJ_THROT 1600 with
    pwr := { pwrInit with fsLow := [(3, 3)] } }
def wEq : State :=
  { (((wT.put R.PWR_LOOP_EQ_EN true).wr R.HP_STAT_LINK 2 1).wr R.HP_STAT_RATE 5 1).wr R.PWR_EQ_EQ_MARG 20 1 with
    pwr := { pwrInit with eqLow := [(1, 2)] } }
def wPd : State := (wT.wr R.PWR_DON_ON 0x80000000).wr R.PWR_IDLE_IDLE 5 31 |>.applyRws R.PWR_IDLE_IDLE 31
def wPdO : State := (wT.put R.TWI_STAT_SLEEP true 0).put R.TWI_STAT_SLEEP true 1

def wAvz : State := { wAvs with pwr := { pwrInit with stretch := true } }

/-- The hypotheses of HostRequestsTakeATrackerEntry can be met. -/
theorem test_wit_HostRequestsTakeATrackerEntry_1 :
    (let s : State := wHost; let port : Nat := 0; let ld : Nat := 0; let hpa : Nat := 64; let a : Nat := 64; s.serving port = true ∧ s.hasCredit port false = true ∧ s.cvn.code = 0 ∧ s.host.cxlHold = false ∧ s.resolve port ld hpa = some a) ∧
    (let s : State := wHost; let port : Nat := 0; let ld : Nat := 0; let hpa : Nat := 999999999; s.serving port = true ∧ s.hasCredit port false = true ∧ s.cvn.code = 0 ∧ s.resolve port ld hpa = none) ∧
    (let s : State := wHostS; let port : Nat := 0; s.serving port = true ∧ s.hasCredit port false = true ∧ s.cvn.code ≠ 0) ∧
    (let s : State := wHost; let port : Nat := 0; let ld : Nat := 0; let hpa : Nat := 64; let a : Nat := 64; s.serving port = true ∧ s.hasCredit port true = true ∧ s.cvn.code = 0 ∧ s.host.cxlHold = false ∧ s.resolve port ld hpa = some a) ∧
    (let s : State := wHost; let port : Nat := 0; let ld : Nat := 0; let hpa : Nat := 999999999; s.serving port = true ∧ s.hasCredit port true = true ∧ s.cvn.code = 0 ∧ s.resolve port ld hpa = none) := by
  decide +kernel

/-- The hypotheses of HostRequestsTakeATrackerEntry can be met. -/
theorem test_wit_HostRequestsTakeATrackerEntry_2 :
    (let s : State := wHostS; let port : Nat := 0; s.serving port = true ∧ s.hasCredit port true = true ∧ s.cvn.code ≠ 0) ∧
    (let s : State := wHost; let port : Nat := 0; let ld : Nat := 0; let hpa : Nat := 64; let a : Nat := 64; s.serving port = true ∧ s.hasCredit port true = true ∧ s.cvn.code = 0 ∧ s.host.cxlHold = false ∧ s.resolve port ld hpa = some a) ∧
    (let s : State := wHost; let port : Nat := 0; let ld : Nat := 0; let hpa : Nat := 999999999; s.serving port = true ∧ s.hasCredit port true = true ∧ s.cvn.code = 0 ∧ s.resolve port ld hpa = none) ∧
    (let s : State := wHostS; let port : Nat := 0; s.serving port = true ∧ s.hasCredit port true = true ∧ s.cvn.code ≠ 0) ∧
    (let s : State := wHost; let port : Nat := 0; let ld : Nat := 0; let hpa : Nat := 64; let a : Nat := 64; s.serving port = true ∧ s.hasCredit port false = true ∧ s.cvn.code = 0 ∧ s.host.cxlHold = false ∧ s.resolve port ld hpa = some a) := by
  decide +kernel

/-- The hypotheses of HostRequestsTakeATrackerEntry can be met. -/
theorem test_wit_HostRequestsTakeATrackerEntry_3 :
    (let s : State := wHost; let port : Nat := 0; let ld : Nat := 0; let hpa : Nat := 999999999; s.serving port = true ∧ s.hasCredit port false = true ∧ s.cvn.code = 0 ∧ s.resolve port ld hpa = none) ∧
    (let s : State := wHostS; let port : Nat := 0; s.serving port = true ∧ s.hasCredit port false = true ∧ s.cvn.code ≠ 0) := by
  decide +kernel

/-- The hypotheses of HoldCreditsAndTimeouts can be met. -/
theorem test_wit_HoldCreditsAndTimeouts_1 :
    (let s : State := wHost; let port : Nat := 0; s.serving port = true ∧ s.hasCredit port false = true) ∧
    (let s : State := wHeld; let r : Req := wReq; s.oldestHeld = some r ∧ s.rd R.TRK_HELD_HELD + 1 ≤ s.rd R.LDG_GUAR_G) ∧
    (let s : State := wHeld; let port : Nat := 0; let r : Req := wReq; s.host.trk.filter (fun (r : Req) => decide (r.port = port) && decide (r.stage = TStage.held) && decide (s.rd R.HP_HOLD_HOLD_ACT port * 1000 < r.heldFor)) = [r] ∧ r.expired = false ∧ s.on R.HP_STAT_HOLD_OVER port = false) ∧
    (let s : State := wRead; let port : Nat := 0; let r : Req := wReqR; s.host.trk.filter (fun (r : Req) => decide (r.port = port) && decide (s.rd R.HP_TMO_RD_TMO port * 1000 ≤ r.age)) = [r] ∧ r.op = ReqOp.rd) ∧
    (let s : State := w0; let port : Nat := 0; let req : Nat := 0; let rwd : Nat := 0; req ≤ smGet 0 s.host.credFly (2 * port) ∧ rwd ≤ smGet 0 s.host.credFly (2 * port + 1)) := by
  decide +kernel

/-- The hypotheses of HoldCreditsAndTimeouts can be met. -/
theorem test_wit_HoldCreditsAndTimeouts_2 :
    (let s : State := w0; let port : Nat := 0; let req : Nat := 1; smGet 0 s.host.credFly (2 * port) < req) := by
  decide +kernel

/-- The hypotheses of QosTimers can be met. -/
theorem test_wit_QosTimers :
    (let s : State := wUrg; s.fwu.act ≠ 3) ∧
    (let s : State := wPak.wr R.PWR_TICK_TICK 2000; s.host.winAt + s.rd R.QOS_CTL_WIN ≤ s.tick) ∧
    (let s : State := wHost; let ent : Nat := 4095; ent < 4096 ∧ s.on R.QOS_KEY_VALID ent = true ∧ s.host.cxlHold = false) := by
  decide +kernel

/-- The hypotheses of PortsLinksAndFlush can be met. -/
theorem test_wit_PortsLinksAndFlush_1 :
    (let s : State := wHost; let port : Nat := 1; port < 2 ∧ s.on R.HP_STAT_ACTIVE port = true ∧ (port = 0 ∨ s.erg.loaded = false ∨ s.ergBase 0x01 0 0 ≠ 0) ∧ s.cvn.code = 0) ∧
    (let s : State := wHostS; let port : Nat := 0; port < 2 ∧ s.on R.HP_STAT_ACTIVE port = true ∧ (port = 0 ∨ s.erg.loaded = false ∨ s.ergBase 0x01 0 0 ≠ 0) ∧ s.cvn.code ≠ 0) ∧
    (let s : State := w0; let port : Nat := 1; port < 2 ∧ s.on R.HP_STAT_ACTIVE port = false ∧ (port = 0 ∨ s.erg.loaded = false)) ∧
    (let s : State := wHost1; let port : Nat := 1; port < 2 ∧ s.on R.HP_STAT_ACTIVE port = true ∧ bit s.host.ready port = true ∧ s.rd R.HP_STAT_LINK port = 0) ∧
    (let s : State := wHost; let port : Nat := 0; port < 2 ∧ s.on R.HP_STAT_ACTIVE port = true ∧ s.rd R.HP_STAT_LINK port ≠ 0 ∧ s.cvn.code = 0) := by
  decide +kernel

/-- The hypotheses of PortsLinksAndFlush can be met. -/
theorem test_wit_PortsLinksAndFlush_2 :
    (let s : State := wHost2; let port : Nat := 1; port < 2 ∧ s.on R.HP_STAT_ACTIVE port = true ∧ bit s.host.perst port = false ∧ bit s.host.ready port = true ∧ s.rd R.HP_STAT_LINK port = 1) ∧
    (let s : State := wHost; let port : Nat := 0; let ld : Nat := 15; s.serving port = true ∧ 2 ≤ s.rd R.HP_STAT_PROTO port ∧ ld < 16 ∧ s.cvn.code = 0) ∧
    (let s : State := wHost; let port : Nat := 0; s.serving port = true ∧ 2 ≤ s.rd R.HP_STAT_PROTO port) ∧
    (let s : State := wHost; let port : Nat := 0; s.serving port = true ∧ 2 ≤ s.rd R.HP_STAT_PROTO port ∧ s.on R.CVN_STAT_READY = true ∧ 3 ≤ s.level ∧ s.cvn.code = 0) ∧
    (let s : State := wHost; let port : Nat := 0; port < 2 ∧ s.on R.HP_STAT_ACTIVE port = true ∧ s.rd R.HP_STAT_LINK port = 2 ∧ s.on R.HP_CTL_L1_EN port = true) := by
  decide +kernel

/-- The hypotheses of PortsLinksAndFlush can be met. -/
theorem test_wit_PortsLinksAndFlush_3 :
    (let s : State := wHost.wr R.BST_SL_CUR 0; let port : Nat := 0; port < 2 ∧ s.on R.HP_STAT_ACTIVE port = true ∧ 2 ≤ s.rd R.HP_STAT_LINK port ∧ s.level < 1 ∧ s.tick < smGet 0 s.host.perstAt port + 32768) ∧
    (let s : State := wHost; let port : Nat := 0; let fn : Nat := 1; port < 2 ∧ s.on R.HP_STAT_ACTIVE port = true ∧ 2 ≤ s.rd R.HP_STAT_LINK port ∧ (1 ≤ s.level ∨ smGet 0 s.host.perstAt port + 32768 ≤ s.tick) ∧ fn ≠ 0) ∧
    (let s : State := wHost.wr R.BST_SL_CUR 3; let port : Nat := 0; port < 2 ∧ s.on R.HP_STAT_ACTIVE port = true ∧ 2 ≤ s.rd R.HP_STAT_LINK port ∧ (1 ≤ s.level ∨ smGet 0 s.host.perstAt port + 32768 ≤ s.tick)) := by
  decide +kernel

/-- The hypotheses of DecoderCommit can be met. -/
theorem test_wit_DecoderCommit :
    (let s : State := wHost; let port : Nat := 0; let ld : Nat := 0; let dec : Nat := 7; let size : Nat := 4096; let ds : List Decoder := (wHost.ld 0 0).decs ++ List.replicate 7 decoderNone; s.serving port = true ∧ s.rd R.HP_STAT_PROTO port = 2 ∧ s.ldShown port ld = true ∧ dec < 8 ∧ ds = (s.ld port ld).decs ++ List.replicate (8 - (s.ld port ld).decs.length) decoderNone ∧ (ds.getD dec decoderNone).locked = false ∧ 0 < size) ∧
    (let s : State := wHost; let port : Nat := 0; let ld : Nat := 0; let dec : Nat := 0; let ds : List Decoder := (wHost.ld 0 0).decs ++ List.replicate 7 decoderNone; s.serving port = true ∧ s.ldShown port ld = true ∧ dec < 8 ∧ ds = (s.ld port ld).decs ++ List.replicate (8 - (s.ld port ld).decs.length) decoderNone ∧ (ds.getD dec decoderNone).locked = false) := by
  decide +kernel

/-- The hypotheses of MailboxEventsTimeAndLogs can be met. -/
theorem test_wit_MailboxEventsTimeAndLogs_1 :
    (let s : State := wHost; let port : Nat := 0; let ld : Nat := 0; let log : Nat := 3; let x : EvLog := evLogInit; s.mbxServes port ld = true ∧ (s.ld port ld).logs[log]? = some x) ∧
    (let s : State := wMbx; let port : Nat := 0; let ld : Nat := 0; let log : Nat := 0; let handles : List Nat := [1]; let x : EvLog := wLog; s.mbxServes port ld = true ∧ (s.ld port ld).logs[log]? = some x ∧ handles ≠ [] ∧ (x.recs.take handles.length).map (fun (r : CxlRec) => r.handle) = handles) ∧
    (let s : State := wHost; let port : Nat := 0; let ld : Nat := 0; s.mbxServes port ld = true) ∧
    (let s : State := wHost; let port : Nat := 0; let ld : Nat := 0; let policy : List Nat := [1, 0, 1, 1]; s.mbxServes port ld = true ∧ policy.length = 4 ∧ policy.any (fun v => decide (1 < v)) = false) ∧
    (let s : State := wHost; let port : Nat := 0; let ld : Nat := 0; s.mbxServes port ld = true) := by
  decide +kernel

/-- The hypotheses of MailboxEventsTimeAndLogs can be met. -/
theorem test_wit_MailboxEventsTimeAndLogs_2 :
    (let s : State := wHost; let port : Nat := 0; let ld : Nat := 0; s.mbxServes port ld = true ∧ s.on R.MBX_STAT_DEVWIDE = false) ∧
    (let s : State := wHost; let port : Nat := 0; let ld : Nat := 0; s.mbxServes port ld = true) ∧
    (let s : State := wHost; let port : Nat := 0; let ld : Nat := 0; let off : Nat := 0; let len : Nat := 128; s.mbxServes port ld = true ∧ off + len ≤ celBytes.length) := by
  decide +kernel

/-- The hypotheses of MailboxIdentityHealthAndRecords can be met. -/
theorem test_wit_MailboxIdentityHealthAndRecords_1 :
    (let s : State := wHost; let port : Nat := 0; let ld : Nat := 0; s.mbxServes port ld = true) ∧
    (let s : State := wHost; let port : Nat := 0; let ld : Nat := 0; s.mbxServes port ld = true) ∧
    (let s : State := wHost; let port : Nat := 0; let ld : Nat := 0; s.mbxServes port ld = true) ∧
    (let s : State := wHost; let port : Nat := 0; let ld : Nat := 0; s.mbxServes port ld = true) ∧
    (let s : State := wHost; let port : Nat := 0; let ld : Nat := 0; s.mbxServes port ld = true) := by
  decide +kernel

/-- The hypotheses of MailboxIdentityHealthAndRecords can be met. -/
theorem test_wit_MailboxIdentityHealthAndRecords_2 :
    (let s : State := wHost; let port : Nat := 0; let ld : Nat := 0; let value : Nat := 1; s.mbxServes port ld = true ∧ value ≤ 1) ∧
    (let s : State := wHost; let port : Nat := 0; let ld : Nat := 0; s.mbxServes port ld = true) ∧
    (let s : State := wHost; let port : Nat := 0; let ld : Nat := 0; let count : Nat := 1024; s.mbxServes port ld = true ∧ 1 ≤ count ∧ count ≤ 1024) ∧
    (let s : State := wHost; let port : Nat := 0; let ld : Nat := 0; let area : Nat := 2; s.mbxServes port ld = true ∧ area ≤ 2) := by
  decide +kernel

/-- The hypotheses of MailboxPoisonAndSanitize can be met. -/
theorem test_wit_MailboxPoisonAndSanitize :
    (let s : State := wHost; let port : Nat := 0; let ld : Nat := 0; s.mbxServes port ld = true) ∧
    (let s : State := wAdm; let port : Nat := 0; let ld : Nat := 0; let dpa : Nat := 64; let a : Nat := 64; s.mbxServes port ld = true ∧ s.lineOf port ld dpa = some a ∧ s.mbxTakes a = true ∧ s.isOffline a = false) ∧
    (let s : State := wAdm; let port : Nat := 0; let ld : Nat := 0; let dpa : Nat := 64; let a : Nat := 64; let data : List Byte := List.replicate 64 0; s.mbxServes port ld = true ∧ s.lineOf port ld dpa = some a ∧ data.length = 64 ∧ s.mbxTakes a = true) ∧
    (let s : State := wSan; let port : Nat := 0; let ld : Nat := 0; let u : State := (wSan.fresh.issueLong 3 0x0B []).1; let e : Nat := 0; s.mbxServes port ld = true ∧ s.on R.MBX_STAT_DEVWIDE = false ∧ s.anyDecoder = false ∧ s.fresh.issueLong 3 0x0B [] = (u, some e)) ∧
    (let s : State := wSan; let port : Nat := 0; let ld : Nat := 0; let u : State := (wSan.fresh.issueLong 3 0x0B []).1; let e : Nat := 0; s.mbxServes port ld = true ∧ s.on R.MBX_STAT_DEVWIDE = false ∧ s.anyDecoder = false ∧ s.fresh.issueLong 3 0x0B [] = (u, some e)) := by
  decide +kernel

/-- The hypotheses of MailboxDynamicCapacity can be met. -/
theorem test_wit_MailboxDynamicCapacity_1 :
    (let s : State := wDc; let port : Nat := 0; let ld : Nat := 0; s.mbxServes port ld = true ∧ s.rd R.HP_STAT_PROTO port = 3) ∧
    (let s : State := wDc; let port : Nat := 0; let ld : Nat := 0; s.mbxServes port ld = true ∧ s.rd R.HP_STAT_PROTO port = 3) ∧
    (let s : State := wDc; let port : Nat := 0; let ld : Nat := 0; let region : Nat := 0; let start : Nat := 92; let blocks : Nat := 5; s.mbxServes port ld = true ∧ s.rd R.HP_STAT_PROTO port = 3 ∧ region < s.dcRegions port ld ∧ 0 < blocks ∧ start + blocks ≤ s.rd R.DRM_HOSTSZ_HOST_SZ ∧ s.ldBase port ld / 0x10000000 ≤ start ∧ s.ldKeys.any (fun k => dcOverlap (s.staticBlocks k) (start, blocks)) = false ∧ s.dcInUse.any (fun x => dcOverlap x (start, blocks)) = false ∧ (s.dcInUse.map (fun (x : Nat × Nat) => x.2)).sum + blocks ≤ s.ergBase 1 4 0 ∧ (s.ld port ld).extents.length + (s.ld port ld).adding.length < 512) ∧
    (let s : State := wDc; let port : Nat := 0; let ld : Nat := 0; let e : Nat × Nat := (2, 1); (s.ld port ld).adding = [e] ∧ s.trk.copy = []) ∧
    (let s : State := wDc; let port : Nat := 0; let ld : Nat := 0; let e : Nat × Nat := (3, 1); s.mbxServes port ld = true ∧ s.rd R.HP_STAT_PROTO port = 3 ∧ (s.ld port ld).extents = [e] ∧ 0 < e.2) := by
  decide +kernel

/-- The hypotheses of MailboxDynamicCapacity can be met. -/
theorem test_wit_MailboxDynamicCapacity_2 :
    (let s : State := wDc; let port : Nat := 0; let ld : Nat := 0; let e : Nat × Nat := (5, 1); (s.ld port ld).releasing = [e] ∧ s.dcAddressed e = false ∧ ((s.fresh.setLd (ldKey port ld) { s.ld port ld with releasing := [] }).dcDealloc e).isOffline (e.1 * blockPages * 4096) = false) := by
  decide +kernel

/-- The hypotheses of MailboxFirmwareAndLongOperations on TRANSFER_FW can be met. -/
theorem test_wit_MailboxFirmwareAndLongOperations_TRANSFER_FW :
    let s : State := wHost; let port : Nat := 0; let ld : Nat := 0; let off : Nat := 12578816; let data : List Byte := List.replicate 4096 0; s.mbxServes port ld = true ∧ s.on R.MBX_STAT_DEVWIDE = false ∧ s.rd R.FWU_STAT_STATE = 0 ∧ off % 4096 = 0 ∧ data.length % 4096 = 0 ∧ data ≠ [] ∧ off + data.length ≤ 12582912 := by
  exact ⟨by decide +kernel, by decide +kernel, by decide +kernel, by decide, by show (List.replicate 4096 (0 : Byte)).length % 4096 = 0; rw [List.length_replicate],
    fun h => absurd (congrArg List.length h) (by rw [List.length_replicate]; decide),
    by show 12578816 + (List.replicate 4096 (0 : Byte)).length ≤ 12582912; rw [List.length_replicate]⟩

/-- The hypotheses of MailboxFirmwareAndLongOperations can be met. -/
theorem test_wit_MailboxFirmwareAndLongOperations :
    (let s : State := wFwOk; let port : Nat := 0; let ld : Nat := 0; s.mbxServes port ld = true ∧ s.fwu.next = s.fwu.run ∧ s.on R.FWU_SLOT_VALID 0 = true ∧ s.on R.FWU_SLOT_VALID 1 = false) ∧
    (let s : State := wHost; let port : Nat := 0; let ld : Nat := 0; let slot : Nat := 2; s.mbxServes port ld = true ∧ s.on R.MBX_STAT_DEVWIDE = false ∧ 1 ≤ slot ∧ slot ≤ 2) ∧
    (let s : State := wHost; let port : Nat := 0; let ld : Nat := 0; s.mbxServes port ld = true) ∧
    (let s : State := wHost; let port : Nat := 0; let ld : Nat := 0; let count : Nat := 64; s.mbxServes port ld = true ∧ 1 ≤ count ∧ count ≤ 64) ∧
    (let s : State := wHost; let port : Nat := 0; let ld : Nat := 0; let off : Nat := 65535; let words : List Nat := [7]; s.mbxServes port ld = true ∧ words.length ≤ 1024 ∧ off + words.length ≤ 65536 ∧ s.bufBusy = false) := by
  decide +kernel

/-- The hypotheses of OverlaySwitch can be met. -/
theorem test_wit_OverlaySwitch :
    (let s : State := wDone; let slot : Nat := 3; let u : State := (wDone.fresh.issueLong 3 0x01 [15]).1; let e : Nat := 0; let index : Nat := 15; s.boot.inReset = false ∧ slot < 4 ∧ s.fresh.issueLong slot 0x01 [index] = (u, some e) ∧ u.cvn.code = 0 ∧ u.boot.bootBlock = false ∧ u.loq.ovlStep = 0 ∧ u.bulkOver = true ∧ (index = 15 ∨ (u.activeOvl index).isSome = true)) ∧
    (let s : State := wOvl4; s.loq.ovlStep = 4 ∧ s.ovlApplied = true) ∧
    (let s : State := wOvl5; s.loq.ovlStep = 5 ∧ s.rd R.TRK_HELD_HELD ≤ s.rd R.LDG_GUAR_G) := by
  decide +kernel

/-- The hypotheses of ImageAndCalibrationOperations can be met. -/
theorem test_wit_ImageAndCalibrationOperations :
    (let s : State := w0; let slot : Nat := 2; let u : State := (w0.fresh.issueLong 2 0x02 [4]).1; let e : Nat := 0; let len : Nat := 4; s.boot.inReset = false ∧ slot < 4 ∧ s.fresh.issueLong slot 0x02 [len] = (u, some e) ∧ u.cvn.code = 0 ∧ u.boot.bootBlock = false ∧ 0 < len ∧ len % 4 = 0 ∧ len ≤ 262144 ∧ u.ergProtected (1 - u.rd R.ERG_STAT_BOOT_SLOT) = false ∧ (List.range 4).any (fun (k : Nat) => u.wpFrozen (ergSector (1 - u.rd R.ERG_STAT_BOOT_SLOT) + k)) = false) ∧
    (let s : State := wCal; let slot : Nat := 0; let u : State := (wCal.fresh.issueLong 0 0x03 [65535, 64]).1; let e : Nat := 0; let key : Nat := 65535; let words : Nat := 64; s.boot.inReset = false ∧ slot < 4 ∧ s.fresh.issueLong slot 0x03 [key, words] = (u, some e) ∧ u.cvn.code = 0 ∧ u.boot.bootBlock = false ∧ u.calPermits slot = true ∧ 0 < words ∧ words ≤ 64 ∧ key < 65536 ∧ u.calFrozen = false) ∧
    (let s : State := w0; let slot : Nat := 2; let u : State := (w0.fresh.issueLong 2 0x04 [4]).1; let e : Nat := 0; let len : Nat := 4; s.boot.inReset = false ∧ slot < 4 ∧ s.fresh.issueLong slot 0x04 [len] = (u, some e) ∧ u.cvn.code = 0 ∧ u.boot.bootBlock = false ∧ 0 < len ∧ len % 4 = 0 ∧ len ≤ 262144 ∧ u.calFrozen = false) ∧
    (let s : State := wRank; let slot : Nat := 2; let u : State := (wRank.fresh.issueLong 2 0x05 [0, 0]).1; let e : Nat := 0; let chan : Nat := 0; let rank : Nat := 0; s.boot.inReset = false ∧ slot < 4 ∧ s.fresh.issueLong slot 0x05 [chan, rank] = (u, some e) ∧ u.cvn.code = 0 ∧ u.boot.bootBlock = false ∧ chan < 8 ∧ u.wayUp (2 * chan) = true ∧ u.on R.DCH_STAT_SPARE_FREE chan = true ∧ rank < u.spareRank chan ∧ u.rd R.DCH_RANK_STATE chan rank = 0 ∧ u.dram.caravan = false ∧ u.rd R.CVN_STAT_RST_ST = 0) ∧
    (let s : State := wAud; let slot : Nat := 1; let u : State := (wAud.fresh.issueLong 1 0x06 []).1; let e : Nat := 0; s.boot.inReset = false ∧ slot < 4 ∧ s.fresh.issueLong slot 0x06 [] = (u, some e) ∧ u.cvn.code = 0 ∧ u.boot.bootBlock = false ∧ u.gau.aud = 0 ∧ u.audBar = 0) := by
  decide +kernel

/-- The hypotheses of AuditFirmwareAndMaintenanceOperations can be met. -/
theorem test_wit_AuditFirmwareAndMaintenanceOperations_1 :
    (let s : State := w0; let slot : Nat := 2; let u : State := (w0.fresh.issueLong 2 0x07 [2]).1; let e : Nat := 0; let arg : Nat := 2; s.boot.inReset = false ∧ slot < 4 ∧ s.fresh.issueLong slot 0x07 [arg] = (u, some e) ∧ u.cvn.code = 0 ∧ u.boot.bootBlock = false ∧ arg % 4096 = 2 ∧ bit arg 16 = false) ∧
    (let s : State := w0; let slot : Nat := 1; let u : State := (w0.fresh.issueLong 1 0x08 [1]).1; let e : Nat := 0; let fw : Nat := 1; s.boot.inReset = false ∧ slot < 4 ∧ s.fresh.issueLong slot 0x08 [fw] = (u, some e) ∧ u.cvn.code = 0 ∧ u.boot.bootBlock = false ∧ fw ≤ 1) ∧
    (let s : State := wTrial; let slot : Nat := 3; let u : State := (wTrial.fresh.issueLong 3 0x09 [1]).1; let e : Nat := 0; let arg : Nat := 1; s.boot.inReset = false ∧ slot < 4 ∧ s.fresh.issueLong slot 0x09 [arg] = (u, some e) ∧ u.cvn.code = 0 ∧ u.boot.bootBlock = false ∧ u.fwu.trial = true ∧ u.fwu.next = u.fwu.run) ∧
    (let s : State := w0; let slot : Nat := 2; let u : State := (w0.fresh.issueLong 2 0x0A [0]).1; let e : Nat := 0; s.boot.inReset = false ∧ slot < 4 ∧ s.fresh.issueLong slot 0x0A [0] = (u, some e) ∧ u.cvn.code = 0 ∧ u.boot.bootBlock = false) ∧
    (let s : State := w0; let slot : Nat := 2; let u : State := (w0.fresh.issueLong 2 0x0A [1]).1; let e : Nat := 0; s.boot.inReset = false ∧ slot < 4 ∧ s.fresh.issueLong slot 0x0A [1] = (u, some e) ∧ u.cvn.code = 0 ∧ u.boot.bootBlock = false) := by
  decide +kernel

/-- The hypotheses of AuditFirmwareAndMaintenanceOperations can be met. -/
theorem test_wit_AuditFirmwareAndMaintenanceOperations_2 :
    (let s : State := w0; let slot : Nat := 2; let u : State := (w0.fresh.issueLong 2 0x0B []).1; let e : Nat := 0; s.boot.inReset = false ∧ slot < 4 ∧ s.fresh.issueLong slot 0x0B [] = (u, some e) ∧ u.cvn.code = 0 ∧ u.boot.bootBlock = false ∧ u.anyDecoder = false ∧ u.on R.DRM_STAT_DEGRADED = false ∧ u.loq.ents.any (fun (x : Nat × LoqEnt) => decide (x.1 ≠ e) && x.2.used && !x.2.ended && decide (x.2.op = 0x0B)) = false) ∧
    (let s : State := wPost; let ring : Nat := 0; let e : Nat := 0; ring < 2 ∧ s.loq.post.find? (fun k => decide (ringOf (s.loqEnt k).slot = ring)) = some e ∧ s.ringCnt ring < 64) := by
  decide +kernel

/-- The hypotheses of RegisterActionsOfQueuesLedgerAndGauge can be met. -/
theorem test_wit_RegisterActionsOfQueuesLedgerAndGauge_1 :
    (let s : State := wCoreL; let path : Path := .core 0; let port : Nat := 1; s.pathUp path = true ∧ s.mayWrite path (R.HP_CTL_RETRAIN.base + port * 0x40000) = true ∧ port < 2 ∧ s.regAbsent (R.HP_CTL_RETRAIN.base + port * 0x40000) = false ∧ s.rd R.HP_STAT_LINK port = 2) ∧
    (let s : State := wCoreQ; let path : Path := .core 0; let handle : Nat := 256; s.pathUp path = true ∧ s.mayWrite path R.LOQ_REL_HANDLE.base = true ∧ handle < 65536 ∧ (s.loqEnt (handle % 256)).used = true ∧ (s.loqEnt (handle % 256)).posted = true ∧ (s.loqEnt (handle % 256)).gen = handle / 256) ∧
    (let s : State := wCoreQ; let path : Path := .core 0; let ring : Nat := 1; let head : Nat := 2; s.pathUp path = true ∧ s.mayWrite path (R.LOQ_RPTR_HEAD.base + 4 * ring) = true ∧ ring < 2 ∧ head < 64 ∧ (head + 64 - s.rd R.LOQ_RPTR_HEAD ring) % 64 ≤ s.ringCnt ring) ∧
    (let s : State := wCore; let path : Path := .core 0; s.pathUp path = true ∧ s.mayWrite path R.LOQ_LBDATA_DATA.base = true ∧ s.bufBusy = false) ∧
    (let s : State := wCore; let path : Path := .core 0; s.pathUp path = true ∧ s.mayWrite path R.TRK_CLR_PEAK_CLR.base = true) := by
  decide +kernel

/-- The hypotheses of RegisterActionsOfQueuesLedgerAndGauge can be met. -/
theorem test_wit_RegisterActionsOfQueuesLedgerAndGauge_2 :
    (let s : State := wCore; let path : Path := .core 0; s.pathUp path = true ∧ s.mayWrite path R.LDG_CTL_RECOMP.base = true ∧ s.ledger.stopped = false ∧ s.ledger.running = none) ∧
    (let s : State := wCore; let path : Path := .core 0; s.pathUp path = true ∧ s.mayWrite path R.LDG_CTL_RECOMP.base = true) ∧
    (let s : State := wCore; let path : Path := .core 0; s.pathUp path = true ∧ s.mayWrite path R.GAU_CTL_EST_NOW.base = true) ∧
    (let s : State := wCore; let path : Path := .core 0; s.pathUp path = true ∧ s.mayWrite path R.GAU_CTL_EST_NOW.base = true ∧ s.seq.main = true ∧ s.cvn.code = 0) := by
  decide +kernel

/-- The hypotheses of RegisterActionsOfPowerResetAndTransfers can be met. -/
theorem test_wit_RegisterActionsOfPowerResetAndTransfers_1 :
    (let s : State := wCore; let path : Path := .core 0; s.pathUp path = true ∧ s.mayWrite path R.SEQ_CTL_OFF.base = true ∧ s.on R.CVN_STAT_READY = false) ∧
    (let s : State := wCore; let path : Path := .core 0; s.pathUp path = true ∧ s.mayWrite path R.SEQ_CTL_OFF.base = true) ∧
    (let s : State := wCoreF; let path : Path := .core 0; s.pathUp path = true ∧ s.mayWrite path R.SEQ_CTL_OFF.base = true ∧ s.on R.SEQ_STAT_FLT_DRV = true) ∧
    (let s : State := wCoreT; let path : Path := .core 0; let port : Nat := 1; s.pathUp path = true ∧ s.mayWrite path (R.TWI_CTL_FLT_CLR.base + port * 0x1000) = true ∧ port < 2 ∧ s.rd R.TWI_STAT_STATE port = 5) ∧
    (let s : State := wCore; let path : Path := .core 3; s.pathUp path = true ∧ s.mayWrite path R.BST_CTL_WARM.base = true ∧ path = Path.core 3 ∧ s.boot.inReset = false ∧ s.boot.warm = false ∧ s.cvn.code = 0 ∧ s.fwu.act = 0) := by
  decide +kernel

/-- The hypotheses of RegisterActionsOfPowerResetAndTransfers can be met. -/
theorem test_wit_RegisterActionsOfPowerResetAndTransfers_2 :
    (let s : State := wCore; let path : Path := .core 0; let bank : Nat := 1; let w : Nat := 1; s.pathUp path = true ∧ s.mayWrite path (R.CFL_OWN_CLAIM.base + 4 * bank) = true ∧ bank < 2 ∧ cflWho path = some w ∧ s.rd R.CFL_OWN_OWNER bank = 0) ∧
    (let s : State := wCoreB; let path : Path := .core 0; let bank : Nat := 0; s.pathUp path = true ∧ s.mayWrite path (R.CFL_OWN_CLAIM.base + 4 * bank) = true ∧ bank < 2 ∧ cflWho path = some (s.rd R.CFL_OWN_OWNER bank)) ∧
    (let s : State := wCore; let path : Path := .core 0; s.pathUp path = true ∧ s.mayWrite path R.CFL_CTL_WP_LOCK.base = true ∧ path = Path.core 0) ∧
    (let s : State := wCoreP; let path : Path := .core 0; s.pathUp path = true ∧ s.mayWrite path R.CFL_DQPUSH_PUSH.base = true ∧ s.cfl.queue = [] ∧ bits (s.rd R.CFL_DQ_WORD 0) 0 4 = 2 ∧ descOk (fun k => s.rd R.CFL_DQ_WORD k) = true ∧ cflWho path = some (s.rd R.CFL_OWN_OWNER (bits (s.rd R.CFL_DQ_WORD 1) 0 25 / 2 ^ 24))) ∧
    (let s : State := wCoreP; let path : Path := .core 0; let head : Nat := 1; s.pathUp path = true ∧ s.mayWrite path R.CFL_CRHEAD_HEAD.base = true ∧ head < 64 ∧ (head + 64 - s.rd R.CFL_CRHEAD_HEAD) % 64 ≤ s.cfl.cnt) := by
  decide +kernel

/-- The hypotheses of RegisterActionsOfPowerResetAndTransfers can be met. -/
theorem test_wit_RegisterActionsOfPowerResetAndTransfers_3 :
    (let s : State := wCore; let path : Path := .core 0; let area : Nat := 2; let index : Nat := 31; s.pathUp path = true ∧ s.mayWrite path R.EVR_SEL_AREA.base = true ∧ area ≤ 2 ∧ index < 32) ∧
    (let s : State := wCore; let path : Path := .core 0; s.pathUp path = true ∧ s.mayWrite path R.EVR_RD_ADV.base = true) ∧
    (let s : State := wCoreD; let path : Path := .core 0; s.pathUp path = true ∧ s.mayWrite path R.FWU_CTL_ABORT.base = true ∧ s.rd R.FWU_STAT_STATE = 1 ∧ s.fwu.waits = []) ∧
    (let s : State := wCore; let path : Path := .core 0; let word : Nat := 7; s.pathUp path = true ∧ s.mayWrite path R.FWU_DDATA_DATA.base = true ∧ (s.fwData (fwWho path) (4 * s.rd R.FWU_DOFF_OFF) (leBytes 4 word)).1 = true) := by
  decide +kernel

/-- The hypotheses of CheckEngines can be met. -/
theorem test_wit_CheckEngines_1 :
    (let s : State := wCoreS; let path : Path := .twi; let eng : Nat := 7; s.pathUp path = true ∧ s.mayWrite path (geReg eng 0) = true ∧ eng < 8 ∧ s.rd R.CRC_GE_OWN_OWNER eng = 0 ∧ path = Path.twi) ∧
    (let s : State := wCoreE; let path : Path := .core 0; let eng : Nat := 0; s.pathUp path = true ∧ s.mayWrite path (geReg eng 0) = true ∧ eng < 8 ∧ s.rd R.CRC_GE_OWN_OWNER eng = geWho path) ∧
    (let s : State := wCoreE; let path : Path := .core 0; let eng : Nat := 0; let poly : Nat := 1; s.pathUp path = true ∧ s.mayWrite path (geReg eng 4) = true ∧ eng < 8 ∧ s.rd R.CRC_GE_OWN_OWNER eng = geWho path ∧ poly < 4 ∧ s.rd R.CRC_GE_CTL_POLY eng = poly) ∧
    (let s : State := wCoreE; let path : Path := .core 0; let eng : Nat := 0; s.pathUp path = true ∧ s.mayWrite path (geReg eng 8) = true ∧ eng < 8 ∧ s.rd R.CRC_GE_OWN_OWNER eng = geWho path) ∧
    (let s : State := wCoreE; let path : Path := .core 0; let eng : Nat := 0; s.pathUp path = true ∧ s.mayWrite path (geReg eng 0xC) = true ∧ eng < 8 ∧ s.rd R.CRC_GE_OWN_OWNER eng = geWho path) := by
  decide +kernel

/-- The hypotheses of CheckEngines can be met. -/
theorem test_wit_CheckEngines_2 :
    (let s : State := wCoreE; let path : Path := .core 0; let eng : Nat := 0; s.pathUp path = true ∧ s.mayWrite path (geReg eng 0x10) = true ∧ eng < 8 ∧ s.rd R.CRC_GE_OWN_OWNER eng = geWho path) := by
  decide +kernel

/-- The hypotheses of RegisterWritesAndApplyBoundaries can be met. -/
theorem test_wit_RegisterWritesAndApplyBoundaries_1 :
    (let s : State := wCore; let path : Path := .core 0; let addr : Nat := 0x890000; s.pathUp path = true ∧ s.mayWrite path addr = true ∧ addr % 4 = 0) ∧
    (let s : State := w0; let elem : Nat := 7; elem < 8) ∧
    (let s : State := wTwi; let addr : Nat := 0x890000; let count : Nat := 16; s.mctpNow = true ∧ addr % 4 = 0 ∧ 1 ≤ count ∧ count ≤ 16 ∧ addr < 0x4000000 ∧ blockOf addr = blockOf (addr + 4 * count - 1) ∧ blockOf addr ≠ 2) ∧
    (let s : State := wTwi; let addr : Nat := 0x820030; s.mctpNow = true ∧ addr % 4 = 0 ∧ s.mayWrite .twi addr = true) ∧
    (let s : State := wTwi; let op : Nat := 0x20; let args : List Nat := []; s.mctpNow = true ∧ (s.fresh.issueBy 1 op args true).on R.LOQ_ISS_RES_REFUSED 1 = false) := by
  decide +kernel

/-- The hypotheses of RegisterWritesAndApplyBoundaries can be met. -/
theorem test_wit_RegisterWritesAndApplyBoundaries_2 :
    (let s : State := wTwi; let count : Nat := 16; s.mctpNow = true ∧ 1 ≤ count ∧ count ≤ 16) := by
  decide +kernel

/-- The hypotheses of DramCommandSlotRules can be met. -/
theorem test_wit_DramCommandSlotRules_1 :
    (let s : State := wSlotP; let way : Nat := 1; s.wayUp way = true ∧ bit (s.fresh.slotRoom way).dram.pdown way = true ∧ ((s.fresh.slotRoom way).wayQ way).isEmpty = false) ∧
    (let s : State := wSlotF; let way : Nat := 1; let blocked : List Nat := []; let k : Nat := 1024; s.wayUp way = true ∧ bit (s.fresh.slotRoom way).dram.pdown way = false ∧ (s.fresh.slotRoom way).rfmPick way blocked = some k ∧ (s.fresh.slotRoom way).on R.DCH_REF_RFM_REQ (way / 2) = false) ∧
    (let s : State := wSlotO; let way : Nat := 1; let blocked : List Nat := []; let r : DReq := wDReq; s.wayUp way = true ∧ bit (s.fresh.slotRoom way).dram.pdown way = false ∧ (s.fresh.slotRoom way).rfmPick way blocked = none ∧ (s.fresh.slotRoom way).colPick way blocked = some r) ∧
    (let s : State := wSlot; let way : Nat := 1; let blocked : List Nat := []; let r : DReq := wDReq; s.wayUp way = true ∧ bit (s.fresh.slotRoom way).dram.pdown way = false ∧ (s.fresh.slotRoom way).rfmPick way blocked = none ∧ (s.fresh.slotRoom way).colPick way blocked = none ∧ (s.fresh.slotRoom way).rowPick way blocked = some r ∧ smGet 0 (s.fresh.slotRoom way).dram.openRow r.key = 0 ∧ r.src ≠ DSrc.migrate) ∧
    (let s : State := wSlotC; let way : Nat := 1; let blocked : List Nat := []; let r : DReq := wDReq; s.wayUp way = true ∧ bit (s.fresh.slotRoom way).dram.pdown way = false ∧ (s.fresh.slotRoom way).rfmPick way blocked = none ∧ (s.fresh.slotRoom way).colPick way blocked = none ∧ (s.fresh.slotRoom way).rowPick way blocked = some r ∧ smGet 0 (s.fresh.slotRoom way).dram.openRow r.key ≠ 0 ∧ r.src ≠ DSrc.migrate) := by
  decide +kernel

/-- The hypotheses of DramCommandSlotRules can be met. -/
theorem test_wit_DramCommandSlotRules_2 :
    (let s : State := wSlotI; let way : Nat := 1; let blocked : List Nat := []; let idleRows : List Nat := [1027]; let k : Nat := 1027; s.wayUp way = true ∧ bit (s.fresh.slotRoom way).dram.pdown way = false ∧ (s.fresh.slotRoom way).rfmPick way blocked = none ∧ (s.fresh.slotRoom way).colPick way blocked = none ∧ (s.fresh.slotRoom way).rowPick way blocked = none ∧ idleRows.find? (fun k => decide (k / 1024 = way) && decide (smGet 0 (s.fresh.slotRoom way).dram.openRow k ≠ 0) && !blocked.contains k) = some k) ∧
    (let s : State := wSlotS; let way : Nat := 1; let blocked : List Nat := []; let idleRows : List Nat := []; s.wayUp way = true ∧ bit (s.fresh.slotRoom way).dram.pdown way = false ∧ (s.fresh.slotRoom way).rfmPick way blocked = none ∧ (s.fresh.slotRoom way).colPick way blocked = none ∧ (s.fresh.slotRoom way).rowPick way blocked = none ∧ idleRows.find? (fun k => decide (k / 1024 = way) && decide (smGet 0 (s.fresh.slotRoom way).dram.openRow k ≠ 0) && !blocked.contains k) = none) := by
  decide +kernel

/-- The hypotheses of DramRefreshAndTraining can be met. -/
theorem test_wit_DramRefreshAndTraining_1 :
    (let s : State := wSlotC; let way : Nat := 1; s.wayUp way = true ∧ s.on R.DCH_REF_RFM_REQ (way / 2) = false ∧ smGet 0 s.dram.trnDue way = 0 ∧ s.ap R.DCH_REF_REF_SB_EN (way / 2) = 0) ∧
    (let s : State := wSlotB; let way : Nat := 1; s.wayUp way = true ∧ s.on R.DCH_REF_RFM_REQ (way / 2) = false ∧ smGet 0 s.dram.trnDue way = 0 ∧ s.ap R.DCH_REF_REF_SB_EN (way / 2) ≠ 0 ∧ bit s.dram.sbRef (way / 2) = true) ∧
    (let s : State := wSlot; let way : Nat := 1; s.wayUp way = true ∧ s.dram.quiet = [] ∧ s.dram.ovfQuiet = 0) ∧
    (let s : State := wSlotQ; let way : Nat := 1; way < 16 ∧ s.wayUp way = true ∧ s.dram.quiet = [] ∧ s.dram.ovfQuiet = 16 * s.rd R.DRM_RDD_RD_HOLD + way + 1) ∧
    (let s : State := wSlotD; let way : Nat := 1; s.wayUp way = true ∧ bit s.dram.pdown way = false ∧ s.dram.caravan = false ∧ s.rd R.DCH_CTL_PD_IDLE (way / 2) ≠ 0 ∧ s.wayQ way = [] ∧ s.rfmPick way [] = none) := by
  decide +kernel

/-- The hypotheses of DramRefreshAndTraining can be met. -/
theorem test_wit_DramRefreshAndTraining_2 :
    (let s : State := wSlotS; s.on R.DRM_SCRUB_EN = true ∧ s.dram.scrubDone = false ∧ s.dram.scrubFrom + s.ap R.DRM_SCRUB_PER * 3600 * 32768 ≤ s.tick) ∧
    (let s : State := wTrn; let chan : Nat := 0; let rank : Nat := 0; let drift : Nat := 9; s.trains chan rank = true ∧ s.on R.DCH_TRN_DQS_EN chan = true ∧ s.tick < smGet 0 s.dram.driftFrom chan + 32768 ∧ s.rd R.DCH_TRN_DQS_TOL chan < drift) ∧
    (let s : State := wTrn; let chan : Nat := 0; let rank : Nat := 0; s.trains chan rank = true) ∧
    (let s : State := wTrn; let chan : Nat := 0; let rank : Nat := 0; s.trains chan rank = true) ∧
    (let s : State := wTrn; let chan : Nat := 0; let rank : Nat := 0; s.trains chan rank = true ∧ smGet 0 s.dram.ctrFail (4 * chan + rank) = 2) := by
  decide +kernel

/-- The hypotheses of DramRefreshAndTraining can be met. -/
theorem test_wit_DramRefreshAndTraining_3 :
    (let s : State := wTrn; let chan : Nat := 0; let rank : Nat := 0; s.wayUp (2 * chan) = true ∧ rank < s.ranksOf chan) ∧
    (let s : State := wTrn; let chan : Nat := 0; let rank : Nat := 0; s.wayUp (2 * chan) = true ∧ rank < s.ranksOf chan) := by
  decide +kernel

/-- The hypotheses of DramReadDataAndMigration can be met. -/
theorem test_wit_DramReadDataAndMigration_1 :
    (let s : State := wReading; let id : Nat := 3; let x : DReq := wDRead; let q : Nat := 5; let y : Req := wReqR; s.dram.reading.find? (fun (y : DReq) => decide (y.id = id)) = some x ∧ x.psn = false ∧ s.lineLost x.line = false ∧ x.src = DSrc.host q ∧ s.req q = some y ∧ s.isOffline x.line = false) ∧
    (let s : State := wReading; let id : Nat := 4; let x : DReq := wDScrub; s.dram.reading.find? (fun (y : DReq) => decide (y.id = id)) = some x ∧ x.psn = false ∧ s.lineLost x.line = false ∧ x.src = DSrc.scrub) ∧
    (let s : State := wReading; let id : Nat := 3; let x : DReq := wDRead; let q : Nat := 5; let y : Req := wReqR; s.dram.reading.find? (fun (y : DReq) => decide (y.id = id)) = some x ∧ x.psn = false ∧ s.lineLost x.line = false ∧ x.src = DSrc.host q ∧ s.req q = some y ∧ s.isOffline x.line = false) ∧
    (let s : State := wReadingP; let id : Nat := 3; let x : DReq := { wDRead with psn := true }; let q : Nat := 5; let y : Req := wReqR; s.dram.reading.find? (fun (y : DReq) => decide (y.id = id)) = some x ∧ x.psn = true ∧ x.src = DSrc.host q ∧ s.req q = some y ∧ s.isOffline x.line = false) ∧
    (let s : State := wMigr; let chan : Nat := 0; let m : Migr := wMg 9; smGet none (s.dram.migr.map (fun (e : Nat × Migr) => (e.1, some e.2))) chan = some m ∧ s.wayUp (2 * chan) = true ∧ s.dram.caravan = false ∧ m.begun = true ∧ m.todo = [] ∧ m.back = [] ∧ m.flying = [] ∧ m.units < 2 ^ R.DCH_MIGW_W.wd ∧ s.rd R.DCH_MIGW_W chan + 1 < m.units) := by
  decide +kernel

/-- The hypotheses of DramReadDataAndMigration can be met. -/
theorem test_wit_DramReadDataAndMigration_2 :
    (let s : State := wMigrE; let chan : Nat := 0; let m : Migr := wMg 1; smGet none (s.dram.migr.map (fun (e : Nat × Migr) => (e.1, some e.2))) chan = some m ∧ s.wayUp (2 * chan) = true ∧ s.dram.caravan = false ∧ m.begun = true ∧ m.todo = [] ∧ m.back = [] ∧ m.flying = [] ∧ m.units < 2 ^ R.DCH_MIGW_W.wd ∧ s.rd R.DCH_MIGW_W chan + 1 = m.units ∧ m.loq = none) := by
  decide +kernel

/-- The hypotheses of DriftCopies can be met. -/
theorem test_wit_DriftCopies_1 :
    (let s : State := wDrift; let p : Nat := 3; let r : Nat := 0; s.driftRuns = true ∧ s.trk.copy.length < 65536 ∧ 256 ≤ s.drift.tokens ∧ s.bufGrants 2 = true ∧ s.buf.wait.any (fun (e : Nat × Nat) => decide (e.1 = 2)) = false ∧ s.driftPick = some (p, some r)) ∧
    (let s : State := wDriftO; let p : Nat := 3; s.driftRuns = true ∧ s.trk.copy.length < 65536 ∧ 256 ≤ s.drift.tokens ∧ s.bufGrants 2 = true ∧ s.buf.wait.any (fun (e : Nat × Nat) => decide (e.1 = 2)) = false ∧ s.driftPick = some (p, none)) ∧
    (let s : State := { wDrift with drift := { wDr with tokens := 0 } }; let p : Nat := 3; let r : Nat := 0; s.driftRuns = true ∧ s.drift.tokens < 256 ∧ s.driftPick = some (p, some r)) ∧
    (let s : State := wDriftJ; let page : Nat := 9; let j : PageIo := { pageIo (.drift 9) false 36864 3 1 with wait := [] }; let c : CopyEnt := { gen := 5, redirty := false, discard := false, read := false, slot := 0, prog := 0 }; let a : Nat := (s.fresh.assign 0 1).1.getD 0; s.pageJob (DSrc.drift page) = some j ∧ j.done = true ∧ s.copyAt page = some c ∧ (s.fresh.assign 0 1).1 = some a) ∧
    (let s : State := wConf; let page : Nat := 10; let c : CopyEnt := { gen := 5, redirty := false, discard := false, read := true, slot := 77, prog := 2 }; s.copyAt page = some c ∧ c.prog = 2 ∧ c.discard = false) := by
  decide +kernel

/-- The hypotheses of DriftCopies can be met. -/
theorem test_wit_DriftCopies_2 :
    (let s : State := wConfD; let page : Nat := 10; let c : CopyEnt := { gen := 5, redirty := false, discard := true, read := true, slot := 77, prog := 2 }; s.copyAt page = some c ∧ c.prog = 2 ∧ c.discard = true) ∧
    (let s : State := wConf; let page : Nat := 11; let c : CopyEnt := { gen := 5, redirty := false, discard := false, read := true, slot := 77, prog := 3 }; s.copyAt page = some c ∧ c.prog = 3 ∧ (s.sb (s.sbOf c.slot)).retireNext.contains (addrDie c.slot / 128) = false) := by
  decide +kernel

/-- The hypotheses of DriftEpochsPacingAndSnapshots can be met. -/
theorem test_wit_DriftEpochsPacingAndSnapshots_1 :
    (let s : State := wDrift; s.on R.TRK_STAT_RUN = true ∧ s.trk.epochAt + s.ap R.DFT_AGE_EPOCH ≤ s.tick) ∧
    (let s : State := wDrift; let n : Nat := 3; smGet 0 s.ftl.opens 0 = n + 1 ∧ s.stripeSlots (s.sb n) ≠ 0 ∧ (s.sb n).fill % s.stripeSlots (s.sb n) ≠ 0 ∧ smGet 0 s.drift.segAt 0 + s.rd R.DFT_SEG_SEG_TMO ≤ s.tick) ∧
    (let s : State := wRs; s.boot.inReset = false ∧ s.tick % 1024 = 1023) ∧
    (let s : State := wDrift; s.boot.inReset = false ∧ s.tick % 1024 ≠ 1023) ∧
    (let s : State := wDrift; s.boot.inReset = false ∧ s.rd R.PWR_STAT_STAGE < 3) := by
  decide +kernel

/-- The hypotheses of DriftEpochsPacingAndSnapshots can be met. -/
theorem test_wit_DriftEpochsPacingAndSnapshots_2 :
    (let s : State := wDrift; let x : Snap := wSnap; s.drift.snapNow = some x ∧ s.snapFlying x.num = false ∧ x.done = true ∧ s.drift.snapDue = false ∧ s.rd R.CVN_STAT_RST_ST = 0 ∧ s.cvn.doneAt ≤ x.tick) := by
  decide +kernel

/-- The hypotheses of LedgerCommands can be met. -/
theorem test_wit_LedgerCommands :
    (let s : State := wLed; s.boot.inReset = false ∧ s.tick % 1024 = 0 ∧ s.cvn.code = 0) ∧
    (let s : State := wLedS; s.boot.inReset = false ∧ s.tick % 1024 = 0 ∧ s.cvn.code ≠ 0) ∧
    (let s : State := wLedR; s.ledger.running = some false) ∧
    (let s : State := wLedP; s.ledger.running = some true) ∧
    (let s : State := wCdn; s.on R.LDG_STAT_CDN_ACT = true ∧ s.rd R.CVN_STAT_SAVE_ST = 4) := by
  decide +kernel

/-- The hypotheses of CaravanSteps can be met. -/
theorem test_wit_CaravanSteps_1 :
    (let s : State := wSq; s.seqState ≠ 0) ∧
    (let s : State := wDrift; s.seqState = 0) ∧
    (let s : State := wSq; s.seqState ≠ 0) ∧
    (let s : State := wSvM; let m : Manifest := wMan; s.cvn.building = some m ∧ s.rd R.CVN_STAT_SAVE_ST = 1) ∧
    (let s : State := wSv; let p : Nat := 3; let g : Nat := 0; let rest : List SaveItem := []; s.rd R.CVN_STAT_SAVE_ST = 2 ∧ s.cvn.todo = SaveItem.page p g :: rest ∧ s.copyAt p = none ∧ s.bufGrants 9 = true ∧ s.dirtyAt p = true ∧ s.saveAllows = true) := by
  decide +kernel

/-- The hypotheses of CaravanSteps can be met. -/
theorem test_wit_CaravanSteps_2 :
    (let s : State := wSvN; let p : Nat := 3; let g : Nat := 0; let rest : List SaveItem := []; s.rd R.CVN_STAT_SAVE_ST = 2 ∧ s.cvn.todo = SaveItem.page p g :: rest ∧ s.copyAt p = none ∧ s.bufGrants 9 = true ∧ s.dirtyAt p = true ∧ s.saveAllows = false) ∧
    (let s : State := wSvC; let p : Nat := 4; let g : Nat := 0; let rest : List SaveItem := []; s.rd R.CVN_STAT_SAVE_ST = 2 ∧ s.cvn.todo = SaveItem.page p g :: rest ∧ s.copyAt p = none ∧ s.bufGrants 9 = true ∧ s.dirtyAt p = false) ∧
    (let s : State := { wSv with cvn := { wSv.cvn with todo := [.staged 1 1 0 0 [] []] } }; let k : Nat := 1; let ns : Nat := 1; let lba : Nat := 0; let g : Nat := 0; let d : List Host.Cell := []; let md : List Host.Cell := []; let rest : List SaveItem := []; s.rd R.CVN_STAT_SAVE_ST = 2 ∧ s.cvn.todo = SaveItem.staged k ns lba g d md :: rest ∧ s.bufGrants 9 = true ∧ s.saveAllows = true) ∧
    (let s : State := wSvE; s.rd R.CVN_STAT_SAVE_ST = 2 ∧ s.cvn.todo = []) ∧
    (let s : State := wSvE; let slot : Nat := 73; let x : SaveProg := wProgF; s.cvn.progs.find? (fun (y : SaveProg) => decide (y.slot = slot)) = some x ∧ x.prog = 3) := by
  decide +kernel

/-- The hypotheses of CaravanSteps can be met. -/
theorem test_wit_CaravanSteps_3 :
    (let s : State := wSvE; let slot : Nat := 70; let x : SaveProg := wProg; let p : Nat := 3; let g : Nat := 7; s.cvn.progs.find? (fun (y : SaveProg) => decide (y.slot = slot)) = some x ∧ x.prog = 2 ∧ x.item = SaveItem.page p g ∧ (s.copyAt p).any (fun (c : CopyEnt) => c.discard) = false) ∧
    (let s : State := wSvE; let x : SaveProg := wProgR; s.saveProgOf .record = some x) ∧
    (let s : State := wSvE; let x : SaveProg := wProgK; s.saveProgOf .mark = some x ∧ s.cvn.code ≤ 2) ∧
    (let s : State := wSvK; let x : SaveProg := wProgK; s.saveProgOf .mark = some x ∧ 3 ≤ s.cvn.code ∧ s.cvn.progs = [x]) ∧
    (let s : State := wCdn; s.rd R.CVN_STAT_SAVE_ST = 4 ∧ s.cvn.todo = [] ∧ s.cvn.progs = [] ∧ s.flash.ops.all (fun (o : FOp) => decide (o.kind ≠ FKind.program)) = true) := by
  decide +kernel

/-- The hypotheses of CaravanSteps can be met. -/
theorem test_wit_CaravanSteps_4 :
    (let s : State := wSv; s.rd R.CVN_STAT_SAVE_ST ≠ 0) := by
  decide +kernel

/-- The hypotheses of RestoreSteps can be met. -/
theorem test_wit_RestoreSteps_1 :
    (let s : State := wRst1; s.rd R.CVN_STAT_RST_ST = 1 ∧ s.stage = 10 ∧ s.cvn.sanMark = false) ∧
    (let s : State := wRst2; s.rd R.CVN_STAT_RST_ST = 2 ∧ s.restoreCase = 0 ∧ s.cvn.manifest = none ∧ s.cvn.loss = none ∧ s.on R.CVN_STAT_OT = false) ∧
    (let s : State := wRst4; s.on R.CVN_STAT_READY = false ∧ s.stage = 10 ∧ s.rd R.CVN_STAT_RST_ST = 4 ∧ s.hostPages ≤ s.rd R.CVN_RWM_RWM ∧ 3 ≤ (s.capOf true).1) ∧
    (let s : State := wRstB; let page : Nat := 7; let good : Bool := true; let e : Nat × Bool × Nat := (7, true, 0); s.bulkRuns = true ∧ s.cvn.got.find? (fun (e : Nat × Bool × Nat) => decide (e.1 = page) && (e.2.1 == good)) = some e ∧ smGet false s.trk.restored page = false ∧ s.pageJob (DSrc.fetch page) = none) ∧
    (let s : State := wRstR; let page : Nat := 7; let good : Bool := true; let e : Nat × Bool × Nat := (7, true, 0); s.bulkRuns = true ∧ s.cvn.got.find? (fun (e : Nat × Bool × Nat) => decide (e.1 = page) && (e.2.1 == good)) = some e ∧ smGet false s.trk.restored page = true) := by
  decide +kernel

/-- The hypotheses of RestoreSteps can be met. -/
theorem test_wit_RestoreSteps_2 :
    (let s : State := wRstT; let page : Nat := 3; s.cvn.fetching.contains page = true ∧ s.fetched page = true) ∧
    (let s : State := wRstE; s.bulkRuns = true ∧ s.hostPages ≤ s.cvn.bulkNext ∧ s.bulkOut = [] ∧ s.on R.CVN_STAT_READY = true) ∧
    (let s : State := wRstL; let r : LossRec := { gen := 2, pages := [(5, 1)] }; let p : Nat := 5; s.cvn.loss = some r ∧ s.rd R.CVN_STAT_RST_ST = 5 ∧ s.on R.CVN_STAT_READY = true ∧ s.cvn.code = 0 ∧ ((s.fresh.lossTrim r).lrwTokens).rewritePick (s.without (r.gen + 1) r.pages) = some p ∧ 25600 ≤ ((s.fresh.lossTrim r).lrwTokens).cvn.lrwTok) ∧
    (let s : State := { wRstL with cvn := { wRstL.cvn with loss := some { gen := 2, pages := [] } } }; let r : LossRec := { gen := 2, pages := [] }; s.cvn.loss = some r ∧ s.rd R.CVN_STAT_RST_ST = 5 ∧ s.on R.CVN_STAT_READY = true ∧ s.cvn.code = 0 ∧ ((s.fresh.lossTrim r).lrwTokens).rewritePick (s.without (r.gen + 1) r.pages) = none) ∧
    (let s : State := wPack; s.stage = 9 ∧ s.boot.inReset = false ∧ s.rd R.GAU_STAT_PSTATE = 1 ∧ s.rd R.LDG_GUAR_G ≠ 0 ∧ 3 ≤ (s.capOf true).1) := by
  decide +kernel

/-- The hypotheses of RestoreSteps can be met. -/
theorem test_wit_RestoreSteps_3 :
    (let s : State := wPackX; s.stage = 9 ∧ s.boot.inReset = false ∧ s.boot.packWait ≠ 0 ∧ s.boot.waitAt + s.boot.packWait * 32768 ≤ s.tick) := by
  decide +kernel

/-- The hypotheses of FlashOperationResults can be met. -/
theorem test_wit_FlashOperationResults_1 :
    (let s : State := wFl; let chan : Nat := 0; let die : Nat := 0; let busy : List Nat := []; let o : FOp := wFop; s.dieUp (dieKey chan die) = true ∧ (s.die (dieKey chan die)).state ≠ 2 ∧ s.dieRunning (dieKey chan die) = none ∧ s.rd R.FCH_STAT_STATE chan = 2 ∧ s.diePick (dieKey chan die) busy = some o ∧ s.dieSuspended (dieKey chan die) = none) ∧
    (let s : State := wFlR; let id : Nat := 0; let o : FOp := wFopR; s.fop id = some o ∧ o.stage = FStage.running ∧ o.kind = FKind.read ∧ o.src ≠ FSrc.gone ∧ o.left ≤ 1) ∧
    (let s : State := { wFl with flash := wFs [{ wFopR with left := 6 }] }; let id : Nat := 0; let o : FOp := { wFopR with left := 6 }; s.fop id = some o ∧ o.stage = FStage.running ∧ o.kind = FKind.read ∧ o.src ≠ FSrc.gone ∧ 1 < o.left) ∧
    (let s : State := { wFl with flash := wFs [{ wFopR with src := .gone }] }; let id : Nat := 0; let o : FOp := { wFopR with src := .gone }; s.fop id = some o ∧ o.stage = FStage.running ∧ o.kind = FKind.read ∧ o.src = FSrc.gone) ∧
    (let s : State := wFlD; let id : Nat := 0; let o : FOp := wFopD; let tg : Nat := 1; let k : Nat := 0; let iters : Nat := 4; s.fop id = some o ∧ o.stage = FStage.decoding ∧ o.lane = true ∧ o.src = FSrc.nvm tg k ∧ o.step < 5 ∧ iters ≤ s.rd R.FCC_DEC_ITER_MAX) := by
  decide +kernel

/-- The hypotheses of FlashOperationResults can be met. -/
theorem test_wit_FlashOperationResults_2 :
    (let s : State := wFlD; let id : Nat := 0; let o : FOp := wFopD; let tg : Nat := 1; let k : Nat := 0; s.fop id = some o ∧ o.stage = FStage.decoding ∧ o.lane = true ∧ o.src = FSrc.nvm tg k ∧ o.step < 5) ∧
    (let s : State := wFlS; let id : Nat := 0; let o : FOp := wFopD; let tg : Nat := 1; let k : Nat := 0; let iters : Nat := 4; s.fop id = some o ∧ o.stage = FStage.decoding ∧ o.lane = true ∧ o.src = FSrc.nvm tg k ∧ o.step < 5 ∧ iters ≤ s.rd R.FCC_DEC_ITER_MAX ∧ s.nextStep o = some (2, 0)) ∧
    (let s : State := wFlD; let id : Nat := 0; let o : FOp := wFopD; let tg : Nat := 1; let k : Nat := 0; let iters : Nat := 4; s.fop id = some o ∧ o.stage = FStage.decoding ∧ o.lane = true ∧ o.src = FSrc.nvm tg k ∧ o.step < 5 ∧ iters ≤ s.rd R.FCC_DEC_ITER_MAX ∧ s.nextStep o = none ∧ s.ftl.noPar.contains (o.sb, s.stripeOf o.addr) = false) ∧
    (let s : State := wFlD; let id : Nat := 0; let o : FOp := wFopD; let tg : Nat := 1; let k : Nat := 0; let iters : Nat := 4; s.fop id = some o ∧ o.stage = FStage.decoding ∧ o.lane = true ∧ o.src = FSrc.nvm tg k ∧ o.step < 5 ∧ iters ≤ s.rd R.FCC_DEC_ITER_MAX ∧ s.nextStep o = none) ∧
    (let s : State := wFlD; let id : Nat := 0; let o : FOp := wFopD; let tg : Nat := 1; let k : Nat := 0; let iters : Nat := 40; s.fop id = some o ∧ o.stage = FStage.decoding ∧ o.lane = true ∧ o.src = FSrc.nvm tg k ∧ o.step < 5 ∧ o.step = 1 ∧ o.soft = false ∧ s.rd R.FCC_DEC_ITER_MAX < iters ∧ s.nextStep o = none) := by
  decide +kernel

/-- The hypotheses of FlashOperationResults can be met. -/
theorem test_wit_FlashOperationResults_3 :
    (let s : State := wFlP; let id : Nat := 0; let o : FOp := wFopP; s.fop id = some o ∧ o.stage = FStage.running ∧ o.kind = FKind.program ∧ (s.sb o.sb).native = false) ∧
    (let s : State := wFlP; let id : Nat := 0; let o : FOp := wFopP; s.fop id = some o ∧ o.stage = FStage.running ∧ o.kind = FKind.program ∧ (s.sb o.sb).native = false) ∧
    (let s : State := wFlE; let id : Nat := 0; let o : FOp := wFopE; s.fop id = some o ∧ o.stage = FStage.running ∧ o.kind = FKind.erase ∧ s.flash.ops = [o] ∧ s.flash.extra = [] ∧ (s.sb o.sb).state ≠ 6) ∧
    (let s : State := wFlE2; let id : Nat := 0; let o : FOp := wFopE; let p : FOp := { wFopE with id := 1 }; s.fop id = some o ∧ o.stage = FStage.running ∧ o.kind = FKind.erase ∧ s.flash.ops = [o, p] ∧ s.flash.extra = [] ∧ p.kind = FKind.erase ∧ p.sb = o.sb ∧ p.id ≠ o.id) ∧
    (let s : State := wFlU; let chan : Nat := 0; let die : Nat := 0; let id : Nat := 1; let ran : Nat := 90; let o : FOp := wFopP; s.dieRunning (dieKey chan die) = some o ∧ o.kind = FKind.program ∧ (s.dieOps (dieKey chan die)).any (fun (x : FOp) => decide (x.id = id) && decide (x.stage = FStage.queued) && decide (x.kind = FKind.read) && (decide (x.cls = 1) || decide (x.cls = 2))) = true ∧ s.on R.FCC_SUS_PSUS_EN = true ∧ s.on R.FCH_GEO0_PSUS chan = true ∧ s.rd R.FCC_SUST_SUS_MIN_P ≤ ran ∧ o.susp < s.rd R.FCC_SUS_PSUS_MAX ∧ s.suspendable (dieKey chan die) o = true ∧ s.dieSuspended (dieKey chan die) = none ∧ s.on R.FCC_STAT_SAVE = false) := by
  decide +kernel

/-- The hypotheses of FlashOperationResults can be met. -/
theorem test_wit_FlashOperationResults_4 :
    (let s : State := wFlV; let chan : Nat := 0; let die : Nat := 0; let o : FOp := wFopU; s.dieSuspended (dieKey chan die) = some o ∧ s.dieRunning (dieKey chan die) = none ∧ (s.dieOps (dieKey chan die)).any (fun (x : FOp) => decide (x.stage = FStage.queued) && decide (x.kind = FKind.read) && (decide (x.cls = 1) || decide (x.cls = 2))) = false ∧ s.on R.FCC_STAT_SAVE = false) ∧
    (let s : State := wFlT; let chan : Nat := 0; let die : Nat := 0; let o : FOp := { wFopE with kind := .feature }; s.dieRunning (dieKey chan die) = some o ∧ s.flash.ops = [o] ∧ s.flash.extra = [] ∧ o.kind = FKind.feature) := by
  decide +kernel

/-- The hypotheses of FlashTrackingTimingAndPower can be met. -/
theorem test_wit_FlashTrackingTimingAndPower_1 :
    (let s : State := wPrb; let chan : Nat := 0; let die : Nat := 0; let group : Nat := 2; s.dieUp (dieKey chan die) = true ∧ s.on R.FCC_RRT_TRK_EN = true ∧ 16 * s.rd R.FCC_RRT_PROBE_TRIG < (s.refAt (dieKey chan die) group).mean ∧ (s.refAt (dieKey chan die) group).probing = false ∧ (s.refAt (dieKey chan die) group).recent ≠ 0 ∧ group < 16) ∧
    (let s : State := wPrb; let chan : Nat := 0; let die : Nat := 0; let group : Nat := 3; (s.refAt (dieKey chan die) group).probing = true ∧ group < 16) ∧
    (let s : State := wEye; let chan : Nat := 0; let moved : Bool := true; s.on R.FCH_XTST_XT_ON chan = true ∧ s.rd R.FCH_STAT_STATE chan = 2 ∧ s.eyeDue chan moved = true) ∧
    (let s : State := wEye; let chan : Nat := 0; let moved : Bool := true; s.on R.FCH_XTST_XT_ON chan = true ∧ s.rd R.FCH_STAT_STATE chan = 2 ∧ s.eyeDue chan moved = true) ∧
    (let s : State := wEye; let chan : Nat := 0; let moved : Bool := true; s.on R.FCH_XTST_XT_ON chan = true ∧ s.rd R.FCH_STAT_STATE chan = 2 ∧ s.eyeDue chan moved = true ∧ s.rd R.FCH_STAT_RATE chan = 4800) := by
  decide +kernel

/-- The hypotheses of FlashTrackingTimingAndPower can be met. -/
theorem test_wit_FlashTrackingTimingAndPower_2 :
    (let s : State := wEye; let grp : Nat := 0; s.on R.FCC_PWR_PD_EN = true ∧ bit (s.rd R.FCC_STAT_GRP_ON) grp = true ∧ (s.grpChans grp).all (fun c => decide (s.slotsUsed c = 0)) = true ∧ s.on R.FCC_STAT_SAVE = false ∧ grp < 8) ∧
    (let s : State := wWake; let grp : Nat := 0; bit s.flash.waking grp = true ∧ bit (s.rd R.FCC_STAT_GRP_ON) grp = false ∧ grp < 8) ∧
    (let s : State := wWith; s.on R.FTL_STAT_WITHDRAWN = true ∧ s.imageShort (s.rd R.FTL_GCTH_GC_ST) = false ∧ s.rd R.TRK_HELD_HELD ≤ s.rd R.LDG_GUAR_G ∧ s.on R.ERG_STAT_VOLATILE = false) := by
  decide +kernel

/-- The hypotheses of FlashTranslationSteps can be met. -/
theorem test_wit_FlashTranslationSteps_1 :
    (let s : State := wFtlS; s.rd R.FTL_CP_CP_GIB * 262144 ≤ s.ftl.cpSlots ∧ s.ftl.cp = none) ∧
    (let s : State := { wFtlS with ftl := { wFtlS.ftl with mapChanged := true } }; s.ftl.mapChanged = true ∧ s.ftl.cpTick + s.rd R.FTL_CPT_CP_TICKS ≤ s.tick ∧ s.ftl.cp = none) ∧
    (let s : State := wFtlC; s.rd R.FTL_CP_CP_GIB * 262144 ≤ s.ftl.cpSlots ∧ s.ftl.cp ≠ none) ∧
    (let s : State := wFtlC; let c : CpSt := { seq := 4, from0 := 0, jpos := 0, wb := [], offs := [], tags := [], todo := [], dirs := [], stage := 4 }; s.ftl.cp = some c ∧ c.stage = 4) ∧
    (let s : State := wFtlG; s.eraseNext = none ∧ s.on R.FTL_STAT_GC_ACT = false ∧ s.rd R.FTL_FREE_F < s.rd R.FTL_GCTH_GC_ST ∧ 3 ≤ s.level) := by
  decide +kernel

/-- The hypotheses of FlashTranslationSteps can be met. -/
theorem test_wit_FlashTranslationSteps_2 :
    (let s : State := { wFtlG with ftl := { wFtl with sbs := [(7, some { wSb with state := 2 })], eraseWait := [(100000, [7])] } }; let n : Nat := s.eraseNext.getD 0; s.eraseNext = some n ∧ s.ftl.victim = 0 ∧ 3 ≤ s.level) ∧
    (let s : State := wFtlM; let src : Nat := 70; let dst : Nat := 90; let c : SlotC := wSlotC1; s.ftl.moves.find? (fun (e : Nat × Nat) => decide (e.1 = src)) = some (src, dst) ∧ s.slot src = some c ∧ c.kind = 0x01 ∧ s.imgAt c.key = src) ∧
    (let s : State := wFtlN; let src : Nat := 70; let dst : Nat := 90; let c : SlotC := wSlotC1; s.ftl.moves.find? (fun (e : Nat × Nat) => decide (e.1 = src)) = some (src, dst) ∧ s.slot src = some c ∧ c.kind = 0x01 ∧ s.imgAt c.key ≠ src) ∧
    (let s : State := { wFtlM with ftl := { wFtlM.ftl with slots := [(70, some { wSlotC1 with kind := 0x10 }), (90, some { wSlotC1 with kind := 0x10 })], coarse := [(0, 2)], fine := [(3, 70)] } }; let src : Nat := 70; let dst : Nat := 90; let c : SlotC := { wSlotC1 with kind := 0x10 }; s.ftl.moves.find? (fun (e : Nat × Nat) => decide (e.1 = src)) = some (src, dst) ∧ s.slot src = some c ∧ c.kind = 0x10 ∧ s.nvm.stg = [] ∧ s.nsEntry (c.key % 2 ^ 40) = src) ∧
    (let s : State := { wFtlM with ftl := { wFtlM.ftl with slots := [(70, some { wSlotC1 with kind := 0x10 }), (90, some { wSlotC1 with kind := 0x10 })] } }; let src : Nat := 70; let dst : Nat := 90; let c : SlotC := { wSlotC1 with kind := 0x10 }; s.ftl.moves.find? (fun (e : Nat × Nat) => decide (e.1 = src)) = some (src, dst) ∧ s.slot src = some c ∧ c.kind = 0x10 ∧ s.nvm.stg = [] ∧ s.nsEntry (c.key % 2 ^ 40) ≠ src) := by
  decide +kernel

/-- The hypotheses of FlashTranslationSteps can be met. -/
theorem test_wit_FlashTranslationSteps_3 :
    (let s : State := wFtlW; let n : Nat := 7; let b : SbSt := { wSb with state := 2 }; s.rd R.FTL_WL_WL_SPREAD < s.rd R.FTL_WEAR_WMAX - s.rd R.FTL_WEAR_WMIN ∧ s.on R.FTL_STAT_WL_BUSY = false ∧ s.ftl.victim = 0 ∧ s.sbList.filter (fun (e : Nat × SbSt) => decide (e.2.state = 2) && !s.sbProtected e.1) = [(n, b)]) ∧
    (let s : State := wFtlG; s.ftl.scanTick + s.rd R.FTL_SCAN_SCAN_PER * hourTicks ≤ s.tick ∧ 3 ≤ s.level) ∧
    (let s : State := wFtlA; let sb : Nat := 7; (s.sb sb).state = 2 ∧ (s.sb sb).group < ageGroup (s.sb sb).native ((s.tick - (s.sb sb).closeTick) / 32768)) ∧
    (let s : State := wFold; let g : Nat := 0; let i : Nat := 2; let a : Nat := (s.fresh.assign 4 s.unitSlots).1.getD 0; s.rd R.FTL_CP_FOLD_HI * s.groupsMax < s.ftl.groups.length * 100 ∧ s.ftl.groups.find? (fun (e : Nat × Nat) => !s.ftl.folds.any (fun (f : FoldSt) => decide (f.unit = e.2)) && (List.range s.unitSlots).all (fun i => decide (s.fineAt e.1 i ≠ 1) && decide (s.fineAt e.1 i ≠ 2))) = some (g, i) ∧ (s.fresh.assign 4 s.unitSlots).1 = some a) ∧
    (let s : State := wSwap; let unit : Nat := 2; let f : FoldSt := { unit := 2, group := 0, touched := false, dst := 320, left := 0 }; s.ftl.folds.find? (fun (f : FoldSt) => decide (f.unit = unit)) = some f ∧ f.left = 0 ∧ f.touched = false) := by
  decide +kernel

/-- The hypotheses of FlashTranslationSteps can be met. -/
theorem test_wit_FlashTranslationSteps_4 :
    (let s : State := { wSwap with ftl := { ftlInit with folds := [{ unit := 2, group := 0, touched := true, dst := 320, left := 0 }] } }; let unit : Nat := 2; let f : FoldSt := { unit := 2, group := 0, touched := true, dst := 320, left := 0 }; s.ftl.folds.find? (fun (f : FoldSt) => decide (f.unit = unit)) = some f ∧ f.left = 0 ∧ f.touched = true) ∧
    (let s : State := wDst; let stg : Nat := 1; let y : StgSt := wStg; s.stgAt stg = some y ∧ y.dst = 2 ∧ s.stgFind y.ns y.slot = some stg ∧ s.nvm.cmds = [] ∧ s.cvn.code = 0) ∧
    (let s : State := wFtlH; s.ftl.healthTick + 24 * hourTicks ≤ s.tick ∧ 3 ≤ s.level) := by
  decide +kernel

/-- The hypotheses of BuffersAndSemaphores can be met. -/
theorem test_wit_BuffersAndSemaphores_1 :
    (let s : State := w0; let who : Nat := 1; 1 ≤ who ∧ who ≤ 9 ∧ s.buf.save = false ∧ s.bufGrants who = true ∧ s.buf.wait = []) ∧
    (let s : State := wBufW; let who : Nat := 7; 1 ≤ who ∧ who ≤ 9 ∧ s.buf.save = false ∧ s.bufGrants who = false) ∧
    (let s : State := wBuf; let buf : Nat := 0; let who : Nat := 1; let op : Nat := 5; let e : Nat × Nat := (0, 65541); s.buf.own.find? (fun (x : Nat × Nat) => decide (x.1 = buf)) = some e ∧ e.2 = 65536 * who + op % 65536) ∧
    (let s : State := wBuf; let buf : Nat := 9; s.buf.own.find? (fun (x : Nat × Nat) => decide (x.1 = buf)) = none) ∧
    (let s : State := wBuf; let buf : Nat := 0; let who : Nat := 2; let op : Nat := 5; let e : Nat × Nat := (0, 65541); s.buf.own.find? (fun (x : Nat × Nat) => decide (x.1 = buf)) = some e ∧ e.2 ≠ 65536 * who + op % 65536) := by
  decide +kernel

/-- The hypotheses of BuffersAndSemaphores can be met. -/
theorem test_wit_BuffersAndSemaphores_2 :
    (let s : State := wBuf; let buf : Nat := 1; let op : Nat := 7; s.buf.own.any (fun (e : Nat × Nat) => decide (e.1 = buf) && decide (e.2 = 65536 * 3 + op % 65536)) = true ∧ s.bufGrants 1 = true) ∧
    (let s : State := w0; let sem : Nat := 63; let cores : List Nat := [1, 3]; let c : Nat := 1; sem < 64 ∧ (s.sem sem).holder = 0 ∧ ((List.range 4).map (fun i => ((s.sem sem).next + i) % 4)).find? (fun c => cores.contains c && s.coreRuns c) = some c) ∧
    (let s : State := wBuf; let sem : Nat := 5; let core : Nat := 2; sem < 64 ∧ s.coreRuns core = true ∧ (s.sem sem).holder = core + 1) ∧
    (let s : State := wBuf; let sem : Nat := 5; let core : Nat := 1; s.coreRuns core = true ∧ (s.sem sem).holder ≠ core + 1) := by
  decide +kernel

/-- The hypotheses of NvmeQueuesAndFetch can be met. -/
theorem test_wit_NvmeQueuesAndFetch_1 :
    (let s : State := (wNvm 0); let fn : Nat := 0; let sq : Nat := 0; let tail : Nat := 3; let q : SqSt := wSq0; (s.fn fn).en = true ∧ (s.fn fn).ps = 0 ∧ (s.fn fn).sqs.find? (fun (e : Nat × SqSt) => decide (e.1 = sq)) = some (sq, q) ∧ tail < q.size) ∧
    (let s : State := (wNvm 0); let fn : Nat := 0; let cq : Nat := 0; let head : Nat := 3; let q : CqSt := wCq0; (s.fn fn).en = true ∧ (s.fn fn).ps = 0 ∧ (s.fn fn).cqs.find? (fun (e : Nat × CqSt) => decide (e.1 = cq)) = some (cq, q) ∧ head < q.size) ∧
    (let s : State := wFetch; let opc : Nat := 6; let f : Nat := 0; let q : Nat := 0; let wrr : List Nat := []; s.nvm.stopped = false ∧ s.nvm.cmds.length < 16384 ∧ (s.fn s.nvm.rr).burst = 0 ∧ rotNext s.nvm.rr (s.fnIds.filter (fun f => decide (s.sqReady f ≠ []))) = some f ∧ sqArbitrate (s.fn f) (s.sqReady f) = some (q, wrr) ∧ (s.fn f).burst = 0 ∧ bits ((s.fn f).feat 0x01 0) 0 3 = 0 ∧ (if q = 0 then adminOpcodes else nvmOpcodes).contains opc = true) ∧
    (let s : State := wAen; let fn : Nat := 0; (s.fn fn).modePend = true ∧ (s.fn fn).modeAt + 1023 ≤ s.tick) ∧
    (let s : State := w0; let fn : Nat := 0; s.fnPresent fn = true ∧ (s.fn fn).en = false) := by
  decide +kernel

/-- The hypotheses of NvmeQueuesAndFetch can be met. -/
theorem test_wit_NvmeQueuesAndFetch_2 :
    (let s : State := wFetch; s.nvm.cmds = []) ∧
    (let s : State := wFetch; let fn : Nat := 0; (s.fn fn).en = true) ∧
    (let s : State := wFetch; let fn : Nat := 1; s.cvn.code = 0 ∧ 1 ≤ fn ∧ s.fnPresent (fn - 1) = true) ∧
    (let s : State := wFetch; s.cvn.code = 0) ∧
    (let s : State := wSvE; s.cvn.code ≠ 0) := by
  decide +kernel

/-- The hypotheses of NvmeQueuesAndFetch can be met. -/
theorem test_wit_NvmeQueuesAndFetch_3 :
    (let s : State := wPs3; let fn : Nat := 0; let n : Nat := 0; (s.fn fn).psEntry ≠ 0 ∧ s.psEntries fn = [n] ∧ s.fnInfl fn = (s.fn fn).aers.length + 1) ∧
    (let s : State := wPs3; let fn : Nat := 0; let n : Nat := 0; (s.fn fn).psEntry ≠ 0 ∧ s.psEntries fn = [n]) := by
  decide +kernel

/-- The hypotheses of NvmeAdminQueuesFeaturesAndLogs can be met. -/
theorem test_wit_NvmeAdminQueuesFeaturesAndLogs_1 :
    (let s : State := (wNvm 0x05); let tag : Nat := 0; let c : CmdSt := wCmd 0x05; let qid : Nat := 1; let size : Nat := 16384; let vec : Nat := 256; s.cmd tag = some c ∧ c.sq = 0 ∧ c.opc = 0x05 ∧ c.stage = CStage.fetched ∧ s.roleRuns 1 = true ∧ qid ≠ 0 ∧ qid ≤ s.fnQp c.fn ∧ (s.fn c.fn).cqs.any (fun (e : Nat × CqSt) => decide (e.1 = qid)) = false ∧ 2 ≤ size ∧ size ≤ s.mqes ∧ vec < s.fnVec c.fn) ∧
    (let s : State := (wNvm 0x01); let tag : Nat := 0; let c : CmdSt := wCmd 0x01; let qid : Nat := 256; let size : Nat := 2; let cqid : Nat := 2; s.cmd tag = some c ∧ c.sq = 0 ∧ c.opc = 0x01 ∧ c.stage = CStage.fetched ∧ s.roleRuns 1 = true ∧ qid ≠ 0 ∧ qid ≤ s.fnQp c.fn ∧ (s.fn c.fn).sqs.any (fun (e : Nat × SqSt) => decide (e.1 = qid)) = false ∧ 2 ≤ size ∧ size ≤ s.mqes ∧ cqid ≠ 0 ∧ (s.fn c.fn).cqs.any (fun (e : Nat × CqSt) => decide (e.1 = cqid)) = true) ∧
    (let s : State := (wNvm 0x04); let tag : Nat := 0; let c : CmdSt := wCmd 0x04; let qid : Nat := 2; s.cmd tag = some c ∧ c.sq = 0 ∧ c.opc = 0x04 ∧ c.stage = CStage.fetched ∧ s.roleRuns 1 = true ∧ qid ≠ 0 ∧ (s.fn c.fn).cqs.any (fun (e : Nat × CqSt) => decide (e.1 = qid)) = true ∧ (s.fn c.fn).sqs.any (fun (e : Nat × SqSt) => decide (e.2.cq = qid)) = false) ∧
    (let s : State := (wNvm 0x00); let tag : Nat := 0; let c : CmdSt := wCmd 0x00; let qid : Nat := 1; s.cmd tag = some c ∧ c.sq = 0 ∧ c.opc = 0x00 ∧ c.stage = CStage.fetched ∧ s.roleRuns 1 = true ∧ qid ≠ 0 ∧ (s.fn c.fn).sqs.any (fun (e : Nat × SqSt) => decide (e.1 = qid)) = true ∧ s.nvm.cmds = [(tag, c)]) ∧
    (let s : State := (wNvm 0x02); let tag : Nat := 0; let c : CmdSt := wCmd 0x02; let lid : Nat := 0x81; let d : List Nat := [0, 0]; s.cmd tag = some c ∧ c.sq = 0 ∧ c.opc = 0x02 ∧ c.stage = CStage.fetched ∧ s.roleRuns 1 = true ∧ s.logPage c.fn lid = some d ∧ lid ≠ 4) := by
  decide +kernel

/-- The hypotheses of NvmeAdminQueuesFeaturesAndLogs can be met. -/
theorem test_wit_NvmeAdminQueuesFeaturesAndLogs_2 :
    (let s : State := (wNvm 0x06); let tag : Nat := 0; let c : CmdSt := wCmd 0x06; let cns : Nat := 0x13; let d : List Nat := [0]; s.cmd tag = some c ∧ c.sq = 0 ∧ c.opc = 0x06 ∧ c.stage = CStage.fetched ∧ s.roleRuns 1 = true ∧ s.identify c.fn cns c.nsid = some d) ∧
    (let s : State := (wNvm 0x08); let tag : Nat := 0; let c : CmdSt := wCmd 0x08; let sq : Nat := 1; let cid : Nat := 9; s.cmd tag = some c ∧ c.sq = 0 ∧ c.opc = 0x08 ∧ c.stage = CStage.fetched ∧ s.roleRuns 1 = true ∧ s.nvm.cmds.find? (fun (e : Nat × CmdSt) => decide (e.2.fn = c.fn) && decide (e.2.sq = sq) && decide (e.2.cid = cid) && decide (e.1 ≠ tag)) = none) ∧
    (let s : State := wAbort; let tag : Nat := 0; let c : CmdSt := wCmd 0x08; let sq : Nat := 1; let cid : Nat := 9; let n : Nat := 5; let d : CmdSt := { wCmd 2 with sq := 1, cid := 9 }; s.cmd tag = some c ∧ c.sq = 0 ∧ c.opc = 0x08 ∧ c.stage = CStage.fetched ∧ s.roleRuns 1 = true ∧ s.nvm.cmds.find? (fun (e : Nat × CmdSt) => decide (e.2.fn = c.fn) && decide (e.2.sq = sq) && decide (e.2.cid = cid) && decide (e.1 ≠ tag)) = some (n, d) ∧ d.begun = false ∧ d.stage = CStage.fetched ∧ s.nvm.stg = []) ∧
    (let s : State := (wNvm 0x09); let tag : Nat := 0; let c : CmdSt := wCmd 0x09; s.cmd tag = some c ∧ c.sq = 0 ∧ c.opc = 0x09 ∧ c.stage = CStage.fetched ∧ s.roleRuns 1 = true ∧ c.nsid = 0) ∧
    (let s : State := (wNvm 0x09); let tag : Nat := 0; let c : CmdSt := wCmd 0x09; s.cmd tag = some c ∧ c.sq = 0 ∧ c.opc = 0x09 ∧ c.stage = CStage.fetched ∧ s.roleRuns 1 = true) := by
  decide +kernel

/-- The hypotheses of NvmeAdminQueuesFeaturesAndLogs can be met. -/
theorem test_wit_NvmeAdminQueuesFeaturesAndLogs_3 :
    (let s : State := (wNvm 0x09); let tag : Nat := 0; let c : CmdSt := wCmd 0x09; let ps : Nat := 2; s.cmd tag = some c ∧ c.sq = 0 ∧ c.opc = 0x09 ∧ c.stage = CStage.fetched ∧ s.roleRuns 1 = true ∧ ps < 3) ∧
    (let s : State := (wNvm 0x09); let tag : Nat := 0; let c : CmdSt := wCmd 0x09; s.cmd tag = some c ∧ c.sq = 0 ∧ c.opc = 0x09 ∧ c.stage = CStage.fetched ∧ s.roleRuns 1 = true) ∧
    (let s : State := (wNs 9); let tag : Nat := 0; let c : CmdSt := { wCmd 9 with nsid := 1 }; let value : Nat := 1; s.cmd tag = some c ∧ c.sq = 0 ∧ c.opc = 0x09 ∧ c.stage = CStage.fetched ∧ s.roleRuns 1 = true ∧ s.nsUp c.nsid = true ∧ value ≤ 1) ∧
    (let s : State := (wNs 9); let tag : Nat := 0; let c : CmdSt := { wCmd 9 with nsid := 1 }; s.cmd tag = some c ∧ c.sq = 0 ∧ c.opc = 0x09 ∧ c.stage = CStage.fetched ∧ s.roleRuns 1 = true ∧ s.nsUp c.nsid = true) ∧
    (let s : State := (wNvm 0x0A); let tag : Nat := 0; let c : CmdSt := wCmd 0x0A; s.cmd tag = some c ∧ c.sq = 0 ∧ c.opc = 0x0A ∧ c.stage = CStage.fetched ∧ s.roleRuns 1 = true) := by
  decide +kernel

/-- The hypotheses of NvmeAdminQueuesFeaturesAndLogs can be met. -/
theorem test_wit_NvmeAdminQueuesFeaturesAndLogs_4 :
    (let s : State := (wNvm 0x0C); let tag : Nat := 0; let c : CmdSt := wCmd 0x0C; s.cmd tag = some c ∧ c.sq = 0 ∧ c.opc = 0x0C ∧ c.stage = CStage.fetched ∧ s.roleRuns 1 = true ∧ (s.fn c.fn).aers.length < 4 ∧ (s.fn c.fn).events = []) ∧
    (let s : State := wEvt; let tag : Nat := 0; let c : CmdSt := wCmd 0x0C; let e : Nat := 5; let es : List Nat := []; s.cmd tag = some c ∧ c.sq = 0 ∧ c.opc = 0x0C ∧ c.stage = CStage.fetched ∧ s.roleRuns 1 = true ∧ (s.fn c.fn).aers.length < 4 ∧ (s.fn c.fn).events = e :: es) := by
  decide +kernel

/-- The hypotheses of NvmeNamespaceAndIoCommands on FIRMWARE_IMAGE_DOWNLOAD can be met. -/
theorem test_wit_NvmeNamespaceAndIoCommands_FIRMWARE_IMAGE_DOWNLOAD :
    let s : State := (wNvm 0x11); let tag : Nat := 0; let c : CmdSt := wCmd 0x11; let off : Nat := 12578816; let data : List Byte := List.replicate 4096 0; s.cmd tag = some c ∧ c.sq = 0 ∧ c.opc = 0x11 ∧ c.stage = CStage.fetched ∧ s.roleRuns 1 = true ∧ isPf c.fn = true ∧ s.rd R.FWU_STAT_STATE = 0 ∧ s.fwu.act = 0 ∧ off % 4096 = 0 ∧ data.length % 4096 = 0 ∧ data ≠ [] ∧ off + data.length ≤ 12582912 := by
  exact ⟨by decide +kernel, by decide, by decide, by decide, by decide +kernel, by decide, by decide +kernel, by decide +kernel, by decide,
    by show (List.replicate 4096 (0 : Byte)).length % 4096 = 0; rw [List.length_replicate],
    fun h => absurd (congrArg List.length h) (by rw [List.length_replicate]; decide),
    by show 12578816 + (List.replicate 4096 (0 : Byte)).length ≤ 12582912; rw [List.length_replicate]⟩

/-- The hypotheses of NvmeNamespaceAndIoCommands can be met. -/
theorem test_wit_NvmeNamespaceAndIoCommands_1 :
    (let s : State := (wPoolNs 13); let tag : Nat := 0; let c : CmdSt := wCmd 0x0D; let i : Nat := 0; let b : Nat := 0; let size : Nat := 100; let lbaf : Nat := 1; s.cmd tag = some c ∧ c.sq = 0 ∧ c.opc = 0x0D ∧ c.stage = CStage.fetched ∧ s.roleRuns 1 = true ∧ isPf c.fn = true ∧ lbaf ≤ 1 ∧ size ≠ 0 ∧ (s.nvm.nss.map (fun (e : Nat × NsSt) => e.2.units)).sum + cdiv size (s.unitSlots * lbasPerSlot lbaf) ≤ s.poolUnits ∧ (List.range 1024).find? (fun i => !s.nsUp (i + 1)) = some i ∧ s.freeRange (cdiv size (s.unitSlots * lbasPerSlot lbaf)) = some b) ∧
    (let s : State := (wNs 13); let tag : Nat := 0; let c : CmdSt := wCmd 0x0D; s.cmd tag = some c ∧ c.sq = 0 ∧ c.opc = 0x0D ∧ c.stage = CStage.fetched ∧ s.roleRuns 1 = true ∧ isPf c.fn = true ∧ (s.ns c.nsid).units ≠ 0 ∧ (s.ns c.nsid).closed = 0) ∧
    (let s : State := (wNsD 0x15); let tag : Nat := 0; let c : CmdSt := wCmd 0x15; let ctrls : List Nat := [0]; s.cmd tag = some c ∧ c.sq = 0 ∧ c.opc = 0x15 ∧ c.stage = CStage.fetched ∧ s.roleRuns 1 = true ∧ isPf c.fn = true ∧ (s.ns c.nsid).units ≠ 0 ∧ ctrls ≠ [] ∧ ctrls.any (fun f => !s.fnPresent f) = false ∧ ctrls.any (fun f => (s.ns c.nsid).ctrls.contains f) = false) ∧
    (let s : State := (wNs 0x15); let tag : Nat := 0; let c : CmdSt := wCmd 0x15; let ctrls : List Nat := [0]; s.cmd tag = some c ∧ c.sq = 0 ∧ c.opc = 0x15 ∧ c.stage = CStage.fetched ∧ s.roleRuns 1 = true ∧ isPf c.fn = true ∧ (s.ns c.nsid).units ≠ 0 ∧ ctrls ≠ [] ∧ ctrls.any (fun f => !s.fnPresent f) = false ∧ ctrls.any (fun f => !(s.ns c.nsid).ctrls.contains f) = false) ∧
    (let s : State := (wNvm 0x10); let tag : Nat := 0; let c : CmdSt := wCmd 0x10; let slot : Nat := 2; s.cmd tag = some c ∧ c.sq = 0 ∧ c.opc = 0x10 ∧ c.stage = CStage.fetched ∧ s.roleRuns 1 = true ∧ isPf c.fn = true ∧ (slot = 1 ∨ slot = 2) ∧ slot - 1 ≠ s.fwu.run) := by
  decide +kernel

/-- The hypotheses of NvmeNamespaceAndIoCommands can be met. -/
theorem test_wit_NvmeNamespaceAndIoCommands_2 :
    (let s : State := wAct; s.cvn.code = 0 ∧ (s.fwu.act = 1 ∨ s.fwu.act = 2) ∧ s.fwu.holdAt + 32768 ≤ s.tick) ∧
    (let s : State := wActH; s.fwu.act = 3) ∧
    (let s : State := (wNs 0x80); let tag : Nat := 0; let c : CmdSt := wCmd 0x80; let lbaf : Nat := 1; let pit : Nat := 0; let ses : Nat := 1; s.cmd tag = some c ∧ c.sq = 0 ∧ c.opc = 0x80 ∧ c.stage = CStage.fetched ∧ s.roleRuns 1 = true ∧ (s.ns c.nsid).units ≠ 0 ∧ (s.ns c.nsid).ctrls.contains c.fn = true ∧ (s.ns c.nsid).closed = 0 ∧ ses ≤ 1 ∧ lbaf ≤ 1 ∧ pit = 0 ∧ s.nvm.sanitize = 0) ∧
    (let s : State := (wNvm 0x84); let tag : Nat := 0; let c : CmdSt := wCmd 0x84; s.cmd tag = some c ∧ c.sq = 0 ∧ c.opc = 0x84 ∧ c.stage = CStage.fetched ∧ s.roleRuns 1 = true ∧ isPf c.fn = true ∧ s.nvm.sanitize = 0 ∧ s.nsSbs none = [] ∧ s.nvm.nss = [] ∧ s.nvm.cmds = [(tag, c)]) ∧
    (let s : State := (wIoS 0x00); let tag : Nat := 0; let c : CmdSt := wIo 0x00; s.cmd tag = some c ∧ c.sq ≠ 0 ∧ c.opc = 0x00 ∧ c.stage = CStage.fetched ∧ (c.nsid = 0xFFFFFFFF ∨ s.nvmGate c = 0)) := by
  decide +kernel

/-- The hypotheses of NvmeNamespaceAndIoCommands can be met. -/
theorem test_wit_NvmeNamespaceAndIoCommands_3 :
    (let s : State := (wIoS 0x01); let tag : Nat := 0; let c : CmdSt := wIo 0x01; s.cmd tag = some c ∧ c.sq ≠ 0 ∧ c.opc = 0x01 ∧ c.stage = CStage.fetched) ∧
    (let s : State := (wIoS 0x01); let tag : Nat := 0; let c : CmdSt := wIo 0x01; s.cmd tag = some c ∧ c.sq ≠ 0 ∧ c.opc = 0x01 ∧ c.stage = CStage.fetched) ∧
    (let s : State := (wIoS 0x02); let tag : Nat := 0; let c : CmdSt := wIo 0x02; s.cmd tag = some c ∧ c.sq ≠ 0 ∧ c.opc = 0x02 ∧ c.stage = CStage.fetched) ∧
    (let s : State := (wIoS 0x05); let tag : Nat := 0; let c : CmdSt := wIo 0x05; s.cmd tag = some c ∧ c.sq ≠ 0 ∧ c.opc = 0x05 ∧ c.stage = CStage.fetched) ∧
    (let s : State := (wIoS 0x0C); let tag : Nat := 0; let c : CmdSt := wIo 0x0C; s.cmd tag = some c ∧ c.sq ≠ 0 ∧ c.opc = 0x0C ∧ c.stage = CStage.fetched) := by
  decide +kernel

/-- The hypotheses of NvmeNamespaceAndIoCommands can be met. -/
theorem test_wit_NvmeNamespaceAndIoCommands_4 :
    (let s : State := (wIoS 0x04); let tag : Nat := 0; let c : CmdSt := wIo 0x04; s.cmd tag = some c ∧ c.sq ≠ 0 ∧ c.opc = 0x04 ∧ c.stage = CStage.fetched) ∧
    (let s : State := (wIoS 0x08); let tag : Nat := 0; let c : CmdSt := wIo 0x08; s.cmd tag = some c ∧ c.sq ≠ 0 ∧ c.opc = 0x08 ∧ c.stage = CStage.fetched) ∧
    (let s : State := (wIoS 0x09); let tag : Nat := 0; let c : CmdSt := wIo 0x09; let ranges : List Nat := [1, 2]; s.cmd tag = some c ∧ c.sq ≠ 0 ∧ c.opc = 0x09 ∧ c.stage = CStage.fetched ∧ (pairs ranges).length ≤ 256) ∧
    (let s : State := (wIoS 0x09); let tag : Nat := 0; let c : CmdSt := wIo 0x09; let ranges : List Nat := [1, 2]; s.cmd tag = some c ∧ c.sq ≠ 0 ∧ c.opc = 0x09 ∧ c.stage = CStage.fetched ∧ (pairs ranges).length ≤ 256) := by
  decide +kernel

/-- The hypotheses of GaugeSamplesEstimatesAndAudits can be met. -/
theorem test_wit_GaugeSamplesEstimatesAndAudits_1 :
    (let s : State := wPak; (s.seq.main = true ∨ s.cvn.code ≠ 0)) ∧
    (let s : State := wEst; s.on R.GAU_STAT_HIB = false ∧ (s.ledger.started = true ∨ s.gau.lrnDue = false) ∧ (s.gau.estDue = true ∨ (s.rd R.GAU_SMP_EST_INT ≠ 0 ∧ s.tick % s.rd R.GAU_SMP_EST_INT = 512 % s.rd R.GAU_SMP_EST_INT))) ∧
    (let s : State := wPakF; s.rd R.GAU_STAT_PSTATE = 3 ∧ s.gau.causeGone ≠ 0 ∧ s.gau.causeGone + 32767 ≤ s.tick ∧ s.causeStays = false) ∧
    (let s : State := wRep; s.packOn = true ∧ s.gau.repAt + 983040 ≤ s.tick) ∧
    (let s : State := wCapA; s.gau.aud = 0 ∧ (s.gau.audDue = true ∨ s.gau.learned.audTick + s.ap R.GAU_AUD_AUD_PER * 2831155200 ≤ s.tick) ∧ s.gau.audRetry ≤ s.tick ∧ s.audBar = 0) := by
  decide +kernel

/-- The hypotheses of GaugeSamplesEstimatesAndAudits can be met. -/
theorem test_wit_GaugeSamplesEstimatesAndAudits_2 :
    (let s : State := wAud1; s.on R.GAU_STAT_REST = true ∧ s.gau.aud = 1) ∧
    (let s : State := wAud4; s.on R.GAU_STAT_REST = true ∧ s.gau.aud = 4 ∧ s.gau.audSoc0 < s.socV s.gauV s.gauT + 1311) ∧
    (let s : State := wAud2; s.gau.aud = 2 ∧ s.gau.audAt + 64 ≤ s.tick) ∧
    (let s : State := wLrn; (s.gau.lrnDue = true ∨ s.rd R.GAU_LRNT_TICK + 2831155200 ≤ s.tick) ∧ s.seq.main = true ∧ s.cvn.code = 0) ∧
    (let s : State := wHib; s.on R.GAU_STAT_HIB = true) := by
  decide +kernel

/-- The hypotheses of GaugeSamplesEstimatesAndAudits can be met. -/
theorem test_wit_GaugeSamplesEstimatesAndAudits_3 :
    (let s : State := wHib; s.on R.GAU_STAT_HIB = true) := by
  decide +kernel

/-- The hypotheses of SequencerPhasesAndRails can be met. -/
theorem test_wit_SequencerPhasesAndRails_1 :
    (let s : State := w0; s.seq.main = false) ∧
    (let s : State := wUp; let rail : Nat := 0; rail < 32 ∧ s.phaseRail rail = true ∧ s.railOn rail = false ∧ s.railFailed rail = false ∧ bit s.seq.dropped rail = false ∧ s.seq.start + s.rd R.SEQ_RDLY_ON_DLY rail ≤ s.tick ∧ rails.all (fun (d : Nat) => !s.dependsOn rail d || s.railGood d) = true) ∧
    (let s : State := wUpOn; let rail : Nat := 0; rail < 32 ∧ s.phaseRail rail = true ∧ s.railOn rail = true ∧ s.railGood rail = false ∧ smGet 0 s.seq.enAt rail + s.rd R.SEQ_GLB_PG_TMO ≤ s.tick) ∧
    (let s : State := wUpGood; s.seqState = 1 ∧ rails.all (fun (n : Nat) => !s.phaseRail n || s.railGood n || s.railFailed n || bit s.seq.dropped n) = true) ∧
    (let s : State := wUp2; s.seqState = 2 ∧ rails.all (fun (n : Nat) => !s.phaseRail n || s.railGood n || s.railFailed n || bit s.seq.dropped n) = true) := by
  decide +kernel

/-- The hypotheses of SequencerPhasesAndRails can be met. -/
theorem test_wit_SequencerPhasesAndRails_2 :
    (let s : State := wDown; let rail : Nat := 0; rail < 32 ∧ smGet 0 s.seq.offs rail ≠ 0 ∧ s.railOn rail = true ∧ smGet 0 s.seq.offs rail - 1 + s.rd R.SEQ_RDLY_OFF_DLY rail ≤ s.tick ∧ s.dependantsOff rail = true) ∧
    (let s : State := wDownW; let rail : Nat := 0; rail < 32 ∧ smGet 0 s.seq.offs rail ≠ 0 ∧ s.railOn rail = true ∧ smGet 0 s.seq.offs rail - 1 + s.rd R.SEQ_RDLY_OFF_DLY rail + s.rd R.SEQ_GLB_OFF_WAIT ≤ s.tick ∧ s.dependantsOff rail = false) ∧
    (let s : State := wDownE; s.seqState = 4 ∧ rails.all (fun (n : Nat) => !s.railDriven n || (!s.railOn n && (!bit s.seq.wasOn n || decide (s.rd R.SEQ_RDG_LAST n < s.rd R.SEQ_RTH_OFF_TH n) || decide (smGet 0 s.seq.offAt n + s.rd R.SEQ_GLB_OFF_WAIT ≤ s.tick)))) = true) ∧
    (let s : State := wCan; s.canStart = true) := by
  decide +kernel

/-- The hypotheses of SupervisionAndSupplies can be met. -/
theorem test_wit_SupervisionAndSupplies_1 :
    (let s : State := wUpOn; s.seqState ≠ 0) ∧
    (let s : State := wUpOn; s.seqState ≠ 0) ∧
    (let s : State := wFlt; s.on R.SEQ_STAT_FLT_DRV = true ∧ s.seq.holdAt ≠ 0 ∧ s.seq.holdAt - 1 ≤ s.tick) ∧
    (let s : State := wPak; s.seq.main = true ∧ s.gau.aud = 0) ∧
    (let s : State := wAud1; s.seq.main = true ∧ s.gau.aud ≠ 0) := by
  decide +kernel

/-- The hypotheses of SupervisionAndSupplies can be met. -/
theorem test_wit_SupervisionAndSupplies_2 :
    (let s : State := w0; s.seq.vbat = false) ∧
    (let s : State := wPak; s.cvn.code = 0) ∧
    (let s : State := wC1; (s.cvn.code = 1 ∨ s.cvn.code = 2)) ∧
    (let s : State := wC3; 3 ≤ s.cvn.code) := by
  decide +kernel

/-- The hypotheses of TwoWireCommandCodesAndAlerts can be met. -/
theorem test_wit_TwoWireCommandCodesAndAlerts_1 :
    (let s : State := wT; (s.seq.main = true ∨ s.seq.vbat = true) ∧ (s.seq.main = false ∨ s.on R.TWI_STAT_SLEEP 0 = false)) ∧
    (let s : State := wT; (s.seq.main = true ∨ s.seq.vbat = true) ∧ (s.seq.main = false ∨ s.on R.TWI_STAT_SLEEP 0 = false)) ∧
    (let s : State := wTAl; let mask : Nat := 255; (s.seq.main = true ∨ s.seq.vbat = true) ∧ (s.seq.main = false ∨ s.on R.TWI_STAT_SLEEP 0 = false) ∧ mask < 256) ∧
    (let s : State := wTAl; (s.seq.main = true ∨ s.seq.vbat = true) ∧ (s.seq.main = false ∨ s.on R.TWI_STAT_SLEEP 0 = false)) ∧
    (let s : State := wT; let area : Nat := 2; let index : Nat := 16383; (s.seq.main = true ∨ s.seq.vbat = true) ∧ (s.seq.main = false ∨ s.on R.TWI_STAT_SLEEP 0 = false) ∧ area < 256 ∧ index < 65536) := by
  decide +kernel

/-- The hypotheses of TwoWireCommandCodesAndAlerts can be met. -/
theorem test_wit_TwoWireCommandCodesAndAlerts_2 :
    (let s : State := wTLat; (s.seq.main = true ∨ s.seq.vbat = true) ∧ (s.seq.main = false ∨ s.on R.TWI_STAT_SLEEP 0 = false) ∧ (s.evr.twiArea = 0 ∨ (s.seq.main = true ∧ s.level ≠ 0)) ∧ s.evr.twiLatch.isSome = true) ∧
    (let s : State := wT; (s.seq.main = true ∨ s.seq.vbat = true) ∧ (s.seq.main = false ∨ s.on R.TWI_STAT_SLEEP 0 = false) ∧ (s.evr.twiArea = 0 ∨ (s.seq.main = true ∧ s.level ≠ 0)) ∧ s.evr.twiLatch = none ∧ s.on R.TWI_STAT_STRETCH 0 = false) ∧
    (let s : State := wT; let src : Nat := 9; let tag : Nat := 1; let data : List Byte := [1, 2]; s.seq.main = true ∧ s.on R.TWI_STAT_SLEEP 0 = false ∧ s.fastPath = true ∧ s.twi.asm.any (fun (m : MctpAsm) => decide (m.src = src) && decide (m.tag = tag)) = false ∧ s.twi.asm.length < 4 ∧ data.length ≤ 64) ∧
    (let s : State := wT; s.seq.main = true ∧ s.on R.TWI_STAT_SLEEP 0 = false ∧ s.fastPath = true) ∧
    (let s : State := wTAl; s.on R.TWI0_ALERT_ASSERTED = true) := by
  decide +kernel

/-- The hypotheses of TwoWireCommandCodesAndAlerts can be met. -/
theorem test_wit_TwoWireCommandCodesAndAlerts_3 :
    (let s : State := wTAsm; let src : Nat := 9; let tag : Nat := 1; s.twi.asm.any (fun (m : MctpAsm) => decide (m.src = src) && decide (m.tag = tag) && decide (m.tick + 3277 ≤ s.tick)) = true) ∧
    (let s : State := wTSl; s.seq.main = true ∧ s.on R.TWI_STAT_SLEEP 0 = true ∧ s.on R.TWI_STAT_STRETCH 0 = true) ∧
    (let s : State := wTSn; s.seq.main = true ∧ s.on R.TWI_STAT_SLEEP 0 = true ∧ s.on R.TWI_STAT_STRETCH 0 = false) := by
  decide +kernel

/-- The hypotheses of ManagementMessages can be met. -/
theorem test_wit_ManagementMessages_1 :
    (let s : State := wT; let eid : Nat := 254; s.mctpNow = true ∧ eid ≠ 0 ∧ eid < 255 ∧ s.ergBase 0x06 3 0 = 0) ∧
    (let s : State := wTEid; let eid : Nat := 1; s.mctpNow = true ∧ eid ≠ 0 ∧ eid < 255 ∧ s.ergBase 0x06 3 0 ≠ 0) ∧
    (let s : State := wT; s.mctpNow = true) ∧
    (let s : State := wT; s.mctpNow = true) ∧
    (let s : State := wT; let mtype : Nat := 255; s.mctpNow = true ∧ (mtype = 255 ∨ mtype = 0)) := by
  decide +kernel

/-- The hypotheses of ManagementMessages can be met. -/
theorem test_wit_ManagementMessages_2 :
    (let s : State := wT; let mtype : Nat := 1; s.mctpNow = true ∧ mtype ≠ 0 ∧ mtype ≠ 255 ∧ mtype ≠ 4 ∧ mtype ≠ 0x7E) ∧
    (let s : State := wT; s.mctpNow = true) ∧
    (let s : State := wT; s.mctpNow = true) ∧
    (let s : State := wT; s.mctpNow = true ∧ s.boot.bootBlock = false) ∧
    (let s : State := wT; let dtype : Nat := 0; let ctrl : Nat := 0; s.mctpNow = true ∧ s.boot.bootBlock = false ∧ dtype ≤ 4 ∧ dtype ≠ 2 ∧ (dtype ≠ 3 ∨ s.fnIds.contains ctrl = true)) := by
  decide +kernel

/-- The hypotheses of ManagementMessages can be met. -/
theorem test_wit_ManagementMessages_3 :
    (let s : State := wT; s.mctpNow = true ∧ s.boot.bootBlock = false) ∧
    (let s : State := wT; s.mctpNow = true ∧ s.boot.bootBlock = false) ∧
    (let s : State := wT; let id : Nat := 1; let value : Nat := 3; s.mctpNow = true ∧ s.boot.bootBlock = false ∧ ((id = 1 ∧ value % 16 ≠ 0 ∧ value % 16 ≤ 3) ∨ id = 2)) ∧
    (let s : State := wT; let value : Nat := 64; s.mctpNow = true ∧ s.boot.bootBlock = false ∧ value % 65536 = 64) ∧
    (let s : State := wT; s.mctpNow = true ∧ s.boot.bootBlock = false) := by
  decide +kernel

/-- The hypotheses of ManagementMessages can be met. -/
theorem test_wit_ManagementMessages_4 :
    (let s : State := wT; s.mctpNow = true ∧ s.boot.bootBlock = false) ∧
    (let s : State := wTFn; let ctrl : Nat := 0; let nsid : Nat := 0; let arg : Nat := 0x13; let d : List Nat := [0]; s.mctpNow = true ∧ s.boot.bootBlock = false ∧ s.fnIds.contains ctrl = true ∧ s.identify ctrl (arg % 256) nsid = some d) ∧
    (let s : State := wTFn; let ctrl : Nat := 0; let arg : Nat := 0xC1; let d : List Nat := []; s.mctpNow = true ∧ s.boot.bootBlock = false ∧ s.fnIds.contains ctrl = true ∧ [0x01, 0x02, 0x03, 0xC0, 0xC1].contains (arg % 256) = true ∧ s.logPage ctrl (arg % 256) = some d) ∧
    (let s : State := wTFn; let ctrl : Nat := 0; let nsid : Nat := 0; let arg : Nat := 2; let v : Nat := 0; s.mctpNow = true ∧ s.boot.bootBlock = false ∧ s.fnIds.contains ctrl = true ∧ s.featureOf ctrl (arg % 256) nsid = some v) ∧
    (let s : State := wTFn; let ctrl : Nat := 0; let opc : Nat := 1; s.mctpNow = true ∧ s.boot.bootBlock = false ∧ s.fnIds.contains ctrl = true ∧ opc ≠ 0x06 ∧ opc ≠ 0x02 ∧ opc ≠ 0x0A) := by
  decide +kernel

/-- The hypotheses of TwoWireTransfers can be met. -/
theorem test_wit_TwoWireTransfers_1 :
    (let s : State := wTx; let port : Nat := 1; let addr : Nat := 127; let seg : Nat := 3; let losses : Nat := 2; port < 2 ∧ addr < 128 ∧ seg < 4 ∧ s.saveHard = false ∧ s.rd R.TWI_STAT_STATE port < 3 ∧ smGet none s.twi.run port = none ∧ (port = 0 ∨ s.ergBase 0x06 5 0 = 0 ∨ s.twi.mux = seg + 1) ∧ losses < s.rd R.TWI_POL_ARB_MAX port) ∧
    (let s : State := wTx; let port : Nat := 1; let addr : Nat := 127; let seg : Nat := 3; let losses : Nat := 2; port < 2 ∧ addr < 128 ∧ seg < 4 ∧ s.saveHard = false ∧ s.rd R.TWI_STAT_STATE port < 3 ∧ smGet none s.twi.run port = none ∧ (port = 0 ∨ s.ergBase 0x06 5 0 = 0 ∨ s.twi.mux = seg + 1) ∧ losses < s.rd R.TWI_POL_ARB_MAX port ∧ s.rd R.TWI_POL_RETRY_N port = 0) ∧
    (let s : State := wTxR; let port : Nat := 1; let addr : Nat := 127; let seg : Nat := 3; let losses : Nat := 2; port < 2 ∧ addr < 128 ∧ seg < 4 ∧ s.saveHard = false ∧ s.rd R.TWI_STAT_STATE port < 3 ∧ smGet none s.twi.run port = none ∧ (port = 0 ∨ s.ergBase 0x06 5 0 = 0 ∨ s.twi.mux = seg + 1) ∧ losses < s.rd R.TWI_POL_ARB_MAX port ∧ s.rd R.TWI_POL_RETRY_N port ≠ 0) ∧
    (let s : State := wTx; let port : Nat := 1; let addr : Nat := 127; let seg : Nat := 3; let losses : Nat := 2; port < 2 ∧ addr < 128 ∧ seg < 4 ∧ s.saveHard = false ∧ s.rd R.TWI_STAT_STATE port < 3 ∧ smGet none s.twi.run port = none ∧ (port = 0 ∨ s.ergBase 0x06 5 0 = 0 ∨ s.twi.mux = seg + 1) ∧ losses < s.rd R.TWI_POL_ARB_MAX port) ∧
    (let s : State := wTRun; let port : Nat := 1; port < 2 ∧ s.saveHard = false ∧ s.rd R.TWI_STAT_STATE port < 3 ∧ (smGet none s.twi.run port).isSome = true) := by
  decide +kernel

/-- The hypotheses of TwoWireTransfers can be met. -/
theorem test_wit_TwoWireTransfers_2 :
    (let s : State := wTF; let port : Nat := 1; let addr : Nat := 127; port < 2 ∧ addr < 128 ∧ 3 ≤ s.rd R.TWI_STAT_STATE port ∧ s.saveHard = false ∧ smGet none s.twi.run port = none) ∧
    (let s : State := wTRun; let port : Nat := 1; let x : TwiXfer := wXf; smGet none s.twi.run port = some x ∧ x.outcome = 1 ∧ x.port = port) ∧
    (let s : State := wTRun; let port : Nat := 1; let x : TwiXfer := wXf; smGet none s.twi.run port = some x ∧ x.outcome = 1 ∧ x.port = port ∧ s.rd R.TWI_POL_RETRY_N port < x.tries + 1) ∧
    (let s : State := wTRunR; let port : Nat := 1; let x : TwiXfer := wXf; smGet none s.twi.run port = some x ∧ x.outcome = 1 ∧ x.port = port ∧ x.tries + 1 ≤ s.rd R.TWI_POL_RETRY_N port) ∧
    (let s : State := wTRun; let port : Nat := 1; let x : TwiXfer := wXf; smGet none s.twi.run port = some x) := by
  decide +kernel

/-- The hypotheses of TwoWireTransfers can be met. -/
theorem test_wit_TwoWireTransfers_3 :
    (let s : State := wTSl; s.on R.TWI_STAT_STRETCH 0 = true) ∧
    (let s : State := wTx2; let port : Nat := 1; port < 2 ∧ s.rd R.TWI_STAT_STATE port ≠ 4 ∧ s.rd R.TWI_STAT_STATE port ≠ 5 ∧ smGet none s.twi.run port = none) ∧
    (let s : State := wTx; let port : Nat := 1; port < 2 ∧ s.rd R.TWI_STAT_STATE port ≠ 4 ∧ s.rd R.TWI_STAT_STATE port ≠ 5 ∧ smGet none s.twi.run port = none ∧ s.rd R.TWI_STAT_CLR_TRY port < 2) ∧
    (let s : State := wTx2; let port : Nat := 1; port < 2 ∧ s.rd R.TWI_STAT_STATE port ≠ 4 ∧ s.rd R.TWI_STAT_STATE port ≠ 5 ∧ smGet none s.twi.run port = none ∧ s.rd R.TWI_STAT_CLR_TRY port = 2) ∧
    (let s : State := wTWt; let port : Nat := 1; s.rd R.TWI_STAT_STATE port = 4 ∧ smGet 0 s.twi.waitAt port ≠ 0 ∧ smGet 0 s.twi.waitAt port - 1 ≤ s.tick) := by
  decide +kernel

/-- The hypotheses of CodeFlashBanks can be met. -/
theorem test_wit_CodeFlashBanks_1 :
    (let s : State := wCfP; let bank : Nat := 0; let d : CflDesc := wDs 1; s.nextDesc bank = some d ∧ d.op = 1 ∧ s.bankSt bank = 0 ∧ s.protectedSector (d.addr / 65536) = true) ∧
    (let s : State := wCfE; let bank : Nat := 0; let d : CflDesc := wDs 1; s.nextDesc bank = some d ∧ d.op = 1 ∧ s.bankSt bank = 0 ∧ s.protectedSector (d.addr / 65536) = false ∧ s.eint (d.addr / 65536) = true) ∧
    (let s : State := (wCf 1); let bank : Nat := 0; let d : CflDesc := wDs 1; s.nextDesc bank = some d ∧ d.op = 1 ∧ s.bankSt bank = 0 ∧ s.protectedSector (d.addr / 65536) = false ∧ s.eint (d.addr / 65536) = false) ∧
    (let s : State := wCfS; let bank : Nat := 0; let d : CflDesc := { wDs 1 with sus := true }; let e : CflDesc := wEr; s.nextDesc bank = some d ∧ d.op = 1 ∧ d.sus = true ∧ s.bankSt bank = 2 ∧ s.runDesc bank 2 = some e ∧ e.by0 ≠ 0 ∧ d.addr / 65536 ≠ e.addr / 65536 ∧ e.susps < 32) ∧
    (let s : State := wCfR; let bank : Nat := 0; let d : CflDesc := { wDs 1 with stage := 1 }; s.runDesc bank 1 = some d ∧ s.runDesc bank 2 = none ∧ (List.range d.count).find? (fun (i : Nat) => s.notErased (d.addr / 4 + 64 * i) (pageWords d.data i)) = none) := by
  decide +kernel

/-- The hypotheses of CodeFlashBanks can be met. -/
theorem test_wit_CodeFlashBanks_2 :
    (let s : State := wCfR; let bank : Nat := 0; let fail : Nat := 1; let d : CflDesc := { wDs 1 with stage := 1 }; s.runDesc bank 1 = some d ∧ (List.range d.count).find? (fun (i : Nat) => s.notErased (d.addr / 4 + 64 * i) (pageWords d.data i)) = none ∧ 1 ≤ fail ∧ fail ≤ d.count) ∧
    (let s : State := (wCf 2); let bank : Nat := 0; let d : CflDesc := wDs 2; s.nextDesc bank = some d ∧ d.op = 2 ∧ s.bankSt bank = 0 ∧ (if d.by0 = 5 then s.wpFrozen (d.addr / 65536) else s.protectedSector (d.addr / 65536)) = false) ∧
    (let s : State := wCfQ; let bank : Nat := 0; let d : CflDesc := wDs 2; s.nextDesc bank = some d ∧ d.op = 2 ∧ s.bankSt bank = 0 ∧ d.by0 ≠ 5 ∧ s.protectedSector (d.addr / 65536) = true) ∧
    (let s : State := wCfS; let bank : Nat := 0; let d : CflDesc := wEr; s.runDesc bank 2 = some d ∧ d.stage = 1) ∧
    (let s : State := wCfS; let bank : Nat := 0; let d : CflDesc := wEr; s.runDesc bank 2 = some d ∧ d.stage = 1) := by
  decide +kernel

/-- The hypotheses of CodeFlashBanks can be met. -/
theorem test_wit_CodeFlashBanks_3 :
    (let s : State := (wCf 3); let d : CflDesc := wDs 3; s.nextDesc 0 = some d ∧ d.op = 3 ∧ s.bankSt 0 = 0 ∧ (s.cfl.selAny = false ∨ s.cfl.selSeq ≠ 0xFFFF)) ∧
    (let s : State := wCfX; let d : CflDesc := wDs 3; s.nextDesc 0 = some d ∧ d.op = 3 ∧ s.bankSt 0 = 0 ∧ s.cfl.selAny = true ∧ s.cfl.selSeq = 0xFFFF) ∧
    (let s : State := wT; let core : Nat := 3; let addr : Nat := 33554428; s.coreRuns core = true ∧ addr < 33554432 ∧ s.bankSt (addr / 16777216) = 0) ∧
    (let s : State := wCfR; let core : Nat := 3; let addr : Nat := 0; s.coreRuns core = true ∧ addr < 33554432 ∧ s.bankSt (addr / 16777216) = 1) := by
  decide +kernel

/-- The hypotheses of BootAndWatchdogs can be met. -/
theorem test_wit_BootAndWatchdogs_1 :
    (let s : State := wRel; let pins : Nat := 7; s.boot.inReset = true ∧ s.boot.p1done = true ∧ s.seq.main = true ∧ s.boot.cause ≠ 0 ∧ pins < 8) ∧
    (let s : State := wBist; let slice : Nat := 22; let us : Nat := 700; s.sliceRuns slice = true ∧ us ≤ s.boot.bud * 1000) ∧
    (let s : State := wBist; let slice : Nat := 22; s.sliceRuns slice = true) ∧
    (let s : State := wBist; let slice : Nat := 22; s.sliceRuns slice = true) ∧
    (let s : State := wChk; let core : Nat := 3; s.stage = 3 ∧ core < 4 ∧ bit s.boot.checked core = false ∧ s.sliceFenced 22 = false ∧ setBitTo s.boot.checked core true ≠ 15) := by
  decide +kernel

/-- The hypotheses of BootAndWatchdogs can be met. -/
theorem test_wit_BootAndWatchdogs_2 :
    (let s : State := wChk; let core : Nat := 0; s.stage = 3 ∧ core < 4 ∧ bit s.boot.checked core = false ∧ s.sliceFenced 22 = false ∧ setBitTo s.boot.checked core true ≠ 15) ∧
    (let s : State := wBa; s.stage = 4 ∧ (s.cfl.selAny = true → s.cfl.selBa = 0) ∧ s.areaFlagged 0 = false) ∧
    (let s : State := wBa; s.stage = 4 ∧ (s.cfl.selAny = true → s.cfl.selBa = 0) ∧ s.areaFlagged 1 = false) ∧
    (let s : State := wBa; s.stage = 4) ∧
    (let s : State := wOd; s.stage = 5 ∧ s.boot.bootBlock = false) := by
  decide +kernel

/-- The hypotheses of BootAndWatchdogs can be met. -/
theorem test_wit_BootAndWatchdogs_3 :
    (let s : State := wEv; s.stage = 6 ∧ s.unitBad 2 = false ∧ s.boot.warm = false) ∧
    (let s : State := wEvW; s.stage = 6 ∧ s.unitBad 2 = false ∧ s.boot.warm = true) ∧
    (let s : State := wHwS; s.stage = 8 ∧ (s.flash.stopping = false ∨ s.flash.ops = [])) ∧
    (let s : State := wPrt; let port : Nat := 1; s.boot.inReset = false ∧ port < 2 ∧ s.on R.HP_STAT_ACTIVE port = true) ∧
    (let s : State := wBe; s.boot.inReset = false ∧ s.on R.BST_STAT_DONE = false ∧ s.boot.warm = false ∧ s.level ≠ 3 ∧ s.level = (s.capOf true).1) := by
  decide +kernel

/-- The hypotheses of BootAndWatchdogs can be met. -/
theorem test_wit_BootAndWatchdogs_4 :
    (let s : State := wBe0; s.boot.inReset = false ∧ s.on R.BST_STAT_DONE = false ∧ s.boot.warm = false ∧ s.level ≠ (s.capOf true).1 ∧ (s.level ≠ 3 ∨ (s.capOf true).1 ≠ 4 ∨ s.on R.CVN_STAT_READY = false ∨ s.on R.FTL_STAT_MAP_IMG = false)) ∧
    (let s : State := wWarm; s.boot.warm = true ∧ s.warmStaged = true ∧ s.flash.ops = []) ∧
    (let s : State := wWd; let core : Nat := 2; core < 4 ∧ s.coreUp core = true ∧ bit s.boot.down core = false ∧ s.boot.inReset = false ∧ s.level ≠ 0) ∧
    (let s : State := wWdD; let core : Nat := 2; core < 4 ∧ bit s.boot.down core = true ∧ s.coreUp core = true) := by
  decide +kernel

/-- The hypotheses of RecorderAndDownload on FIRMWARE_BLOCK_RECEIVED can be met. -/
theorem test_wit_RecorderAndDownload_FIRMWARE_BLOCK_RECEIVED :
    let s : State := wBlk; let block : Nat := 0; s.rd R.FWU_STAT_STATE = 1 ∧ block < 3072 ∧ (List.range 4096).all (fun (k : Nat) => (s.fwPart (4096 * block + k)).isSome) = true := by
  exact ⟨by decide +kernel, by decide, wBlk_part⟩

/-- The hypotheses of RecorderAndDownload can be met. -/
theorem test_wit_RecorderAndDownload_1 :
    (let s : State := wEr0; s.tick / 32768 = s.evr.winAt / 32768 ∧ s.evr.reports = []) ∧
    (let s : State := wEr1; let r : EvReport := wRep0; let rest : List EvReport := []; s.tick / 32768 = s.evr.winAt / 32768 ∧ s.evr.reports = r :: rest ∧ r.grp = 0 ∧ s.reportable r = true) ∧
    (let s : State := wEr2; s.tick / 32768 ≠ s.evr.winAt / 32768 ∧ s.evr.supp = []) ∧
    (let s : State := wEr3; let e : EvType × Nat := (.fixed 0x0D04 4, 3); s.tick / 32768 ≠ s.evr.winAt / 32768 ∧ s.evr.supp = [e]) ∧
    (let s : State := wCm; let r : EvRecord := wRec0; s.nextRecord = some r ∧ s.seq.main = true ∧ 2 ≤ s.rd R.BST_STAT_STAGE ∧ s.committerBank = true ∧ s.cfl.queue.length < 64 ∧ s.erase1 = none ∧ s.rd R.CFL_STAT_B1_ST = 0 ∧ s.eint (459 + poolSlot (s.rd R.EVR_NEXT_SEQ) / 1024) = false ∧ s.wpFrozen (459 + poolSlot (s.rd R.EVR_NEXT_SEQ) / 1024) = false) := by
  decide +kernel

/-- The hypotheses of RecorderAndDownload can be met. -/
theorem test_wit_RecorderAndDownload_2 :
    (let s : State := wCm0; s.nextRecord = none) ∧
    (let s : State := wPf; s.evr.twiFetching = true) ∧
    (let s : State := wPf; s.evr.fetching = true) ∧
    (let s : State := wBlk; s.fwu.lastAt + 1966080 ≤ s.tick) := by
  decide +kernel

/-- The hypotheses of ClocksLoopsAndDomains can be met. -/
theorem test_wit_ClocksLoopsAndDomains_1 :
    (let s : State := wT; s.pwr.xtal = false ∧ (s.seq.main = true ∨ s.seq.vbat = true)) ∧
    (let s : State := wXt; s.pwr.xtal = true) ∧
    (let s : State := wAvs; let slack : Nat := 2; s.on R.PWR_LOOP_AVS_EN = true ∧ s.on R.PWR_STAT_AVS_FLT = false ∧ s.boot.inReset = false ∧ s.pwr.avsWait = false ∧ slack < s.rd R.PWR_CPM_SLACK_LO ∧ s.rd R.PWR_AVSST_VSET + 5 ≤ s.rd R.PWR_AVS_VMAX) ∧
    (let s : State := wAvs; let slack : Nat := 60; s.on R.PWR_LOOP_AVS_EN = true ∧ s.on R.PWR_STAT_AVS_FLT = false ∧ s.boot.inReset = false ∧ s.pwr.avsWait = false ∧ s.rd R.PWR_CPM_SLACK_LO ≤ slack ∧ s.rd R.PWR_CPM_SLACK_HI < slack ∧ 705 ≤ s.rd R.PWR_AVSST_VSET ∧ s.cvn.code = 0 ∧ s.boot.warm = false) ∧
    (let s : State := wAvs; let slack : Nat := 7; s.on R.PWR_LOOP_AVS_EN = true ∧ s.on R.PWR_STAT_AVS_FLT = false ∧ s.boot.inReset = false ∧ (s.pwr.avsWait = true ∨ (s.rd R.PWR_CPM_SLACK_LO ≤ slack ∧ slack ≤ s.rd R.PWR_CPM_SLACK_HI))) := by
  decide +kernel

/-- The hypotheses of ClocksLoopsAndDomains can be met. -/
theorem test_wit_ClocksLoopsAndDomains_2 :
    (let s : State := wAvw; s.pwr.avsWait = true ∧ s.boot.inReset = false ∧ s.on R.PWR_STAT_AVS_FLT = false ∧ s.pwr.avsTry < 3) ∧
    (let s : State := wAvw3; s.pwr.avsWait = true ∧ s.boot.inReset = false ∧ s.on R.PWR_STAT_AVS_FLT = false ∧ 3 ≤ s.pwr.avsTry) ∧
    (let s : State := wAvw; s.pwr.avsWait = true ∧ s.boot.inReset = false ∧ s.on R.PWR_STAT_AVS_FLT = false) ∧
    (let s : State := wAvs; let slack : Nat := 1; s.pwr.stretch = false ∧ s.boot.inReset = false ∧ slack < s.rd R.PWR_CPM_SLACK_EMG) ∧
    (let s : State := wAvz; let slack : Nat := 5; s.rd R.PWR_CPM_SLACK_LO ≤ slack) := by
  decide +kernel

/-- The hypotheses of ClocksLoopsAndDomains can be met. -/
theorem test_wit_ClocksLoopsAndDomains_3 :
    (let s : State := wFsl; let core : Nat := 3; core < 4 ∧ s.boot.inReset = false ∧ s.pdOn (24 + core) = true) ∧
    (let s : State := wFsl; s.boot.inReset = false) ∧
    (let s : State := wEq; let port : Nat := 1; let marg : Nat := 200; port < 2 ∧ s.on R.PWR_LOOP_EQ_EN = true ∧ s.rd R.HP_STAT_LINK port = 2 ∧ 5 ≤ s.rd R.HP_STAT_RATE port ∧ s.rd R.PWR_EQ_EQ_MARG port ≤ marg) ∧
    (let s : State := wEq; let port : Nat := 1; let marg : Nat := 3; port < 2 ∧ s.on R.PWR_LOOP_EQ_EN = true ∧ s.rd R.HP_STAT_LINK port = 2 ∧ 5 ≤ s.rd R.HP_STAT_RATE port ∧ marg < s.rd R.PWR_EQ_EQ_MARG port ∧ 2 ≤ smGet 0 s.pwr.eqLow port ∧ (smGet 0 s.pwr.eqAt port = 0 ∨ smGet 0 s.pwr.eqAt port - 1 + 1966080 ≤ s.tick)) ∧
    (let s : State := wPd; let pd : Nat := 31; s.pdOn pd = true ∧ s.pdIdle pd = true ∧ s.ap R.PWR_IDLE_IDLE pd ≠ 0 ∧ s.pwr.saveOn = false ∧ s.boot.inReset = false) := by
  decide +kernel

/-- The hypotheses of ClocksLoopsAndDomains can be met. -/
theorem test_wit_ClocksLoopsAndDomains_4 :
    (let s : State := wPdO; let pd : Nat := 29; s.boot.inReset = false ∧ [19, 20, 29, 30, 31].contains pd = true ∧ s.pdOn pd = false) := by
  decide +kernel

end Sys2Proof.Tests
end

