-- ==== Sys2Proof/WellFormed.lean ====
section
/-!
DEFINITION. Which command terms are well formed: every operand lies in the range that the manual gives it. The meanings are total
all the same; a term that is not well formed stands for no request, event or register write of the hardware.
-/
namespace Sys2Proof

/-- A host port: 0 for A, 1 for B. -/
def okPort (x : Nat) : Bool :=
  decide (x < 2)

/-- A two-wire port: TWI0 or TWI1 (R399). -/
def okTwi (x : Nat) : Bool :=
  decide (x < 2)

/-- A logical device of a port (R74). -/
def okLd (x : Nat) : Bool :=
  decide (x < 16)

/-- A source ID of 12 bits (R90). -/
def okSid (x : Nat) : Bool :=
  decide (x < 4096)

/-- A number of one bit: a bank of the code flash, a ring, an area of it, a power event. -/
def okBit (x : Nat) : Bool :=
  decide (x < 2)

/-- A number of 16 bits. -/
def okHalf (x : Nat) : Bool :=
  decide (x < 65536)

/-- A number of 8 bits. -/
def okByte (x : Nat) : Bool :=
  decide (x < 256)

/-- A number of 32 bits. -/
def okWord (x : Nat) : Bool :=
  decide (x < 2 ^ 32)

/-- A number of 64 bits: a host address, a time, the byte enables of a line. -/
def okLong (x : Nat) : Bool :=
  decide (x < 2 ^ 64)

/-- The address of a line of 64 B (R76). -/
def okLine (x : Nat) : Bool :=
  decide (x % 64 = 0) && decide (x < 2 ^ 52)

/-- A 32-bit offset in the management space or the code flash; one past the end names no register and no word. -/
def okAddr (x : Nat) : Bool :=
  decide (x < 2 ^ 32)

/-- A number of two bits: an event log, a core, a LOQ issue slot, a polynomial, an area of the recorder. -/
def okLog (x : Nat) : Bool :=
  decide (x < 4)

/-- A number of three bits: a general check engine, a DRAM channel, a transfer outcome. -/
def okEight (x : Nat) : Bool :=
  decide (x < 8)

/-- A subchannel of DRAM, a block group, a group of dies, a consumer of buffers. -/
def okWay (x : Nat) : Bool :=
  decide (x < 16)

/-- A flash channel or a power rail. -/
def okChan (x : Nat) : Bool :=
  decide (x < 32)

/-- A die of a channel (R241). -/
def okDie (x : Nat) : Bool :=
  decide (x < 128)

/-- A power domain, a self-test slice or a semaphore. -/
def okUnit (x : Nat) : Bool :=
  decide (x < 64)

/-- A function of the NVMe subsystem: two physical ones and the virtual ones of both ports. -/
def okFn (x : Nat) : Bool :=
  decide (x < 130)

/-- A host page, a slot or a unit of a namespace. -/
def okPage (x : Nat) : Bool :=
  decide (x < 2 ^ 40)

/-- The data of one line. -/
def okLine64 (x : List Byte) : Bool :=
  decide (x.length = 64)

/-- Data of a transfer. -/
def okBytes (x : List Byte) : Bool :=
  decide (x.length ≤ 2 ^ 24)

/-- A list of words. -/
def okWords (x : List Nat) : Bool :=
  x.all (fun v => decide (v < 2 ^ 32))

/-- A list of numbers of 64 bits. -/
def okLongs (x : List Nat) : Bool :=
  x.all (fun v => decide (v < 2 ^ 64))

/-- The path of a register access. -/
def okPath (x : Path) : Bool :=
  match x with
  | .host port ld => decide (port < 2) && decide (ld < 16)
  | .twi => true
  | .core n => decide (n < 4)

/-- What training and discovery find: at most eight DRAM channels, 32 ranks and 32 channels of 128 dies. -/
def okFound (x : HwFound) : Bool :=
  decide (x.dramPop < 256) && decide (x.x4 < 256) && decide (x.refSb < 256) && decide (x.dramRate.length ≤ 8) &&
  decide (x.rankBad.all (fun r => decide (r < 32))) && decide (x.dies.all (fun d => decide (d < 4096))) &&
  decide (x.extra.all (fun d => decide (d < 4096))) && x.dieRate.all (fun e => decide (e.1 < 4096)) &&
  x.xtDesc.all (fun e => decide (e.1 < 4096) && decide (e.2.length ≤ 3)) && x.unread.all (fun a => decide (a < 2 ^ 40)) && decide (x.xtTrain.length ≤ 32)

/-- The operands of a command lie in their ranges. [DESIGN CHOICE, safe: log 4] -/
def wellFormed (i : Instr) : Bool :=
  match i with
  | .memRd port ld sid tag hpa => okPort port && okLd ld && okSid sid && okHalf tag && okLine hpa
  | .memWr port ld sid tag hpa data _ => okPort port && okLd ld && okSid sid && okHalf tag && okLine hpa && okLine64 data
  | .memWrPtl port ld sid tag hpa data be _ => okPort port && okLd ld && okSid sid && okHalf tag && okLine hpa && okLine64 data && okLong be
  | .memInv port ld sid tag hpa => okPort port && okLd ld && okSid sid && okHalf tag && okLine hpa
  | .memSpecRd port => okPort port
  | .holdLimitExpiry port => okPort port
  | .rdTmoExpiry port => okPort port
  | .urgencyRecompute port => okPort port
  | .creditReturnAck port req rwd => okPort port && okWord req && okWord rwd
  | .perstAssert port => okPort port
  | .perstRelease port => okPort port
  | .linkDown port => okPort port
  | .linkL0 port offer rate width _ => okPort port && okByte offer && okByte rate && okByte width
  | .retrain path port => okPath path && okPort port
  | .cxlReset port ld => okPort port && okLd ld
  | .gpfPhase1 port => okPort port
  | .gpfPhase2 port => okPort port
  | .getEventRecords port ld log => okPort port && okLd ld && okLog log
  | .clearEventRecords port ld log handles => okPort port && okLd ld && okLog log && okWords handles
  | .getEventInterruptPolicy port ld => okPort port && okLd ld
  | .setEventInterruptPolicy port ld policy => okPort port && okLd ld && okWords policy
  | .getFwInfo port ld => okPort port && okLd ld
  | .transferFw port ld action slot off data => okPort port && okLd ld && okHalf action && okByte slot && okLong off && okBytes data
  | .activateFw port ld action slot => okPort port && okLd ld && okHalf action && okByte slot
  | .getTimestamp port ld => okPort port && okLd ld
  | .setTimestamp port ld time => okPort port && okLd ld && okLong time
  | .getSupportedLogs port ld => okPort port && okLd ld
  | .getLog port ld _ off len => okPort port && okLd ld && okLong off && okLong len
  | .identifyMemoryDevice port ld => okPort port && okLd ld
  | .getHealthInfo port ld => okPort port && okLd ld
  | .getAlertConfiguration port ld => okPort port && okLd ld
  | .setAlertConfiguration port ld config => okPort port && okLd ld && okWords config
  | .getShutdownState port ld => okPort port && okLd ld
  | .setShutdownState port ld value => okPort port && okLd ld && okByte value
  | .getPoisonList port ld dpa len => okPort port && okLd ld && okLong dpa && okLong len
  | .injectPoison port ld dpa => okPort port && okLd ld && okLong dpa
  | .clearPoison port ld dpa data => okPort port && okLd ld && okLong dpa && okLine64 data
  | .sanitize port ld => okPort port && okLd ld
  | .secureErase port ld => okPort port && okLd ld
  | .getDcConfig port ld => okPort port && okLd ld
  | .getDcExtentList port ld first count => okPort port && okLd ld && okLong first && okLong count
  | .addDcResponse port ld region start blocks => okPort port && okLd ld && okWord region && okLong start && okLong blocks
  | .dcAddProceed port ld => okPort port && okLd ld
  | .releaseDc port ld start blocks => okPort port && okLd ld && okLong start && okLong blocks
  | .extentReleaseProceed port ld => okPort port && okLd ld
  | .getPersistenceStatus port ld => okPort port && okLd ld
  | .getLostRanges port ld first count => okPort port && okLd ld && okLong first && okLong count
  | .getRecorderRecords port ld area first count => okPort port && okLd ld && okLog area && okLong first && okLong count
  | .issueLongOperation port ld op args => okPort port && okLd ld && okHalf op && okWords args
  | .readCompletions port ld count => okPort port && okLd ld && okLong count
  | .writeLoadBuffer port ld off words => okPort port && okLd ld && okLong off && okWords words
  | .ovlSwitch slot index => okLog slot && okHalf index
  | .ergLoad slot len => okLog slot && okLong len
  | .calWrite slot key words => okLog slot && okHalf key && okWord words
  | .calFactory slot len => okLog slot && okLong len
  | .rankMigrate slot chan rank => okLog slot && okEight chan && okLog rank
  | .capAudit slot => okLog slot
  | .bookAudit slot arg => okLog slot && okHalf arg
  | .fwVerify slot fw => okLog slot && okHalf fw
  | .fwConfirm slot arg => okLog slot && okHalf arg
  | .cflMaintReerase slot => okLog slot
  | .cflMaintCompact slot => okLog slot
  | .memSanitize slot => okLog slot
  | .loqCompletionPost ring => okBit ring
  | .loqRel path handle => okPath path && okHalf handle
  | .loqRptrWrite path ring head => okPath path && okBit ring && okHalf head
  | .loqLbdata path word => okPath path && okWord word
  | .peakClr path => okPath path
  | .recomp path => okPath path
  | .gapClr path => okPath path
  | .estNow path => okPath path
  | .lrnNow path => okPath path
  | .off path => okPath path
  | .force path => okPath path
  | .seqCtlFltClr path => okPath path
  | .twiCtlFltClr path port => okPath path && okTwi port
  | .warm path => okPath path
  | .crcClaim path eng => okPath path && okEight eng
  | .crcRelease path eng => okPath path && okEight eng
  | .init path eng poly => okPath path && okEight eng && okLog poly
  | .dinB path eng data => okPath path && okEight eng && okByte data
  | .dinH path eng data => okPath path && okEight eng && okHalf data
  | .dinW path eng data => okPath path && okEight eng && okWord data
  | .cflClaim path bank => okPath path && okBit bank
  | .cflRelease path bank => okPath path && okBit bank
  | .wpLock path => okPath path
  | .push path => okPath path
  | .cflCrheadWrite path head => okPath path && okHalf head
  | .evrSelWrite path area index => okPath path && okLog area && okHalf index
  | .adv path => okPath path
  | .fwuAbort path => okPath path
  | .fwuDdataWrite path word => okPath path && okWord word
  | .mgmtRegisterWrite path bytes addr value => okPath path && okByte bytes && okAddr addr && okLong value
  | .rwsApplyBoundary _ elem => okWord elem
  | .dramCommandSlot way blocked idleRows => okWay way && okWords blocked && okWords idleRows
  | .refreshDue way ba postponed => okWay way && okLog ba && okWord postponed
  | .refreshWindowEnd way => okWay way
  | .dramReadData id _ => okLong id
  | .migrationUnitDone chan unit => okEight chan && okPage unit
  | .powerDownEntry way => okWay way
  | .spdThermalRead hot => okWords hot
  | .dqsInterval chan rank drift => okEight chan && okLog rank && okByte drift
  | .zqCalibration chan rank => okEight chan && okLog rank
  | .readCentering chan rank _ => okEight chan && okLog rank
  | .driftReadDone page => okPage page
  | .confirmation page => okPage page
  | .copyProgramFailure page => okPage page
  | .saveProgramDone slot _ => okHalf slot
  | .bulkRestoreReadDone page _ => okPage page
  | .onTouchFetchDone page _ _ => okPage page
  | .dieDispatch chan die id busy => okChan chan && okDie die && okLong id && okWords busy
  | .flashReadDone id => okLong id
  | .decodeDone id _ _ bits iters _ _ => okLong id && okHalf bits && okByte iters
  | .flashProgramDone id _ time => okLong id && okLong time
  | .flashEraseDone id _ time => okLong id && okLong time
  | .suspend chan die id ran => okChan chan && okDie die && okLong id && okHalf ran
  | .resume chan die => okChan chan && okDie die
  | .dieTimeout chan die _ => okChan chan && okDie die
  | .probeDue chan die group => okChan chan && okDie die && okWay group
  | .probeDone chan die group _ c0 cm cp => okChan chan && okDie die && okWay group && okHalf c0 && okHalf cm && okHalf cp
  | .eyeCheck chan _ _ => okChan chan
  | .groupPowerDown grp => okWay grp
  | .groupWake grp => okWay grp
  | .relocationMove src => okLong src
  | .blockGroupAge sb => okWord sb
  | .foldSwap unit => okPage unit
  | .destageConfirm stg => okWord stg
  | .sqDoorbell fn sq tail => okFn fn && okHalf sq && okHalf tail
  | .commandFetch opc cid nsid slba nlb => okByte opc && okHalf cid && okLong nsid && okLong slba && okWord nlb
  | .deleteIoSubmissionQueue tag qid => okHalf tag && okHalf qid
  | .createIoSubmissionQueue tag qid size cqid prio _ => okHalf tag && okHalf qid && okLong size && okHalf cqid && okByte prio
  | .deleteIoCompletionQueue tag qid => okHalf tag && okHalf qid
  | .createIoCompletionQueue tag qid size vec _ _ => okHalf tag && okHalf qid && okLong size && okHalf vec
  | .getLogPage tag lid => okHalf tag && okByte lid
  | .identify tag cns => okHalf tag && okByte cns
  | .abort tag sq cid => okHalf tag && okHalf sq && okHalf cid
  | .setFeatures tag fid value _ => okHalf tag && okByte fid && okWord value
  | .powerManagement tag ps => okHalf tag && okByte ps
  | .configuredWriteMode tag value => okHalf tag && okWord value
  | .lossAcknowledge tag => okHalf tag
  | .getFeatures tag fid => okHalf tag && okByte fid
  | .asynchronousEventRequest tag => okHalf tag
  | .aenCoalesceEnd fn => okFn fn
  | .namespaceManagement tag _ size lbaf _ pit _ => okHalf tag && okLong size && okByte lbaf && okByte pit
  | .namespaceAttachment tag _ ctrls => okHalf tag && okWords ctrls
  | .firmwareCommit tag action slot => okHalf tag && okHalf action && okByte slot
  | .firmwareImageDownload tag off data => okHalf tag && okLong off && okBytes data
  | .formatNvm tag lbaf _ pit _ ses => okHalf tag && okByte lbaf && okByte pit && okByte ses
  | .sanitizeBlockErase tag action => okHalf tag && okHalf action
  | .flush tag => okHalf tag
  | .write tag data md prot _ => okHalf tag && okBytes data && okBytes md && okLongs prot
  | .read tag prot => okHalf tag && okLongs prot
  | .writeUncorrectable tag => okHalf tag
  | .compare tag data md prot => okHalf tag && okBytes data && okBytes md && okLongs prot
  | .writeZeroes tag => okHalf tag
  | .datasetManagement tag _ ranges => okHalf tag && okLongs ranges
  | .verify tag prot => okHalf tag && okLongs prot
  | .controllerReset fn => okFn fn
  | .shutdown fn => okFn fn
  | .flr port ld fn => okPort port && okLd ld && okFn fn
  | .ps3EntryDone fn => okFn fn
  | .ps3EntryTimeout fn => okFn fn
  | .bufferRequest who op => okHalf who && okHalf op
  | .bufferFree buf who op => okWord buf && okHalf who && okHalf op
  | .handOff buf op new => okWord buf && okHalf op && okWord new
  | .semaphoreAcquire sem cores => okUnit sem && okWords cores
  | .semaphoreRelease sem core => okUnit sem && okLog core
  | .gaugeSample v t id ser _ _ => okLong v && okLong t && okByte id && okLong ser
  | .auditLoadSample v => okLong v
  | .hibernationSample v t id ser _ _ => okLong v && okLong t && okByte id && okLong ser
  | .isnsWake v t id ser _ _ => okLong v && okLong t && okByte id && okLong ser
  | .railEnable rail => okChan rail
  | .pgTimeout rail => okChan rail
  | .railDisable rail => okChan rail
  | .offWaitExpiry rail => okChan rail
  | .faultScan readings pg _ => okWords readings && okWord pg
  | .telemetryAverage avgs => okWords avgs
  | .alertAck mask _ => okHalf mask
  | .recSel area index _ => okLog area && okHalf index
  | .mctp src tag _ _ data _ => okHalf src && okHalf tag && okBytes data
  | .alertResponse _ => true
  | .mctpAssemblyTimeout src tag => okHalf src && okHalf tag
  | .setEndpointId eid => okHalf eid
  | .getMctpVersionSupport mtype => okByte mtype
  | .getVendorDefinedMessageSupport set => okHalf set
  | .readNvmeMiDataStructure dtype port ctrl => okByte dtype && okPort port && okHalf ctrl
  | .nvmSubsystemHealthStatusPoll _ => true
  | .controllerHealthStatusPoll ctrl count => okHalf ctrl && okLong count
  | .configurationSet id value => okByte id && okWord value
  | .configurationGet id => okByte id
  | .nvmeAdminTunnel ctrl opc nsid arg => okHalf ctrl && okByte opc && okLong nsid && okHalf arg
  | .registerRead addr count => okAddr addr && okLong count
  | .registerWrite addr value => okAddr addr && okWord value
  | .longOperationIssue op args => okHalf op && okWords args
  | .completionRingRead count => okLong count
  | .twi1Transfer port addr seg outcome losses _ => okTwi port && okByte addr && okWord seg && okByte outcome && okWord losses
  | .addressRetry port _ => okTwi port
  | .targetStretchTimeout port => okTwi port
  | .targetSclTimeout port => okTwi port
  | .busClearAttempt port _ => okTwi port
  | .clearWaitExpiry port => okTwi port
  | .program bank data => okBit bank && okBytes data
  | .cflProgramDone bank pulses fail => okBit bank && okWord pulses && okWord fail
  | .erase bank => okBit bank
  | .cflEraseDone bank pulses _ => okBit bank && okWord pulses
  | .bankRead core addr => okLog core && okWord addr
  | .coldResetRelease pins => okWord pins
  | .sliceDone slice _ sig us pats => okUnit slice && okWord sig && okWord us && okHalf pats
  | .sliceBudgetExpiry slice sig pats => okUnit slice && okWord sig && okHalf pats
  | .coreCheckDone core _ => okLog core
  | .bootAreaVerify _ _ => true
  | .hardwareInitDone found => okFound found
  | .hostPortReady port => okPort port
  | .watchdogExpiry core => okLog core
  | .coreRestart core => okLog core
  | .recordCommit _ => true
  | .prefetchDone _ => true
  | .firmwareBlockReceived block => okWord block
  | .avsLoopRun slack => okWord slack
  | .avsTransactionDone _ volts => okWord volts
  | .cpmEmergency slack => okWord slack
  | .stretchEnd slack => okWord slack
  | .fsWindowEnd core busy => okLog core && okWord busy
  | .thermalRead temps => okWords temps
  | .eqMeasurement port marg rate width => okPort port && okWord marg && okByte rate && okByte width
  | .domainIdle pd => okUnit pd
  | .domainWake pd => okUnit pd
  | .hdmDecoderCommit port ld dec _ base size ways gran skip _ => okPort port && okLd ld && okByte dec && okLong base && okLong size && okLong ways && okLong gran && okLong skip
  | .caParityError chan rank _ => okEight chan && okLog rank
  | .qosTokenRefill ent ns => okWord ent && okWord ns
  | .aspmL1Entry port _ => okPort port
  | .configurationRequest port fn => okPort port && okFn fn
  | .controllerEnable fn _ => okFn fn
  | .cqHeadDoorbell fn cq head => okFn fn && okHalf cq && okHalf head
  | .heldStoreAdmit => true
  | .telemetryWindowEnd => true
  | .ovlSwitchApplied => true
  | .volatileLeaveReady => true
  | .warmResetComplete => true
  | .scrubPeriodEnd => true
  | .driftTake => true
  | .epochBoundary => true
  | .segmentTimeout => true
  | .rsaveRecompute => true
  | .pacingTick => true
  | .snapshotComplete => true
  | .ledgerPeriodicRecompute => true
  | .ledgerRecomputeDone => true
  | .countdownTick => true
  | .pwrFailNLow => true
  | .inputRailCollapse => true
  | .manifestIssued => true
  | .savePageIssue => true
  | .saveRecordConfirmed => true
  | .validMarkConfirmed => true
  | .trailingDone => true
  | .energyExhausted => true
  | .restoreMapLoadDone => true
  | .lossComputationDone => true
  | .memoryReady => true
  | .bulkRestoreComplete => true
  | .lossRecordRewrite => true
  | .persistenceReturn => true
  | .checkpointStart => true
  | .checkpointComplete => true
  | .gcStart => true
  | .wearLevellingStart => true
  | .mediaScan => true
  | .foldStart => true
  | .healthRecord => true
  | .rangeLockGrant => true
  | .stagingPageGrant => true
  | .activationWaitExpiry => true
  | .cxlHoldEnd => true
  | .estimate => true
  | .faultCauseCleared => true
  | .socRepStep => true
  | .auditStart => true
  | .auditRestReached => true
  | .learnedValueWrite => true
  | .mainPowerOn => true
  | .mainPowerLoss => true
  | .alwaysOnReset => true
  | .phaseEnd => true
  | .downSequenceEnd => true
  | .tMinOffExpiry => true
  | .fltHoldExpiry => true
  | .sequencerSupplyCollapse => true
  | .chipRstNAssert => true
  | .ident => true
  | .status => true
  | .recRead => true
  | .getEndpointId => true
  | .getEndpointUuid => true
  | .getMessageTypeSupport => true
  | .stretchLimit => true
  | .fastPathWake => true
  | .select => true
  | .odberLoad => true
  | .ergValidation => true
  | .packWaitEnd => true
  | .packWaitExpiry => true
  | .bootEnd => true
  | .eventRaise => true
  | .rateWindowEnd => true
  | .downloadIdleTimeout => true
  | .crystalStable => true
  | .crystalStop => true
  | .pwrFailNRelease => true
  | .seqFltNRelease => true
  | .vbatAonReturn => true

end Sys2Proof
end

