-- ==== Sys2Proof/Tests/Slice0.lean ====
section
/-!
SUPPORT. The model's own tests: a term that each check of well-formedness refuses, the worked examples of the manual, and a state
and operands that meet the hypotheses of each headline statement.
-/
set_option Elab.async false

namespace Sys2Proof.Tests
open Sys2Proof Sys2Proof.Machine

/-! ### Terms that are not well formed, one for each check -/

/-- A line of 64 zero bytes. -/
def tLine : List Byte := List.replicate 64 0

theorem test_wf_accepts : wellFormed (.memWr 1 15 4095 65535 64 tLine true) = true ∧ wellFormed (.hardwareInitDone wHw) = true := by
  decide +kernel
theorem test_wf_okPort : wellFormed (.memRd 2 0 0 0 0) = false := by decide
theorem test_wf_okTwi : wellFormed (.twiCtlFltClr .twi 2) = false := by decide
theorem test_wf_okLd : wellFormed (.memRd 0 16 0 0 0) = false := by decide
theorem test_wf_okSid : wellFormed (.memRd 0 0 4096 0 0) = false := by decide
theorem test_wf_okHalf : wellFormed (.memRd 0 0 0 65536 0) = false := by decide
theorem test_wf_okLine : wellFormed (.memRd 0 0 0 0 32) = false := by decide
theorem test_wf_okLine64 : wellFormed (.memWr 0 0 0 0 0 [] false) = false := by decide
theorem test_wf_okLong : wellFormed (.memWrPtl 0 0 0 0 0 tLine (2 ^ 64) false) = false := by decide +kernel
theorem test_wf_okWord : wellFormed (.creditReturnAck 0 (2 ^ 32) 0) = false := by decide
theorem test_wf_okByte : wellFormed (.linkL0 0 256 0 0 false) = false := by decide
theorem test_wf_okPath : wellFormed (.retrain (.core 4) 0) = false := by decide
theorem test_wf_okLog : wellFormed (.getEventRecords 0 0 4) = false := by decide
theorem test_wf_okWords : wellFormed (.clearEventRecords 0 0 0 [2 ^ 32]) = false := by decide
theorem test_wf_okBytes : okBytes [] = true ∧ (∀ x : List Byte, 2 ^ 24 < x.length → okBytes x = false) :=
  ⟨by decide, fun x h => by simp [okBytes]; omega⟩
theorem test_wf_okEight : wellFormed (.rankMigrate 0 8 0) = false := by decide
theorem test_wf_okBit : wellFormed (.loqCompletionPost 2) = false := by decide
theorem test_wf_okAddr : wellFormed (.mgmtRegisterWrite .twi 4 (2 ^ 32) 0) = false := by decide
theorem test_wf_okWay : wellFormed (.dramCommandSlot 16 [] []) = false := by decide
theorem test_wf_okPage : wellFormed (.driftReadDone (2 ^ 40)) = false := by decide
theorem test_wf_okChan : wellFormed (.dieDispatch 32 0 0 []) = false := by decide
theorem test_wf_okDie : wellFormed (.dieDispatch 0 128 0 []) = false := by decide
theorem test_wf_okFn : wellFormed (.sqDoorbell 130 0 0) = false := by decide
theorem test_wf_okLongs : wellFormed (.write 0 [] [] [2 ^ 64] false) = false := by decide
theorem test_wf_okUnit : wellFormed (.semaphoreAcquire 64 []) = false := by decide
theorem test_wf_okFound : wellFormed (.hardwareInitDone { wHw with dramPop := 256 }) = false := by decide +kernel

/-! ### The check values of Table 12-1 and the example of R362 -/

/-- The nine bytes "123456789". -/
def tNine : List Nat := [0x31, 0x32, 0x33, 0x34, 0x35, 0x36, 0x37, 0x38, 0x39]

/-- The result of a polynomial code over the nine bytes. -/
def tCheck (p : Nat) : Nat := geResult p (tNine.foldl (geByte p) (geInit p))

/-- The check values of codes 0 to 2. The table's value for code 3 does not follow from its parameters (a log entry), which stand. -/
theorem test_check_values : tCheck 0 = 0xD0DB ∧ tCheck 1 = 0xE3069283 ∧ tCheck 2 = 0xAE8B14860A799888 ∧
    crc32c tNine = 0xE3069283 := by decide +kernel

/-- An engine that a core owns, with POLY 1 and INIT done (R360). -/
def tGe : State :=
  ((wCore.wr R.CRC_GE_OWN_OWNER 1 6).wr R.CRC_GE_CTL_POLY 1 6).wr R.CRC_GE_VAL_VAL 0xFFFFFFFF 6

/-- The chapter's example: two words and a byte, with LEN 9 and the check value as the result. -/
theorem test_example_engine : (let s := (((tGe.doDinW (.core 0) 6 0x34333231).doDinW (.core 0) 6 0x38373635).doDinB (.core 0) 6 0x39)
    s.rd R.CRC_GE_LEN_LEN 6 = 9 ∧ geResult 1 (s.rd R.CRC_GE_VAL_VAL 6) = 0xE3069283) := by decide +kernel

/-! ### The ledger's example (R185, R188, R170) -/

theorem test_example_rate : ratedRate 120000 = 228881 := by decide +kernel
theorem test_example_cost : pageCost 380000 228881 = 872 ∧ pageCost 380000 206000 = 969 ∧ fixEnergy 380000 559 = 6639 := by
  decide +kernel
theorem test_example_guarantee : guarantee 4200000 1000000 6639 872 228881 1000000000 = 240000000 ∧
    guarantee 3667772 1000000 6639 872 228881 1000000000 = 200000000 ∧
    guarantee 4200000 1000000 6639 969 206000 1000000000 = 215975168 ∧
    guarantee 7372800 1000000 6639 872 228881 1000000000 = 478454784 := by decide +kernel
theorem test_example_pace : pace 240000000 150000000 false 50 50 1024 16 35700 0 =
    { u := 65536, f := 16384, i := 35700, en := 8192 } := by decide +kernel

/-! ### The example of the address decode (R111 to R114, Table 4-3) -/

/-- The masks of Table 4-3 and the geometry of the example. -/
def tDec : State :=
  let s := (List.range 4).foldl (fun (s : State) k =>
    (s.wr R.DRM_CHM_LO_MASK_LO (0x10101100 * 2 ^ k / 64) k).wr R.DRM_CHM_HI_PIVOT (8 + k) k) w0
  let s := (List.range 5).foldl (fun (s : State) k =>
    (s.wr R.DRM_BKM_LO_MASK_LO (0x842000 * 2 ^ k / 64) k).put R.DRM_BKM_HI_EN true k) s
  (((s.wr R.DRM_STAT_WAYS 4).wr R.DCH_GEO_COLW 7 5).wr R.DCH_GEO_CIDW 0 5).wr R.DCH_GEO_ROWW 16 5

/-- A = 0x12_3456_7A40 lies on way 11, at S = 0x1_2345_6740, in bank group 7 (28 with bank 0), row 0x48D1, burst column 29, rank 0. -/
theorem test_example_decode : tDec.wayOf 0x1234567A40 = 11 ∧ tDec.subAddr 0x1234567A40 = 0x123456740 ∧
    tDec.addrOf 11 0x123456740 = 0x1234567A40 ∧
    (let x := tDec.locOf 0x1234567A40; x.bank = 28 ∧ x.row = 0x48D1 ∧ x.col = 29 ∧ x.drank = 0) := by decide +kernel

/-! ### The example of R92 and of Table 20-1's urgencies -/

theorem test_example_urgency : State.reset.urgency 1 230 = 4 ∧ State.reset.urgency 1 350 = 7 ∧ State.reset.urgency 1 9000 = 7 := by
  decide +kernel

/-! ### Words that spell no command -/

/-- The table gives no row a bit pattern: no word spells a command. -/
theorem test_decode_none (n w : Nat) : decodeTableWord n w = none := rfl

/-! ### States and operands that meet the hypotheses of the headline statements -/

/-- A block with one command in each of its two queues. -/
def tTwo : State := { State.reset with pending := [.pacingTick], resumed := [.pacingTick] }

theorem test_wit_StepRunsFrontCommand : ∃ (c : Instr) (q : List Instr), tTwo.pending = c :: q := ⟨_, _, rfl⟩

theorem test_wit_StepOnEmptyQueue_tick : ∃ s : State, s.pending = [] ∧ s.resumed = [] ∧ (s.seq.main = true ∨ s.seq.vbat = true) :=
  ⟨{ State.reset with seq := { seqInit with vbat := true } }, rfl, rfl, .inr rfl⟩
theorem test_wit_StepOnEmptyQueue_off : ∃ s : State, s.pending = [] ∧ s.resumed = [] ∧ s.seq.main = false ∧ s.seq.vbat = false :=
  ⟨State.reset, rfl, rfl, rfl, rfl⟩
theorem test_wit_StepOnEmptyQueue_resumed : ∃ (s : State) (c : Instr) (q : List Instr), s.pending = [] ∧ s.resumed = c :: q :=
  ⟨{ tTwo with pending := [] }, _, _, rfl, rfl⟩

theorem test_wit_StatusFollowsEveryStep : ∃ s t : State, step s = .next t := ⟨State.reset, _, rfl⟩

/-- The masks of Table 4-3 are as R112 demands; the operands are at the ends of their ranges. -/
theorem test_wit_AddressDecode : tDec.masksOk ∧ (2 ^ 48 - 1 : Nat) < 2 ^ 48 ∧ tDec.rd R.DRM_STAT_WAYS = 4 ∧ 15 < 2 ^ tDec.rd R.DRM_STAT_WAYS ∧
    2 ^ 44 - 1 < 2 ^ (48 - tDec.rd R.DRM_STAT_WAYS) := by
  unfold State.masksOk
  decide +kernel

/-- Two owned buffers. -/
def tBuf : State := { w0 with buf := { bufInit with own := [(0, 65536 * 2 + 7), (6143, 65536 * 9 + 65535)] } }

/-- The owner's free, a double free, a free by another tag and one by another consumer. -/
theorem test_wit_BufferFreeCases :
    (tBuf.buf.own.find? (fun x => decide (x.1 = 6143)) = some (6143, 65536 * 9 + 65535) ∧ 65536 * 9 + 65535 = 65536 * 9 + 65535 % 65536) ∧
    tBuf.buf.own.find? (fun x => decide (x.1 = 1)) = none ∧
    (tBuf.buf.own.find? (fun x => decide (x.1 = 0)) = some (0, 65536 * 2 + 7) ∧ 65536 * 2 + 7 ≠ 65536 * 2 + 8 % 65536 ∧
      65536 * 2 + 7 ≠ 65536 * 3 + 7 % 65536) := by decide +kernel

theorem test_wit_EngineTakesBytesInOrder : ∀ off ∈ [0x08, 0x0C, 0x10],
    tGe.pathUp (.core 0) = true ∧ tGe.mayWrite (.core 0) (geReg 6 off) = true ∧ tGe.rd R.CRC_GE_OWN_OWNER 6 = geWho (.core 0) := by
  decide +kernel

theorem test_wit_GuaranteeIsBackedByEnergy : 0 < pageCost 380000 228881 ∧ pageCost 380000 0 ≠ 0 := by decide +kernel

/-- Tracking runs with one held page that is dirty. -/
def tHeld : State :=
  let s := (w0.put R.TRK_STAT_RUN true).wr R.TRK_HMEM_HELD_MEM 1
  { s with trk := { s.trk with dirty := [(5, true)] } }

theorem test_wit_HeldCountFollowsMembership : tHeld.on R.TRK_STAT_RUN = true ∧ tHeld.pageOk 5 ∧ (tHeld.inHeld 5 = true → 1 ≤ tHeld.rd R.TRK_HMEM_HELD_MEM) ∧
    tHeld.rd R.TRK_HMEM_HELD_MEM + 1 < 2 ^ 32 := by
  refine ⟨by decide +kernel, ?_, by decide +kernel, by decide +kernel⟩
  intro c h
  exact absurd h (by simp [State.copyAt, show tHeld.trk.copy = [] from rfl])

/-- A write of a line at address 64: bytes 63 and 128 lie outside it, 0 and 63 are its first and last byte, and line 1 is its own. -/
theorem test_wit_LandedWrite : (63 : Nat) < 64 ∧ 64 + 64 ≤ 128 ∧ 64 + tLine.length ≤ 128 ∧ 63 < tLine.length ∧ 63 / 64 ≠ 64 / 64 ∧ 128 / 64 ≠ 64 / 64 := by
  decide

/-- A program of two words at word 9: word 1 of the data, and the words beside it. -/
theorem test_wit_CodeFlashProgram : 1 < ([0, 1] : List Nat).length ∧ 8 < 9 ∧ 9 + ([0, 1] : List Nat).length ≤ 11 := by decide

end Sys2Proof.Tests
end

section
/-!
PROOFS. The statements of the scope: what a step does with the queue, that every command answers, the guarantee's
rounding, and the commands of register access, of the DRAM channels and of Drift.
-/
namespace Sys2Proof.Machine

/-! ### Commands and the queue -/

/-- Every arm of `exec` is an effect followed by the settling of the state: none faults, none is refused (R21). -/
theorem exec_eq_ok (c : Instr) (s : State) : ∃ f : State → State, exec c s = ok s f := by
  unfold exec
  split <;> exact ⟨_, rfl⟩

/-- What a command answers, from what its effect gives on a state without responses. -/
theorem exec_eq_after {c : Instr} {s t : State} (f : State → State) (hc : exec c s = ok s f) (ht : f s.fresh = t) :
    exec c s = .next (s.after t) := by rw [hc, ok_eq, ht]

theorem step_of_pending {s : State} {c : Instr} {q : List Instr} (h : s.pending = c :: q) :
    step s = exec c { s with pending := q } := by
  simp [step, h]

theorem step_of_resumed {s : State} {c : Instr} {q : List Instr} (hp : s.pending = []) (h : s.resumed = c :: q) :
    step s = exec c { s with resumed := q } := by
  simp [step, hp, h]

theorem step_of_idle {s : State} (hp : s.pending = []) (hr : s.resumed = []) : step s = .next (s.after s.fresh.idle) := by
  simp [step, hp, hr, idleStep, ok_eq]

theorem State.tickOn_supplied (s : State) (h : s.seq.main = true ∨ s.seq.vbat = true) :
    s.tickOn = s.wr R.PWR_TICK_TICK ((s.tick + 1) % 2 ^ 48) := by
  simp [State.tickOn, h]

theorem State.tickOn_unsupplied (s : State) (hm : s.seq.main = false) (hv : s.seq.vbat = false) : s.tickOn = s := by
  simp [State.tickOn, hm, hv]

/-- Settles O43: the queue's front and rest are what `step` matches on. -/
theorem stepRunsFrontCommand : Obligations.StepRunsFrontCommand := fun _ _ _ h => step_of_pending h

/-- Settles O44: the three cases of an empty queue. -/
theorem stepOnEmptyQueue : Obligations.StepOnEmptyQueue := by
  refine ⟨?_, ?_, ?_⟩
  · intro s hp hr hsup
    rw [step_of_idle hp hr, State.idle, State.tickOn_supplied s.fresh hsup, State.fresh_tick]
  · intro s hp hr hm hv
    rw [step_of_idle hp hr, State.idle, State.tickOn_unsupplied s.fresh hm hv]
  · intro s c q hp hr
    exact step_of_resumed hp hr

/-- Settles O45: each arm is an effect that settles, and settling keeps the queue that the command found. -/
theorem everyCommandAnswers : Obligations.EveryCommandAnswers := by
  intro c s
  obtain ⟨f, hf⟩ := exec_eq_ok c s
  exact ⟨s.after (f s.fresh), exec_eq_after f hf rfl, State.after_pending s _⟩

/-! ### The guarantee (R188) -/

theorem guarantee_of_no_rate (eUse oasis fix c gmax : Nat) : guarantee eUse oasis fix c 0 gmax = 0 := rfl

/-- With a usable rate and a page cost the guarantee is the affordable pages, capped, rounded down to 256. -/
theorem guarantee_of_rate (eUse oasis fix gmax : Nat) {c r : Nat} (hc : c ≠ 0) (hr : r ≠ 0) :
    guarantee eUse oasis fix c r gmax =
      min ((eUse - oasis - fix) * 65536 / c) gmax - min ((eUse - oasis - fix) * 65536 / c) gmax % 256 := by
  simp [guarantee, hc, hr]

theorem guarantee_mod_256 (eUse oasis fix c r gmax : Nat) : guarantee eUse oasis fix c r gmax % 256 = 0 := by
  unfold guarantee
  split
  · rfl
  · dsimp only; omega

theorem guarantee_le_gmax (eUse oasis fix c r gmax : Nat) : guarantee eUse oasis fix c r gmax ≤ gmax := by
  unfold guarantee
  split
  · exact Nat.zero_le _
  · exact (Nat.sub_le _ _).trans (Nat.min_le_right _ _)

/-- The pages of the guarantee cost no more than the energy left: rounding down and the cap only lower the quotient. -/
theorem guarantee_mul_le (eUse oasis fix r gmax : Nat) {c : Nat} (hc : 0 < c) :
    guarantee eUse oasis fix c r gmax * c ≤ (eUse - oasis - fix) * 65536 := by
  by_cases hr : r = 0
  · subst hr; simp [guarantee_of_no_rate]
  · rw [guarantee_of_rate _ _ _ _ hc.ne' hr]
    calc _ ≤ (eUse - oasis - fix) * 65536 / c * c :=
          Nat.mul_le_mul_right c ((Nat.sub_le _ _).trans (Nat.min_le_left _ _))
      _ ≤ _ := Nat.div_mul_le_self _ _

/-- Settles O54, from the form of the guarantee: a rounded-down, capped quotient of energy by page cost. -/
theorem guaranteeIsBackedByEnergy : Obligations.GuaranteeIsBackedByEnergy := by
  intro eUse oasis fix c r gmax hc
  refine ⟨guarantee_mod_256 .., guarantee_le_gmax .., guarantee_mul_le _ _ _ _ _ hc, ?_⟩
  rintro rfl
  exact guarantee_of_no_rate ..

/-! ### Register access -/

theorem State.asPath_of_may (s : State) {p : Path} {a : Nat} (f : State → State) (hup : s.pathUp p = true)
    (hmay : s.mayWrite p a = true) : s.asPath p a f = f s := by
  simp [State.asPath, hup, hmay]

/-- An aligned write of 32 bits along a path that may make it is one word taken (R15, R505). -/
theorem State.doMgmtRegisterWrite_word (s : State) {p : Path} {a : Nat} (v : Nat) (hup : s.pathUp p = true)
    (hmay : s.mayWrite p a = true) (ha : a % 4 = 0) :
    s.doMgmtRegisterWrite p 4 a v = s.regTake p a (v % 2 ^ 32) := by
  rw [State.doMgmtRegisterWrite, if_pos ⟨rfl, ha⟩, State.wordWrite, State.asPath_of_may s _ hup hmay]

theorem State.doRwsApplyBoundary_dchCtl (s : State) {i : Nat} (hi : i < 8) :
    s.doRwsApplyBoundary .dchCtl i = (s.applyRws R.DCH_CTL_WR_HI i).applyRws R.DCH_CTL_WR_LO i :=
  if_pos hi

/-- A message over TWI0 that is processed at once (R28, R411, R478). -/
theorem State.mctpServe_of_now (s : State) (i : Instr) (f : State → State) (h : s.mctpNow = true) :
    s.mctpServe i f = f s := by
  obtain ⟨⟨hfast, hact⟩, hrole⟩ : (s.fastPath = true ∧ s.fwu.act = 0) ∧ s.roleRuns 0 = true := by
    simpa [State.mctpNow] using h
  simp [State.mctpServe, hfast, hact, hrole]

theorem State.doRegisterRead_served (s : State) {a count : Nat} (h : s.mctpNow = true) (ha : a % 4 = 0)
    (h1 : 1 ≤ count) (h16 : count ≤ 16) (hlt : a < 0x4000000) (hblk : blockOf a = blockOf (a + 4 * count - 1))
    (hmbx : blockOf a ≠ 2) :
    s.doRegisterRead a count = (s.readWords a count).1.emit (.twi 0 (s.readWords a count).2) := by
  have hvalid : ¬(a % 4 ≠ 0 ∨ count = 0 ∨ 16 < count ∨ 0x4000000 ≤ a ∨ blockOf a ≠ blockOf (a + 4 * count - 1)) := by
    rintro (hb | hb | hb | hb | hb)
    · exact hb ha
    · omega
    · omega
    · omega
    · exact hb hblk
  rw [State.doRegisterRead, State.mctpServe_of_now s _ _ h, if_neg hvalid, if_neg hmbx]

theorem State.doRegisterWrite_served (s : State) {a : Nat} (v : Nat) (h : s.mctpNow = true) (ha : a % 4 = 0)
    (hmay : s.mayWrite .twi a = true) :
    s.doRegisterWrite a v = (s.doMgmtRegisterWrite .twi 4 a v).emit (.twi 0 []) := by
  rw [State.doRegisterWrite, State.mctpServe_of_now s _ _ h, if_neg (by simpa using ha), if_pos hmay]

theorem State.doLongOperationIssue_served (s : State) {op : Nat} {args : List Nat} (h : s.mctpNow = true)
    (hres : (s.issueBy 1 op args true).on R.LOQ_ISS_RES_REFUSED 1 = false) :
    s.doLongOperationIssue op args =
      (s.issueBy 1 op args true).emit (.twi 0 [(s.issueBy 1 op args true).resWord 1]) := by
  rw [State.doLongOperationIssue, State.mctpServe_of_now s _ _ h]
  simp [hres]

theorem State.doCompletionRingRead_served (s : State) {count : Nat} (h : s.mctpNow = true) (h1 : 1 ≤ count)
    (h16 : count ≤ 16) :
    s.doCompletionRingRead count = (s.ringTake 1 count false).1.emit (.twi 0 (s.ringTake 1 count false).2) := by
  rw [State.doCompletionRingRead, State.mctpServe_of_now s _ _ h, if_neg (by omega)]

/-- Settles O17: one effect lemma for each command, on the state whose responses are cleared. -/
theorem registerWritesAndApplyBoundaries : Obligations.RegisterWritesAndApplyBoundaries := by
  refine ⟨?_, ?_, ?_, ?_, ?_, ?_⟩
  · intro s path addr value hup hmay ha
    exact exec_eq_after (·.doMgmtRegisterWrite path 4 addr value) rfl (s.fresh.doMgmtRegisterWrite_word value hup hmay ha)
  · intro s elem he
    exact exec_eq_after (·.doRwsApplyBoundary .dchCtl elem) rfl (s.fresh.doRwsApplyBoundary_dchCtl he)
  · intro s addr count h ha h1 h16 hlt hblk hmbx
    exact exec_eq_after (·.doRegisterRead addr count) rfl (s.fresh.doRegisterRead_served h ha h1 h16 hlt hblk hmbx)
  · intro s addr value h ha hmay
    exact exec_eq_after (·.doRegisterWrite addr value) rfl (s.fresh.doRegisterWrite_served value h ha hmay)
  · intro s op args h hres
    exact exec_eq_after (·.doLongOperationIssue op args) rfl (s.fresh.doLongOperationIssue_served h hres)
  · intro s count h h1 h16
    exact exec_eq_after (·.doCompletionRingRead count) rfl (s.fresh.doCompletionRingRead_served h h1 h16)

/-! ### Refresh (R122 to R126) -/

theorem State.sameBank_of_disabled (s : State) {w : Nat} (h : s.ap R.DCH_REF_REF_SB_EN (w / 2) = 0) :
    s.sameBank w = false := by
  simp [State.sameBank, h]

theorem State.sameBank_of_enabled (s : State) {w : Nat} (h : s.ap R.DCH_REF_REF_SB_EN (w / 2) ≠ 0)
    (hsup : bit s.dram.sbRef (w / 2) = true) : s.sameBank w = true := by
  simp [State.sameBank, h, hsup]

/-- An all-bank refresh takes every bank of its subchannel. -/
theorem State.refreshed_allBank (s : State) {w : Nat} (h : s.sameBank w = false) :
    s.refreshed w = fun k => decide (k / 1024 = w) := by
  funext k; simp [State.refreshed, h]

/-- A same-bank refresh takes the banks of the bank address whose turn it is. -/
theorem State.refreshed_sameBank (s : State) {w : Nat} (h : s.sameBank w = true) :
    s.refreshed w = fun k => decide (k / 1024 = w) && decide (k % 4 = smGet 0 s.dram.sbNext w) := by
  funext k; simp [State.refreshed, h]

theorem State.refreshIssue_allBank (s : State) {w : Nat} (h : s.sameBank w = false)
    (hrfm : s.on R.DCH_REF_RFM_REQ (w / 2) = false) :
    s.refreshIssue w =
      { s with dram := { s.dram with
          pdown := setBitTo s.dram.pdown w false
          openRow := smErase (fun k => decide (k / 1024 = w)) s.dram.openRow
          hits := smErase (fun k => decide (k / 1024 = w)) s.dram.hits } }.dramCmd w 0 [1] := by
  simp [State.refreshIssue, s.refreshed_allBank h, h, hrfm]

theorem State.refreshIssue_sameBank (s : State) {w : Nat} (h : s.sameBank w = true)
    (hrfm : s.on R.DCH_REF_RFM_REQ (w / 2) = false) :
    s.refreshIssue w =
      { s with dram := { s.dram with
          pdown := setBitTo s.dram.pdown w false
          openRow := smErase (fun k => decide (k / 1024 = w) && decide (k % 4 = smGet 0 s.dram.sbNext w)) s.dram.openRow
          hits := smErase (fun k => decide (k / 1024 = w) && decide (k % 4 = smGet 0 s.dram.sbNext w)) s.dram.hits
          sbNext := smSet 0 w ((smGet 0 s.dram.sbNext w + 1) % 4) s.dram.sbNext } }.dramCmd w 0
        [0, smGet 0 s.dram.sbNext w] := by
  simp [State.refreshIssue, s.refreshed_sameBank h, h, hrfm]

/-- An all-bank refresh with no training due is the apply boundary of the write thresholds (R18). -/
theorem State.doRefreshDue_allBank (s : State) {w : Nat} (ba postponed : Nat) (hup : s.wayUp w = true)
    (htrn : smGet 0 s.dram.trnDue w = 0) (h : s.sameBank w = false) :
    s.doRefreshDue w ba postponed =
      ((((s.refreshIssue w).applyRws R.DCH_CTL_WR_HI (w / 2)).applyRws R.DCH_CTL_WR_LO (w / 2)).wr R.DCH_REF_POSTPONED
        (min (min postponed (Config.refPostponeMax false (s.on R.DCH_STAT_REF2X (w / 2)))) 15) (w / 2)).drainRefresh w := by
  rw [State.doRefreshDue, if_neg (by simp [hup])]
  dsimp only
  rw [h]
  exact congrArg (fun x : State => x.drainRefresh w) (if_pos (Or.inl htrn))

/-- A same-bank refresh with no training due takes the bank address that it is given. -/
theorem State.doRefreshDue_sameBank (s : State) {w : Nat} (ba postponed : Nat) (hup : s.wayUp w = true)
    (htrn : smGet 0 s.dram.trnDue w = 0) (h : s.sameBank w = true) :
    s.doRefreshDue w ba postponed =
      (((s.sbTurn w ba).refreshIssue w).wr R.DCH_REF_POSTPONED
        (min (min postponed (Config.refPostponeMax true (s.on R.DCH_STAT_REF2X (w / 2)))) 15) (w / 2)).drainRefresh w := by
  rw [State.doRefreshDue, if_neg (by simp [hup])]
  dsimp only
  rw [h]
  exact congrArg (fun x : State => x.drainRefresh w) (if_pos (Or.inl htrn))

/-- The bank address whose turn was just set is the one whose turn it is. -/
theorem State.sbTurn_sbNext (s : State) (w ba : Nat) : smGet 0 (s.sbTurn w ba).dram.sbNext w = ba % 4 :=
  smGet_smSet_same ..

/-- No limit is held: the end of a window releases none. -/
theorem quietStep_none (hold w : Nat) : quietStep hold w 0 = (false, 0) := rfl

/-- The window that ends is the last that the record of the subchannel counts: the limit is released. -/
theorem quietStep_last (hold : Nat) {w : Nat} (hw : w < 16) : quietStep hold w (16 * hold + w + 1) = (true, 0) := by
  have hcount : (16 * hold + w + 1 - 1) / 16 = hold := by omega
  rw [quietStep, if_neg (by omega), if_pos hcount.ge]

theorem State.doRefreshWindowEnd_noHold (s : State) {w : Nat} (hup : s.wayUp w = true) (hq : s.dram.quiet = [])
    (hovf : s.dram.ovfQuiet = 0) :
    s.doRefreshWindowEnd w =
      { s with dram := { s.dram with groups := smErase (fun k => decide (k / 1024 = w)) s.dram.groups } }.applyRws
        R.DCH_REF_REF_SB_EN (w / 2) := by
  rw [State.doRefreshWindowEnd, if_neg (by simp [hup])]
  simp only [hq, hovf, List.foldl_nil, quietStep_none, Bool.false_eq_true, if_false]

theorem State.doRefreshWindowEnd_release (s : State) {w : Nat} (hw : w < 16) (hup : s.wayUp w = true)
    (hq : s.dram.quiet = []) (hovf : s.dram.ovfQuiet = 16 * s.rd R.DRM_RDD_RD_HOLD + w + 1) :
    s.doRefreshWindowEnd w =
      ({ s with dram := { s.dram with
          groups := smErase (fun k => decide (k / 1024 = w)) s.dram.groups
          ovfQuiet := 0 } }.put R.DRM_RDOVF_OVF_ACT false).applyRws R.DCH_REF_REF_SB_EN (w / 2) := by
  rw [State.doRefreshWindowEnd, if_neg (by simp [hup])]
  simp only [hq, hovf, List.foldl_nil, quietStep_last _ hw, if_true]

/-! ### Power-down and scrubbing (R121, R131) -/

theorem State.doPowerDownEntry_idle (s : State) {w : Nat} (hup : s.wayUp w = true) (hpd : bit s.dram.pdown w = false)
    (hcvn : s.dram.caravan = false) (hidle : s.rd R.DCH_CTL_PD_IDLE (w / 2) ≠ 0) (hq : s.wayQ w = [])
    (hrfm : s.rfmPick w [] = none) :
    s.doPowerDownEntry w =
      { s with dram := { s.dram with pdown := setBitTo s.dram.pdown w true } }.dramCmd w 8 [] := by
  simp [State.doPowerDownEntry, hup, hpd, hcvn, hidle, hq, hrfm]

theorem State.doScrubPeriodEnd_late (s : State) (hen : s.on R.DRM_SCRUB_EN = true) (hdone : s.dram.scrubDone = false)
    (hper : s.dram.scrubFrom + s.scrubPer ≤ s.tick) : s.doScrubPeriodEnd = s.put R.DRM_SCRUBST_LATE true := by
  simp [State.doScrubPeriodEnd, hen, hdone, hper]

/-! ### Retraining (R133, R135) -/

/-- A drift above DQS_TOL within the second: the largest drift is kept and the write DQS delay moves. -/
theorem State.doDqsInterval_above (s : State) {c r drift : Nat} (htr : s.trains c r = true)
    (hen : s.on R.DCH_TRN_DQS_EN c = true) (hsec : s.tick < smGet 0 s.dram.driftFrom c + 32768)
    (htol : s.rd R.DCH_TRN_DQS_TOL c < drift) :
    s.doDqsInterval c r drift =
      let x : State := (s.trainDue c).wr R.DCH_TRNST_MAX_DRIFT
        (min 255 (max drift (s.rd R.DCH_TRNST_MAX_DRIFT c))) c
      { x with dram := { x.dram with dqs := smUpd 0 (4 * c + r) (· + drift) x.dram.dqs } }.inc R.DCH_TRNST_ADJ_CNT c := by
  have hkey : R.DCH_TRN_DQS_TOL.key c ≠ R.DCH_TRNST_MAX_DRIFT.key c := by
    simp [Fld.key, R.DCH_TRN_DQS_TOL, R.DCH_TRNST_MAX_DRIFT]
  have hsame : ¬ smGet 0 (s.trainDue c).dram.driftFrom c + 32768 ≤ (s.trainDue c).tick := Nat.not_le.mpr hsec
  have htol' : ¬ drift ≤ (s.trainDue c).rd R.DCH_TRN_DQS_TOL c := Nat.not_le.mpr htol
  rw [State.doDqsInterval, if_neg (by simp [htr, hen])]
  simp only [hsame, decide_false, Bool.false_eq_true, if_false]
  rw [State.rd_wr_other _ _ _ _ _ _ _ _ hkey, if_neg htol']
  rfl

theorem State.doZqCalibration_trains (s : State) {c r : Nat} (htr : s.trains c r = true) :
    s.doZqCalibration c r = s.trainDue c := if_pos htr

theorem State.doReadCentering_good (s : State) {c r : Nat} (htr : s.trains c r = true) :
    s.doReadCentering c r true =
      let x : State := (s.trainDue c).wr R.DCH_TRNST_CTR_FAIL (setBitTo (s.rd R.DCH_TRNST_CTR_FAIL c) r false) c
      { x with dram := { x.dram with ctrFail := smSet 0 (4 * c + r) 0 x.dram.ctrFail } } := by
  rw [State.doReadCentering, if_neg (by simp [htr])]
  rfl

theorem State.doReadCentering_thirdFailure (s : State) {c r : Nat} (htr : s.trains c r = true)
    (hfail : smGet 0 s.dram.ctrFail (4 * c + r) = 2) :
    s.doReadCentering c r false =
      let x : State := (s.trainDue c).wr R.DCH_TRNST_CTR_FAIL (setBitTo (s.rd R.DCH_TRNST_CTR_FAIL c) r true) c
      { x with dram := { x.dram with ctrFail := smSet 0 (4 * c + r) 0 x.dram.ctrFail } }.retireRank c r none := by
  rw [State.doReadCentering, if_neg (by simp [htr])]
  simp only [hfail]
  rfl

theorem State.doCaParityError_inService (s : State) {c r : Nat} (cleared : Bool) (hup : s.wayUp (2 * c) = true)
    (hr : r < s.ranksOf c) :
    s.doCaParityError c r cleared =
      if cleared then s.dramCmd (2 * c) 10 [r] else (s.dramCmd (2 * c) 10 [r]).retireRank c r none := by
  rw [State.doCaParityError, if_neg (by simp [hup, hr])]

/-- Settles O19: one effect lemma for each command, on the state whose responses are cleared. -/
theorem dramRefreshAndTraining : Obligations.DramRefreshAndTraining := by
  refine ⟨?_, ?_, ?_, ?_, ?_, ?_, ?_, ?_, ?_, ?_, ?_, ?_, ?_⟩
  · intro s way ba postponed hup hrfm htrn hsb
    have hall : s.fresh.sameBank way = false := s.sameBank_of_disabled hsb
    have heff := s.fresh.doRefreshDue_allBank ba postponed hup htrn hall
    rw [s.fresh.refreshIssue_allBank hall hrfm] at heff
    exact exec_eq_after (·.doRefreshDue way ba postponed) rfl heff
  · intro s way ba postponed hup hrfm htrn hsb hsup
    have hsame : s.fresh.sameBank way = true := s.sameBank_of_enabled hsb hsup
    have heff := s.fresh.doRefreshDue_sameBank ba postponed hup htrn hsame
    rw [(s.fresh.sbTurn way ba).refreshIssue_sameBank hsame hrfm, s.fresh.sbTurn_sbNext] at heff
    exact exec_eq_after (·.doRefreshDue way ba postponed) rfl heff
  · intro s way hup hq hovf
    exact exec_eq_after (·.doRefreshWindowEnd way) rfl (s.fresh.doRefreshWindowEnd_noHold hup hq hovf)
  · intro s way hw hup hq hovf
    exact exec_eq_after (·.doRefreshWindowEnd way) rfl (s.fresh.doRefreshWindowEnd_release hw hup hq hovf)
  · intro s way hup hpd hcvn hidle hq hrfm
    exact exec_eq_after (·.doPowerDownEntry way) rfl (s.fresh.doPowerDownEntry_idle hup hpd hcvn hidle hq hrfm)
  · intro s hot
    exact exec_eq_after (·.doSpdThermalRead hot) rfl rfl
  · intro s hen hdone hper
    exact exec_eq_after (·.doScrubPeriodEnd) rfl (s.fresh.doScrubPeriodEnd_late hen hdone hper)
  · intro s chan rank drift htr hen hsec htol
    exact exec_eq_after (·.doDqsInterval chan rank drift) rfl (s.fresh.doDqsInterval_above htr hen hsec htol)
  · intro s chan rank htr
    exact exec_eq_after (·.doZqCalibration chan rank) rfl (s.fresh.doZqCalibration_trains htr)
  · intro s chan rank htr
    exact exec_eq_after (·.doReadCentering chan rank true) rfl (s.fresh.doReadCentering_good htr)
  · intro s chan rank htr hfail
    exact exec_eq_after (·.doReadCentering chan rank false) rfl (s.fresh.doReadCentering_thirdFailure htr hfail)
  · intro s chan rank hup hr
    exact exec_eq_after (·.doCaParityError chan rank true) rfl (s.fresh.doCaParityError_inService true hup hr)
  · intro s chan rank hup hr
    exact exec_eq_after (·.doCaParityError chan rank false) rfl (s.fresh.doCaParityError_inService false hup hr)

/-! ### Epochs, segments and throughput (R154, R161, R168) -/

theorem State.doEpochBoundary_due (s : State) (hrun : s.on R.TRK_STAT_RUN = true)
    (hdue : s.trk.epochAt + s.ap R.DFT_AGE_EPOCH ≤ s.tick) : s.doEpochBoundary = s.epochStep := by
  simp [State.doEpochBoundary, hrun, hdue]

/-- An idle segment whose stripe is begun is padded to the end of the stripe. -/
theorem State.segPad_due (s : State) {t n : Nat} (hopen : smGet 0 s.ftl.opens t = n + 1)
    (hslots : s.stripeSlots (s.sb n) ≠ 0) (hfill : (s.sb n).fill % s.stripeSlots (s.sb n) ≠ 0)
    (hidle : smGet 0 s.drift.segAt t + s.rd R.DFT_SEG_SEG_TMO ≤ s.tick) :
    s.segPad t = (List.range (s.stripeSlots (s.sb n) - (s.sb n).fill % s.stripeSlots (s.sb n))).foldl
      (fun (s : State) (_ : Nat) => s.padSlot t) s := by
  have hdue : ¬(s.stripeSlots (s.sb n) = 0 ∨ (s.sb n).fill % s.stripeSlots (s.sb n) = 0 ∨
      s.tick < smGet 0 s.drift.segAt t + s.rd R.DFT_SEG_SEG_TMO) := by
    rintro (h | h | h)
    · exact hslots h
    · exact hfill h
    · exact absurd hidle (Nat.not_le.mpr h)
  rw [State.segPad, hopen]
  exact if_neg hdue

/-- The streams of the image are looked at one after the other: fresh, save, relocation. -/
theorem State.doSegmentTimeout_eq (s : State) : s.doSegmentTimeout = ((s.segPad 0).segPad 1).segPad 2 := rfl

theorem State.doRsaveRecompute_beforeTick (s : State) (hr : s.boot.inReset = false) (ht : s.tick % 1024 = 1023) :
    s.doRsaveRecompute = s.rsaveNow := by
  simp [State.doRsaveRecompute, hr, ht]

theorem State.doRsaveRecompute_atOnce (s : State) (hr : s.boot.inReset = false) (ht : s.tick % 1024 ≠ 1023) :
    s.doRsaveRecompute = s.rsaveNow.ledgerStart false := by
  simp [State.doRsaveRecompute, hr, ht]

/-! ### Pacing (R170, R499) -/

/-- Below stage 3 no thermal cap holds the loop's output. -/
theorem State.thermU_below_stage3 (s : State) (u f : Nat) (h : s.rd R.PWR_STAT_STAGE < 3) : s.thermU u f = u :=
  if_neg (Nat.not_le.mpr h)

theorem State.paceRegs_uncapped (s : State) (x : Pace) (h : s.rd R.PWR_STAT_STAGE < 3) :
    s.paceRegs x =
      ((((s.wr R.DFT_OUT_U x.u).wr R.DFT_FLR_F x.f).wr R.DFT_INT_I x.i).wr R.DFT_ERR_EN (toField 18 x.en)).put
        R.DFT_STAT_AT_MAX (decide (x.u = 65536)) := by
  simp only [State.paceRegs, s.thermU_below_stage3 _ _ h]

/-- A run of the loop leaves every field but its five results. -/
theorem State.paceRegs_rd_other (s : State) (x : Pace) (f : Fld) (i j : Nat)
    (h : ∀ g ∈ [R.DFT_OUT_U, R.DFT_FLR_F, R.DFT_INT_I, R.DFT_ERR_EN, R.DFT_STAT_AT_MAX], f.key i j ≠ g.key 0 0) :
    (s.paceRegs x).rd f i j = s.rd f i j := by
  simp only [List.forall_mem_cons] at h
  obtain ⟨hu, hf, hi, he, ha, -⟩ := h
  rw [State.paceRegs, State.put, State.rd_wr_other _ _ _ _ _ _ _ _ ha, State.rd_wr_other _ _ _ _ _ _ _ _ he,
    State.rd_wr_other _ _ _ _ _ _ _ _ hi, State.rd_wr_other _ _ _ _ _ _ _ _ hf, State.rd_wr_other _ _ _ _ _ _ _ _ hu]

/-- The age bypass in force from this tick on. -/
def State.ageBypTaken (s : State) : State := { s with drift := { s.drift with ageByp := s.rd R.DFT_PACE_AGE_BYP } }

/-- What the loop computes from the registers of a state. -/
def State.paceNow (s : State) : Pace :=
  pace (s.rd R.LDG_GUAR_G) (s.rd R.TRK_HELD_HELD) s.leaveHeld (s.rd R.DFT_PACE_SETPT) (s.rd R.DFT_PACE_FS)
    (s.rd R.DFT_GAIN_KP) (s.rd R.DFT_GAIN_KI) (s.rd R.DFT_INT_I) (ofField 18 (s.rd R.DFT_ERR_EN))

/-- The tokens of a tick, `d` the most that Drift may take in one. -/
def State.tokensGiven (s : State) (d : Nat) : State :=
  { s with drift := { s.drift with tokens := min (4 * d) (s.drift.tokens + cdiv (s.rd R.DFT_OUT_U * d) 65536) } }

/-- A run of the loop writes its registers before DMAX, whose operands it leaves alone. -/
theorem State.doPacingTick_eq (s : State) (hr : s.boot.inReset = false) :
    s.doPacingTick =
      (((s.ageBypTaken.paceRegs s.paceNow).wr R.DFT_DMAX_DMAX
        (dmaxOf (s.rd R.DFT_RSAVE_RSAVE) (s.rd R.DFT_PACE_CAP))).tokensGiven
          (dmaxOf (s.rd R.DFT_RSAVE_RSAVE) (s.rd R.DFT_PACE_CAP))).driftIdle := by
  have hrsave : (s.ageBypTaken.paceRegs s.paceNow).rd R.DFT_RSAVE_RSAVE = s.rd R.DFT_RSAVE_RSAVE :=
    State.paceRegs_rd_other _ _ _ _ _ (by decide)
  have hcap : (s.ageBypTaken.paceRegs s.paceNow).rd R.DFT_PACE_CAP = s.rd R.DFT_PACE_CAP :=
    State.paceRegs_rd_other _ _ _ _ _ (by decide)
  rw [← hrsave, ← hcap]
  simp only [State.doPacingTick, hr, Bool.false_eq_true, if_false]
  rfl

/-! ### Snapshots (R176, R235) -/

@[simp] theorem State.jot_drift (s : State) (kind : Nat) (args : List Nat) : (s.jot kind args).drift = s.drift := rfl
@[simp] theorem State.jot_trk (s : State) (kind : Nat) (args : List Nat) : (s.jot kind args).trk = s.trk := rfl
@[simp] theorem State.dropSnaps_drift (s : State) : s.dropSnaps.drift = s.drift := rfl

@[simp] theorem State.dropSave_drift (s : State) : s.dropSave.drift = s.drift := by
  unfold State.dropSave
  split <;> rfl

/-- With no snapshot waiting, a complete snapshot only becomes the newest and lets the older artefacts go. -/
theorem State.doSnapshotComplete_newest (s : State) {x : Snap} (hnow : s.drift.snapNow = some x)
    (hfly : s.snapFlying x.num = false) (hdone : x.done = true) (hdue : s.drift.snapDue = false)
    (hrst : s.rd R.CVN_STAT_RST_ST = 0) (hat : s.cvn.doneAt ≤ x.tick) :
    s.doSnapshotComplete =
      let w : State := s.jot 9 [0x03, x.num, x.gen]
      let y : State := { w with
        drift := { s.drift with snapNow := none, snaps := x :: s.drift.snaps.take 1 }
        trk := { s.trk with refVec := x.num % 2, refGen := x.gen } }
      (((y.wr R.DFT_SNAPST_SIZE x.size).put R.DFT_SNAPST_COARSE (!x.coarse.isEmpty)).wr
        R.DFT_SNAPT_TICK x.tick).dropSnaps.dropSave := by
  simp [State.doSnapshotComplete, hnow, hfly, hdone, hdue, hrst, hat]

/-- Settles O22: one effect lemma for each command, on the state whose responses are cleared. -/
theorem driftEpochsPacingAndSnapshots : Obligations.DriftEpochsPacingAndSnapshots := by
  refine ⟨?_, ?_, ?_, ?_, ?_, ?_⟩
  · intro s hrun hdue
    exact exec_eq_after (·.doEpochBoundary) rfl (s.fresh.doEpochBoundary_due hrun hdue)
  · intro s n hopen hslots hfill hidle
    have heff := s.fresh.doSegmentTimeout_eq
    rw [s.fresh.segPad_due hopen hslots hfill hidle] at heff
    exact exec_eq_after (·.doSegmentTimeout) rfl heff
  · intro s hr ht
    exact exec_eq_after (·.doRsaveRecompute) rfl (s.fresh.doRsaveRecompute_beforeTick hr ht)
  · intro s hr ht
    exact exec_eq_after (·.doRsaveRecompute) rfl (s.fresh.doRsaveRecompute_atOnce hr ht)
  · intro s hr hstage
    have heff := s.fresh.doPacingTick_eq hr
    rw [s.fresh.ageBypTaken.paceRegs_uncapped s.fresh.paceNow hstage] at heff
    exact exec_eq_after (·.doPacingTick) rfl heff
  · intro s x hnow hfly hdone hdue hrst hat
    exact exec_eq_after (·.doSnapshotComplete) rfl (s.fresh.doSnapshotComplete_newest hnow hfly hdone hdue hrst hat)

end Sys2Proof.Machine
end

section
/-!
PROOFS. The long operations over overlays, images, calibration, ranks and the pack: what each does once its entry is taken
and its own conditions hold.
-/
namespace Sys2Proof.Machine

/-! ### An operation that starts (R511, R512) -/

/-- Issuing an operation on a slot takes the entry `e`, leaving `u`, and nothing keeps it from starting there: no cold reset
is asserted, Odber runs (R443), and no save is under way (R516). -/
structure State.Starts (s : State) (slot op : Nat) (args : List Nat) (u : State) (e : Nat) : Prop where
  outOfReset : s.boot.inReset = false
  isSlot : slot < 4
  issued : s.issueLong slot op args = (u, some e)
  odberRuns : u.boot.bootBlock = false
  noSave : u.cvn.code = 0

/-- An operation that starts has its own effect on the state that its issue left. -/
theorem State.longOp_of_starts {s u : State} {slot op e : Nat} {args : List Nat} (f : State → Nat → State)
    (h : s.Starts slot op args u e) : s.longOp slot op args true f = f u e := by
  obtain ⟨hreset, hslot, hissue, hodber, hsave⟩ := h
  simp [State.longOp, hreset, Nat.not_le.mpr hslot, hissue, hodber, hsave]

/-! ### Overlays (R59, R64) -/

/-- With the bulk restore over no overlay waits, so the switch begins with its batch (R236). -/
theorem State.doOvlSwitch_begins {s u : State} {slot e index : Nat} (h : s.Starts slot 0x01 [index] u e)
    (hnone : u.loq.ovlStep = 0) (hbulk : u.bulkOver = true) (hovl : index = 15 ∨ (u.activeOvl index).isSome = true) :
    s.doOvlSwitch slot index =
      (({ u with loq := { u.loq with ovlStep := 3, ovlEnt := e, ovlNew := index, ovlBegun := false } }).put
        R.ERG_STAT_SWITCH_BUSY true).ovlBatch.packPolicyCheck := by
  have hnamed : ¬(index ≠ 15 ∧ !(u.activeOvl index).isSome) := by
    rintro ⟨hne, hno⟩
    rcases hovl with heq | hsome
    · exact hne heq
    · simp [hsome] at hno
  rw [State.doOvlSwitch, State.longOp_of_starts _ h, if_neg (by simp [hnone]), if_neg hnamed]
  simp [h.noSave, hbulk]

/-- The switch that the entry asked for, recorded as the active one in a learned-value entry (R59 steps 4 to 6). -/
theorem State.doOvlSwitchApplied_ends (s : State) (hstep : s.loq.ovlStep = 4) (happlied : s.ovlApplied = true) :
    s.doOvlSwitchApplied =
      (let x : State := { s with erg := { s.erg with recOvl := s.loq.ovlNew },
                                 loq := { s.loq with ovlStep := 0, ovlBegun := false } }.lvAppend
       let y : State := (((x.wr R.ERG_STAT_ACT_OVL s.loq.ovlNew).wr R.ERG_STAT_ACT_MODE (x.ovlTag s.loq.ovlNew)).put
         R.ERG_STAT_SWITCH_BUSY false).put R.ERG_STAT_PARTIAL false
       (y.note 0x13 3 s.loq.ovlNew).loqEnd y.loq.ovlEnt loSuccess s.loq.ovlNew) :=
  if_neg (by simp [hstep, happlied])

theorem State.doVolatileLeaveReady_leaves (s : State) (hstep : s.loq.ovlStep = 5)
    (hheld : s.rd R.TRK_HELD_HELD ≤ s.rd R.LDG_GUAR_G) :
    s.doVolatileLeaveReady = { s with loq := { s.loq with ovlStep := 4 } }.leaveVolatile :=
  if_neg (by simp [hstep, hheld])

/-- Settles O11: one effect lemma for each command, on the state whose responses are cleared. -/
theorem overlaySwitch : Obligations.OverlaySwitch := by
  refine ⟨?_, ?_, ?_⟩
  · intro s slot e index u hreset hslot hissue hsave hodber hnone hbulk hovl
    exact exec_eq_after (·.doOvlSwitch slot index) rfl
      (State.doOvlSwitch_begins ⟨hreset, hslot, hissue, hodber, hsave⟩ hnone hbulk hovl)
  · intro s hstep happlied
    exact exec_eq_after (·.doOvlSwitchApplied) rfl (s.fresh.doOvlSwitchApplied_ends hstep happlied)
  · intro s hstep hheld
    exact exec_eq_after (·.doVolatileLeaveReady) rfl (s.fresh.doVolatileLeaveReady_leaves hstep hheld)

/-! ### Images and calibration (R50, R66, R67) -/

/-- The length of a file in the load buffer that ERG_LOAD and CAL_FACTORY take: whole words, up to the buffer's size. -/
theorem fileLength_ok {len : Nat} (hpos : 0 < len) (hword : len % 4 = 0) (hmax : len ≤ 262144) :
    ¬(len = 0 ∨ len % 4 ≠ 0 ∨ 262144 < len) := by omega

@[simp] theorem State.sectorErase_loq (s : State) (n : Nat) : (s.sectorErase n).loq = s.loq := by
  unfold State.sectorErase State.eraseOk
  dsimp only
  split <;> rfl

/-- Erases of the code flash leave the load buffer. -/
theorem State.sectorErases_loq (g : Nat → Nat) (ks : List Nat) (s : State) :
    (ks.foldl (fun (s : State) k => s.sectorErase (g k)) s).loq = s.loq := by
  induction ks generalizing s with
  | nil => rfl
  | cons k ks ih => rw [List.foldl_cons, ih, State.sectorErase_loq]

theorem State.lbWords_congr {s t : State} (h : s.loq = t.loq) (n : Nat) : s.lbWords n = t.lbWords n := by
  unfold State.lbWords State.lbWord
  rw [h]

theorem State.doErgLoad_writes {s u : State} {slot e len : Nat} (h : s.Starts slot 0x02 [len] u e) (hpos : 0 < len)
    (hword : len % 4 = 0) (hmax : len ≤ 262144) (hkept : u.ergProtected (1 - u.rd R.ERG_STAT_BOOT_SLOT) = false)
    (hfree : (List.range 4).any (fun (k : Nat) => u.wpFrozen (ergSector (1 - u.rd R.ERG_STAT_BOOT_SLOT) + k)) = false) :
    s.doErgLoad slot len =
      (let t : Nat := 1 - u.rd R.ERG_STAT_BOOT_SLOT
       let x : State := ((List.range 4).foldl (fun (s : State) k => s.sectorErase (ergSector t + k)) u).cflProgram
         (ergSector t * 16384) (u.lbWords (len / 4))
       let v : Nat := x.validateErg (x.ergWord t)
       (x.ergResult t v).loqEnd e (if v = 0 then loSuccess else loFailed) v) := by
  have hbar : ¬(u.ergProtected (1 - u.rd R.ERG_STAT_BOOT_SLOT) ||
      (List.range 4).any (fun k => u.wpFrozen (ergSector (1 - u.rd R.ERG_STAT_BOOT_SLOT) + k))) = true := by
    rw [hkept, hfree]
    exact Bool.false_ne_true
  rw [State.doErgLoad, State.longOp_of_starts _ h, if_neg (fileLength_ok hpos hword hmax), if_neg hbar]
  dsimp only
  rw [State.lbWords_congr (State.sectorErases_loq _ _ u)]

theorem State.doCalWrite_replaces {s u : State} {slot e key words : Nat} (h : s.Starts slot 0x03 [key, words] u e)
    (hpermits : u.calPermits slot = true) (hpos : 0 < words) (hmax : words ≤ 64) (hkey : key < 65536)
    (hfree : u.calFrozen = false) :
    s.doCalWrite slot key words = (u.calPut key true (u.lbWords words)).loqEnd e loSuccess key := by
  rw [State.doCalWrite, State.longOp_of_starts _ h, if_neg (by simp [hpermits]), if_neg (by omega),
    if_neg (by simp [hfree])]

/-- CAL_FACTORY refuses a file of a length that the buffer holds for its signature or its unit alone. -/
theorem factoryFile_invalid_iff {len : Nat} (hpos : 0 < len) (hword : len % 4 = 0) (hmax : len ≤ 262144) (signed : Bool)
    (uid own : List Nat) :
    (len = 0 ∨ len % 4 ≠ 0 ∨ 262144 < len ∨ !signed ∨ uid ≠ own) ↔ ¬(signed = true ∧ uid = own) := by
  have hlen := fileLength_ok hpos hword hmax
  simp only [not_or] at hlen
  simp [hlen, imp_iff_not_or]

theorem State.doCalFactory_judges {s u : State} {slot e len : Nat} (h : s.Starts slot 0x04 [len] u e) (hpos : 0 < len)
    (hword : len % 4 = 0) (hmax : len ≤ 262144) (hfree : u.calFrozen = false) :
    s.doCalFactory slot len =
      if Config.calFileSigned (u.lbWords (len / 4)) = true ∧
          Config.calFileUid (u.lbWords (len / 4)) = (List.range 4).map (fun i => u.rd R.CAL_UID_UID i) then
        let es : List (Nat × List Nat) := (Config.calFileEntries (u.lbWords (len / 4))).filter
          (fun (x : Nat × List Nat) => decide (x.1 < 65536) && decide (1 ≤ x.2.length) && decide (x.2.length ≤ 64))
        (es.foldl (fun (s : State) (x : Nat × List Nat) => s.calPut x.1 false (x.2.map (fun w => w % 2 ^ 32))) u).loqEnd e
          loSuccess es.length
      else u.loqEnd e loInvalid 0 := by
  rw [State.doCalFactory, State.longOp_of_starts _ h]
  simp only [factoryFile_invalid_iff hpos hword hmax, hfree, ite_not, Bool.false_eq_true, if_false]

/-! ### Ranks and the pack (R135, R136, R373) -/

/-- With a free spare, and no save or restore under way, the migration is begun for the entry. -/
theorem State.doRankMigrate_retires {s u : State} {slot e c r : Nat} (h : s.Starts slot 0x05 [c, r] u e) (hc : c < 8)
    (hup : u.wayUp (2 * c) = true) (hspare : u.on R.DCH_STAT_SPARE_FREE c = true) (hr : r < u.spareRank c)
    (hrank : u.rd R.DCH_RANK_STATE c r = 0) (hcaravan : u.dram.caravan = false) (hrst : u.rd R.CVN_STAT_RST_ST = 0) :
    s.doRankMigrate slot c r = u.retireRank c r (some e) := by
  have hsaving : u.saving = false := by simp [State.saving, h.noSave]
  rw [State.doRankMigrate, State.longOp_of_starts _ h]
  simp [hc, hup, hspare, hr, hrank, hcaravan, hsaving, hrst]

theorem State.doCapAudit_starts {s u : State} {slot e : Nat} (h : s.Starts slot 0x06 [] u e) (hnone : u.gau.aud = 0)
    (hbar : u.audBar = 0) : s.doCapAudit slot = u.audStart (e + 1) := by
  rw [State.doCapAudit, State.longOp_of_starts _ h, State.capAudit, if_neg (by simp [hnone]), if_neg (by simp [hbar])]

/-- Settles O12: one effect lemma for each operation, on the state that its issue left. -/
theorem imageAndCalibrationOperations : Obligations.ImageAndCalibrationOperations := by
  refine ⟨?_, ?_, ?_, ?_, ?_⟩
  · intro s slot e len u hreset hslot hissue hsave hodber hpos hword hmax hkept hfree
    exact exec_eq_after (·.doErgLoad slot len) rfl
      (State.doErgLoad_writes ⟨hreset, hslot, hissue, hodber, hsave⟩ hpos hword hmax hkept hfree)
  · intro s slot e key words u hreset hslot hissue hsave hodber hpermits hpos hmax hkey hfree
    exact exec_eq_after (·.doCalWrite slot key words) rfl
      (State.doCalWrite_replaces ⟨hreset, hslot, hissue, hodber, hsave⟩ hpermits hpos hmax hkey hfree)
  · intro s slot e len u hreset hslot hissue hsave hodber hpos hword hmax hfree
    exact exec_eq_after (·.doCalFactory slot len) rfl
      (State.doCalFactory_judges ⟨hreset, hslot, hissue, hodber, hsave⟩ hpos hword hmax hfree)
  · intro s slot e chan rank u hreset hslot hissue hsave hodber hc hup hspare hr hrank hcaravan hrst
    exact exec_eq_after (·.doRankMigrate slot chan rank) rfl
      (State.doRankMigrate_retires ⟨hreset, hslot, hissue, hodber, hsave⟩ hc hup hspare hr hrank hcaravan hrst)
  · intro s slot e u hreset hslot hissue hsave hodber hnone hbar
    exact exec_eq_after (·.doCapAudit slot) rfl
      (State.doCapAudit_starts ⟨hreset, hslot, hissue, hodber, hsave⟩ hnone hbar)

end Sys2Proof.Machine
end

section
/-!
PROOFS. The reported status: the rules that it follows read nothing that reporting it writes, so a step ends with the status that the
state gives.
-/
namespace Sys2Proof.Machine

/-! ### What the reported status reads -/

/-- The register fields that the rules of the reported status read (R100, R101, R156, R191, R540). -/
def statusInputs : List Fld :=
  [R.CVN_STAT_READY, R.BST_SL_CUR, R.FTL_STAT_WITHDRAWN, R.ERG_STAT_VOLATILE, R.LDG_STAT_CLOSED, R.LDG_GUAR_G,
    R.TRK_HELD_HELD, R.LDG_TSEV_TSEV, R.LDG_TMOD_TMOD, R.ERG_STAT_REFORMED, R.ERG_STAT_REFORM_LOSS,
    R.FTL_STAT_SPARE_LOW, R.BST_FENCE_SLICES, R.BST_CORE_FENCED, R.DRM_STAT_CH_FENCE, R.FCC_CHFENCE_FENCE,
    R.FCC_STAT_CLS_FENCE, R.FTL_LIFE_LIFE_IMG]

/-- `t` gives the rules of the reported status what `s` gives them. -/
structure State.SameInputs (s t : State) : Prop where
  regs : ∀ f ∈ statusInputs, t.rd f = s.rd f
  act : t.act = s.act
  tracker : t.host.trk = s.host.trk
  holdSeen : t.host.holdSeen = s.host.holdSeen
  holdSeenPrev : t.host.holdSeenPrev = s.host.holdSeenPrev
  dram : t.dram = s.dram
  trk : t.trk = s.trk
  drift : t.drift = s.drift
  loq : t.loq = s.loq
  flash : t.flash = s.flash

namespace State.SameInputs

theorem refl (s : State) : s.SameInputs s := ⟨fun _ _ => rfl, rfl, rfl, rfl, rfl, rfl, rfl, rfl, rfl, rfl⟩

theorem trans {s t u : State} (h : s.SameInputs t) (h' : t.SameInputs u) : s.SameInputs u where
  regs f hf := (h'.regs f hf).trans (h.regs f hf)
  act := h'.act.trans h.act
  tracker := h'.tracker.trans h.tracker
  holdSeen := h'.holdSeen.trans h.holdSeen
  holdSeenPrev := h'.holdSeenPrev.trans h.holdSeenPrev
  dram := h'.dram.trans h.dram
  trk := h'.trk.trans h.trk
  drift := h'.drift.trans h.drift
  loq := h'.loq.trans h.loq
  flash := h'.flash.trans h.flash

theorem rd {s t : State} (h : s.SameInputs t) (f : Fld) (hf : f ∈ statusInputs := by decide) : t.rd f = s.rd f :=
  h.regs f hf

theorem on {s t : State} (h : s.SameInputs t) (f : Fld) (hf : f ∈ statusInputs := by decide) : t.on f = s.on f := by
  rw [State.on, State.on, h.rd f hf]

/-- A write of a field that no rule reads gives the rules the same. -/
theorem wr {s t : State} {g : Fld} {v i j : Nat} (h : s.SameInputs t) (hg : ∀ f ∈ statusInputs, f.key ≠ g.key i j) :
    s.SameInputs (t.wr g v i j) :=
  { h with regs := fun f hf => (t.rd_wr_other g f v i j 0 0 (hg f hf)).trans (h.regs f hf) }

/-- The two-wire ports give the rules nothing. -/
theorem twi {s t : State} {w : TwiSt} (h : s.SameInputs t) : s.SameInputs { t with twi := w } := { h with }

theorem admClosed {s t : State} (h : s.SameInputs t) : t.admClosed = s.admClosed := by
  rw [State.admClosed, State.admClosed, h.on R.LDG_STAT_CLOSED, h.tracker]

theorem level {s t : State} (h : s.SameInputs t) : t.level = s.level := h.rd R.BST_SL_CUR

theorem persState {s t : State} (h : s.SameInputs t) : t.persState = s.persState := by
  simp only [State.persState, h.on R.CVN_STAT_READY, h.level, h.on R.FTL_STAT_WITHDRAWN, h.on R.ERG_STAT_VOLATILE,
    h.on R.LDG_STAT_CLOSED]

theorem ledgerLevel {s t : State} (h : s.SameInputs t) : t.ledgerLevel = s.ledgerLevel := by
  simp only [State.ledgerLevel, h.trk, h.admClosed, h.rd R.LDG_TSEV_TSEV, h.rd R.LDG_TMOD_TMOD, h.rd R.TRK_HELD_HELD]

theorem ageBypass {s t : State} (h : s.SameInputs t) : t.ageBypass = s.ageBypass := by
  simp only [State.ageBypass, State.leaveHeld, h.rd R.LDG_GUAR_G, h.rd R.TRK_HELD_HELD, h.admClosed, h.loq, h.drift]

theorem mediaStatus {s t : State} (h : s.SameInputs t) : t.mediaStatus = s.mediaStatus := by
  simp only [State.mediaStatus, h.on R.CVN_STAT_READY, h.on R.ERG_STAT_REFORMED, h.rd R.ERG_STAT_REFORM_LOSS, h.level,
    h.on R.ERG_STAT_VOLATILE, h.on R.FTL_STAT_WITHDRAWN, h.on R.LDG_STAT_CLOSED]

theorem healthStatus {s t : State} (h : s.SameInputs t) : t.healthStatus = s.healthStatus := by
  simp only [State.healthStatus, h.on R.FTL_STAT_SPARE_LOW, h.rd R.BST_FENCE_SLICES, h.rd R.BST_CORE_FENCED,
    h.rd R.DRM_STAT_CH_FENCE, h.rd R.FCC_CHFENCE_FENCE, h.rd R.FCC_STAT_CLS_FENCE, h.flash, h.holdSeen, h.holdSeenPrev,
    h.dram, h.on R.FTL_STAT_WITHDRAWN]

end State.SameInputs

/-! ### The health telemetry (R100, R101) -/

/-- The last reported Media Status becomes the one that the rules give, with an event where it changed. -/
def State.reportMedia (s : State) : State :=
  if s.mediaStatus = s.host.mediaLast then s
  else
    let x : State := s.cxlEvent (if 2 ≤ s.mediaStatus then 2 else 1) 2 1 [s.mediaStatus]
    { x with host := { x.host with mediaLast := s.mediaStatus } }

/-- The same of the Health Status. -/
def State.reportHealth (s : State) : State :=
  if s.healthStatus = s.host.healthLast then s
  else
    let x : State := s.cxlEvent 1 2 0 [s.healthStatus]
    { x with host := { x.host with healthLast := s.healthStatus } }

/-- The same of the tenth of Life Used, with the Health Status `h` in its event. -/
def State.reportLife (s : State) (h : Nat) : State :=
  if s.rd R.FTL_LIFE_LIFE_IMG / 10 = s.host.lifeLast then s
  else
    let x : State := s.cxlEvent 1 2 0 [h, 10 * (s.rd R.FTL_LIFE_LIFE_IMG / 10)]
    { x with host := { x.host with lifeLast := s.rd R.FTL_LIFE_LIFE_IMG / 10 } }

theorem State.healthRefresh_eq (s : State) :
    s.healthRefresh = s.reportMedia.reportHealth.reportLife s.reportMedia.healthStatus := rfl

theorem State.reportMedia_frame (s : State) : ∃ (l : List (Nat × Ld)) (o : List Output),
    s.reportMedia = { s with host := { s.host with lds := l, mediaLast := s.mediaStatus }, out := o } := by
  unfold State.reportMedia
  split
  case isTrue h => exact ⟨s.host.lds, s.out, by rw [h]⟩
  case isFalse =>
    obtain ⟨l, o, h⟩ := s.cxlEvent_frame (if 2 ≤ s.mediaStatus then 2 else 1) 2 1 [s.mediaStatus]
    exact ⟨l, o, by rw [h]⟩

theorem State.reportHealth_frame (s : State) : ∃ (l : List (Nat × Ld)) (o : List Output),
    s.reportHealth = { s with host := { s.host with lds := l, healthLast := s.healthStatus }, out := o } := by
  unfold State.reportHealth
  split
  case isTrue h => exact ⟨s.host.lds, s.out, by rw [h]⟩
  case isFalse =>
    obtain ⟨l, o, h⟩ := s.cxlEvent_frame 1 2 0 [s.healthStatus]
    exact ⟨l, o, by rw [h]⟩

theorem State.reportLife_frame (s : State) (n : Nat) : ∃ (l : List (Nat × Ld)) (o : List Output),
    s.reportLife n =
      { s with host := { s.host with lds := l, lifeLast := s.rd R.FTL_LIFE_LIFE_IMG / 10 }, out := o } := by
  unfold State.reportLife
  split
  case isTrue h => exact ⟨s.host.lds, s.out, by rw [h]⟩
  case isFalse =>
    obtain ⟨l, o, h⟩ := s.cxlEvent_frame 1 2 0 [n, 10 * (s.rd R.FTL_LIFE_LIFE_IMG / 10)]
    exact ⟨l, o, by rw [h]⟩

/-- The health telemetry changes what it has reported, the logical devices' logs and what is sent, and nothing else. -/
theorem State.healthRefresh_frame (s : State) : ∃ (l : List (Nat × Ld)) (o : List Output),
    s.healthRefresh = { s with
      host := { s.host with
        lds := l
        mediaLast := s.mediaStatus
        healthLast := s.healthStatus
        lifeLast := s.rd R.FTL_LIFE_LIFE_IMG / 10 }
      out := o } := by
  obtain ⟨l₁, o₁, h₁⟩ := s.reportMedia_frame
  obtain ⟨l₂, o₂, h₂⟩ := s.reportMedia.reportHealth_frame
  obtain ⟨l₃, o₃, h₃⟩ := s.reportMedia.reportHealth.reportLife_frame s.reportMedia.healthStatus
  refine ⟨l₃, o₃, ?_⟩
  rw [State.healthRefresh_eq, h₃, h₂, h₁]
  rfl

theorem State.healthRefresh_inputs (s : State) : s.SameInputs s.healthRefresh := by
  obtain ⟨l, o, h⟩ := s.healthRefresh_frame
  rw [h]
  exact ⟨fun _ _ => rfl, rfl, rfl, rfl, rfl, rfl, rfl, rfl, rfl, rfl⟩

theorem State.healthRefresh_rd (s : State) (f : Fld) (i j : Nat) : s.healthRefresh.rd f i j = s.rd f i j := by
  obtain ⟨l, o, h⟩ := s.healthRefresh_frame
  rw [h]
  rfl

/-- The telemetry has then reported what the rules give. -/
theorem State.healthRefresh_lasts (s : State) :
    s.healthRefresh.host.mediaLast = s.healthRefresh.mediaStatus ∧
      s.healthRefresh.host.healthLast = s.healthRefresh.healthStatus ∧
      s.healthRefresh.host.lifeLast = s.healthRefresh.rd R.FTL_LIFE_LIFE_IMG / 10 := by
  rw [s.healthRefresh_inputs.mediaStatus, s.healthRefresh_inputs.healthStatus, s.healthRefresh_rd]
  obtain ⟨l, o, h⟩ := s.healthRefresh_frame
  rw [h]
  exact ⟨rfl, rfl, rfl⟩

/-! ### The reported registers (R156, R191, R540) -/

/-- A change of the persistence state is an alert cause (Table 15-6). -/
def State.alertPers (s : State) : State := if s.persState = s.rd R.LDG_STAT_STATE then s else s.alert 7

/-- The levels as the registers report them. -/
def State.reportLevels (s : State) (l : Nat) : State :=
  ((s.wr R.LDG_STAT_STATE s.persState).wr R.LDG_STAT_LEVEL l).wr R.HP_DLCUR_DL_LEDGER l 0

/-- The hold limit in force is the applied one, and port B has the ledger's level too. -/
def State.reportPorts (s : State) (l : Nat) : State :=
  ((s.wr R.HP_HOLD_HOLD_ACT (s.ap R.HP_HOLD_HOLD_LIM 0) 0).wr R.HP_HOLD_HOLD_ACT (s.ap R.HP_HOLD_HOLD_LIM 1) 1).wr
    R.HP_DLCUR_DL_LEDGER l 1

/-- DFT_STAT.AGE_BYPASS reads the bypass. -/
def State.reportBypass (s : State) : State := s.put R.DFT_STAT_AGE_BYPASS s.ageBypass

theorem State.refresh_eq (s : State) :
    s.refresh = (((s.alertPers.reportLevels s.ledgerLevel).reportBypass).reportPorts s.ledgerLevel).healthRefresh := rfl

theorem State.alertPers_inputs (s : State) : s.SameInputs s.alertPers := by
  unfold State.alertPers State.alert State.alertRefresh State.put
  split
  · exact .refl s
  · split
    · exact .refl s
    · exact ((SameInputs.refl s).wr (by decide)).twi.wr (by decide)

theorem State.reportLevels_inputs (s : State) (l : Nat) : s.SameInputs (s.reportLevels l) :=
  (((SameInputs.refl s).wr (by decide)).wr (by decide)).wr (by decide)

theorem State.reportBypass_inputs (s : State) : s.SameInputs s.reportBypass :=
  (SameInputs.refl s).wr (by decide)

theorem State.reportPorts_inputs (s : State) (l : Nat) : s.SameInputs (s.reportPorts l) :=
  (((SameInputs.refl s).wr (by decide)).wr (by decide)).wr (by decide)

theorem State.persState_lt (s : State) : s.persState < 8 := by
  unfold State.persState
  split_ifs <;> decide

theorem State.ledgerLevel_lt (s : State) : s.ledgerLevel < 4 := by
  unfold State.ledgerLevel
  split_ifs <;> decide

/-- The registers that report, as `State.refresh` leaves them. -/
def State.reportRegs (s : State) : State :=
  ((s.alertPers.reportLevels s.ledgerLevel).reportBypass).reportPorts s.ledgerLevel

theorem State.reportRegs_inputs (s : State) : s.SameInputs s.reportRegs :=
  ((s.alertPers_inputs.trans (reportLevels_inputs _ _)).trans (reportBypass_inputs _)).trans (reportPorts_inputs _ _)

theorem State.reportRegs_state (s : State) : s.reportRegs.rd R.LDG_STAT_STATE = s.persState := by
  rw [← s.alertPers_inputs.persState, ← Nat.mod_eq_of_lt s.alertPers.persState_lt]
  simp (disch := decide) only [reportRegs, reportPorts, reportBypass, reportLevels, put, rd_wr_other]
  exact rd_wr ..

theorem State.reportRegs_level (s : State) : s.reportRegs.rd R.LDG_STAT_LEVEL = s.ledgerLevel := by
  rw [← Nat.mod_eq_of_lt s.ledgerLevel_lt]
  simp (disch := decide) only [reportRegs, reportPorts, reportBypass, reportLevels, put, rd_wr_other]
  exact rd_wr ..

theorem State.reportRegs_portLevel (s : State) {p : Nat} (hp : p < 2) :
    s.reportRegs.rd R.HP_DLCUR_DL_LEDGER p = s.ledgerLevel := by
  rw [← Nat.mod_eq_of_lt s.ledgerLevel_lt]
  interval_cases p
  · simp (disch := decide) only [reportRegs, reportPorts, reportBypass, reportLevels, put, rd_wr_other]
    exact rd_wr ..
  · exact rd_wr ..

theorem State.reportRegs_holdAct (s : State) {p : Nat} (hp : p < 2) :
    s.reportRegs.rd R.HP_HOLD_HOLD_ACT p = s.reportRegs.ap R.HP_HOLD_HOLD_LIM p % 2 ^ R.HP_HOLD_HOLD_ACT.wd := by
  interval_cases p
  · simp (disch := decide) only [reportRegs, reportPorts, rd_wr_other]
    exact rd_wr ..
  · simp (disch := decide) only [reportRegs, reportPorts, rd_wr_other]
    exact rd_wr ..

theorem State.reportRegs_bypass (s : State) : s.reportRegs.on R.DFT_STAT_AGE_BYPASS = s.ageBypass := by
  have hsame := (s.alertPers_inputs.trans (s.alertPers.reportLevels_inputs s.ledgerLevel)).ageBypass
  rw [← hsame, ← on_put (s.alertPers.reportLevels s.ledgerLevel) R.DFT_STAT_AGE_BYPASS
    (s.alertPers.reportLevels s.ledgerLevel).ageBypass 0 0 (by decide)]
  simp (disch := decide) only [on, reportRegs, reportPorts, reportBypass, rd_wr_other]

/-- What is reported follows from the rest of the state once the levels and the telemetry have been brought up to date. -/
theorem State.refresh_reports (s : State) : s.refresh.reports := by
  have heq : s.refresh = s.reportRegs.healthRefresh := s.refresh_eq
  have hin := s.reportRegs_inputs.trans s.reportRegs.healthRefresh_inputs
  obtain ⟨hmedia, hhealth, hlife⟩ := s.reportRegs.healthRefresh_lasts
  rw [heq]
  unfold State.reports
  refine ⟨?_, ?_, fun p hp => ⟨?_, ?_⟩, ?_, hmedia, hhealth, hlife⟩
  · rw [healthRefresh_rd, s.reportRegs_state, hin.persState]
  · rw [healthRefresh_rd, s.reportRegs_level, hin.ledgerLevel]
  · rw [healthRefresh_rd, s.reportRegs_portLevel hp, hin.ledgerLevel]
  · rw [healthRefresh_rd, s.reportRegs_holdAct hp, State.ap, State.ap, s.reportRegs.healthRefresh_inputs.act]
  · rw [State.on, healthRefresh_rd, hin.ageBypass]
    exact s.reportRegs_bypass

/-- Every command ends with the status brought up to date. -/
theorem State.after_reports (s t : State) : (s.after t).reports := State.refresh_reports _

/-- A step answers what a command or an idle step leaves. -/
theorem step_next {s t : State} (h : step s = .next t) : ∃ u v : State, t = u.after v := by
  have hexec : ∀ (c : Instr) (x : State), exec c x = .next t → ∃ u v : State, t = u.after v := by
    intro c x hx
    obtain ⟨f, hf⟩ := exec_eq_ok c x
    rw [hf, ok_eq] at hx
    exact ⟨x, f x.fresh, (Host.Outcome.next.inj hx).symm⟩
  unfold step at h
  split at h
  · exact hexec _ _ h
  · split at h
    · exact hexec _ _ h
    · exact ⟨s, s.fresh.idle, (Host.Outcome.next.inj h).symm⟩

/-- Settles O48: whatever a step does, it ends with `State.refresh`. -/
theorem statusFollowsEveryStep : Obligations.StatusFollowsEveryStep := by
  intro s t h
  obtain ⟨u, v, rfl⟩ := step_next h
  exact u.after_reports v

/-- Settles O47: a closed fact about the reset state. -/
theorem resetReports : Obligations.ResetReports := by
  unfold Obligations.ResetReports State.reports
  decide +kernel

end Sys2Proof.Machine
end

section
/-!
PROOFS. What a write that lands in DRAM does to each byte and to each poison mark of host memory.
-/
namespace Sys2Proof.Machine

/-! ### A write that lands (R89, R130) -/

/-- What any byte reads after a write: an enabled byte of the data, and otherwise what it read before. -/
theorem smGet_memWrite : ∀ (bs : List Byte) (a be : Nat) (m : List Host.Cell) (b : Nat),
    smGet 0 (memWrite a be bs m) b =
      if a ≤ b ∧ b < a + bs.length ∧ be.testBit (b - a) = true then bs.getD (b - a) 0 else smGet 0 m b
  | [], a, be, m, b => by
    rw [memWrite, if_neg (by simp only [List.length_nil]; omega)]
  | x :: bs, a, be, m, b => by
    rw [memWrite, smGet_memWrite bs (a + 1) (be / 2)]
    by_cases hb : b = a
    · subst hb
      rw [if_neg (by omega)]
      by_cases hbe : be % 2 = 1
      · simp [hbe, Nat.testBit_zero]
      · simp [hbe, Nat.testBit_zero]
    · have hkeep : smGet 0 (if be % 2 = 1 then smSet 0 a x m else m) b = smGet 0 m b := by
        split
        · exact smGet_smSet_other 0 x m hb
        · rfl
      rw [hkeep]
      by_cases hab : a < b
      · obtain ⟨k, rfl⟩ := Nat.exists_eq_add_of_lt hab
        have hk : a + k + 1 - (a + 1) = k := by omega
        have hk' : a + k + 1 - a = k + 1 := by omega
        rw [hk, hk', ← Nat.testBit_succ]
        refine if_congr ?_ (by simp) rfl
        rw [List.length_cons]
        constructor
        · rintro ⟨-, hlt, hbit⟩
          exact ⟨by omega, by omega, hbit⟩
        · rintro ⟨-, hlt, hbit⟩
          exact ⟨by omega, by omega, hbit⟩
      · rw [if_neg (by omega), if_neg (by omega)]

theorem State.byteAt_landWrite (s : State) (a be : Nat) (data : List Byte) (psn : Bool) (b : Nat) :
    (s.landWrite a be data psn).byteAt b =
      if a ≤ b ∧ b < a + (data.take 64).length ∧ be.testBit (b - a) = true then (data.take 64).getD (b - a) 0
      else s.byteAt b :=
  smGet_memWrite (data.take 64) a be s.mem b

/-- The mark of any line after a write lands: the line written follows the rules of R89, every other line keeps its own. -/
theorem State.poisoned_landWrite (s : State) (a be : Nat) (data : List Byte) (psn : Bool) (b : Nat) :
    (s.landWrite a be data psn).poisoned b =
      if b / 64 = a / 64 then psn || (s.poisoned a && !decide (be % 2 ^ 64 = allBe)) else s.poisoned b := by
  unfold State.landWrite State.poisoned
  dsimp only
  generalize be % 2 ^ 64 = enabled
  cases psn with
  | true => simp [smGet_smSet]
  | false =>
    by_cases hbe : enabled = allBe
    · simp [smGet_smSet, hbe]
    · by_cases hline : b / 64 = a / 64 <;> simp [hbe, hline]

/-- Settles O49, from what any byte and any mark reads after a write lands. -/
theorem landedWriteBytesFrameAndPoison : Obligations.LandedWriteBytesFrameAndPoison := by
  intro s a be data psn
  refine ⟨?_, ?_, ?_, ?_⟩
  · intro b hb
    rw [s.byteAt_landWrite, if_neg]
    rintro ⟨hle, hlt, -⟩
    rw [List.length_take] at hlt
    omega
  · intro i hi hlen
    rw [s.byteAt_landWrite, Nat.add_sub_cancel_left]
    have hin : a ≤ a + i ∧ a + i < a + (data.take 64).length := by
      rw [List.length_take]
      omega
    have hget : (data.take 64).getD i 0 = data.getD i 0 := by
      simp [List.getD, hi]
    simp only [hin, hget, true_and]
  · exact (s.poisoned_landWrite a be data psn a).trans (if_pos rfl)
  · intro b hb
    rw [s.poisoned_landWrite, if_neg hb]

end Sys2Proof.Machine
end

section
/-!
PROOFS. What follows a command in its step writes no host memory: one lemma for each operation that the settling of a state can
reach, in the order of their definitions.
-/
namespace Sys2Proof.Machine

/-! ### Host memory through the operations of the block -/

/-- Every byte of host memory and every poison mark of `t` is that of `s`. -/
@[simp] abbrev State.KeepsMemory (s t : State) : Prop := t.mem = s.mem ∧ t.poison = s.poison

theorem State.KeepsMemory.trans {s t u : State} (h : s.KeepsMemory t) (h' : t.KeepsMemory u) : s.KeepsMemory u :=
  ⟨h'.1.trans h.1, h'.2.trans h.2⟩

@[simp] theorem State.ite_mem (c : Prop) [Decidable c] (s t : State) :
    (if c then s else t).mem = if c then s.mem else t.mem := apply_ite _ _ _ _

@[simp] theorem State.ite_poison (c : Prop) [Decidable c] (s t : State) :
    (if c then s else t).poison = if c then s.poison else t.poison := apply_ite _ _ _ _

/-- Operations of which each keeps host memory keep it one after the other. -/
@[simp] theorem foldl_keepsMemory {α : Type} {f : State → α → State}
    (h : ∀ (s : State) (a : α), s.KeepsMemory (f s a)) (l : List α) (s : State) : s.KeepsMemory (l.foldl f s) := by
  induction l generalizing s with
  | nil => exact ⟨rfl, rfl⟩
  | cons a l ih => exact (h s a).trans (ih (f s a))

/-- The same where the operations hand a value on. -/
theorem foldl_snd_keepsMemory {α β : Type} {f : β × State → α → β × State}
    (h : ∀ (e : β × State) (a : α), e.2.KeepsMemory (f e a).2) (l : List α) (e : β × State) :
    e.2.KeepsMemory (l.foldl f e).2 := by
  induction l generalizing e with
  | nil => exact ⟨rfl, rfl⟩
  | cons a l ih => exact (h e a).trans (ih (f e a))

/-! ### The operations of Machine/Ops -/

@[simp] theorem State.free_keepsMemory (s : State) : s.KeepsMemory s.free.2 := ⟨rfl, rfl⟩
@[simp] theorem State.alert_keepsMemory (s : State) (n : Nat) : s.KeepsMemory (s.alert n) := by simp [State.alert]
@[simp] theorem State.cxlEventLd_keepsMemory (s : State) (k log typ sub : Nat) (data : List Nat) :
    s.KeepsMemory (s.cxlEventLd k log typ sub data) := by simp [State.cxlEventLd]
@[simp] theorem State.cxlEvent_keepsMemory (s : State) (log typ sub : Nat) (data : List Nat) :
    s.KeepsMemory (s.cxlEvent log typ sub data) := by simp [State.cxlEvent]
@[simp] theorem State.listPoison_keepsMemory (s : State) (dpa : Nat) :
    s.KeepsMemory (s.listPoison dpa) := by simp [State.listPoison]

/-! ### The operations of Machine/BufOps -/

@[simp] theorem State.bufGive_keepsMemory (s : State) (k op : Nat) : s.KeepsMemory (s.bufGive k op) := ⟨rfl, rfl⟩
@[simp] theorem State.bufServe_keepsMemory (s : State) : s.KeepsMemory s.bufServe := by
  unfold State.bufServe
  dsimp only
  split <;> simp
@[simp] theorem State.bufTake_keepsMemory (s : State) (k : Nat) : s.KeepsMemory (s.bufTake k).2 := by
  unfold State.bufTake
  split <;> simp
@[simp] theorem State.bufPut_keepsMemory (s : State) (e : Nat × Nat) :
    s.KeepsMemory (s.bufPut e) := by simp [State.bufPut]

/-! ### The operations of Machine/Track -/

@[simp] theorem State.healthRefresh_keepsMemory (s : State) :
    s.KeepsMemory s.healthRefresh := by simp [State.healthRefresh]
@[simp] theorem State.refresh_keepsMemory (s : State) : s.KeepsMemory s.refresh := by simp [State.refresh]
@[simp] theorem State.closedClear_keepsMemory (s : State) : s.KeepsMemory s.closedClear := by simp [State.closedClear]
@[simp] theorem State.gateOff_keepsMemory (s : State) : s.KeepsMemory s.gateOff := ⟨rfl, rfl⟩
@[simp] theorem State.setHeld_keepsMemory (s : State) (memPages stg : Nat) :
    s.KeepsMemory (s.setHeld memPages stg) := by simp [State.setHeld]
@[simp] theorem State.heldAdd_keepsMemory (s : State) : s.KeepsMemory s.heldAdd := by simp [State.heldAdd]
@[simp] theorem State.stgSub_keepsMemory (s : State) (k : Nat) : s.KeepsMemory (s.stgSub k) := by simp [State.stgSub]
@[simp] theorem State.bitmapUse_keepsMemory (s : State) (p : Nat) (written : Bool) :
    s.KeepsMemory (s.bitmapUse p written) := ⟨rfl, rfl⟩
@[simp] theorem State.setDirty_keepsMemory (s : State) (p : Nat) (byStore : Bool) :
    s.KeepsMemory (s.setDirty p byStore) := ⟨rfl, rfl⟩
@[simp] theorem State.setCopy_keepsMemory (s : State) (p : Nat) (c : Option CopyEnt) :
    s.KeepsMemory (s.setCopy p c) := ⟨rfl, rfl⟩
@[simp] theorem State.pageStore_keepsMemory (s : State) (p : Nat) : s.KeepsMemory (s.pageStore p) := by
  unfold State.pageStore
  repeat' split
  all_goals simp
@[simp] theorem State.clearTracking_keepsMemory (s : State) :
    s.KeepsMemory s.clearTracking := by simp [State.clearTracking]
@[simp] theorem State.trackOff_keepsMemory (s : State) : s.KeepsMemory s.trackOff := by simp [State.trackOff]

/-! ### The operations of Machine/Operands -/

@[simp] theorem State.loadPolicy_keepsMemory (s : State) (ovl : Nat) (now : Bool) (sel : PolFld → Bool) :
    s.KeepsMemory (s.loadPolicy ovl now sel) := by simp [State.loadPolicy]

/-! ### The operations of Machine/LoqOps -/

@[simp] theorem State.setLoqEnt_keepsMemory (s : State) (e : Nat) (x : LoqEnt) :
    s.KeepsMemory (s.setLoqEnt e x) := ⟨rfl, rfl⟩
@[simp] theorem State.loqEnd_keepsMemory (s : State) (e status result : Nat) (record : List Nat) :
    s.KeepsMemory (s.loqEnd e status result record) := by
  unfold State.loqEnd
  dsimp only
  repeat' split
  all_goals simp

/-! ### The operations of Machine/LevelOps -/

@[simp] theorem State.setLevel_keepsMemory (s : State) (l : Nat) :
    s.KeepsMemory (s.setLevel l) := by simp [State.setLevel]
@[simp] theorem State.capRefresh_keepsMemory (s : State) : s.KeepsMemory s.capRefresh := by simp [State.capRefresh]
@[simp] theorem State.ledgerStart_keepsMemory (s : State) (periodic : Bool) :
    s.KeepsMemory (s.ledgerStart periodic) := by
  unfold State.ledgerStart
  repeat' split
  all_goals simp

/-! ### The operations of Machine/AuditOps -/

@[simp] theorem State.audLoad_keepsMemory (s : State) (on : Bool) :
    s.KeepsMemory (s.audLoad on) := by simp [State.audLoad]
@[simp] theorem State.audEnd_keepsMemory (s : State) (status cause : Nat) :
    s.KeepsMemory (s.audEnd status cause) := by simp [State.audEnd]
@[simp] theorem State.audDisq_keepsMemory (s : State) (cause : Nat) :
    s.KeepsMemory (s.audDisq cause) := by simp [State.audDisq]
@[simp] theorem State.audSevere_keepsMemory (s : State) : s.KeepsMemory s.audSevere := by simp [State.audSevere]

/-! ### The operations of Machine/Dram0 -/

@[simp] theorem State.setDrain_keepsMemory (s : State) (way : Nat) (b : Bool) :
    s.KeepsMemory (s.setDrain way b) := by simp [State.setDrain]
@[simp] theorem State.drainRefresh_keepsMemory (s : State) (way : Nat) :
    s.KeepsMemory (s.drainRefresh way) := by simp [State.drainRefresh]
@[simp] theorem State.dramPush_keepsMemory (s : State) (line : Nat) (wr : Bool) (data : List Byte) (be : Nat)
    (psn : Bool) (src : DSrc) (urg : Nat) (qent : Option Nat) :
    s.KeepsMemory (s.dramPush line wr data be psn src urg qent) := by simp [State.dramPush]
@[simp] theorem State.setJob_keepsMemory (s : State) (j : PageIo) : s.KeepsMemory (s.setJob j) := ⟨rfl, rfl⟩
@[simp] theorem State.pageDrop_keepsMemory (s : State) (src : DSrc) : s.KeepsMemory (s.pageDrop src) := ⟨rfl, rfl⟩
@[simp] theorem State.pageLine_keepsMemory (s : State) (src : DSrc) (i : Nat) : s.KeepsMemory (s.pageLine src i) := by
  unfold State.pageLine
  split <;> simp
@[simp] theorem State.pageBuf_keepsMemory (s : State) (j : PageIo) :
    s.KeepsMemory (s.pageBuf j) := by simp [State.pageBuf]
@[simp] theorem State.pagePush_keepsMemory (s : State) (j : PageIo) :
    s.KeepsMemory (s.pagePush j) := by simp [State.pagePush]
@[simp] theorem State.pageStart_keepsMemory (s : State) (j : PageIo) :
    s.KeepsMemory (s.pageStart j) := by simp [State.pageStart]
@[simp] theorem State.mapIo_keepsMemory (s : State) (byte : Nat) : s.KeepsMemory (s.mapIo byte) := by simp [State.mapIo]
@[simp] theorem State.bitmapIo_keepsMemory (s : State) (n : Nat) (wr : Bool) :
    s.KeepsMemory (s.bitmapIo n wr) := by simp [State.bitmapIo]
@[simp] theorem State.bitmapKick_keepsMemory (s : State) : s.KeepsMemory s.bitmapKick := by simp [State.bitmapKick]
@[simp] theorem State.bulkMark_keepsMemory (s : State) : s.KeepsMemory s.bulkMark := ⟨rfl, rfl⟩

/-! ### The operations of Machine/FlashOps -/

@[simp] theorem State.slotsRefresh_keepsMemory (s : State) (c : Nat) : s.KeepsMemory (s.slotsRefresh c) := ⟨rfl, rfl⟩
@[simp] theorem State.setFop_keepsMemory (s : State) (o : FOp) : s.KeepsMemory (s.setFop o) := ⟨rfl, rfl⟩
theorem State.fopAdmit_keepsMemory {s t : State} {o : FOp} (h : s.fopAdmit o = some t) : s.KeepsMemory t := by
  unfold State.fopAdmit at h
  split at h
  case isTrue => cases h
  case isFalse =>
    generalize htake : (if o.buf ≠ 0 ∨ o.consumer = 0 then (o.buf, s) else s.bufTake o.consumer) = taken at h
    have hkeep : s.KeepsMemory taken.2 := by
      rw [← htake]
      split <;> simp
    dsimp only at h
    split at h
    case isTrue => cases h
    case isFalse =>
      cases h
      simpa using hkeep
@[simp] theorem State.slotFill_keepsMemory (s : State) : s.KeepsMemory s.slotFill := by
  refine foldl_keepsMemory (fun s o => ?_) _ _
  split
  case h_1 => exact ⟨rfl, rfl⟩
  case h_2 h => simpa using State.fopAdmit_keepsMemory h
@[simp] theorem State.fIssue_keepsMemory (s : State) (k : Nat) (kind : FKind) (cls : Nat) (urgent : Bool)
    (sb addr : Nat) (src : FSrc) (buf : Nat) : s.KeepsMemory (s.fIssue k kind cls urgent sb addr src buf) := by
  unfold State.fIssue
  dsimp only
  split
  case h_1 h => simpa using State.fopAdmit_keepsMemory h
  case h_2 => simp
@[simp] theorem State.laneGive_keepsMemory (s : State) (k : Nat) (soft : Bool) : s.KeepsMemory (s.laneGive k soft) := by
  unfold State.laneGive
  by_cases hfull : (if soft then 2 else 16) ≤ (s.laneOps k soft true).length
  · simp [hfull]
  · rw [if_neg hfull]
    split <;> simp
@[simp] theorem State.laneFill_keepsMemory (s : State) : s.KeepsMemory s.laneFill := by simp [State.laneFill]

/-! ### The operations of Machine/FtlOps -/

@[simp] theorem State.chunkMark_keepsMemory (s : State) (v : Nat) : s.KeepsMemory (s.chunkMark v) := ⟨rfl, rfl⟩
@[simp] theorem State.setSb_keepsMemory (s : State) (n : Nat) (b : SbSt) : s.KeepsMemory (s.setSb n b) := ⟨rfl, rfl⟩
@[simp] theorem State.xorOpen_keepsMemory (s : State) (n u : Nat) : s.KeepsMemory (s.xorOpen n u) := by
  refine foldl_snd_keepsMemory (fun e _ => ?_) _ (([], s) : List Nat × State)
  exact State.bufTake_keepsMemory e.2 5
@[simp] theorem State.stripeStep_keepsMemory (s : State) (n : Nat) (b : SbSt) (f f' : Nat) :
    s.KeepsMemory (s.stripeStep n b f f') := by simp [State.stripeStep]
@[simp] theorem State.xorEnd_keepsMemory (s : State) (n u : Nat) : s.KeepsMemory (s.xorEnd n u) := ⟨rfl, rfl⟩
@[simp] theorem State.freeRefresh_keepsMemory (s : State) : s.KeepsMemory s.freeRefresh := ⟨rfl, rfl⟩
@[simp] theorem State.withdraw_keepsMemory (s : State) : s.KeepsMemory s.withdraw := by simp [State.withdraw]
@[simp] theorem State.withdrawCheck_keepsMemory (s : State) :
    s.KeepsMemory s.withdrawCheck := by simp [State.withdrawCheck]
@[simp] theorem State.account_keepsMemory (s : State) : s.KeepsMemory s.account := by simp [State.account]
@[simp] theorem State.wearRefresh_keepsMemory (s : State) : s.KeepsMemory s.wearRefresh := ⟨rfl, rfl⟩
@[simp] theorem State.jot_keepsMemory (s : State) (kind : Nat) (args : List Nat) :
    s.KeepsMemory (s.jot kind args) := ⟨rfl, rfl⟩
@[simp] theorem State.rewriteSched_keepsMemory (s : State) (n : Nat) :
    s.KeepsMemory (s.rewriteSched n) := by simp [State.rewriteSched]
@[simp] theorem State.closeSb_keepsMemory (s : State) (t : Nat) : s.KeepsMemory (s.closeSb t) := by
  unfold State.closeSb
  split <;> simp
@[simp] theorem State.closeOf_keepsMemory (s : State) (n : Nat) : s.KeepsMemory (s.closeOf n) := by
  unfold State.closeOf
  split <;> simp
@[simp] theorem State.openSb_keepsMemory (s : State) (t : Nat) : s.KeepsMemory (s.openSb t) := by
  unfold State.openSb
  repeat' split
  all_goals simp
@[simp] theorem State.roomFor_keepsMemory (s : State) (t k : Nat) : s.KeepsMemory (s.roomFor t k).2 := by
  unfold State.roomFor
  dsimp only
  split <;> simp
@[simp] theorem State.assign_keepsMemory (s : State) (t k : Nat) : s.KeepsMemory (s.assign t k).2 := by
  have hroom := s.roomFor_keepsMemory t k
  unfold State.assign
  split
  case h_1 h => simpa [h] using hroom
  case h_2 h => simpa [h] using hroom
@[simp] theorem State.setSlot_keepsMemory (s : State) (a : Nat) (c : Option SlotC) :
    s.KeepsMemory (s.setSlot a c) := ⟨rfl, rfl⟩
@[simp] theorem State.parityIssue_keepsMemory (s : State) (n u : Nat) : s.KeepsMemory (s.parityIssue n u) := by
  unfold State.parityIssue
  dsimp only
  split <;> simp
@[simp] theorem State.parityKick_keepsMemory (s : State) : s.KeepsMemory s.parityKick := by simp [State.parityKick]
@[simp] theorem State.sysWrite_keepsMemory (s : State) (kind key gen : Nat) (data : List Host.Cell) :
    s.KeepsMemory (s.sysWrite kind key gen data) := by
  refine foldl_keepsMemory (fun s t => ?_) _ _
  have hassign := s.assign_keepsMemory t 1
  split
  case h_1 h => simpa [h] using hassign
  case h_2 h => simpa [h] using hassign
@[simp] theorem State.mapTouched_keepsMemory (s : State) : s.KeepsMemory s.mapTouched := ⟨rfl, rfl⟩
@[simp] theorem State.setCoarse_keepsMemory (s : State) (i v : Nat) :
    s.KeepsMemory (s.setCoarse i v) := by simp [State.setCoarse]
@[simp] theorem State.setFine_keepsMemory (s : State) (g e v : Nat) :
    s.KeepsMemory (s.setFine g e v) := by simp [State.setFine]
@[simp] theorem State.groupRefresh_keepsMemory (s : State) : s.KeepsMemory s.groupRefresh := ⟨rfl, rfl⟩
@[simp] theorem State.freeGroup_keepsMemory (s : State) (g : Nat) : s.KeepsMemory (s.freeGroup g) := ⟨rfl, rfl⟩
@[simp] theorem State.splitUnit_keepsMemory (s : State) (i : Nat) : s.KeepsMemory (s.splitUnit i).2 := by
  unfold State.splitUnit
  dsimp only
  split_ifs <;> simp
@[simp] theorem State.setNsEntry_keepsMemory (s : State) (x v : Nat) : s.KeepsMemory (s.setNsEntry x v) := by
  have hsplit := s.splitUnit_keepsMemory (x / s.unitSlots)
  unfold State.setNsEntry
  dsimp only
  split
  · simp
  · split
    case h_1 h => simpa [h] using hsplit
    case h_2 h => simpa [h] using hsplit
@[simp] theorem State.startVictim_keepsMemory (s : State) (n : Nat) (wl : Bool) :
    s.KeepsMemory (s.startVictim n wl) := by simp [State.startVictim]
@[simp] theorem State.gcNext_keepsMemory (s : State) : s.KeepsMemory s.gcNext := by
  unfold State.gcNext
  repeat' split
  all_goals simp

/-! ### The operations of Machine/NvmOps -/

@[simp] theorem State.setFn_keepsMemory (s : State) (f : Nat) (x : FnSt) : s.KeepsMemory (s.setFn f x) := ⟨rfl, rfl⟩
@[simp] theorem State.cqPost_keepsMemory (s : State) (f q cq cid sct sc : Nat) (data : List Nat) :
    s.KeepsMemory (s.cqPost f q cq cid sct sc data) := by
  unfold State.cqPost
  dsimp only
  split <;> simp
@[simp] theorem State.aen_keepsMemory (s : State) (f w : Nat) : s.KeepsMemory (s.aen f w) := by
  unfold State.aen
  dsimp only
  split <;> simp
@[simp] theorem State.nsChanged_keepsMemory (s : State) (ns : Nat) (fs : List Nat) :
    s.KeepsMemory (s.nsChanged ns fs) := by simp [State.nsChanged]
@[simp] theorem State.setNs_keepsMemory (s : State) (n : Nat) (x : NsSt) : s.KeepsMemory (s.setNs n x) := ⟨rfl, rfl⟩
@[simp] theorem State.modeEvent_keepsMemory (s : State) (f : Nat) :
    s.KeepsMemory (s.modeEvent f) := by simp [State.modeEvent]
@[simp] theorem State.modeOf_keepsMemory (s : State) (n : Nat) : s.KeepsMemory (s.modeOf n) := by simp [State.modeOf]
@[simp] theorem State.modeRefresh_keepsMemory (s : State) : s.KeepsMemory s.modeRefresh := by
  unfold State.modeRefresh
  dsimp only
  split <;> simp
@[simp] theorem State.setCmd_keepsMemory (s : State) (t : Nat) (c : CmdSt) : s.KeepsMemory (s.setCmd t c) := ⟨rfl, rfl⟩
@[simp] theorem State.nvmRefresh_keepsMemory (s : State) : s.KeepsMemory s.nvmRefresh := ⟨rfl, rfl⟩
@[simp] theorem State.setStall_keepsMemory (s : State) (f q : Nat) (b : Bool) :
    s.KeepsMemory (s.setStall f q b) := ⟨rfl, rfl⟩
@[simp] theorem State.unlock_keepsMemory (s : State) (t : Nat) : s.KeepsMemory (s.unlock t) := ⟨rfl, rfl⟩
@[simp] theorem State.setStg_keepsMemory (s : State) (n : Nat) (x : StgSt) : s.KeepsMemory (s.setStg n x) := ⟨rfl, rfl⟩
@[simp] theorem State.freeStg_keepsMemory (s : State) (n : Nat) : s.KeepsMemory (s.freeStg n) := by
  unfold State.freeStg
  split <;> simp
@[simp] theorem State.orphan_keepsMemory (s : State) (t : Nat) : s.KeepsMemory (s.orphan t) := ⟨rfl, rfl⟩
@[simp] theorem State.nvmDone_keepsMemory (s : State) (t sct sc : Nat) (data : List Nat) :
    s.KeepsMemory (s.nvmDone t sct sc data) := by
  unfold State.nvmDone
  dsimp only
  split <;> simp

/-! ### The operations of Machine/NvmRun -/

@[simp] theorem State.slotRead_keepsMemory (s : State) (t ns k : Nat) : s.KeepsMemory (s.slotRead t ns k) := by
  unfold State.slotRead
  split <;> simp
@[simp] theorem State.destage_keepsMemory (s : State) (ns : List Nat) : s.KeepsMemory (s.destage ns) := by
  unfold State.destage
  extract_lets issue u whole
  have hissue : ∀ (s : State) (n a : Nat), s.KeepsMemory (issue s n a) := by
    intro s n a
    dsimp only [issue]
    split <;> simp
  split
  · have hassign := s.assign_keepsMemory 3 u
    split
    case h_1 h =>
      rw [h] at hassign
      exact (hassign.trans (foldl_keepsMemory (fun s i => hissue s _ _) _ _)).trans (State.mapTouched_keepsMemory _)
    case h_2 h => simpa [h] using hassign
  · refine foldl_keepsMemory (fun s n => ?_) _ _
    have hassign := s.assign_keepsMemory 3 1
    split
    case h_1 h =>
      rw [h] at hassign
      exact (hassign.trans (hissue _ _ _)).trans (State.mapTouched_keepsMemory _)
    case h_2 h => simpa [h] using hassign
@[simp] theorem State.jrnlWait_keepsMemory (s : State) (t : Nat) : s.KeepsMemory (s.jrnlWait t) := ⟨rfl, rfl⟩
@[simp] theorem State.deallocNs_keepsMemory (s : State) (ns : Nat) :
    s.KeepsMemory (s.deallocNs ns) := by simp [State.deallocNs]
@[simp] theorem State.nvmKick_keepsMemory (s : State) : s.KeepsMemory s.nvmKick := by
  unfold State.nvmKick
  refine (foldl_keepsMemory (fun s e => ?_) _ s).trans (foldl_keepsMemory (fun s e => ?_) _ _)
  · dsimp only
    repeat' split
    all_goals simp
  · split <;> simp
@[simp] theorem State.nvmFinish_keepsMemory (s : State) (t sct sc : Nat) (data : List Nat) :
    s.KeepsMemory (s.nvmFinish t sct sc data) := by simp [State.nvmFinish]
@[simp] theorem State.writeInStaging_keepsMemory (s : State) (t : Nat) (c : CmdSt) :
    s.KeepsMemory (s.writeInStaging t c) := by
  simp only [State.writeInStaging, State.KeepsMemory, State.ite_mem, State.ite_poison, State.nvmFinish_keepsMemory,
    ite_self, foldl_keepsMemory (State.destage_keepsMemory · ·), State.setCmd_keepsMemory,
    foldl_keepsMemory (fun s k => State.setNsEntry_keepsMemory s _ 1)]
  exact foldl_keepsMemory (fun s p => by split <;> simp) _ s
@[simp] theorem State.writeLand_keepsMemory (s : State) (t : Nat) (c : CmdSt) :
    s.KeepsMemory (s.writeLand t c) := by simp [State.writeLand]
@[simp] theorem State.writeStaged_keepsMemory (s : State) (t : Nat) (c : CmdSt) :
    s.KeepsMemory (s.writeStaged t c) := by
  unfold State.writeStaged
  refine (foldl_keepsMemory (fun s i => ?_) _ _).trans (State.writeLand_keepsMemory _ t c)
  dsimp only
  split <;> simp
@[simp] theorem State.writeMerge_keepsMemory (s : State) (t : Nat) (c : CmdSt) :
    s.KeepsMemory (s.writeMerge t c) := by simp [State.writeMerge]
@[simp] theorem State.fillKick_keepsMemory (s : State) : s.KeepsMemory s.fillKick := by
  refine foldl_keepsMemory (fun s e => ?_) _ _
  split <;> simp
@[simp] theorem State.destageWaiting_keepsMemory (s : State) :
    s.KeepsMemory s.destageWaiting := by simp [State.destageWaiting]
@[simp] theorem State.nsReady_keepsMemory (s : State) : s.KeepsMemory s.nsReady := by simp [State.nsReady]

/-! ### The operations of Machine/Checkpoint -/

@[simp] theorem State.sysTry_keepsMemory (s : State) (kind key gen : Nat) (data : List Host.Cell) :
    s.KeepsMemory (s.sysTry kind key gen data).2 := by
  unfold State.sysTry
  dsimp only
  split <;> simp
@[simp] theorem State.cpChunks_keepsMemory (s : State) (c : CpSt) : s.KeepsMemory (s.cpChunks c) := by
  refine foldl_snd_keepsMemory (fun e id => ?_) c.todo (([], s) : List Nat × State)
  exact State.sysTry_keepsMemory e.2 0x20 id c.seq _
@[simp] theorem State.cpDirs_keepsMemory (s : State) (c : CpSt) : s.KeepsMemory (s.cpDirs c) := by simp [State.cpDirs]
@[simp] theorem State.cpRoot_keepsMemory (s : State) (c : CpSt) : s.KeepsMemory (s.cpRoot c) := by
  have htry := s.sysTry_keepsMemory 0x22 c.seq c.seq (s.rootCells c)
  unfold State.cpRoot
  split
  · simp
  · split
    case h_1 h => simpa [h] using htry
    case h_2 h => simpa [h] using htry
@[simp] theorem State.cpAnchor_keepsMemory (s : State) (c : CpSt) :
    s.KeepsMemory (s.cpAnchor c) := by simp [State.cpAnchor]
@[simp] theorem State.cpKick_keepsMemory (s : State) : s.KeepsMemory s.cpKick := by
  unfold State.cpKick
  repeat' split
  all_goals simp
@[simp] theorem State.journalWrite_keepsMemory (s : State) :
    s.KeepsMemory s.journalWrite := by simp [State.journalWrite]
@[simp] theorem State.journalKick_keepsMemory (s : State) : s.KeepsMemory s.journalKick := by simp [State.journalKick]
@[simp] theorem State.jwaitKick_keepsMemory (s : State) : s.KeepsMemory s.jwaitKick := by simp [State.jwaitKick]

/-! ### The operations of Machine/CflOps -/

@[simp] theorem State.setFlag_keepsMemory (s : State) (n : Nat) (b : Bool) : s.KeepsMemory (s.setFlag n b) := ⟨rfl, rfl⟩
@[simp] theorem State.eraseStart_keepsMemory (s : State) (n : Nat) : s.KeepsMemory (s.eraseStart n) := ⟨rfl, rfl⟩
@[simp] theorem State.eraseOk_keepsMemory (s : State) (n : Nat) : s.KeepsMemory (s.eraseOk n) := by simp [State.eraseOk]
@[simp] theorem State.sectorErase_keepsMemory (s : State) (n : Nat) :
    s.KeepsMemory (s.sectorErase n) := by simp [State.sectorErase]
@[simp] theorem State.lvCompact_keepsMemory (s : State) : s.KeepsMemory s.lvCompact := by simp [State.lvCompact]
@[simp] theorem State.lvAppend_keepsMemory (s : State) : s.KeepsMemory s.lvAppend := by simp [State.lvAppend]

/-! ### The operations of Machine/RestOps -/

@[simp] theorem State.placePage_keepsMemory (s : State) (src : DSrc) (p urg buf : Nat) (good : Bool) :
    s.KeepsMemory (s.placePage src p urg buf good) := by simp [State.placePage]
@[simp] theorem State.imgRead_keepsMemory (s : State) (p cls : Nat) (src : FSrc) :
    s.KeepsMemory (s.imgRead p cls src) := by simp [State.imgRead]
@[simp] theorem State.fetchStart_keepsMemory (s : State) (p : Nat) :
    s.KeepsMemory (s.fetchStart p) := by simp [State.fetchStart]
@[simp] theorem State.bulkNextPage_keepsMemory (s : State) :
    s.KeepsMemory s.bulkNextPage := by simp [State.bulkNextPage]
@[simp] theorem State.bulkKick_keepsMemory (s : State) : s.KeepsMemory s.bulkKick := by simp [State.bulkKick]

/-! ### The operations of Machine/HostOps -/

@[simp] theorem State.trkRefresh_keepsMemory (s : State) : s.KeepsMemory s.trkRefresh := by simp [State.trkRefresh]
@[simp] theorem State.setReq_keepsMemory (s : State) (r : Req) : s.KeepsMemory (s.setReq r) := ⟨rfl, rfl⟩
@[simp] theorem State.returnCredit_keepsMemory (s : State) (port : Nat) (rwd : Bool) :
    s.KeepsMemory (s.returnCredit port rwd) := by simp [State.returnCredit]
@[simp] theorem State.freeReq_keepsMemory (s : State) (r : Req) : s.KeepsMemory (s.freeReq r) := by simp [State.freeReq]
@[simp] theorem State.qosDone_keepsMemory (s : State) (r : Req) : s.KeepsMemory (s.qosDone r) := by
  unfold State.qosDone
  split <;> simp
@[simp] theorem State.finishRead_keepsMemory (s : State) (r : Req) (data : List Byte) (psn : Bool) :
    s.KeepsMemory (s.finishRead r data psn) := by simp [State.finishRead]
@[simp] theorem State.finishWrite_keepsMemory (s : State) (r : Req) :
    s.KeepsMemory (s.finishWrite r) := by simp [State.finishWrite]
@[simp] theorem State.spendToken_keepsMemory (s : State) (qent : Option Nat) : s.KeepsMemory (s.spendToken qent) := by
  unfold State.spendToken
  split <;> simp
@[simp] theorem State.throtRefresh_keepsMemory (s : State) (e : Nat) :
    s.KeepsMemory (s.throtRefresh e) := by simp [State.throtRefresh]
@[simp] theorem State.throtAll_keepsMemory (s : State) : s.KeepsMemory s.throtAll := by simp [State.throtAll]
@[simp] theorem State.admitReq_keepsMemory (s : State) (r : Req) :
    s.KeepsMemory (s.admitReq r) := by simp [State.admitReq]
@[simp] theorem State.holdReq_keepsMemory (s : State) (r : Req) : s.KeepsMemory (s.holdReq r) := by simp [State.holdReq]
@[simp] theorem State.goToken_keepsMemory (s : State) (id : Nat) : s.KeepsMemory (s.goToken id) := by
  unfold State.goToken
  split <;> simp
@[simp] theorem State.answerOffline_keepsMemory (s : State) (r : Req) :
    s.KeepsMemory (s.answerOffline r) := by simp [State.answerOffline]
@[simp] theorem State.goFetch_keepsMemory (s : State) (id : Nat) : s.KeepsMemory (s.goFetch id) := by
  unfold State.goFetch
  repeat' split
  all_goals simp
@[simp] theorem State.goAdmit_keepsMemory (s : State) (id : Nat) : s.KeepsMemory (s.goAdmit id) := by
  unfold State.goAdmit
  split <;> simp
@[simp] theorem State.pushWrite_keepsMemory (s : State) (r : Req) :
    s.KeepsMemory (s.pushWrite r) := by simp [State.pushWrite]
@[simp] theorem State.goBank_keepsMemory (s : State) (id : Nat) : s.KeepsMemory (s.goBank id) := by
  unfold State.goBank
  split <;> simp
@[simp] theorem State.goReq_keepsMemory (s : State) (id : Nat) : s.KeepsMemory (s.goReq id) := by simp [State.goReq]
@[simp] theorem State.goAll_keepsMemory (s : State) : s.KeepsMemory s.goAll := by simp [State.goAll]
@[simp] theorem State.admitAllHeld_keepsMemory (s : State) : s.KeepsMemory s.admitAllHeld := by
  simp only [State.admitAllHeld, State.KeepsMemory, State.trkRefresh_keepsMemory, State.goAll_keepsMemory]
  exact foldl_keepsMemory (fun s id => by split <;> simp) _ s
@[simp] theorem State.holdOverClear_keepsMemory (s : State) (port : Nat) :
    s.KeepsMemory (s.holdOverClear port) := by simp [State.holdOverClear]

/-! ### The operations of Machine/FwOps -/

@[simp] theorem State.mbxDone_keepsMemory (s : State) (m opc rc : Nat) (payload : List Nat) :
    s.KeepsMemory (s.mbxDone m opc rc payload) := by simp [State.mbxDone]
@[simp] theorem State.releaseWaiting_keepsMemory (s : State) :
    s.KeepsMemory s.releaseWaiting := by simp [State.releaseWaiting]
@[simp] theorem State.fwReport_keepsMemory (s : State) : s.KeepsMemory s.fwReport := ⟨rfl, rfl⟩
@[simp] theorem State.fwSelect_keepsMemory (s : State) (run next : Nat) (trial : Bool) (tries : Nat) :
    s.KeepsMemory (s.fwSelect run next trial tries) := by simp [State.fwSelect]
@[simp] theorem State.fwTarget_keepsMemory (s : State) (slot : Nat) :
    s.KeepsMemory (s.fwTarget slot) := by simp [State.fwTarget]
@[simp] theorem State.actClear_keepsMemory (s : State) : s.KeepsMemory s.actClear := by simp [State.actClear]
@[simp] theorem State.actPost_keepsMemory (s : State) (tag mbx sc rc : Nat) :
    s.KeepsMemory (s.actPost tag mbx sc rc) := by simp [State.actPost]
@[simp] theorem State.actEnd_keepsMemory (s : State) : s.KeepsMemory s.actEnd := by simp [State.actEnd]
@[simp] theorem State.fwSwitch_keepsMemory (s : State) : s.KeepsMemory s.fwSwitch := ⟨rfl, rfl⟩
@[simp] theorem State.fwKick_keepsMemory (s : State) : s.KeepsMemory s.fwKick := by simp [State.fwKick]

/-! ### The operations of Machine/OvlOps -/

@[simp] theorem State.enterVolatile_keepsMemory (s : State) :
    s.KeepsMemory s.enterVolatile := by simp [State.enterVolatile]
@[simp] theorem State.applyIdle_keepsMemory (s : State) : s.KeepsMemory s.applyIdle := by simp [State.applyIdle]
@[simp] theorem State.ovlBatch_keepsMemory (s : State) : s.KeepsMemory s.ovlBatch := by simp [State.ovlBatch]
@[simp] theorem State.ovlKick_keepsMemory (s : State) : s.KeepsMemory s.ovlKick := by simp [State.ovlKick]

/-! ### The operations of Machine/Settle -/

@[simp] theorem State.gateOpen_keepsMemory (s : State) : s.KeepsMemory s.gateOpen := by simp [State.gateOpen]
@[simp] theorem State.holdFollow_keepsMemory (s : State) : s.KeepsMemory s.holdFollow := by simp [State.holdFollow]
@[simp] theorem State.bufFollow_keepsMemory (s : State) : s.KeepsMemory s.bufFollow := by simp [State.bufFollow]

/-! ### The follow-up of a command (R85, R192, R236, R328, R446, R478) -/

@[simp] theorem State.settle_keepsMemory (s : State) : s.KeepsMemory s.settle := by simp [State.settle]

/-- Settles O50: none of the operations that settle a state writes host memory. -/
theorem followUpLeavesMemory : Obligations.FollowUpLeavesMemory := fun _ t => t.settle_keepsMemory

end Sys2Proof.Machine
end

section
/-!
PROOFS. The statements about the host ports: requests, holds, QoS timers, links and decoders.
-/
namespace Sys2Proof.Machine

/-! ### Requests (R76, R77, R81, R96) -/

section
variable (s : State) (op : ReqOp) {port ld sid tag hpa : Nat} {data : List Byte} {be : Nat} {psn : Bool}
  (hserve : s.serving port = true) (hcredit : s.hasCredit port op.isWrite = true)
include hserve hcredit

/-- A request that a decoder maps enters the tracker under the entry that the lookup gives. -/
theorem State.arrive_mapped {a : Nat} (hsave : s.cvn.code = 0) (hmap : s.resolve port ld hpa = some a) :
    s.arrive port ld sid tag hpa op data be psn =
      (let x : Option Nat × State := (s.spendCredit port op.isWrite).qosLookup port ld (s.sourceId port sid)
       x.2.enter { x.2.newReq port ld tag op data be psn x.1 with dpa := a }) := by
  simp [State.arrive, hserve, hcredit, State.saving, hsave, hmap]

/-- A request that no decoder maps is counted and answered. -/
theorem State.arrive_unmapped (hsave : s.cvn.code = 0) (hmap : s.resolve port ld hpa = none) :
    s.arrive port ld sid tag hpa op data be psn =
      (let x : Option Nat × State := (s.spendCredit port op.isWrite).qosLookup port ld (s.sourceId port sid)
       x.2.answerUnmapped (x.2.newReq port ld tag op data be psn x.1)) := by
  simp [State.arrive, hserve, hcredit, State.saving, hsave, hmap]

/-- During a save a request is abandoned. -/
theorem State.arrive_saving (hsave : s.cvn.code ≠ 0) :
    s.arrive port ld sid tag hpa op data be psn =
      (let x : Option Nat × State := (s.spendCredit port op.isWrite).qosLookup port ld (s.sourceId port sid)
       let r : Req := x.2.newReq port ld tag op data be psn x.1
       ((x.2.countReq x.1).addReq r).abandonReq r) := by
  simp [State.arrive, hserve, hcredit, State.saving, hsave]

end

/-- Settles O1: the three ends of an arriving request, for each of the four operations. -/
theorem hostRequestsTakeATrackerEntry : Obligations.HostRequestsTakeATrackerEntry := by
  refine ⟨?_, ?_, ?_, ?_, ?_, ?_, ?_, ?_, ?_, ?_, ?_, ?_⟩
  · intro s port ld sid tag hpa a hserve hcredit hsave _ hmap
    exact exec_eq_after (·.doMemRd port ld sid tag hpa) rfl (s.fresh.arrive_mapped .rd hserve hcredit hsave hmap)
  · intro s port ld sid tag hpa hserve hcredit hsave hmap
    exact exec_eq_after (·.doMemRd port ld sid tag hpa) rfl (s.fresh.arrive_unmapped .rd hserve hcredit hsave hmap)
  · intro s port ld sid tag hpa hserve hcredit hsave
    exact exec_eq_after (·.doMemRd port ld sid tag hpa) rfl (s.fresh.arrive_saving .rd hserve hcredit hsave)
  · intro s port ld sid tag hpa a data psn hserve hcredit hsave _ hmap
    exact exec_eq_after (·.doMemWr port ld sid tag hpa data psn) rfl (s.fresh.arrive_mapped .wr hserve hcredit hsave hmap)
  · intro s port ld sid tag hpa data psn hserve hcredit hsave hmap
    exact exec_eq_after (·.doMemWr port ld sid tag hpa data psn) rfl
      (s.fresh.arrive_unmapped .wr hserve hcredit hsave hmap)
  · intro s port ld sid tag hpa data psn hserve hcredit hsave
    exact exec_eq_after (·.doMemWr port ld sid tag hpa data psn) rfl (s.fresh.arrive_saving .wr hserve hcredit hsave)
  · intro s port ld sid tag hpa a data be psn hserve hcredit hsave _ hmap
    exact exec_eq_after (·.doMemWrPtl port ld sid tag hpa data be psn) rfl
      (s.fresh.arrive_mapped .wrPtl hserve hcredit hsave hmap)
  · intro s port ld sid tag hpa data be psn hserve hcredit hsave hmap
    exact exec_eq_after (·.doMemWrPtl port ld sid tag hpa data be psn) rfl
      (s.fresh.arrive_unmapped .wrPtl hserve hcredit hsave hmap)
  · intro s port ld sid tag hpa data be psn hserve hcredit hsave
    exact exec_eq_after (·.doMemWrPtl port ld sid tag hpa data be psn) rfl
      (s.fresh.arrive_saving .wrPtl hserve hcredit hsave)
  · intro s port ld sid tag hpa a hserve hcredit hsave _ hmap
    exact exec_eq_after (·.doMemInv port ld sid tag hpa) rfl (s.fresh.arrive_mapped .inv hserve hcredit hsave hmap)
  · intro s port ld sid tag hpa hserve hcredit hsave hmap
    exact exec_eq_after (·.doMemInv port ld sid tag hpa) rfl (s.fresh.arrive_unmapped .inv hserve hcredit hsave hmap)
  · intro s port ld sid tag hpa hserve hcredit hsave
    exact exec_eq_after (·.doMemInv port ld sid tag hpa) rfl (s.fresh.arrive_saving .inv hserve hcredit hsave)

/-! ### Speculative reads, held stores, timeouts and credits (R81, R82, R84, R86, R88, R347) -/

theorem State.doMemSpecRd_serving (s : State) {port : Nat} (hserve : s.serving port = true)
    (hcredit : s.hasCredit port false = true) :
    s.doMemSpecRd port = (s.spendCredit port false).returnCredit port false := by
  rw [State.doMemSpecRd, if_pos (by simp [hserve, hcredit])]

/-- With room under the guarantee the oldest held store is admitted, and with it every held store to its page. -/
theorem State.admitOldest_underGuarantee (s : State) {r : Req} (hold : s.oldestHeld = some r)
    (hroom : s.rd R.TRK_HELD_HELD + 1 ≤ s.rd R.LDG_GUAR_G) :
    s.admitOldest =
      ((((((s.host.trk.filter (fun (x : Req) => decide (x.stage = TStage.held) && decide (x.dpa / 4096 = r.dpa / 4096))).map
        (fun (x : Req) => x.id)).foldl (fun (s : State) id => match s.req id with | some x => s.admitReq x | none => s)
          s).goAll.trkRefresh).holdOverClear 0).holdOverClear 1) := by
  rw [State.admitOldest, hold]
  exact if_pos (by simp [hroom])

/-- Another register of a port is as it was when a count of the port is raised. -/
theorem State.on_holdOver_inc (s : State) (port : Nat) :
    (s.inc R.HP_HOLDX_HOLD_EXPIRED port).on R.HP_STAT_HOLD_OVER port = s.on R.HP_STAT_HOLD_OVER port := by
  have hkey : R.HP_STAT_HOLD_OVER.key port ≠ R.HP_HOLDX_HOLD_EXPIRED.key port := by
    simp only [Fld.key, R.HP_STAT_HOLD_OVER, R.HP_HOLDX_HOLD_EXPIRED]
    omega
  rw [State.on, State.on, State.inc, State.addSat, State.rd_wr_other _ _ _ _ _ _ _ _ hkey]

/-- A first overrun of the hold limit, while HOLD_OVER is clear, is counted, sets it and is reported. -/
theorem State.doHoldLimitExpiry_first (s : State) {port : Nat} {r : Req}
    (hlate : s.host.trk.filter (fun (r : Req) => decide (r.port = port) && decide (r.stage = TStage.held) &&
      decide (s.rd R.HP_HOLD_HOLD_ACT port * 1000 < r.heldFor)) = [r])
    (hfirst : r.expired = false) (hover : s.on R.HP_STAT_HOLD_OVER port = false) :
    s.doHoldLimitExpiry port =
      ((((s.setReq { r with expired := true }).inc R.HP_HOLDX_HOLD_EXPIRED port).seen).put R.HP_STAT_HOLD_OVER true
        port).holdEvent port := by
  have hover' := ((s.setReq { r with expired := true }).on_holdOver_inc port).trans hover
  rw [State.doHoldLimitExpiry, hlate]
  simp only [List.isEmpty_cons, Bool.false_eq_true, if_false, List.filter_cons, hfirst, Bool.not_false, if_true,
    List.filter_nil, List.foldl_cons, List.foldl_nil]
  exact if_neg (by simp [hover'])

theorem State.timeOut_read (s : State) {r : Req} (hrd : r.op = ReqOp.rd) :
    s.timeOut r =
      (((s.forgetRead r.id).inc R.HP_ERR_RD_TMO_CNT r.port).cxlEventLd (ldKey r.port r.ld) 1 0 2 [r.dpa / 64]).finishRead
        r [] true := by
  rw [State.timeOut, if_pos hrd]

/-- The one request of a port at its timeout. -/
theorem State.doRdTmoExpiry_one (s : State) {port : Nat} {r : Req}
    (hlate : s.host.trk.filter (fun (r : Req) => decide (r.port = port) &&
      decide (s.rd R.HP_TMO_RD_TMO port * 1000 ≤ r.age)) = [r]) : s.doRdTmoExpiry port = s.timeOut r := by
  rw [State.doRdTmoExpiry, hlate]
  rfl

/-- Acknowledged returns are with the host, as many as were in flight. -/
def State.creditsBack (s : State) (port req rwd : Nat) : State :=
  let a : Nat := min req (smGet 0 s.host.credFly (2 * port))
  let b : Nat := min rwd (smGet 0 s.host.credFly (2 * port + 1))
  { s with host := { s.host with
    credFly := smUpd 0 (2 * port + 1) (· - b) (smUpd 0 (2 * port) (· - a) s.host.credFly)
    reqOut := smUpd 0 port (· - a) s.host.reqOut
    rwdOut := smUpd 0 port (· - b) s.host.rwdOut } }

/-- Returns that are in flight are with the host. -/
theorem State.doCreditReturnAck_flying (s : State) {port req rwd : Nat}
    (hreq : req ≤ smGet 0 s.host.credFly (2 * port)) (hrwd : rwd ≤ smGet 0 s.host.credFly (2 * port + 1)) :
    s.doCreditReturnAck port req rwd = s.creditsBack port req rwd := by
  rw [State.doCreditReturnAck]
  exact if_neg (by omega)

/-- A return beyond what is in flight is a book fault. -/
theorem State.doCreditReturnAck_fault (s : State) {port req : Nat} (rwd : Nat)
    (hreq : smGet 0 s.host.credFly (2 * port) < req) :
    s.doCreditReturnAck port req rwd = (s.creditsBack port req rwd).bookFault 0 := by
  rw [State.doCreditReturnAck]
  exact if_pos (by omega)

/-- Settles O2: one effect lemma for each command, on the state whose responses are cleared. -/
theorem holdCreditsAndTimeouts : Obligations.HoldCreditsAndTimeouts := by
  refine ⟨?_, ?_, ?_, ?_, ?_, ?_⟩
  · intro s port hserve hcredit
    exact exec_eq_after (·.doMemSpecRd port) rfl (s.fresh.doMemSpecRd_serving hserve hcredit)
  · intro s r hold hroom
    exact exec_eq_after (·.doHeldStoreAdmit) rfl (s.fresh.admitOldest_underGuarantee hold hroom)
  · intro s port r hlate hfirst hover
    exact exec_eq_after (·.doHoldLimitExpiry port) rfl (s.fresh.doHoldLimitExpiry_first hlate hfirst hover)
  · intro s port r hlate hrd
    exact exec_eq_after (·.doRdTmoExpiry port) rfl ((s.fresh.doRdTmoExpiry_one hlate).trans (s.fresh.timeOut_read hrd))
  · intro s port req rwd hreq hrwd
    exact exec_eq_after (·.doCreditReturnAck port req rwd) rfl (s.fresh.doCreditReturnAck_flying hreq hrwd)
  · intro s port req rwd hreq
    exact exec_eq_after (·.doCreditReturnAck port req rwd) rfl (s.fresh.doCreditReturnAck_fault rwd hreq)

/-! ### QoS timers (R91, R92, R93, R116, R117) -/

/-- Outside the hold of a firmware activation the requests of a port age by 4 ns. -/
theorem State.reqAge_running (s : State) (port : Nat) (hact : s.fwu.act ≠ 3) :
    s.reqAge port = { s with host := { s.host with trk := s.host.trk.map (fun (r : Req) =>
      if r.port = port then
        { r with
          age := r.age + 4
          heldFor := if r.stage = TStage.held then r.heldFor + 4 else r.heldFor
          urg := s.urgency r.cls (r.age + 4) }
      else r) } } := by
  simp only [State.reqAge, if_neg hact]

theorem State.doUrgencyRecompute_eq (s : State) (port : Nat) :
    s.doUrgencyRecompute port =
      (let x : State := if port = 0 then (s.reqAge port).jobAge else s.reqAge port
       { x with dram := { x.dram with q := writeUrg (x.dram.q.map x.readUrg) } }) := rfl

/-- WIN ticks after the window began, every valid entry is latched and the next window begins. -/
theorem State.doTelemetryWindowEnd_due (s : State) (hdue : s.host.winAt + s.rd R.QOS_CTL_WIN ≤ s.tick) :
    s.doTelemetryWindowEnd = (s.qosValid.foldl (fun (s : State) e => s.qosWindow e) s).windowClosed := by
  rw [State.doTelemetryWindowEnd, if_neg (Nat.not_lt.mpr hdue)]
  rfl

theorem State.doQosTokenRefill_valid (s : State) {e : Nat} (ns : Nat) (he : e < 4096)
    (hvalid : s.on R.QOS_KEY_VALID e = true) (hhold : s.host.cxlHold = false) :
    s.doQosTokenRefill e ns =
      (let x : State := { s with host := { s.host with
         qosSpent := smSet 0 e (smGet 0 s.host.qosSpent e - s.rd R.QOS_CAP_REQ_CAP e * ns) s.host.qosSpent } }
       x.goAll.throtRefresh e) := by
  rw [State.doQosTokenRefill, if_neg (by simp [hvalid, Nat.not_le.mpr he])]
  simp only [hhold, Bool.false_eq_true, if_false]

/-- Settles O3: one effect lemma for each command, on the state whose responses are cleared. -/
theorem qosTimers : Obligations.QosTimers := by
  refine ⟨?_, ?_, ?_⟩
  · intro s port hact
    have heff := s.fresh.doUrgencyRecompute_eq port
    rw [s.fresh.reqAge_running port hact] at heff
    exact exec_eq_after (·.doUrgencyRecompute port) rfl heff
  · intro s hdue
    exact exec_eq_after (·.doTelemetryWindowEnd) rfl (s.fresh.doTelemetryWindowEnd_due hdue)
  · intro s ent ns he hvalid hhold
    exact exec_eq_after (·.doQosTokenRefill ent ns) rfl (s.fresh.doQosTokenRefill_valid ns he hvalid hhold)

/-! ### Ports, links and flush (R69 to R75, R87, R96 to R98, R444) -/

/-- A bit that is cleared reads clear. -/
theorem bit_setBitTo_false (v i : Nat) : bit (setBitTo v i false) i = false := by
  have hquot : setBitTo v i false / 2 ^ i = v / 2 ^ i - v / 2 ^ i % 2 := by
    rw [← Nat.sub_mul_div, Nat.mul_comm]
    simp [setBitTo, bits]
  have hodd : (v / 2 ^ i - v / 2 ^ i % 2) % 2 ≠ 1 := by omega
  rw [bit, Nat.testBit_eq_decide_div_mod_eq, hquot]
  exact decide_eq_false hodd

theorem State.portUp_of_active (s : State) {p : Nat} (hp : p < 2) (hactive : s.on R.HP_STAT_ACTIVE p = true) :
    s.portUp p = true := by
  simp [State.portUp, hp, hactive]

theorem State.portUp_of_inactive (s : State) {p : Nat} (hactive : s.on R.HP_STAT_ACTIVE p = false) :
    ¬s.portUp p = true := by
  simp [State.portUp, hactive]

/-- PERST of a port that the board has: a port that is up is reset, now or after the running save. -/
theorem State.doPerstAssert_present (s : State) {p : Nat} (hp : p < 2)
    (hport : p = 0 ∨ s.erg.loaded = false ∨ s.ergBase 0x01 0 0 ≠ 0) :
    s.doPerstAssert p =
      (let x : State := { s with host := { s.host with perst := setBitTo s.host.perst p true } }
       if x.portUp p then x.linkResetOr p else x) := by
  refine if_neg ?_
  rintro (h2 | ⟨h1, hloaded, hmode⟩)
  · omega
  · rcases hport with h0 | hno | hne
    · omega
    · simp [hno] at hloaded
    · exact hne hmode

theorem State.linkResetOr_noSave (s : State) (p : Nat) (hsave : s.cvn.code = 0) : s.linkResetOr p = s.linkReset p := by
  simp [State.linkResetOr, State.saving, hsave]

theorem State.linkResetOr_saving (s : State) (p : Nat) (hsave : s.cvn.code ≠ 0) :
    s.linkResetOr p = s.deferReset 2 p := by
  simp [State.linkResetOr, State.saving, hsave]

/-- A ready port whose link is down enters training when its PERST is released. -/
theorem State.doPerstRelease_ready (s : State) {p : Nat} (hp : p < 2) (hactive : s.on R.HP_STAT_ACTIVE p = true)
    (hready : bit s.host.ready p = true) (hdown : s.rd R.HP_STAT_LINK p = 0) :
    s.doPerstRelease p =
      { s with host := { s.host with
        perst := setBitTo s.host.perst p false
        perstAt := smSet 0 p s.tick s.host.perstAt } }.wr R.HP_STAT_LINK 1 p := by
  rw [State.doPerstRelease, if_neg (by omega), State.linkTrain]
  exact if_pos ⟨hp, hactive, hready, by simp [bit_setBitTo_false], hdown⟩

theorem State.doLinkDown_up (s : State) {p : Nat} (hp : p < 2) (hactive : s.on R.HP_STAT_ACTIVE p = true)
    (hlink : s.rd R.HP_STAT_LINK p ≠ 0) : s.doLinkDown p = s.linkResetOr p := by
  rw [State.doLinkDown, if_pos (by simp [s.portUp_of_active hp hactive, hlink])]

/-- A link in training reaches L0 and negotiates the first protocol of R71 that the partner offers. -/
theorem State.doLinkL0_training (s : State) {p : Nat} (offer rate width : Nat) (flit : Bool) (hp : p < 2)
    (hactive : s.on R.HP_STAT_ACTIVE p = true) (hperst : bit s.host.perst p = false)
    (hready : bit s.host.ready p = true) (hlink : s.rd R.HP_STAT_LINK p = 1) :
    s.doLinkL0 p offer rate width flit =
      (s.linkUp p (min (max rate 1) (s.rd R.HP_CTL_MAX_RATE p)) (min width (s.portLanes p)) flit).negotiated p
        (if bit offer 3 then 3 else if bit offer 2 then 2 else if bit offer 1 then 1 else 0) (bit offer 4) := by
  rw [State.doLinkL0, if_neg (by simp [s.portUp_of_active hp hactive, hperst, hready, hlink])]
  simp only [hlink]
  rfl

theorem State.doCxlReset_noSave (s : State) {port ld : Nat} (hserve : s.serving port = true)
    (hproto : 2 ≤ s.rd R.HP_STAT_PROTO port) (hld : ld < 16) (hsave : s.cvn.code = 0) :
    s.doCxlReset port ld = s.ldReset (ldKey port ld) := by
  rw [State.doCxlReset, if_neg (by simp [hserve, Nat.lt_of_succ_le hproto, hld]), if_neg (by simp [State.saving, hsave])]

theorem State.gpfPort_of_cxl2 (s : State) {port : Nat} (hserve : s.serving port = true)
    (hproto : 2 ≤ s.rd R.HP_STAT_PROTO port) : s.gpfPort port = true := by
  simp [State.gpfPort, hserve, hproto]

/-- At SL3 or above with memory ready, and no save running, phase 2 of a flush starts the save of code 3. -/
theorem State.doGpfPhase2_starts (s : State) {port : Nat} (hgpf : s.gpfPort port = true)
    (hready : s.on R.CVN_STAT_READY = true) (hlevel : 3 ≤ s.level) (hsave : s.cvn.code = 0) :
    s.doGpfPhase2 port =
      { s with host := { s.host with gpfWait := setBitTo s.host.gpfWait port true } }.caravan 3 := by
  rw [State.doGpfPhase2, if_neg (by simp [hgpf]), if_neg (by simp [hready, State.persistent, hlevel]),
    if_neg (by simp [hsave])]

theorem State.doAspmL1Entry_enabled (s : State) {p : Nat} (hp : p < 2) (hactive : s.on R.HP_STAT_ACTIVE p = true)
    (hlink : s.rd R.HP_STAT_LINK p = 2) (hen : s.on R.HP_CTL_L1_EN p = true) :
    s.doAspmL1Entry p true = s.wr R.HP_STAT_LINK 3 p := by
  rw [State.doAspmL1Entry, if_pos (by simp [s.portUp_of_active hp hactive, hlink, hen])]

section
variable (s : State) {p : Nat} (fn : Nat) (hp : p < 2) (hactive : s.on R.HP_STAT_ACTIVE p = true)
  (hlink : 2 ≤ s.rd R.HP_STAT_LINK p)
include hp hactive hlink

/-- Before SL1, and within 1 s of the release of PERST, a configuration request is to be retried. -/
theorem State.doConfigurationRequest_retry (hlevel : s.level < 1)
    (hsoon : s.tick < smGet 0 s.host.perstAt p + 32768) :
    s.doConfigurationRequest p fn = s.emit (.cfg p fn true) := by
  rw [State.doConfigurationRequest, if_neg (by simp [s.portUp_of_active hp hactive, Nat.lt_of_succ_le hlink])]
  simp [hlevel, hsoon]

/-- Otherwise the function reports itself, and function 0 the device too. -/
theorem State.doConfigurationRequest_reports (hlate : 1 ≤ s.level ∨ smGet 0 s.host.perstAt p + 32768 ≤ s.tick) :
    s.doConfigurationRequest p fn =
      (let x : State := (s.emit (.cfg p fn false)).emit (.func p fn (fnClass fn) (fnBars fn) (fnCaps fn))
       if fn ≠ 0 then x
       else x.emit (.dev p x.host.gpfMs x.host.gpfMw
        (((List.range 16).filter (x.ldShown p)).map (fun k => x.memDevStatus p k)))) := by
  have hwait : (decide (s.level < 1) && decide (s.tick < smGet 0 s.host.perstAt p + 32768)) = false := by
    rcases hlate with h | h
    · simp [Nat.not_lt.mpr h]
    · simp [Nat.not_lt.mpr h]
  rw [State.doConfigurationRequest, if_neg (by simp [s.portUp_of_active hp hactive, Nat.lt_of_succ_le hlink])]
  simp only [hwait, Bool.false_eq_true, if_false]

end

/-- What an NVMe function shows: no class code of its own, no BAR of function 0, and SR-IOV on a physical function. -/
theorem fn_shown {fn : Nat} (hfn : fn ≠ 0) :
    fnClass fn = 0 ∧ fnBars fn = [] ∧
      fnCaps fn = [.tags10and14, .aspmL1, .powerStates, .flr, .msix, .aer, .ecrc, .margining] ++
        (if fn = 1 then [PcieCap.sriov] else []) := by
  simp [fnClass, fnBars, fnCaps, hfn]

/-- Settles O4: one effect lemma for each event, on the state whose responses are cleared. -/
theorem portsLinksAndFlush : Obligations.PortsLinksAndFlush := by
  refine ⟨?_, ?_, ?_, ?_, ?_, ?_, ?_, ?_, ?_, ?_, ?_, ?_, ?_⟩
  · intro s port hp hactive hport hsave
    have heff := s.fresh.doPerstAssert_present hp hport
    exact exec_eq_after (·.doPerstAssert port) rfl (heff.trans ((if_pos (State.portUp_of_active _ hp hactive)).trans
      (State.linkResetOr_noSave _ port hsave)))
  · intro s port hp hactive hport hsave
    have heff := s.fresh.doPerstAssert_present hp hport
    exact exec_eq_after (·.doPerstAssert port) rfl (heff.trans ((if_pos (State.portUp_of_active _ hp hactive)).trans
      (State.linkResetOr_saving _ port hsave)))
  · intro s port hp hactive hport
    have heff := s.fresh.doPerstAssert_present hp (hport.imp_right .inl)
    exact exec_eq_after (·.doPerstAssert port) rfl (heff.trans (if_neg (State.portUp_of_inactive _ hactive)))
  · intro s port hp hactive hready hdown
    exact exec_eq_after (·.doPerstRelease port) rfl (s.fresh.doPerstRelease_ready hp hactive hready hdown)
  · intro s port hp hactive hlink hsave
    exact exec_eq_after (·.doLinkDown port) rfl
      ((s.fresh.doLinkDown_up hp hactive hlink).trans (s.fresh.linkResetOr_noSave port hsave))
  · intro s port offer rate width flit hp hactive hperst hready hlink
    exact exec_eq_after (·.doLinkL0 port offer rate width flit) rfl
      (s.fresh.doLinkL0_training offer rate width flit hp hactive hperst hready hlink)
  · intro s port ld hserve hproto hld hsave
    exact exec_eq_after (·.doCxlReset port ld) rfl (s.fresh.doCxlReset_noSave hserve hproto hld hsave)
  · intro s port hserve hproto
    exact exec_eq_after (·.doGpfPhase1 port) rfl (if_pos (s.fresh.gpfPort_of_cxl2 hserve hproto))
  · intro s port hserve hproto hready hlevel hsave
    exact exec_eq_after (·.doGpfPhase2 port) rfl
      (s.fresh.doGpfPhase2_starts (s.fresh.gpfPort_of_cxl2 hserve hproto) hready hlevel hsave)
  · intro s port hp hactive hlink hen
    exact exec_eq_after (·.doAspmL1Entry port true) rfl (s.fresh.doAspmL1Entry_enabled hp hactive hlink hen)
  · intro s port fn hp hactive hlink hlevel hsoon
    exact exec_eq_after (·.doConfigurationRequest port fn) rfl
      (s.fresh.doConfigurationRequest_retry fn hp hactive hlink hlevel hsoon)
  · intro s port fn hp hactive hlink hlate hfn
    have heff := s.fresh.doConfigurationRequest_reports fn hp hactive hlink hlate
    obtain ⟨hclass, hbars, hcaps⟩ := fn_shown hfn
    rw [hclass, hbars, hcaps] at heff
    exact exec_eq_after (·.doConfigurationRequest port fn) rfl (heff.trans (if_pos hfn))
  · intro s port hp hactive hlink hlate
    exact exec_eq_after (·.doConfigurationRequest port 0) rfl
      (s.fresh.doConfigurationRequest_reports 0 hp hactive hlink hlate)

/-! ### Decoders (R77) -/

/-- A decoder that is not locked takes the range that a CXL 2.0 host commits without interleave. -/
theorem State.doHdmDecoderCommit_commits (s : State) {port ld dec base size : Nat} (skip : Nat) (lock : Bool)
    {ds : List Decoder} (hserve : s.serving port = true) (hproto : s.rd R.HP_STAT_PROTO port = 2)
    (hshown : s.ldShown port ld = true) (hdec : dec < 8)
    (hds : ds = (s.ld port ld).decs ++ List.replicate (8 - (s.ld port ld).decs.length) decoderNone)
    (hfree : (ds.getD dec decoderNone).locked = false) (hsize : 0 < size) :
    s.doHdmDecoderCommit port ld dec true base size 1 256 skip lock =
      s.setLd (ldKey port ld) { s.ld port ld with
        decs := ds.set dec
          { committed := true, base := base, size := size, ways := 1, gran := 256,
            dpaBase := decodeFrom ds dec skip, locked := lock } } := by
  have hways : s.decoderOk port ld dec 1 256 = true := by simp [State.decoderOk, hproto]
  rw [State.doHdmDecoderCommit]
  simp only [← hds, hfree, Bool.and_false]
  rw [if_neg (by simp [hserve, hshown, hdec]), if_neg (by simp), if_neg (by simp [hways, hsize.ne'])]

/-- A decoder that is not locked is empty when the host uncommits it. -/
theorem State.doHdmDecoderCommit_uncommits (s : State) {port ld dec : Nat} {ds : List Decoder}
    (hserve : s.serving port = true) (hshown : s.ldShown port ld = true) (hdec : dec < 8)
    (hds : ds = (s.ld port ld).decs ++ List.replicate (8 - (s.ld port ld).decs.length) decoderNone)
    (hfree : (ds.getD dec decoderNone).locked = false) :
    s.doHdmDecoderCommit port ld dec false 0 0 0 0 0 false =
      s.setLd (ldKey port ld) { s.ld port ld with decs := ds.set dec decoderNone } := by
  rw [State.doHdmDecoderCommit]
  simp only [← hds, hfree, Bool.and_false]
  rw [if_neg (by simp [hserve, hshown, hdec]), if_pos (by simp)]

/-- Settles O5: one effect lemma for the commit and one for its removal, on the state whose responses are cleared. -/
theorem decoderCommit : Obligations.DecoderCommit := by
  refine ⟨?_, ?_⟩
  · intro s port ld dec base size skip lock ds hserve hproto hshown hdec hds hfree hsize
    exact exec_eq_after (·.doHdmDecoderCommit port ld dec true base size 1 256 skip lock) rfl
      (s.fresh.doHdmDecoderCommit_commits skip lock hserve hproto hshown hdec hds hfree hsize)
  · intro s port ld dec ds hserve hshown hdec hds hfree
    exact exec_eq_after (·.doHdmDecoderCommit port ld dec false 0 0 0 0 0 false) rfl
      (s.fresh.doHdmDecoderCommit_uncommits hserve hshown hdec hds hfree)

end Sys2Proof.Machine
end

section
/-!
PROOFS. The statements about the mailbox: events, logs, identity, health and dynamic capacity.
-/
namespace Sys2Proof.Machine

/-! ### A mailbox that serves (R28, R478, R507, R510) -/

theorem State.mbxServes_iff (s : State) (port ld : Nat) :
    s.mbxServes port ld = true ↔
      s.mbxUp port ld = true ∧ s.cvn.code = 0 ∧ s.fwu.act = 0 ∧ s.roleRuns 1 = true := by
  simp [State.mbxServes, and_assoc]

/-- A mailbox that serves runs its command at once, unless the command is device-wide and another one runs. -/
theorem State.mbx_served (s : State) {port ld opc : Nat} {i : Instr} {atOnce dev : Bool} {f : State → Nat → State}
    (h : s.mbxServes port ld = true) (hdev : (dev && s.on R.MBX_STAT_DEVWIDE) = false) :
    s.mbx port ld opc i atOnce dev f = f s (ldKey port ld) := by
  obtain ⟨hup, hsave, hact, hrole⟩ := (s.mbxServes_iff port ld).mp h
  rw [State.mbx, if_neg (by simp [hup]), if_neg (by simp [hsave, hact, hrole]), if_neg (by simp [hdev])]

/-- In CXL 3.1 mode it runs the commands of dynamic capacity too (Table 21-4). -/
theorem State.mbxDc_served (s : State) {port ld opc : Nat} {i : Instr} {f : State → Nat → State}
    (h : s.mbxServes port ld = true) (hproto : s.rd R.HP_STAT_PROTO port = 3) :
    s.mbxDc port ld opc i f = f s (ldKey port ld) := by
  rw [State.mbxDc, s.mbx_served h rfl, if_neg (by simp [hproto])]

/-! ### Events, time and logs (R99, R539) -/

/-- The payload of GET_EVENT_RECORDS. -/
theorem State.doGetEventRecords_served (s : State) {port ld log : Nat} {x : EvLog} (h : s.mbxServes port ld = true)
    (hlog : (s.ld port ld).logs[log]? = some x) :
    s.doGetEventRecords port ld log = s.mbxDone (ldKey port ld) 0x0100 rcSuccess
      ([b2n (decide (x.dropped ≠ 0)) + 2 * b2n (decide (127 < x.recs.length)), x.dropped, x.overAt.1, x.overAt.2,
        (x.recs.take 127).length] ++ (x.recs.take 127).flatMap recWords) := by
  rw [State.doGetEventRecords, s.mbx_served h rfl]
  simp only [hlog]

/-- The oldest records, named in order, leave their log with its overflow. -/
theorem State.doClearEventRecords_served (s : State) {port ld log : Nat} {handles : List Nat} {x : EvLog}
    (h : s.mbxServes port ld = true) (hlog : (s.ld port ld).logs[log]? = some x) (hsome : handles ≠ [])
    (hnamed : (x.recs.take handles.length).map (fun (r : CxlRec) => r.handle) = handles) :
    s.doClearEventRecords port ld log handles =
      (s.setLd (ldKey port ld) { s.ld port ld with
        logs := (s.ld port ld).logs.set log
          { x with recs := x.recs.drop handles.length, dropped := 0, overAt := (0, 0) } }).mbxDone
            (ldKey port ld) 0x0101 rcSuccess := by
  have hnone : handles.isEmpty = false := by simpa using hsome
  rw [State.doClearEventRecords, s.mbx_served h rfl]
  simp only [hlog, hnamed, hnone, ne_eq, not_true_eq_false, Bool.false_eq_true, if_false]

theorem State.doSetEventInterruptPolicy_served (s : State) {port ld : Nat} {policy : List Nat}
    (h : s.mbxServes port ld = true) (hlen : policy.length = 4)
    (hval : policy.any (fun v => decide (1 < v)) = false) :
    s.doSetEventInterruptPolicy port ld policy =
      (s.setLd (ldKey port ld) { s.ld port ld with policy := policy }).mbxDone (ldKey port ld) 0x0103 rcSuccess := by
  rw [State.doSetEventInterruptPolicy, s.mbx_served h rfl, if_neg (by simp [hval, hlen])]

theorem State.doGetLog_served (s : State) {port ld off len : Nat} (h : s.mbxServes port ld = true)
    (hlen : off + len ≤ celBytes.length) :
    s.doGetLog port ld true off len =
      s.mbxDone (ldKey port ld) 0x0401 rcSuccess ((celBytes.drop off).take len) := by
  rw [State.doGetLog, s.mbx_served h rfl, if_neg (by simp), if_neg (Nat.not_lt.mpr hlen)]

/-- Settles O6: each command runs on the state whose responses are cleared. -/
theorem mailboxEventsTimeAndLogs : Obligations.MailboxEventsTimeAndLogs := by
  refine ⟨?_, ?_, ?_, ?_, ?_, ?_, ?_, ?_⟩
  · intro s port ld log x h hlog
    exact exec_eq_after (·.doGetEventRecords port ld log) rfl (s.fresh.doGetEventRecords_served h hlog)
  · intro s port ld log handles x h hlog hsome hnamed
    exact exec_eq_after (·.doClearEventRecords port ld log handles) rfl
      (s.fresh.doClearEventRecords_served h hlog hsome hnamed)
  · intro s port ld h
    exact exec_eq_after (·.doGetEventInterruptPolicy port ld) rfl (s.fresh.mbx_served h rfl)
  · intro s port ld policy h hlen hval
    exact exec_eq_after (·.doSetEventInterruptPolicy port ld policy) rfl
      (s.fresh.doSetEventInterruptPolicy_served h hlen hval)
  · intro s port ld h
    exact exec_eq_after (·.doGetTimestamp port ld) rfl (s.fresh.mbx_served h rfl)
  · intro s port ld time h hdev
    exact exec_eq_after (·.doSetTimestamp port ld time) rfl (s.fresh.mbx_served h hdev)
  · intro s port ld h
    exact exec_eq_after (·.doGetSupportedLogs port ld) rfl (s.fresh.mbx_served h rfl)
  · intro s port ld off len h hlen
    exact exec_eq_after (·.doGetLog port ld true off len) rfl (s.fresh.doGetLog_served h hlen)

/-! ### Identity, health and records (R100, R102, R233) -/

theorem State.doSetShutdownState_served (s : State) {port ld value : Nat} (h : s.mbxServes port ld = true)
    (hval : value ≤ 1) :
    s.doSetShutdownState port ld value =
      (s.setLd (ldKey port ld) { s.ld port ld with shutdown := value }).mbxDone (ldKey port ld) 0x4204 rcSuccess := by
  rw [State.doSetShutdownState, s.mbx_served h rfl, if_neg (Nat.not_lt.mpr hval)]

theorem State.doGetLostRanges_served (s : State) {port ld first count : Nat} (h : s.mbxServes port ld = true)
    (h1 : 1 ≤ count) (hmax : count ≤ 1024) :
    s.doGetLostRanges port ld first count = s.mbxDone (ldKey port ld) 0xC001 rcSuccess
      ((((s.ldLost port ld).drop first).take count).flatMap (fun (e : Nat × Nat) => leBytes 4 e.1 ++ leBytes 4 e.2)) := by
  rw [State.doGetLostRanges, s.mbx_served h rfl, if_neg (by omega)]

/-- A read of one record is that record. -/
theorem State.doGetRecorderRecords_one (s : State) {port ld area first : Nat} (h : s.mbxServes port ld = true)
    (harea : area ≤ 2) :
    s.doGetRecorderRecords port ld area first 1 =
      (s.recordBytes area first).1.mbxDone (ldKey port ld) 0xC002 rcSuccess (s.recordBytes area first).2 := by
  rw [State.doGetRecorderRecords, s.mbx_served h rfl, if_neg (by omega)]
  rfl

/-- Settles O7: each command runs on the state whose responses are cleared. -/
theorem mailboxIdentityHealthAndRecords : Obligations.MailboxIdentityHealthAndRecords := by
  refine ⟨?_, ?_, ?_, ?_, ?_, ?_, ?_, ?_, ?_⟩
  · intro s port ld h
    exact exec_eq_after (·.doIdentifyMemoryDevice port ld) rfl (s.fresh.mbx_served h rfl)
  · intro s port ld h
    exact exec_eq_after (·.doGetHealthInfo port ld) rfl (s.fresh.mbx_served h rfl)
  · intro s port ld h
    exact exec_eq_after (·.doGetAlertConfiguration port ld) rfl (s.fresh.mbx_served h rfl)
  · intro s port ld config h
    exact exec_eq_after (·.doSetAlertConfiguration port ld config) rfl (s.fresh.mbx_served h rfl)
  · intro s port ld h
    exact exec_eq_after (·.doGetShutdownState port ld) rfl (s.fresh.mbx_served h rfl)
  · intro s port ld value h hval
    exact exec_eq_after (·.doSetShutdownState port ld value) rfl (s.fresh.doSetShutdownState_served h hval)
  · intro s port ld h
    exact exec_eq_after (·.doGetPersistenceStatus port ld) rfl (s.fresh.mbx_served h rfl)
  · intro s port ld first count h h1 hmax
    exact exec_eq_after (·.doGetLostRanges port ld first count) rfl (s.fresh.doGetLostRanges_served h h1 hmax)
  · intro s port ld area first h harea
    exact exec_eq_after (·.doGetRecorderRecords port ld area first 1) rfl (s.fresh.doGetRecorderRecords_one h harea)

/-! ### Dynamic capacity (R78, R79, R151) -/

/-- An add that lies free in host memory, with room in the pool and in the list, waits to proceed. -/
theorem State.doAddDcResponse_served (s : State) {port ld region start blocks : Nat} (h : s.mbxServes port ld = true)
    (hproto : s.rd R.HP_STAT_PROTO port = 3) (hregion : region < s.dcRegions port ld) (hpos : 0 < blocks)
    (hmem : start + blocks ≤ s.rd R.DRM_HOSTSZ_HOST_SZ) (hbase : s.ldBase port ld / 0x10000000 ≤ start)
    (hstatic : s.ldKeys.any (fun k => dcOverlap (s.staticBlocks k) (start, blocks)) = false)
    (hfree : s.dcInUse.any (fun x => dcOverlap x (start, blocks)) = false)
    (hpool : (s.dcInUse.map (fun (x : Nat × Nat) => x.2)).sum + blocks ≤ s.ergBase 1 4 0)
    (hlist : (s.ld port ld).extents.length + (s.ld port ld).adding.length < 512) :
    s.doAddDcResponse port ld region start blocks =
      (s.setLd (ldKey port ld) { s.ld port ld with
        adding := (s.ld port ld).adding ++ [(start, blocks)]
        regions := smSet 8 start region (s.ld port ld).regions }).mbxDone (ldKey port ld) 0x4802 rcSuccess := by
  have hplace : ¬(s.rd R.DRM_HOSTSZ_HOST_SZ < start + blocks ∨ start < s.ldBase port ld / 0x10000000 ∨
      s.ldKeys.any (fun k => dcOverlap (s.staticBlocks k) (start, blocks)) = true ∨
      s.dcInUse.any (fun x => dcOverlap x (start, blocks)) = true) := by
    rw [hstatic, hfree]
    simp only [Bool.false_eq_true, or_false]
    omega
  rw [State.doAddDcResponse, s.mbxDc_served h hproto, if_neg (Nat.not_le.mpr hregion), if_neg hpos.ne', if_neg hplace,
    if_neg (by omega)]

/-- With no copy under way the one add of a logical device proceeds. -/
theorem State.doDcAddProceed_one (s : State) {port ld : Nat} {e : Nat × Nat} (hadd : (s.ld port ld).adding = [e])
    (hcopy : s.trk.copy = []) :
    s.doDcAddProceed port ld =
      ((s.setLd (ldKey port ld) { s.ld port ld with adding := [], extents := (s.ld port ld).extents ++ [e] }).zeroPages
        (e.1 * blockPages) (e.2 * blockPages)).dcEvent (ldKey port ld) 0 e := by
  simp [State.doDcAddProceed, hadd, hcopy]

/-- A release of the whole of the one extent leaves an empty list. -/
theorem State.doReleaseDc_whole (s : State) {port ld : Nat} {e : Nat × Nat} (h : s.mbxServes port ld = true)
    (hproto : s.rd R.HP_STAT_PROTO port = 3) (hext : (s.ld port ld).extents = [e]) (hpos : 0 < e.2) :
    s.doReleaseDc port ld e.1 e.2 =
      (s.setLd (ldKey port ld) { s.ld port ld with
        extents := []
        releasing := (s.ld port ld).releasing ++ [e] }).mbxDone (ldKey port ld) 0x4803 rcSuccess := by
  rw [State.doReleaseDc, s.mbxDc_served h hproto]
  simp [hext, hpos.ne']

/-- The one release of a logical device completes once no tracker entry addresses it. -/
theorem State.doExtentReleaseProceed_one (s : State) {port ld : Nat} {e : Nat × Nat}
    (hrel : (s.ld port ld).releasing = [e]) (hfree : s.dcAddressed e = false)
    (hon : ((s.setLd (ldKey port ld) { s.ld port ld with releasing := [] }).dcDealloc e).isOffline
      (e.1 * blockPages * 4096) = false) :
    s.doExtentReleaseProceed port ld =
      ((s.setLd (ldKey port ld) { s.ld port ld with releasing := [] }).dcDealloc e).dcEvent (ldKey port ld) 1 e := by
  simp [State.doExtentReleaseProceed, hrel, hfree, hon]

/-- Settles O9: each command runs on the state whose responses are cleared. -/
theorem mailboxDynamicCapacity : Obligations.MailboxDynamicCapacity := by
  refine ⟨?_, ?_, ?_, ?_, ?_, ?_⟩
  · intro s port ld h hproto
    exact exec_eq_after (·.doGetDcConfig port ld) rfl (s.fresh.mbxDc_served h hproto)
  · intro s port ld first count h hproto
    exact exec_eq_after (·.doGetDcExtentList port ld first count) rfl (s.fresh.mbxDc_served h hproto)
  · intro s port ld region start blocks h hproto hregion hpos hmem hbase hstatic hfree hpool hlist
    exact exec_eq_after (·.doAddDcResponse port ld region start blocks) rfl
      (s.fresh.doAddDcResponse_served h hproto hregion hpos hmem hbase hstatic hfree hpool hlist)
  · intro s port ld e hadd hcopy
    exact exec_eq_after (·.doDcAddProceed port ld) rfl (s.fresh.doDcAddProceed_one hadd hcopy)
  · intro s port ld e h hproto hext hpos
    exact exec_eq_after (·.doReleaseDc port ld e.1 e.2) rfl (s.fresh.doReleaseDc_whole h hproto hext hpos)
  · intro s port ld e hrel hfree hon
    exact exec_eq_after (·.doExtentReleaseProceed port ld) rfl (s.fresh.doExtentReleaseProceed_one hrel hfree hon)

end Sys2Proof.Machine
end

section
/-!
PROOFS. The statement about the actions of registers: retraining, the long-operation queue, the ledger and the gauge.
-/
namespace Sys2Proof.Machine

/-! ### An action along a path that may write (R2, R505) -/

/-- The registers that a part or a port mode may lack lie in four runs of addresses (R2). -/
def absentRuns : List (Nat × Nat) :=
  [(0x100000, 0x180000), (0x214000, 0x218000), (0x418000, 0x420000), (0x316000, 0x318000)]

/-- A register outside those runs is in every device. -/
theorem State.regAbsent_of_outside (s : State) {a : Nat} (h : ∀ r ∈ absentRuns, ¬(r.1 ≤ a ∧ a < r.2)) :
    s.regAbsent a = false := by
  simp only [absentRuns, List.forall_mem_cons] at h
  obtain ⟨hport, hdram, hflash, htprog, -⟩ := h
  rw [State.regAbsent, if_neg hport, if_neg hdram, if_neg hflash, if_neg htprog]

/-- An action along a path that exists and may write its register, which the device has. -/
theorem State.actAt_taken (s : State) {p : Path} {a : Nat} (f : State → State) (hup : s.pathUp p = true)
    (hmay : s.mayWrite p a = true) (hthere : s.regAbsent a = false) : s.actAt p a f = f s := by
  rw [State.actAt, s.asPath_of_may _ hup hmay]
  simp [hthere]

/-- The same for a register that every device has. -/
theorem State.actAt_always (s : State) {p : Path} {a : Nat} (f : State → State) (hup : s.pathUp p = true)
    (hmay : s.mayWrite p a = true) (h : ∀ r ∈ absentRuns, ¬(r.1 ≤ a ∧ a < r.2)) : s.actAt p a f = f s :=
  s.actAt_taken f hup hmay (s.regAbsent_of_outside h)

/-! ### The actions (R69, R186, R378, R512, R513, R514) -/

theorem State.linkRetrain_up (s : State) {p : Nat} (hlink : s.rd R.HP_STAT_LINK p = 2) :
    s.linkRetrain p = s.wr R.HP_STAT_LINK 4 p := by
  rw [State.linkRetrain, if_pos (.inl hlink)]

/-- A posted entry is freed by the handle that names its generation. -/
theorem State.loqRel_posted (s : State) {handle : Nat} (hused : (s.loqEnt (handle % 256)).used = true)
    (hposted : (s.loqEnt (handle % 256)).posted = true) (hgen : (s.loqEnt (handle % 256)).gen = handle / 256) :
    s.loqRel handle =
      s.setLoqEnt (handle % 256) { s.loqEnt (handle % 256) with used := false, record := [] } := by
  rw [State.loqRel]
  exact if_pos (by simp [hused, hposted, hgen])

/-- HEAD advances over entries that were written and not yet consumed. -/
theorem State.loqHead_advances (s : State) {ring head : Nat} (hhead : head < 64)
    (hcnt : (head + 64 - s.rd R.LOQ_RPTR_HEAD ring) % 64 ≤ s.ringCnt ring) :
    s.loqHead ring head =
      (s.wr R.LOQ_RPTR_HEAD head ring).setRingCnt ring
        (s.ringCnt ring - (head + 64 - s.rd R.LOQ_RPTR_HEAD ring) % 64) := by
  rw [State.loqHead, Nat.mod_eq_of_lt hhead]
  exact if_pos hcnt

theorem State.lbData_free (s : State) (word : Nat) (hbusy : s.bufBusy = false) :
    s.lbData word =
      (s.lbWrite (s.rd R.LOQ_LBOFF_OFF) [word]).wr R.LOQ_LBOFF_OFF (s.rd R.LOQ_LBOFF_OFF + 1) := by
  rw [State.lbData, if_neg (by simp [hbusy])]

theorem State.ledgerStart_idle (s : State) (periodic : Bool) (hstopped : s.ledger.stopped = false)
    (hidle : s.ledger.running = none) :
    s.ledgerStart periodic = { s with ledger := { s.ledger with running := some periodic } } := by
  simp [State.ledgerStart, hstopped, hidle]

/-- With main power and outside a save the learned values are written at once. -/
theorem State.lrnWrite_powered (s : State) (hmain : s.seq.main = true) (hsave : s.cvn.code = 0) :
    s.lrnWrite =
      (let l : Learned := { s.gau.learned with soc := s.rd R.GAU_SOC_SOC }
       ({ s with gau := { s.gau with learned := l, lvFlash := some l, lrnDue := false } }.lvAppend).wr R.GAU_LRNT_TICK
        s.tick) := by
  rw [State.lrnWrite, if_pos (by simp [hmain, hsave])]
  rfl

/-- Settles O14: each action is taken along its path, on the state whose responses are cleared. -/
theorem registerActionsOfQueuesLedgerAndGauge : Obligations.RegisterActionsOfQueuesLedgerAndGauge := by
  refine ⟨?_, ?_, ?_, ?_, ?_, ?_, ?_, ?_, ?_⟩
  · intro s path port hup hmay hport hthere hlink
    exact exec_eq_after (·.doRetrain path port) rfl ((if_neg (Nat.not_le.mpr hport)).trans
      ((s.fresh.actAt_taken _ hup hmay hthere).trans (s.fresh.linkRetrain_up hlink)))
  · intro s path handle hup hmay hhandle hused hposted hgen
    refine exec_eq_after (·.doLoqRel path handle) rfl ?_
    rw [State.doLoqRel, Nat.mod_eq_of_lt hhandle]
    exact (s.fresh.actAt_always _ hup hmay (by decide)).trans (s.fresh.loqRel_posted hused hposted hgen)
  · intro s path ring head hup hmay hring hhead hcnt
    have hthere : ∀ r ∈ absentRuns,
        ¬(r.1 ≤ R.LOQ_RPTR_HEAD.base + 4 * ring ∧ R.LOQ_RPTR_HEAD.base + 4 * ring < r.2) := by
      interval_cases ring
      · decide
      · decide
    refine exec_eq_after (·.doLoqRptrWrite path ring head) rfl ?_
    rw [State.doLoqRptrWrite, if_neg (Nat.not_le.mpr hring), Nat.mod_eq_of_lt hhead]
    exact (s.fresh.actAt_always _ hup hmay hthere).trans (s.fresh.loqHead_advances hhead hcnt)
  · intro s path word hup hmay hbusy
    exact exec_eq_after (·.doLoqLbdata path word) rfl
      ((s.fresh.actAt_always _ hup hmay (by decide)).trans (s.fresh.lbData_free word hbusy))
  · intro s path hup hmay
    exact exec_eq_after (·.doPeakClr path) rfl (s.fresh.actAt_always _ hup hmay (by decide))
  · intro s path hup hmay hstopped hidle
    exact exec_eq_after (·.doRecomp path) rfl
      ((s.fresh.actAt_always _ hup hmay (by decide)).trans (s.fresh.ledgerStart_idle false hstopped hidle))
  · intro s path hup hmay
    exact exec_eq_after (·.doGapClr path) rfl (s.fresh.actAt_always _ hup hmay (by decide))
  · intro s path hup hmay
    exact exec_eq_after (·.doEstNow path) rfl (s.fresh.actAt_always _ hup hmay (by decide))
  · intro s path hup hmay hmain hsave
    exact exec_eq_after (·.doLrnNow path) rfl
      ((s.fresh.actAt_always _ hup hmay (by decide)).trans (s.fresh.lrnWrite_powered hmain hsave))

end Sys2Proof.Machine
end

section
/-!
PROOFS. The statement about the DRAM channels: the decode of an address is one to one.
-/
namespace Sys2Proof.Machine

/-! ### The pivots in rising order (R112) -/

theorem mem_setIns {k x : Nat} {m : List Nat} : x ∈ setIns k m ↔ x = k ∨ x ∈ m := by
  induction m with
  | nil => simp [setIns]
  | cons y m ih =>
    unfold setIns
    split_ifs with hlt heq
    · simp
    · simp [heq]
    · simp only [List.mem_cons, ih]; tauto

/-- An insertion keeps a list strictly rising. -/
theorem pairwise_setIns (k : Nat) {m : List Nat} (h : m.Pairwise (· < ·)) : (setIns k m).Pairwise (· < ·) := by
  induction m with
  | nil => simp [setIns]
  | cons y m ih =>
    obtain ⟨hy, hm⟩ := List.pairwise_cons.mp h
    unfold setIns
    split_ifs with hlt heq
    · exact List.pairwise_cons.mpr ⟨List.forall_mem_cons.mpr ⟨hlt, fun x hx => hlt.trans (hy x hx)⟩, h⟩
    · exact h
    · refine List.pairwise_cons.mpr ⟨fun x hx => ?_, ih hm⟩
      rcases mem_setIns.mp hx with rfl | hx
      · omega
      · exact hy x hx

theorem length_setIns {k : Nat} {m : List Nat} (h : k ∉ m) : (setIns k m).length = m.length + 1 := by
  induction m with
  | nil => rfl
  | cons y m ih =>
    obtain ⟨hy, hm⟩ := List.ne_and_not_mem_of_not_mem_cons h
    unfold setIns
    rw [if_neg hy]
    split_ifs with hlt
    · rfl
    · simp [ih hm]

/-- The numbers of a list in rising order, each once. -/
def rising (ps : List Nat) : List Nat := ps.foldl (fun m p => setIns p m) []

theorem rising_concat (ps : List Nat) (p : Nat) : rising (ps ++ [p]) = setIns p (rising ps) := by
  simp [rising]

@[simp] theorem mem_rising {x : Nat} {ps : List Nat} : x ∈ rising ps ↔ x ∈ ps := by
  induction ps using List.reverseRecOn with
  | nil => rfl
  | append_singleton ps p ih => simp [rising_concat, mem_setIns, ih, or_comm]

theorem pairwise_rising (ps : List Nat) : (rising ps).Pairwise (· < ·) := by
  induction ps using List.reverseRecOn with
  | nil => exact .nil
  | append_singleton ps p ih => rw [rising_concat]; exact pairwise_setIns p ih

theorem length_rising {ps : List Nat} (h : ps.Nodup) : (rising ps).length = ps.length := by
  induction ps using List.reverseRecOn with
  | nil => rfl
  | append_singleton ps p ih =>
    obtain ⟨hp, hps⟩ := List.nodup_append_comm.mp h |> List.nodup_cons.mp
    rw [rising_concat, length_setIns (by simpa using hp), ih hps, List.length_append]
    rfl

/-! ### Deleted bits (R112) -/

theorem testBit_dropBit (v p i : Nat) : (dropBit v p).testBit i = if i < p then v.testBit i else v.testBit (i + 1) := by
  rw [dropBit, Nat.mul_comm, Nat.testBit_two_pow_mul_add _ (Nat.mod_lt _ (Nat.two_pow_pos p)), Nat.testBit_mod_two_pow,
    Nat.testBit_div_two_pow]
  split_ifs with h
  · simp [h]
  · congr 1; omega

theorem dropBit_lt {v p n : Nat} (hv : v < 2 ^ (n + 1)) (hp : p ≤ n) : dropBit v p < 2 ^ n := by
  refine Nat.lt_pow_two_of_testBit _ fun i hi => ?_
  rw [testBit_dropBit, if_neg (by omega)]
  exact Nat.testBit_lt_two_pow (hv.trans_le (Nat.pow_le_pow_right two_pos (by omega)))

/-- Each deleted bit shortens the number by one. -/
theorem foldl_dropBit_lt {n : Nat} : ∀ {ds : List Nat} {v : Nat}, (∀ d ∈ ds, d ≤ n) → v < 2 ^ (n + ds.length) →
    ds.foldl dropBit v < 2 ^ n
  | [], _, _, hv => hv
  | d :: ds, v, hmem, hv => by
    obtain ⟨hd, hds⟩ := List.forall_mem_cons.mp hmem
    exact foldl_dropBit_lt (ds := ds) hds (dropBit_lt hv (hd.trans (Nat.le_add_right ..)))

/-- With the highest bit deleted first, every bit that is not deleted can be read from what remains. -/
theorem testBit_eq_of_foldl_dropBit_eq : ∀ {ds : List Nat} {a b : Nat}, ds.Pairwise (· > ·) →
    ds.foldl dropBit a = ds.foldl dropBit b → ∀ i ∉ ds, a.testBit i = b.testBit i
  | [], _, _, _, h, i, _ => congrArg (·.testBit i) h
  | d :: ds, a, b, hds, h, i, hi => by
    obtain ⟨hd, hds⟩ := List.pairwise_cons.mp hds
    obtain ⟨hid, hi⟩ := List.ne_and_not_mem_of_not_mem_cons hi
    have hrest := testBit_eq_of_foldl_dropBit_eq hds h
    rcases Nat.lt_or_gt_of_ne hid with hlt | hgt
    · simpa [testBit_dropBit, hlt] using hrest i hi
    · have habove : i - 1 ∉ ds := fun hmem => absurd (hd _ hmem) (by omega)
      simpa [testBit_dropBit, show ¬ i - 1 < d by omega, show i - 1 + 1 = i by omega] using hrest (i - 1) habove

/-! ### Parities (R111) -/

theorem parityOf_succ (v n : Nat) : parityOf v (n + 1) = ((v.testBit n).toNat + parityOf v n) % 2 := by
  rw [Nat.toNat_testBit]; rfl

theorem parityOf_lt_two (v n : Nat) : parityOf v n < 2 := by
  cases n with
  | zero => exact two_pos
  | succ n => exact Nat.mod_lt _ two_pos

theorem parityOf_congr {u v n : Nat} (h : ∀ i < n, u.testBit i = v.testBit i) : parityOf u n = parityOf v n := by
  induction n with
  | zero => rfl
  | succ n ih => rw [parityOf_succ, parityOf_succ, h n (by omega), ih fun i hi => h i (by omega)]

/-- Of two numbers that agree in all bits but one, equal parities make that bit agree too. -/
theorem testBit_eq_of_parityOf_eq {u v p n : Nat} (hp : p < n) (hbits : ∀ i, i ≠ p → u.testBit i = v.testBit i)
    (hpar : parityOf u n = parityOf v n) : u.testBit p = v.testBit p := by
  induction n with
  | zero => omega
  | succ n ih =>
    rw [parityOf_succ, parityOf_succ] at hpar
    have hu := parityOf_lt_two u n
    have hv := parityOf_lt_two v n
    by_cases hpn : p = n
    · subst hpn
      rw [parityOf_congr fun i hi => hbits i hi.ne] at hpar
      have hut := (u.testBit p).toNat_lt
      have hvt := (v.testBit p).toNat_lt
      exact Bool.eq_iff_iff.mpr (by rw [← Bool.toNat_eq_one, ← Bool.toNat_eq_one]; omega)
    · rw [hbits n (Ne.symm hpn)] at hpar
      exact ih (by omega) (by omega)

/-! ### The way from its bits (R111) -/

/-- The number whose bit `k` is `f k`, for the `m` lowest bits. -/
def ofWayBits (f : Nat → Nat) (m : Nat) : Nat := (List.range m).foldl (fun w k => w + f k * 2 ^ k) 0

theorem ofWayBits_succ (f : Nat → Nat) (m : Nat) : ofWayBits f (m + 1) = ofWayBits f m + f m * 2 ^ m := by
  simp [ofWayBits, List.range_succ]

theorem ofWayBits_lt {f : Nat → Nat} (hf : ∀ k, f k < 2) (m : Nat) : ofWayBits f m < 2 ^ m := by
  induction m with
  | zero => exact one_pos
  | succ m ih =>
    have htop : f m * 2 ^ m ≤ 1 * 2 ^ m := Nat.mul_le_mul_right _ (Nat.le_of_lt_succ (hf m))
    rw [ofWayBits_succ, pow_succ]
    omega

theorem eq_of_ofWayBits_eq {f g : Nat → Nat} (hf : ∀ k, f k < 2) (hg : ∀ k, g k < 2) :
    ∀ {m : Nat}, ofWayBits f m = ofWayBits g m → ∀ k < m, f k = g k
  | 0, _, _, hk => absurd hk (Nat.not_lt_zero _)
  | m + 1, h, k, hk => by
    rw [ofWayBits_succ, ofWayBits_succ, Nat.mul_comm (f m), Nat.mul_comm (g m)] at h
    have hflt := ofWayBits_lt hf m
    have hglt := ofWayBits_lt hg m
    have hpos := Nat.two_pow_pos m
    have htop : f m = g m := by
      have hdiv : (ofWayBits f m + 2 ^ m * f m) / 2 ^ m = (ofWayBits g m + 2 ^ m * g m) / 2 ^ m := by rw [h]
      rwa [Nat.add_mul_div_left _ _ hpos, Nat.add_mul_div_left _ _ hpos, Nat.div_eq_of_lt hflt, Nat.div_eq_of_lt hglt,
        Nat.zero_add, Nat.zero_add] at hdiv
    rw [htop] at h
    rcases Nat.lt_succ_iff_lt_or_eq.mp hk with hk | rfl
    · exact eq_of_ofWayBits_eq hf hg (Nat.add_right_cancel h) k hk
    · exact htop

/-! ### The decode of an address (R111, R112) -/

/-- The pivots of the channel masks in use. -/
def State.pivots (s : State) : List Nat := (List.range (s.rd R.DRM_STAT_WAYS)).map (fun k => s.rd R.DRM_CHM_HI_PIVOT k)

/-- The way bit of channel mask `k`. -/
def State.wayBit (s : State) (a k : Nat) : Nat := parityOf (a &&& s.chMask k) 48

theorem State.wayOf_eq (s : State) (a : Nat) :
    s.wayOf a = ofWayBits (s.wayBit a) (s.rd R.DRM_STAT_WAYS) + 2 * s.rd R.DRM_STAT_GRP_BASE := rfl

theorem State.subAddr_eq (s : State) (a : Nat) : s.subAddr a = (rising s.pivots).reverse.foldl dropBit a := rfl

theorem State.wayBit_lt_two (s : State) (a k : Nat) : s.wayBit a k < 2 := parityOf_lt_two _ _

/-- Two addresses with one subchannel address agree in every bit that is no pivot. -/
theorem State.testBit_eq_of_subAddr_eq (s : State) {a b i : Nat} (h : s.subAddr a = s.subAddr b) (hi : i ∉ s.pivots) :
    a.testBit i = b.testBit i :=
  testBit_eq_of_foldl_dropBit_eq (List.pairwise_reverse.mpr (pairwise_rising s.pivots)) h i (by simpa using hi)

section
variable {s : State} (h : s.masksOk)
include h

theorem State.pivots_nodup : s.pivots.Nodup := by
  obtain ⟨-, -, hown⟩ := h
  refine List.Nodup.map_on (fun j hj k hk hjk => ?_) List.nodup_range
  exact (hown j (List.mem_range.mp hj) k (List.mem_range.mp hk)).1 hjk

/-- The way bit of a mask settles its pivot, once the two addresses agree off the pivots: no other pivot is in the mask. -/
theorem State.testBit_pivot_eq {a b k : Nat} (hk : k < s.rd R.DRM_STAT_WAYS)
    (hoff : ∀ i ∉ s.pivots, a.testBit i = b.testBit i) (hbit : s.wayBit a k = s.wayBit b k) :
    a.testBit (s.rd R.DRM_CHM_HI_PIVOT k) = b.testBit (s.rd R.DRM_CHM_HI_PIVOT k) := by
  obtain ⟨-, hrange, hown⟩ := h
  have hmasked : ∀ i, i ≠ s.rd R.DRM_CHM_HI_PIVOT k →
      (a &&& s.chMask k).testBit i = (b &&& s.chMask k).testBit i := by
    intro i hi
    rw [Nat.testBit_and, Nat.testBit_and]
    by_cases hpiv : i ∈ s.pivots
    · obtain ⟨j, hj, rfl⟩ := List.mem_map.mp hpiv
      have hjk : j ≠ k := fun heq => hi (by rw [heq])
      simp [(hown j (List.mem_range.mp hj) k hk).2, hjk]
    · rw [hoff i hpiv]
  have hmask : (s.chMask k).testBit (s.rd R.DRM_CHM_HI_PIVOT k) = true := by simpa using (hown k hk k hk).2
  have hp : s.rd R.DRM_CHM_HI_PIVOT k < 48 := (hrange k hk).2.trans_lt (by decide)
  simpa [Nat.testBit_and, hmask] using testBit_eq_of_parityOf_eq hp hmasked hbit

/-- An address is determined by its way and its subchannel address. -/
theorem State.eq_of_decode_eq {a b : Nat} (hway : s.wayOf a = s.wayOf b) (hsub : s.subAddr a = s.subAddr b) : a = b := by
  rw [s.wayOf_eq, s.wayOf_eq] at hway
  have hbits := eq_of_ofWayBits_eq (s.wayBit_lt_two a) (s.wayBit_lt_two b) (Nat.add_right_cancel hway)
  refine Nat.eq_of_testBit_eq fun i => ?_
  by_cases hpiv : i ∈ s.pivots
  · obtain ⟨k, hk, rfl⟩ := List.mem_map.mp hpiv
    rw [List.mem_range] at hk
    exact State.testBit_pivot_eq h hk (fun _ => s.testBit_eq_of_subAddr_eq hsub) (hbits k hk)
  · exact s.testBit_eq_of_subAddr_eq hsub hpiv

theorem State.subAddr_lt {a : Nat} (ha : a < 2 ^ 48) : s.subAddr a < 2 ^ (48 - s.rd R.DRM_STAT_WAYS) := by
  have hlen : (rising s.pivots).reverse.length = s.rd R.DRM_STAT_WAYS := by
    rw [List.length_reverse, length_rising (State.pivots_nodup h), State.pivots, List.length_map, List.length_range]
  obtain ⟨hways, hrange, -⟩ := h
  rw [s.subAddr_eq]
  refine foldl_dropBit_lt (fun d hd => ?_) ?_
  · obtain ⟨k, hk, rfl⟩ := List.mem_map.mp (mem_rising.mp (List.mem_reverse.mp hd))
    have htop := (hrange k (List.mem_range.mp hk)).2
    omega
  · rwa [hlen, Nat.sub_add_cancel (by omega)]

/-- The bits of the way and the subchannel address of a 48-bit address: as many pairs as there are addresses. -/
def State.decodePair (a : Fin (2 ^ 48)) : Fin (2 ^ s.rd R.DRM_STAT_WAYS) × Fin (2 ^ (48 - s.rd R.DRM_STAT_WAYS)) :=
  (⟨ofWayBits (s.wayBit a) (s.rd R.DRM_STAT_WAYS), ofWayBits_lt (s.wayBit_lt_two a) _⟩,
   ⟨s.subAddr a, State.subAddr_lt h a.isLt⟩)

theorem State.decodePair_injective : Function.Injective (State.decodePair h) := by
  intro a b hab
  obtain ⟨hway, hsub⟩ := Prod.mk.inj hab
  refine Fin.ext (State.eq_of_decode_eq h ?_ (Fin.mk.inj hsub))
  rw [s.wayOf_eq, s.wayOf_eq, Fin.mk.inj hway]

/-- One-to-one between finite sets of one size, the decode meets every pair. -/
theorem State.decodePair_surjective : Function.Surjective (State.decodePair h) := by
  have hways : s.rd R.DRM_STAT_WAYS ≤ 48 := h.1.trans (by decide)
  refine ((Fintype.bijective_iff_injective_and_card _).mpr ⟨State.decodePair_injective h, ?_⟩).surjective
  rw [Fintype.card_prod, Fintype.card_fin, Fintype.card_fin, Fintype.card_fin, ← pow_add, Nat.add_sub_cancel' hways]

end

/-- Settles O51: the way bits settle the pivots and the subchannel address every other bit, and one-to-one is onto by count. -/
theorem addressDecodeIsOneToOne : Obligations.AddressDecodeIsOneToOne := by
  refine ⟨fun s h a b _ _ hway hsub => State.eq_of_decode_eq h hway hsub, fun s h w v hw hv => ?_⟩
  obtain ⟨a, ha⟩ := State.decodePair_surjective h (⟨w, hw⟩, ⟨v, hv⟩)
  obtain ⟨hway, hsub⟩ := Prod.mk.inj ha
  refine ⟨a, a.isLt, ?_, Fin.mk.inj hsub⟩
  rw [s.wayOf_eq, Fin.mk.inj hway]

end Sys2Proof.Machine
end

section
/-!
PROOFS. The statements about the DRAM channels: the command slot, the data of reads and the units of a migration.
-/
namespace Sys2Proof.Machine

/-! ### The command slot (R115, R119, R121, R123, R125, R136) -/

/-- Only a migration's command is paid from its share of the slots. -/
theorem State.migPay_other (s : State) {r : DReq} (h : r.src ≠ .migrate) : s.migPay r = s := if_neg h

/-- Without a request for refresh management the activate counts stay. -/
theorem State.rfmIssue_noReq (s : State) {w : Nat} (k : Nat) (h : s.on R.DCH_REF_RFM_REQ (w / 2) = false) :
    s.rfmIssue w k =
      { s with dram := { s.dram with
          rfmDue := smUpd 0 k (· - 1) s.dram.rfmDue
          openRow := smSet 0 k 0 s.dram.openRow
          hits := smSet 0 k 0 s.dram.hits
          rfmHold := s.dram.rfmHold.filter (fun y => decide (y ≠ k)) } }.dramCmd w 1 [k] := by
  simp [State.rfmIssue, h]

section
variable (s : State) {w : Nat} {blocked : List Nat} (idleRows : List Nat)

/-- The bank that rule 5 picks, for a request that is no migration's: its row in conflict closes, or its row opens. -/
theorem State.slotRest_row {r : DReq} (hrow : s.rowPick w blocked = some r) (hsrc : r.src ≠ .migrate) :
    s.slotRest w blocked idleRows =
      if smGet 0 s.dram.openRow r.key ≠ 0 then (s.rotTo r).precharge w r.key else (s.rotTo r).activate r := by
  rw [State.slotRest, hrow]
  exact State.migPay_other _ hsrc

theorem State.slotRest_idleRow {k : Nat} (hrow : s.rowPick w blocked = none)
    (hidle : idleRows.find? (fun k => decide (k / 1024 = w) && decide (smGet 0 s.dram.openRow k ≠ 0) &&
      !blocked.contains k) = some k) :
    s.slotRest w blocked idleRows = s.precharge w k := by
  simp only [State.slotRest, hrow, hidle]

theorem State.slotRest_scrub (hrow : s.rowPick w blocked = none)
    (hidle : idleRows.find? (fun k => decide (k / 1024 = w) && decide (smGet 0 s.dram.openRow k ≠ 0) &&
      !blocked.contains k) = none) :
    s.slotRest w blocked idleRows = s.scrubRead w blocked := by
  simp only [State.slotRest, hrow, hidle]

variable {s} (hup : s.wayUp w = true)
include hup

/-- In power-down, a request that waits makes the slot leave it. -/
theorem State.doDramCommandSlot_leavesPowerDown (hpd : bit (s.slotRoom w).dram.pdown w = true)
    (hq : ((s.slotRoom w).wayQ w).isEmpty = false) :
    s.doDramCommandSlot w blocked idleRows =
      { s.slotRoom w with dram := { (s.slotRoom w).dram with
          pdown := setBitTo (s.slotRoom w).dram.pdown w false } }.dramCmd w 9 [] := by
  simp [State.doDramCommandSlot, hup, hpd, hq]

variable (hpd : bit (s.slotRoom w).dram.pdown w = false)
include hpd

theorem State.doDramCommandSlot_rfm {k : Nat} (hrfm : (s.slotRoom w).rfmPick w blocked = some k) :
    s.doDramCommandSlot w blocked idleRows = (s.slotRoom w).rfmIssue w k := by
  simp [State.doDramCommandSlot, hup, hpd, hrfm]

variable (hrfm : (s.slotRoom w).rfmPick w blocked = none)
include hrfm

theorem State.doDramCommandSlot_column {r : DReq} (hcol : (s.slotRoom w).colPick w blocked = some r) :
    s.doDramCommandSlot w blocked idleRows = (s.slotRoom w).column r := by
  simp [State.doDramCommandSlot, hup, hpd, hrfm, hcol]

theorem State.doDramCommandSlot_rest (hcol : (s.slotRoom w).colPick w blocked = none) :
    s.doDramCommandSlot w blocked idleRows = (s.slotRoom w).slotRest w blocked idleRows := by
  simp [State.doDramCommandSlot, hup, hpd, hrfm, hcol]

end

/-- Settles O18: one effect lemma for each rule of the slot, on the state whose responses are cleared. -/
theorem dramCommandSlotRules : Obligations.DramCommandSlotRules := by
  refine ⟨?_, ?_, ?_, ?_, ?_, ?_, ?_⟩
  · intro s way blocked idleRows hup hpd hq
    exact exec_eq_after (·.doDramCommandSlot way blocked idleRows) rfl
      (State.doDramCommandSlot_leavesPowerDown (s := s.fresh) idleRows hup hpd hq)
  · intro s way blocked idleRows k hup hpd hrfm hreq
    exact exec_eq_after (·.doDramCommandSlot way blocked idleRows) rfl
      ((State.doDramCommandSlot_rfm (s := s.fresh) idleRows hup hpd hrfm).trans (State.rfmIssue_noReq _ k hreq))
  · intro s way blocked idleRows r hup hpd hrfm hcol
    exact exec_eq_after (·.doDramCommandSlot way blocked idleRows) rfl
      (State.doDramCommandSlot_column (s := s.fresh) idleRows hup hpd hrfm hcol)
  · intro s way blocked idleRows r hup hpd hrfm hcol hrow hclosed hsrc
    exact exec_eq_after (·.doDramCommandSlot way blocked idleRows) rfl
      ((State.doDramCommandSlot_rest (s := s.fresh) idleRows hup hpd hrfm hcol).trans
        ((State.slotRest_row _ idleRows hrow hsrc).trans (if_neg (not_not.mpr hclosed))))
  · intro s way blocked idleRows r hup hpd hrfm hcol hrow hopen hsrc
    exact exec_eq_after (·.doDramCommandSlot way blocked idleRows) rfl
      ((State.doDramCommandSlot_rest (s := s.fresh) idleRows hup hpd hrfm hcol).trans
        ((State.slotRest_row _ idleRows hrow hsrc).trans (if_pos hopen)))
  · intro s way blocked idleRows k hup hpd hrfm hcol hrow hidle
    exact exec_eq_after (·.doDramCommandSlot way blocked idleRows) rfl
      ((State.doDramCommandSlot_rest (s := s.fresh) idleRows hup hpd hrfm hcol).trans
        (State.slotRest_idleRow _ idleRows hrow hidle))
  · intro s way blocked idleRows hup hpd hrfm hcol hrow hidle
    exact exec_eq_after (·.doDramCommandSlot way blocked idleRows) rfl
      ((State.doDramCommandSlot_rest (s := s.fresh) idleRows hup hpd hrfm hcol).trans
        (State.slotRest_scrub _ idleRows hrow hidle))

/-! ### The data of a read (R127, R128, R129, R130) -/

/-- The read of the given number is no longer under way. -/
def State.readDone (s : State) (id : Nat) : State :=
  { s with dram := { s.dram with reading := s.dram.reading.filter (fun y => decide (y.id ≠ id)) } }

/-- What a DRAM event lets go on: every request of the tracker, unless the CXL hold stands. -/
def State.goOn (s : State) : State := if s.host.cxlHold then s else s.goAll

/-- What the symbol code found of a line that is no poison (R128, R129). -/
def State.codeFound (s : State) (x : DReq) : EccResult → State
  | .clean => s
  | .corrected | .reread => (s.rewriteLine x.line).corrected (x.way / 2) (x.drank / 8)
  | .uncorrectable => s.uncorrectable (x.way / 2) (x.drank / 8) x.line

/-- The data of a read return, `psn` when the line is poison whatever the code finds (R130, R140). -/
def State.readReturns (s : State) (x : DReq) (err : EccResult) (psn : Bool) : State :=
  let z := s.readGiven x (psn || decide (err = .uncorrectable))
  if psn then z else z.codeFound x err

/-- A host's read takes the data, or poison without data. -/
theorem State.readGiven_host (s : State) {x : DReq} {q : Nat} {y : Req} (bad : Bool) (hsrc : x.src = .host q)
    (hreq : s.req q = some y) (hon : s.isOffline x.line = false) :
    s.readGiven x bad = s.finishRead y (if bad then [] else x.data) bad := by
  simp [State.readGiven, hsrc, hreq, hon]

/-- Nobody asked for the data of a scrub read. -/
theorem State.readGiven_scrub (s : State) {x : DReq} (bad : Bool) (hsrc : x.src = .scrub) : s.readGiven x bad = s := by
  simp [State.readGiven, hsrc]

section
variable {s : State} {id : Nat} {x : DReq}
  (hfind : s.dram.reading.find? (fun y => decide (y.id = id)) = some x)
include hfind

/-- A read under way ends: its requester is served and the code's finding handled, unless the line is poison. -/
theorem State.doDramReadData_found (err : EccResult) :
    s.doDramReadData id err = ((s.readDone id).readReturns x err (x.psn || s.lineLost x.line)).goOn := by
  rw [State.doDramReadData, hfind]
  cases err <;> rfl

theorem State.doDramReadData_marked (err : EccResult) (hpsn : x.psn = true) :
    s.doDramReadData id err = ((s.readDone id).readGiven x true).goOn := by
  rw [State.doDramReadData_found hfind, hpsn]
  rfl

theorem State.doDramReadData_sound (err : EccResult) (hpsn : x.psn = false) (hlost : s.lineLost x.line = false) :
    s.doDramReadData id err =
      (((s.readDone id).readGiven x (decide (err = .uncorrectable))).codeFound x err).goOn := by
  rw [State.doDramReadData_found hfind, hpsn, hlost]
  rfl

end

/-! ### The units of a migration (R136, R137) -/

/-- The watermark advances by a unit, while the new one stands within its width. -/
theorem State.migrNext_watermark (s : State) {c : Nat} {m : Migr} (h : s.rd R.DCH_MIGW_W c + 1 < 2 ^ R.DCH_MIGW_W.wd) :
    (s.migrNext c m).rd R.DCH_MIGW_W c = s.rd R.DCH_MIGW_W c + 1 :=
  (State.rd_wr ..).trans (Nat.mod_eq_of_lt h)

/-- Step 5 for a migration that no long operation asked for. -/
theorem State.migrEnd_noOp (s : State) {c : Nat} {m : Migr} (h : m.loq = none) :
    s.migrEnd c m =
      let z : State := { s with dram := { s.dram with
        migr := s.dram.migr.filter (fun e => decide (e.1 ≠ c))
        retired := smSet 0 (4 * c + m.rank) 2 s.dram.retired
        q := s.dram.q.map (fun x => if x.way / 2 = c ∧ x.drank / 8 = m.rank
          then { x with drank := 8 * s.spareRank c + x.drank % 8 } else x) } }
      ((z.put R.DCH_MIG_BUSY false c).wr R.DCH_RANK_STATE 2 c m.rank).rankEvent 0 1 c m.rank := by
  simp only [State.migrEnd, h]

section
variable {s : State} {c : Nat} {m : Migr}
  (hmigr : smGet none (s.dram.migr.map (fun e => (e.1, some e.2))) c = some m)
  (hup : s.wayUp (2 * c) = true) (hsave : s.dram.caravan = false) (hbegun : m.begun = true)
  (htodo : m.todo = []) (hback : m.back = []) (hfly : m.flying = []) (hwidth : m.units < 2 ^ R.DCH_MIGW_W.wd)
include hmigr hup hsave hbegun htodo hback hfly hwidth

/-- A unit whose lines have all been read and written, with others to follow. -/
theorem State.doMigrationUnitDone_next (hmore : s.rd R.DCH_MIGW_W c + 1 < m.units) :
    s.doMigrationUnitDone c (s.rd R.DCH_MIGW_W c) = (s.migrNext c m).goOn := by
  have hmore' : (s.migrNext c m).rd R.DCH_MIGW_W c < m.units := by
    rwa [s.migrNext_watermark (hmore.trans hwidth)]
  simp [State.doMigrationUnitDone, hmigr, hup, hsave, hbegun, htodo, hback, hfly, hmore', State.goOn]

/-- The last unit of a migration. -/
theorem State.doMigrationUnitDone_last (hlast : s.rd R.DCH_MIGW_W c + 1 = m.units) :
    s.doMigrationUnitDone c (s.rd R.DCH_MIGW_W c) = ((s.migrNext c m).migrEnd c m).goOn := by
  have hlast' : ¬ (s.migrNext c m).rd R.DCH_MIGW_W c < m.units := by
    rw [s.migrNext_watermark (hlast.trans_lt hwidth), hlast]
    exact Nat.lt_irrefl _
  simp [State.doMigrationUnitDone, hmigr, hup, hsave, hbegun, htodo, hback, hfly, hlast', State.goOn]

end

/-- Settles O20: one effect lemma for each finding of the code and each unit, on the state whose responses are cleared. -/
theorem dramReadDataAndMigration : Obligations.DramReadDataAndMigration := by
  refine ⟨?_, ?_, ?_, ?_, ?_, ?_⟩
  · intro s id x q y hfind hpsn hlost hsrc hreq hon
    have heff := State.doDramReadData_sound (s := s.fresh) hfind .clean hpsn hlost
    rw [(s.fresh.readDone id).readGiven_host _ hsrc hreq hon] at heff
    exact exec_eq_after (·.doDramReadData id .clean) rfl heff
  · intro s id x hfind hpsn hlost hsrc
    have heff := State.doDramReadData_sound (s := s.fresh) hfind .corrected hpsn hlost
    rw [State.readGiven_scrub _ _ hsrc] at heff
    exact exec_eq_after (·.doDramReadData id .corrected) rfl heff
  · intro s id x q y hfind hpsn hlost hsrc hreq hon
    have heff := State.doDramReadData_sound (s := s.fresh) hfind .uncorrectable hpsn hlost
    rw [(s.fresh.readDone id).readGiven_host _ hsrc hreq hon] at heff
    exact exec_eq_after (·.doDramReadData id .uncorrectable) rfl heff
  · intro s id err x q y hfind hpsn hsrc hreq hon
    have heff := State.doDramReadData_marked (s := s.fresh) hfind err hpsn
    rw [(s.fresh.readDone id).readGiven_host _ hsrc hreq hon] at heff
    exact exec_eq_after (·.doDramReadData id err) rfl heff
  · intro s chan m hmigr hup hsave hbegun htodo hback hfly hwidth hmore
    exact exec_eq_after (·.doMigrationUnitDone chan (s.rd R.DCH_MIGW_W chan)) rfl
      (State.doMigrationUnitDone_next (s := s.fresh) hmigr hup hsave hbegun htodo hback hfly hwidth hmore)
  · intro s chan m hmigr hup hsave hbegun htodo hback hfly hwidth hlast hop
    have heff := State.doMigrationUnitDone_last (s := s.fresh) hmigr hup hsave hbegun htodo hback hfly hwidth hlast
    rw [State.migrEnd_noOp _ hop] at heff
    exact exec_eq_after (·.doMigrationUnitDone chan (s.rd R.DCH_MIGW_W chan)) rfl heff

end Sys2Proof.Machine
end

section
/-!
PROOFS. The statement about the held set: the page events of Table 5-2 on the dirty bits, the copy table and HELD_MEM.
-/
namespace Sys2Proof.Machine

/-! ### The page events on the dirty bits and the copy table (Table 5-2) -/

section
variable (s : State) (p q : Nat) (b : Bool) (c : Option CopyEnt)

@[simp] theorem State.bitmapUse_dirtyAt : (s.bitmapUse p b).dirtyAt q = s.dirtyAt q := rfl
@[simp] theorem State.bitmapUse_copyAt : (s.bitmapUse p b).copyAt q = s.copyAt q := rfl
@[simp] theorem State.bitmapUse_rd (f : Fld) (i j : Nat) : (s.bitmapUse p b).rd f i j = s.rd f i j := rfl

@[simp] theorem State.unpromise_dirtyAt : (s.unpromise p).dirtyAt q = s.dirtyAt q := rfl
@[simp] theorem State.unpromise_copyAt : (s.unpromise p).copyAt q = s.copyAt q := rfl
@[simp] theorem State.unpromise_rd (f : Fld) (i j : Nat) : (s.unpromise p).rd f i j = s.rd f i j := rfl

@[simp] theorem State.setDirty_dirtyAt : (s.setDirty p b).dirtyAt q = if q = p then true else s.dirtyAt q := by
  cases b <;> exact smGet_smSet false p true s.trk.dirty q

@[simp] theorem State.setDirty_copyAt : (s.setDirty p b).copyAt q = s.copyAt q := by
  cases b <;> rfl

@[simp] theorem State.setDirty_heldMem : (s.setDirty p b).rd R.TRK_HMEM_HELD_MEM = s.rd R.TRK_HMEM_HELD_MEM := by
  cases b <;> exact State.rd_wr_other _ _ _ _ _ _ _ _ (by decide)

@[simp] theorem State.clearDirty_dirtyAt : (s.clearDirty p).dirtyAt q = if q = p then false else s.dirtyAt q :=
  smGet_smSet false p false s.trk.dirty q

@[simp] theorem State.clearDirty_copyAt : (s.clearDirty p).copyAt q = s.copyAt q := rfl

@[simp] theorem State.clearDirty_heldMem : (s.clearDirty p).rd R.TRK_HMEM_HELD_MEM = s.rd R.TRK_HMEM_HELD_MEM :=
  State.rd_wr_other _ _ _ _ _ _ _ _ (by decide)

@[simp] theorem State.setCopy_dirtyAt : (s.setCopy p c).dirtyAt q = s.dirtyAt q := by
  cases c <;> rfl

@[simp] theorem State.setCopy_heldMem : (s.setCopy p c).rd R.TRK_HMEM_HELD_MEM = s.rd R.TRK_HMEM_HELD_MEM := by
  cases c <;> exact State.rd_wr_other _ _ _ _ _ _ _ _ (by decide)

end

/-- An entry put behind a part without its key is the one found at that key; what other keys find does not change. -/
theorem find?_insert {α : Type} (p q : Nat) (e : α) (l r : List (Nat × α)) (hp : ∀ x ∈ l, x.1 ≠ p) :
    (l ++ (p, e) :: r).find? (fun x => decide (x.1 = q)) =
      if q = p then some (p, e) else (l ++ r).find? (fun x => decide (x.1 = q)) := by
  by_cases hq : q = p
  · subst hq
    have hl : l.find? (fun x => decide (x.1 = q)) = none := by simpa using hp
    simp [List.find?_append, hl]
  · simp [List.find?_append, hq, Ne.symm hq]

/-- Without the entries of a key the others are found as before. -/
theorem find?_filter_key {α : Type} (p q : Nat) (m : List (Nat × α)) :
    (m.filter (fun e => decide (e.1 ≠ p))).find? (fun x => decide (x.1 = q)) =
      if q = p then none else m.find? (fun x => decide (x.1 = q)) := by
  rw [List.find?_filter]
  split
  case isTrue h => simp [h]
  case isFalse h =>
    congr 1
    funext x
    by_cases hx : x.1 = q <;> simp [hx, h]

@[simp] theorem State.setCopy_copyAt (s : State) (p q : Nat) (c : Option CopyEnt) :
    (s.setCopy p c).copyAt q = if q = p then c else s.copyAt q := by
  cases c with
  | none =>
    show (List.find? _ (s.trk.copy.filter _)).map _ = _
    rw [find?_filter_key]
    split <;> rfl
  | some e =>
    show (List.find? _ (_ ++ (p, e) :: _)).map _ = _
    rw [find?_insert _ _ _ _ _ ?_, List.takeWhile_append_dropWhile, find?_filter_key]
    · split <;> rfl
    · intro x hx
      have := List.mem_filter.mp ((List.takeWhile_sublist _).subset hx)
      simpa using this.2

/-! ### The held-page counter -/

/-- The fields that `State.refresh` writes, by key. -/
def refreshedKeys : List Nat :=
  [R.TWI0_ALERT_CAUSE.key 0 0, R.TWI0_ALERT_ASSERTED.key 0 0, R.LDG_STAT_STATE.key 0 0, R.LDG_STAT_LEVEL.key 0 0,
    R.HP_DLCUR_DL_LEDGER.key 0 0, R.HP_DLCUR_DL_LEDGER.key 1 0, R.DFT_STAT_AGE_BYPASS.key 0 0,
    R.HP_HOLD_HOLD_ACT.key 0 0, R.HP_HOLD_HOLD_ACT.key 1 0]

/-- An alert cause writes its register alone. -/
theorem State.alert_rd_other (s : State) (n : Nat) (f : Fld) (i j : Nat) (hcause : f.key i j ≠ R.TWI0_ALERT_CAUSE.key 0 0)
    (hpin : f.key i j ≠ R.TWI0_ALERT_ASSERTED.key 0 0) : (s.alert n).rd f i j = s.rd f i j := by
  unfold State.alert
  split
  · rfl
  · exact (State.rd_wr_other _ _ _ _ _ _ _ _ hpin).trans (State.rd_wr_other s _ _ _ _ _ _ _ hcause)

theorem State.refresh_rd_other (s : State) (f : Fld) (i j : Nat) (h : ∀ k ∈ refreshedKeys, f.key i j ≠ k) :
    s.refresh.rd f i j = s.rd f i j := by
  simp only [refreshedKeys, List.forall_mem_cons] at h
  obtain ⟨hcause, hpin, hstate, hlevel, hport0, hport1, hbypass, hhold0, hhold1, -⟩ := h
  have halert : s.alertPers.rd f i j = s.rd f i j := by
    unfold State.alertPers
    split
    · rfl
    · exact s.alert_rd_other 7 f i j hcause hpin
  rw [State.refresh_eq, State.healthRefresh_rd, ← halert]
  simp only [State.reportPorts, State.reportBypass, State.reportLevels, State.put, ne_eq, hstate, hlevel, hport0, hport1,
    hbypass, hhold0, hhold1, not_false_eq_true, State.rd_wr_other]

@[simp] theorem State.refresh_trk (s : State) : s.refresh.trk = s.trk :=
  (s.reportRegs_inputs.trans s.reportRegs.healthRefresh_inputs).trk

@[simp] theorem State.cxlEvent_trk (s : State) (log typ sub : Nat) (data : List Nat) :
    (s.cxlEvent log typ sub data).trk = s.trk := by
  obtain ⟨l, o, h⟩ := s.cxlEvent_frame log typ sub data
  rw [h]

@[simp] theorem State.cxlEvent_rd (s : State) (log typ sub : Nat) (data : List Nat) (f : Fld) (i j : Nat) :
    (s.cxlEvent log typ sub data).rd f i j = s.rd f i j := by
  obtain ⟨l, o, h⟩ := s.cxlEvent_frame log typ sub data
  rw [h]
  rfl

@[simp] theorem State.closedClear_trk (s : State) : s.closedClear.trk = s.trk := by
  unfold State.closedClear
  split
  · exact State.cxlEvent_trk ..
  · rfl

/-- The end of closed admission writes CLOSED alone. -/
theorem State.closedClear_rd_other (s : State) (f : Fld) (i j : Nat) (h : f.key i j ≠ R.LDG_STAT_CLOSED.key 0 0) :
    s.closedClear.rd f i j = s.rd f i j := by
  unfold State.closedClear
  split
  · exact (State.cxlEvent_rd ..).trans (State.rd_wr_other _ _ _ _ _ _ _ _ h)
  · rfl

@[simp] theorem State.setHeld_trk (s : State) (m g : Nat) : (s.setHeld m g).trk = s.trk := by
  rw [State.setHeld, State.refresh_trk, State.closedClear_trk]
  rfl

@[simp] theorem State.setHeld_heldMem (s : State) (m g : Nat) :
    (s.setHeld m g).rd R.TRK_HMEM_HELD_MEM = m % 2 ^ 32 := by
  rw [State.setHeld, State.refresh_rd_other _ _ _ _ (by decide), State.closedClear_rd_other _ _ _ _ (by decide)]
  simp (disch := decide) only [State.rd_wr_other]
  exact State.rd_wr ..

theorem State.dirtyAt_congr {s t : State} (h : t.trk = s.trk) (q : Nat) : t.dirtyAt q = s.dirtyAt q := by
  rw [State.dirtyAt, State.dirtyAt, h]

theorem State.copyAt_congr {s t : State} (h : t.trk = s.trk) (q : Nat) : t.copyAt q = s.copyAt q := by
  rw [State.copyAt, State.copyAt, h]

section
variable (s : State) (q : Nat)

@[simp] theorem State.heldAdd_dirtyAt : s.heldAdd.dirtyAt q = s.dirtyAt q := State.dirtyAt_congr (State.setHeld_trk ..) q
@[simp] theorem State.heldAdd_copyAt : s.heldAdd.copyAt q = s.copyAt q := State.copyAt_congr (State.setHeld_trk ..) q
@[simp] theorem State.heldSub_dirtyAt : s.heldSub.dirtyAt q = s.dirtyAt q := State.dirtyAt_congr (State.setHeld_trk ..) q
@[simp] theorem State.heldSub_copyAt : s.heldSub.copyAt q = s.copyAt q := State.copyAt_congr (State.setHeld_trk ..) q

/-- The count of a page that joins, while it stands within the field. -/
theorem State.heldAdd_heldMem (h : s.rd R.TRK_HMEM_HELD_MEM + 1 < 2 ^ 32) :
    s.heldAdd.rd R.TRK_HMEM_HELD_MEM = s.rd R.TRK_HMEM_HELD_MEM + 1 :=
  (State.setHeld_heldMem ..).trans (Nat.mod_eq_of_lt h)

/-- The count of a page that leaves. -/
theorem State.heldSub_heldMem (h : s.rd R.TRK_HMEM_HELD_MEM < 2 ^ 32) :
    s.heldSub.rd R.TRK_HMEM_HELD_MEM = s.rd R.TRK_HMEM_HELD_MEM - 1 :=
  (State.setHeld_heldMem ..).trans (Nat.mod_eq_of_lt (by omega))

end

/-! ### The states of Table 5-2 -/

/-- The states of Table 5-2. -/
inductive PageState
  | clean | dirty | copying | redirtied | discarding

/-- A page in this state is in the held set (R149). -/
def PageState.held : PageState → Bool
  | .clean | .discarding => false
  | .dirty | .copying | .redirtied => true

/-- The page is in this state. -/
def State.pageIs (s : State) (p : Nat) : PageState → Prop
  | .clean => s.dirtyAt p = false ∧ s.copyAt p = none
  | .dirty => s.dirtyAt p = true ∧ s.copyAt p = none
  | .copying => s.dirtyAt p = false ∧ ∃ c, s.copyAt p = some c ∧ c.discard = false ∧ c.redirty = false
  | .redirtied => s.dirtyAt p = true ∧ ∃ c, s.copyAt p = some c ∧ c.discard = false ∧ c.redirty = true
  | .discarding => s.dirtyAt p = false ∧ ∃ c, s.copyAt p = some c ∧ c.discard = true

theorem State.pageOk.pageIs {s : State} {p : Nat} (h : s.pageOk p) : ∃ x, s.pageIs p x := by
  cases hc : s.copyAt p with
  | none =>
    cases hd : s.dirtyAt p with
    | false => exact ⟨.clean, hd, hc⟩
    | true => exact ⟨.dirty, hd, hc⟩
  | some c =>
    have hd := h c hc
    cases hx : c.discard with
    | true => exact ⟨.discarding, by simp [hd, hx], c, hc, hx⟩
    | false =>
      cases hr : c.redirty with
      | false => exact ⟨.copying, by simp [hd, hr], c, hc, hx, hr⟩
      | true => exact ⟨.redirtied, by simp [hd, hr, hx], c, hc, hx, hr⟩

section
variable {s t : State} {p : Nat}

theorem State.pageIs.pageOk {x : PageState} (h : s.pageIs p x) : s.pageOk p := by
  intro c hc
  cases x with
  | clean => exact absurd (hc.symm.trans h.2) (by simp)
  | dirty => exact absurd (hc.symm.trans h.2) (by simp)
  | copying =>
    obtain ⟨hd, c', hc', hx, hr⟩ := h
    obtain rfl : c = c' := Option.some.inj (hc.symm.trans hc')
    simp [hd, hr]
  | redirtied =>
    obtain ⟨hd, c', hc', hx, hr⟩ := h
    obtain rfl : c = c' := Option.some.inj (hc.symm.trans hc')
    simp [hd, hx, hr]
  | discarding =>
    obtain ⟨hd, c', hc', hx⟩ := h
    obtain rfl : c = c' := Option.some.inj (hc.symm.trans hc')
    simp [hd, hx]

theorem State.pageIs.inHeld {x : PageState} (h : s.pageIs p x) : s.inHeld p = x.held := by
  cases x with
  | clean => simp [State.inHeld, State.copyLive, h.1, h.2, PageState.held]
  | dirty => simp [State.inHeld, h.1, PageState.held]
  | copying =>
    obtain ⟨-, c, hc, hx, -⟩ := h
    simp [State.inHeld, State.copyLive, hc, hx, PageState.held]
  | redirtied => simp [State.inHeld, h.1, PageState.held]
  | discarding =>
    obtain ⟨hd, c, hc, hx⟩ := h
    simp [State.inHeld, State.copyLive, hd, hc, hx, PageState.held]

/-- `t` is as `s` for every page but `p`. -/
def State.onlyPage (s t : State) (p : Nat) : Prop :=
  ∀ q, q ≠ p → t.dirtyAt q = s.dirtyAt q ∧ t.copyAt q = s.copyAt q

/-- A row of Table 5-2 that touches no other page and counts the change of membership between its states. -/
theorem State.pageMoved_of_row (x y : PageState) (hx : s.pageIs p x) (hy : t.pageIs p y) (hother : s.onlyPage t p)
    (hcount : t.rd R.TRK_HMEM_HELD_MEM + b2n x.held = s.rd R.TRK_HMEM_HELD_MEM + b2n y.held) : s.pageMoved t p := by
  refine ⟨hy.pageOk, fun q hq => ?_, ?_⟩
  · obtain ⟨hd, hc⟩ := hother q hq
    rw [State.inHeld, State.inHeld, State.copyLive, State.copyLive, hd, hc]
  · rw [hx.inHeld, hy.inHeld, hcount]

/-- A row of the table in which membership begins, counted last. -/
theorem State.pageMoved_of_joins (x y : PageState) (hx : s.pageIs p x) (hy : t.heldAdd.pageIs p y) (hother : s.onlyPage t p)
    (hjoins : x.held = false ∧ y.held = true) (hsame : t.rd R.TRK_HMEM_HELD_MEM = s.rd R.TRK_HMEM_HELD_MEM)
    (hmax : s.rd R.TRK_HMEM_HELD_MEM + 1 < 2 ^ 32) : s.pageMoved t.heldAdd p := by
  refine State.pageMoved_of_row x y hx hy (fun q hq => by simpa using hother q hq) ?_
  rw [State.heldAdd_heldMem t (by rwa [hsame]), hsame, hjoins.1, hjoins.2]
  rfl

/-- A row of the table that ends the membership, counted last. -/
theorem State.pageMoved_of_leaves (x y : PageState) (hx : s.pageIs p x) (hy : t.heldSub.pageIs p y) (hother : s.onlyPage t p)
    (hleaves : x.held = true ∧ y.held = false) (hsame : t.rd R.TRK_HMEM_HELD_MEM = s.rd R.TRK_HMEM_HELD_MEM)
    (hpos : s.inHeld p = true → 1 ≤ s.rd R.TRK_HMEM_HELD_MEM) (hmax : s.rd R.TRK_HMEM_HELD_MEM + 1 < 2 ^ 32) :
    s.pageMoved t.heldSub p := by
  have hheld : 1 ≤ s.rd R.TRK_HMEM_HELD_MEM := hpos (hx.inHeld.trans hleaves.1)
  refine State.pageMoved_of_row x y hx hy (fun q hq => by simpa using hother q hq) ?_
  rw [State.heldSub_heldMem t (by omega), hsame, hleaves.1, hleaves.2]
  exact Nat.sub_add_cancel hheld

/-- An event that the table does not list for the page's state has no effect (R150). -/
theorem State.pageMoved_refl (h : s.pageOk p) : s.pageMoved s p := ⟨h, fun _ _ => rfl, rfl⟩

/-! ### The events of Table 5-2 -/

/-- A store to a dirty page is admitted without a change of its state. -/
theorem State.pageStore_moved_of_dirty (hok : s.pageOk p) (hrun : s.on R.TRK_STAT_RUN = true) (hd : s.dirtyAt p = true) :
    s.pageMoved (s.pageStore p) p := by
  have heff : s.pageStore p = s.bitmapUse p false := by simp [State.pageStore, hrun, hd]
  rw [heff]
  exact ⟨hok, fun _ _ => rfl, rfl⟩

theorem State.pageStore_moved (hok : s.pageOk p) (hrun : s.on R.TRK_STAT_RUN = true)
    (hmax : s.rd R.TRK_HMEM_HELD_MEM + 1 < 2 ^ 32) : s.pageMoved (s.pageStore p) p := by
  obtain ⟨x, hx⟩ := hok.pageIs
  cases x with
  | clean =>
    have ⟨hd, hc⟩ := hx
    have heff : s.pageStore p = (s.setDirty p true).heldAdd := by simp [State.pageStore, hrun, hd, hc]
    rw [heff]
    exact State.pageMoved_of_joins .clean .dirty hx ⟨by simp, by simp [hc]⟩ (fun q hq => by simp [hq]) ⟨rfl, rfl⟩
      (by simp) hmax
  | dirty => exact State.pageStore_moved_of_dirty hok hrun hx.1
  | copying =>
    have ⟨hd, c, hc, hdisc, _⟩ := hx
    have heff : s.pageStore p = (s.setDirty p true).setCopy p (some { c with redirty := true }) := by
      simp [State.pageStore, hrun, hd, hc, hdisc]
    rw [heff]
    exact State.pageMoved_of_row .copying .redirtied hx ⟨by simp, { c with redirty := true }, by simp, hdisc, rfl⟩
      (fun q hq => by simp [hq]) (by simp [PageState.held])
  | redirtied => exact State.pageStore_moved_of_dirty hok hrun hx.1
  | discarding =>
    have ⟨hd, c, hc, hdisc⟩ := hx
    have heff : s.pageStore p = s := by simp [State.pageStore, hrun, hd, hc, hdisc]
    rw [heff]
    exact State.pageMoved_refl hok

theorem State.pageTake_moved (hok : s.pageOk p) (gen slot : Nat) : s.pageMoved (s.pageTake p gen slot) p := by
  by_cases h : s.dirtyAt p && (s.copyAt p).isNone
  · have hx : s.pageIs p .dirty := by simpa [State.pageIs] using h
    rw [State.pageTake, if_pos h]
    exact State.pageMoved_of_row .dirty .copying hx
      ⟨by simp, { gen := gen, redirty := false, discard := false, read := false, slot := slot, prog := 0 }, by simp,
        rfl, rfl⟩
      (fun q hq => by simp [hq]) (by simp [PageState.held])
  · rw [State.pageTake, if_neg h]
    exact State.pageMoved_refl hok

/-- Without a copy under way neither its confirmation nor its failure has an effect. -/
theorem State.pageConfirm_noCopy (hc : s.copyAt p = none) : s.pageConfirm p = s := by
  simp [State.pageConfirm, hc]

theorem State.pageFail_noCopy (hc : s.copyAt p = none) : s.pageFail p = s := by
  simp [State.pageFail, hc]

/-- The entry of a discarded copy is freed. -/
theorem State.discarding_freed (hx : s.pageIs p .discarding) : s.pageMoved (s.setCopy p none) p :=
  State.pageMoved_of_row .discarding .clean hx ⟨by simp [hx.1], by simp⟩ (fun q hq => by simp [hq])
    (by simp [PageState.held])

theorem State.pageConfirm_moved (hok : s.pageOk p) (hpos : s.inHeld p = true → 1 ≤ s.rd R.TRK_HMEM_HELD_MEM)
    (hmax : s.rd R.TRK_HMEM_HELD_MEM + 1 < 2 ^ 32) : s.pageMoved (s.pageConfirm p) p := by
  obtain ⟨x, hx⟩ := hok.pageIs
  cases x with
  | clean => rw [State.pageConfirm_noCopy hx.2]; exact State.pageMoved_refl hok
  | dirty => rw [State.pageConfirm_noCopy hx.2]; exact State.pageMoved_refl hok
  | copying =>
    have ⟨hd, c, hc, hdisc, hr⟩ := hx
    have heff : s.pageConfirm p = ((s.setCopy p none).unpromise p).heldSub := by simp [State.pageConfirm, hc, hdisc, hr]
    rw [heff]
    exact State.pageMoved_of_leaves .copying .clean hx ⟨by simp [hd], by simp⟩ (fun q hq => by simp [hq]) ⟨rfl, rfl⟩
      (by simp) hpos hmax
  | redirtied =>
    have ⟨hd, c, hc, hdisc, hr⟩ := hx
    have heff : s.pageConfirm p = (s.setCopy p none).unpromise p := by simp [State.pageConfirm, hc, hdisc, hr]
    rw [heff]
    exact State.pageMoved_of_row .redirtied .dirty hx ⟨by simp [hd], by simp⟩ (fun q hq => by simp [hq])
      (by simp [PageState.held])
  | discarding =>
    have ⟨_, c, hc, hdisc⟩ := hx
    have heff : s.pageConfirm p = s.setCopy p none := by simp [State.pageConfirm, hc, hdisc]
    rw [heff]
    exact State.discarding_freed hx

theorem State.pageFail_moved (hok : s.pageOk p) : s.pageMoved (s.pageFail p) p := by
  obtain ⟨x, hx⟩ := hok.pageIs
  cases x with
  | clean => rw [State.pageFail_noCopy hx.2]; exact State.pageMoved_refl hok
  | dirty => rw [State.pageFail_noCopy hx.2]; exact State.pageMoved_refl hok
  | copying =>
    have ⟨_, c, hc, hdisc, hr⟩ := hx
    have heff : s.pageFail p = (s.setCopy p none).setDirty p false := by simp [State.pageFail, hc, hdisc, hr]
    rw [heff]
    exact State.pageMoved_of_row .copying .dirty hx ⟨by simp, by simp⟩ (fun q hq => by simp [hq])
      (by simp [PageState.held])
  | redirtied =>
    have ⟨hd, c, hc, hdisc, hr⟩ := hx
    have heff : s.pageFail p = s.setCopy p none := by simp [State.pageFail, hc, hdisc, hr]
    rw [heff]
    exact State.pageMoved_of_row .redirtied .dirty hx ⟨by simp [hd], by simp⟩ (fun q hq => by simp [hq])
      (by simp [PageState.held])
  | discarding =>
    have ⟨_, c, hc, hdisc⟩ := hx
    have heff : s.pageFail p = s.setCopy p none := by simp [State.pageFail, hc, hdisc]
    rw [heff]
    exact State.discarding_freed hx

theorem State.pageRelease_moved (hok : s.pageOk p) (hpos : s.inHeld p = true → 1 ≤ s.rd R.TRK_HMEM_HELD_MEM)
    (hmax : s.rd R.TRK_HMEM_HELD_MEM + 1 < 2 ^ 32) : s.pageMoved (s.pageRelease p) p := by
  obtain ⟨x, hx⟩ := hok.pageIs
  cases x with
  | clean =>
    have heff : s.pageRelease p = s := by simp [State.pageRelease, hx.1, hx.2]
    rw [heff]
    exact State.pageMoved_refl hok
  | dirty =>
    have ⟨hd, hc⟩ := hx
    have heff : s.pageRelease p = ((s.clearDirty p).unpromise p).heldSub := by simp [State.pageRelease, hd, hc]
    rw [heff]
    exact State.pageMoved_of_leaves .dirty .clean hx ⟨by simp, by simp [hc]⟩ (fun q hq => by simp [hq]) ⟨rfl, rfl⟩
      (by simp) hpos hmax
  | copying =>
    have ⟨hd, c, hc, hdisc, _⟩ := hx
    have heff : s.pageRelease p = ((s.setCopy p (some { c with discard := true })).unpromise p).heldSub := by
      simp [State.pageRelease, hd, hc, hdisc]
    rw [heff]
    exact State.pageMoved_of_leaves .copying .discarding hx ⟨by simp [hd], { c with discard := true }, by simp, rfl⟩
      (fun q hq => by simp [hq]) ⟨rfl, rfl⟩ (by simp) hpos hmax
  | redirtied =>
    have ⟨hd, c, hc, hdisc, _⟩ := hx
    have heff : s.pageRelease p =
        (((s.clearDirty p).setCopy p (some { c with discard := true })).unpromise p).heldSub := by
      simp [State.pageRelease, hd, hc, hdisc]
    rw [heff]
    exact State.pageMoved_of_leaves .redirtied .discarding hx ⟨by simp, { c with discard := true }, by simp, rfl⟩
      (fun q hq => by simp [hq]) ⟨rfl, rfl⟩ (by simp) hpos hmax
  | discarding =>
    have ⟨hd, c, hc, hdisc⟩ := hx
    have heff : s.pageRelease p = s := by simp [State.pageRelease, hd, hc, hdisc]
    rw [heff]
    exact State.pageMoved_refl hok

end

/-- Settles O55: one lemma for each event, which takes the page from row to row of Table 5-2. -/
theorem heldCountFollowsMembership : Obligations.HeldCountFollowsMembership := by
  intro s p hrun hok hpos hmax
  exact ⟨State.pageStore_moved hok hrun hmax, fun gen slot => State.pageTake_moved hok gen slot,
    State.pageConfirm_moved hok hpos hmax, State.pageFail_moved hok, State.pageRelease_moved hok hpos hmax⟩

end Sys2Proof.Machine
end

section
/-!
PROOFS. The statements about the commands of Drift's copies and of the ledger.
-/
namespace Sys2Proof.Machine

/-! ### Copies (R154, R157 to R160) -/

theorem State.driftBlocked_iff (s : State) : s.driftBlocked = false ↔
    s.trk.copy.length < 65536 ∧ 256 ≤ s.drift.tokens ∧ s.bufGrants 2 = true ∧
      s.buf.wait.any (fun e => decide (e.1 = 2)) = false := by
  simp [State.driftBlocked, and_assoc]

/-- A take in the rotation: the scan pointer stays on the region while it has a page left. -/
theorem State.doDriftTake_region (s : State) {p r : Nat} (hrun : s.driftRuns = true) (hfree : s.driftBlocked = false)
    (hpick : s.driftPick = some (p, some r)) :
    s.doDriftTake =
      let x : State := s.drawGen.2.pageTake p s.drawGen.1 0
      let n : Nat := if (x.freshPages (fun p => decide (regionOf p = r))).isEmpty
        then (r + 1) % cdiv x.hostPages 2048 else r
      (({ x with drift := { x.drift with tokens := x.drift.tokens - 256, scan := n } }.wr R.DFT_STAT_STATE 2).pageStart
        (pageIo (.drift p) false (p * 4096) x.driftUrg 0)).driftIdle := by
  simp only [State.doDriftTake, hrun, hfree, hpick, Bool.not_true, Bool.false_eq_true, if_false]

/-- A take from a range taken offline leaves the scan pointer. -/
theorem State.doDriftTake_offline (s : State) {p : Nat} (hrun : s.driftRuns = true) (hfree : s.driftBlocked = false)
    (hpick : s.driftPick = some (p, none)) :
    s.doDriftTake =
      let x : State := s.drawGen.2.pageTake p s.drawGen.1 0
      (({ x with drift := { x.drift with tokens := x.drift.tokens - 256 } }.wr R.DFT_STAT_STATE 2).pageStart
        (pageIo (.drift p) false (p * 4096) 7 0)).driftIdle := by
  simp only [State.doDriftTake, hrun, hfree, hpick, Bool.not_true, Bool.false_eq_true, if_false]

theorem State.doDriftTake_blocked (s : State) {p r : Nat} (hrun : s.driftRuns = true) (hblock : s.driftBlocked = true)
    (hpick : s.driftPick = some (p, some r)) :
    s.doDriftTake = ({ s with drift := { s.drift with scan := (r + 1) % cdiv s.hostPages 2048 } }).driftIdle := by
  simp [State.doDriftTake, hrun, hblock, State.driftMoveOn, hpick]

theorem State.doDriftReadDone_programs (s : State) {p a : Nat} {j : PageIo} {c : CopyEnt}
    (hjob : s.pageJob (.drift p) = some j) (hdone : j.done = true) (hcopy : s.copyAt p = some c)
    (hslot : (s.assign 0 1).1 = some a) :
    s.doDriftReadDone p =
      let x : State := (s.assign 0 1).2
      let y : State := ((x.setSlot a (some
        { kind := 0x01, key := p, gen := c.gen, data := j.data, md := [], marks := j.marks })).setCopy p
          (some { c with read := true, slot := a, prog := 1 })).pageDrop (.drift p)
      y.fIssue (addrDie a) .program 3 false (y.sbOf a) a (.drift p) j.buf := by
  have hassign : s.assign 0 1 = (some a, (s.assign 0 1).2) := Prod.ext hslot rfl
  rw [State.doDriftReadDone, hjob, hcopy, hassign]
  simp [hdone]

theorem State.doConfirmation_passed (s : State) {p : Nat} {c : CopyEnt} (hcopy : s.copyAt p = some c)
    (hpass : c.prog = 2) :
    s.doConfirmation p =
      let x : State := ((if c.discard then s.setSlot c.slot none else s.setImg p c.slot).pageConfirm p).addSat
        R.DFT_CONF_CONF 1
      { x with drift := { x.drift with
          confNow := x.drift.confNow + 1
          redirtyNow := x.drift.redirtyNow + b2n c.redirty } } := by
  simp [State.doConfirmation, hcopy, hpass]

theorem State.doCopyProgramFailure_retires (s : State) {p : Nat} {c : CopyEnt} (hcopy : s.copyAt p = some c)
    (hfail : c.prog = 3) (hnew : (s.sb (s.sbOf c.slot)).retireNext.contains (addrDie c.slot / 128) = false) :
    s.doCopyProgramFailure p =
      let b : SbSt := s.sb (s.sbOf c.slot)
      (((((s.setSlot c.slot none).setSb (s.sbOf c.slot)
        { b with retireNext := b.retireNext ++ [addrDie c.slot / 128] }).rewriteSched (s.sbOf c.slot)).pageFail p)).inc
          R.DFT_PFAIL_PFAIL := by
  simp only [State.doCopyProgramFailure, hcopy, hfail, hnew]
  rfl

/-- Settles O21: one effect lemma for each command, on the state whose responses are cleared. That a discarded copy's confirmation
counts (log 195), the order of the takes (log 72) and the member retired for a failed location (log 73) are the model's choices. -/
theorem driftCopies : Obligations.DriftCopies := by
  refine ⟨?_, ?_, ?_, ?_, ?_, ?_, ?_⟩
  · intro s p r hrun hroom htokens hbuf hwait hpick
    exact exec_eq_after (·.doDriftTake) rfl
      (s.fresh.doDriftTake_region hrun (s.driftBlocked_iff.mpr ⟨hroom, htokens, hbuf, hwait⟩) hpick)
  · intro s p hrun hroom htokens hbuf hwait hpick
    exact exec_eq_after (·.doDriftTake) rfl
      (s.fresh.doDriftTake_offline hrun (s.driftBlocked_iff.mpr ⟨hroom, htokens, hbuf, hwait⟩) hpick)
  · intro s p r hrun htokens hpick
    have hblock : s.driftBlocked = true := by simp [State.driftBlocked, htokens]
    exact exec_eq_after (·.doDriftTake) rfl (s.fresh.doDriftTake_blocked hrun hblock hpick)
  · intro s page j c a hjob hdone hcopy hslot
    exact exec_eq_after (·.doDriftReadDone page) rfl (s.fresh.doDriftReadDone_programs hjob hdone hcopy hslot)
  · intro s page c hcopy hpass hkept
    have heff := s.fresh.doConfirmation_passed hcopy hpass
    rw [hkept] at heff
    exact exec_eq_after (·.doConfirmation page) rfl heff
  · intro s page c hcopy hpass hdisc
    have heff := s.fresh.doConfirmation_passed hcopy hpass
    rw [hdisc] at heff
    exact exec_eq_after (·.doConfirmation page) rfl heff
  · intro s page c hcopy hfail hnew
    exact exec_eq_after (·.doCopyProgramFailure page) rfl (s.fresh.doCopyProgramFailure_retires hcopy hfail hnew)

/-! ### The ledger (R186 to R188, R200) -/

/-- Outside a save the ledger resumes with the recomputation. -/
theorem State.doLedgerPeriodicRecompute_resumes (s : State) (hr : s.boot.inReset = false) (ht : s.tick % 1024 = 0)
    (hcode : s.cvn.code = 0) :
    s.doLedgerPeriodicRecompute =
      ({ s with ledger := { s.ledger with stopped := false } }.driftWindow.ledgerStart true).snapTick := by
  simp [State.doLedgerPeriodicRecompute, hr, ht, hcode]

theorem State.doLedgerPeriodicRecompute_saving (s : State) (hr : s.boot.inReset = false) (ht : s.tick % 1024 = 0)
    (hcode : s.cvn.code ≠ 0) : s.doLedgerPeriodicRecompute = (s.driftWindow.ledgerStart true).snapTick := by
  simp [State.doLedgerPeriodicRecompute, hr, ht, hcode]

/-- A recomputation that no tick of the ledger asked for. -/
theorem State.doLedgerRecomputeDone_nonperiodic (s : State) (h : s.ledger.running = some false) :
    s.doLedgerRecomputeDone =
      let x : State := (s.install s.recomp).rsvFollow
      { x with ledger := { x.ledger with tLast := x.tick } }.closedClear.closedSet.guarEvent.ledgerNext.stgKick := by
  simp only [State.doLedgerRecomputeDone, h, Bool.false_eq_true, if_false]

/-- A periodic one also keeps the throughput that it found, clears STG_OFF and counts closure. -/
theorem State.doLedgerRecomputeDone_periodic (s : State) (h : s.ledger.running = some true) :
    s.doLedgerRecomputeDone =
      let x : State := (s.install s.recomp).rsvFollow
      { x with ledger := { x.ledger with
          tLast := x.tick
          rPrev := x.rd R.DFT_RSAVE_RSAVE } }.closedClear.closedSet.guarEvent.ledgerNext.stgOffClear.emCount.stgKick := by
  simp only [State.doLedgerRecomputeDone, h, if_true]

/-- The countdown's own fields leave the state of the save. -/
theorem State.countdown_saveState (s : State) (n : Nat) :
    (s.sub R.LDG_CDN_CDN n).cdnpNow.saveSoc.rd R.CVN_STAT_SAVE_ST = s.rd R.CVN_STAT_SAVE_ST := by
  simp (disch := decide) only [State.saveSoc, State.cdnpNow, State.sub, State.rd_wr_other]

/-- Among the trailing pages of a save no sums are taken (Table 7-6). -/
theorem State.doCountdownTick_trailing (s : State) (hact : s.on R.LDG_STAT_CDN_ACT = true)
    (htrail : s.rd R.CVN_STAT_SAVE_ST = 4) :
    s.doCountdownTick = (s.sub R.LDG_CDN_CDN (cdiv (s.rd R.LDG_PUSE_P) 32000)).cdnpNow.saveSoc := by
  simp [State.doCountdownTick, hact, State.countdown_saveState, htrail]

/-- Settles O23: one effect lemma for each command, on the state whose responses are cleared. What is computed and installed is
the model's `State.recomp` and `State.install`. -/
theorem ledgerCommands : Obligations.LedgerCommands := by
  refine ⟨?_, ?_, ?_, ?_, ?_⟩
  · intro s hr ht hcode
    exact exec_eq_after (·.doLedgerPeriodicRecompute) rfl (s.fresh.doLedgerPeriodicRecompute_resumes hr ht hcode)
  · intro s hr ht hcode
    exact exec_eq_after (·.doLedgerPeriodicRecompute) rfl (s.fresh.doLedgerPeriodicRecompute_saving hr ht hcode)
  · intro s hrun
    have heff := s.fresh.doLedgerRecomputeDone_nonperiodic hrun
    rw [State.fresh_recomp] at heff
    exact exec_eq_after (·.doLedgerRecomputeDone) rfl heff
  · intro s hrun
    have heff := s.fresh.doLedgerRecomputeDone_periodic hrun
    rw [State.fresh_recomp] at heff
    exact exec_eq_after (·.doLedgerRecomputeDone) rfl heff
  · intro s hact htrail
    exact exec_eq_after (·.doCountdownTick) rfl (s.fresh.doCountdownTick_trailing hact htrail)

end Sys2Proof.Machine
end

section
/-!
PROOFS. The statements about the commands of Caravan's saves and of restore.
-/
namespace Sys2Proof.Machine

/-! ### The triggers and the manifest (R203, R214) -/

theorem State.powerTrigger_powered (s : State) (code : Nat) (h : s.seqState ≠ 0) : s.powerTrigger code = s.caravan code :=
  if_neg h

theorem State.powerTrigger_off (s : State) (code : Nat) (h : s.seqState = 0) : s.powerTrigger code = s := if_pos h

theorem State.doManifestIssued_issues (s : State) {m : Manifest} (hbuild : s.cvn.building = some m)
    (hst : s.rd R.CVN_STAT_SAVE_ST = 1) :
    s.doManifestIssued = ((List.range m.parts).foldl (fun (s : State) (k : Nat) =>
      s.saveIssue (.manifest k) none false) s).wr R.CVN_STAT_SAVE_ST 2 := by
  simp [State.doManifestIssued, hbuild, hst]

/-! ### The pages of step 5 (R215, R216) -/

/-- A page that needs no slot is counted as skipped while the save is at its pages. -/
theorem State.savePass_counted (s : State) {i : SaveItem} {rest : List SaveItem} (hst : s.rd R.CVN_STAT_SAVE_ST = 2)
    (htodo : s.cvn.todo = i :: rest) :
    s.savePass =
      let x : State := { s with cvn := { s.cvn with todo := rest } }
      { x with cvn := { x.cvn with skipped := x.cvn.skipped + 1 } }.deltaNote 0 := by
  have hnext : s.saveNext = { s with cvn := { s.cvn with todo := rest } } := by simp [State.saveNext, htodo]
  rw [State.savePass, hnext]
  exact congrArg (fun x : State => x.deltaNote 0) (if_pos hst)

section
variable (s : State) {rest : List SaveItem} (hst : s.rd R.CVN_STAT_SAVE_ST = 2)
include hst

theorem State.doSavePageIssue_empty (htodo : s.cvn.todo = []) : s.doSavePageIssue = s.saveTail := by
  simp [State.doSavePageIssue, hst, htodo]

/-- A memory page at the front whose copy is not in flight, with a buffer for it: clean it is passed over, dirty it is issued as
far as R216 allows. -/
theorem State.doSavePageIssue_page {p g : Nat} (htodo : s.cvn.todo = .page p g :: rest) (hcopy : s.copyAt p = none)
    (hbuf : s.bufGrants 9 = true) :
    s.doSavePageIssue =
      if s.dirtyAt p then if s.saveAllows then s.savePut (.page p g) else s.saveStop else s.savePass := by
  cases hdirty : s.dirtyAt p <;> simp [State.doSavePageIssue, hst, htodo, hcopy, hbuf, hdirty]

theorem State.doSavePageIssue_staged {k ns lba g : Nat} {d md : List Host.Cell}
    (htodo : s.cvn.todo = .staged k ns lba g d md :: rest) (hbuf : s.bufGrants 9 = true) :
    s.doSavePageIssue = if s.saveAllows then s.savePut (.staged k ns lba g d md) else s.saveStop := by
  simp [State.doSavePageIssue, hst, htodo, hbuf]

end

/-! ### The ends of programs (R218, R220) -/

theorem State.doSaveProgramDone_failed (s : State) {slot : Nat} {x : SaveProg}
    (hfind : s.cvn.progs.find? (fun y => decide (y.slot = slot)) = some x) (hprog : x.prog = 3) :
    s.doSaveProgramDone slot false = s.saveAgain x := by
  simp [State.doSaveProgramDone, hfind, hprog]

theorem State.doSaveProgramDone_passed (s : State) {slot : Nat} {x : SaveProg}
    (hfind : s.cvn.progs.find? (fun y => decide (y.slot = slot)) = some x) (hprog : x.prog = 2)
    (hrec : x.item ≠ .record) (hmark : x.item ≠ .mark) :
    s.doSaveProgramDone slot true = (s.saveDrop x).saveProgEnd x true := by
  simp [State.doSaveProgramDone, hfind, hprog, hrec, hmark]

/-- The slot of a page whose copy was not discarded meanwhile is the page's newest. -/
theorem State.saveProgEnd_page (s : State) {x : SaveProg} {p g : Nat} (hitem : x.item = .page p g)
    (hkept : (s.copyAt p).any (·.discard) = false) :
    s.saveProgEnd x true = (s.setImg p x.slot).pageConfirm p := by
  simp [State.saveProgEnd, hitem, hkept]

theorem State.doSaveRecordConfirmed_passed (s : State) {x : SaveProg} (hprog : s.saveProgOf .record = some x) :
    s.doSaveRecordConfirmed = (s.saveDrop x).recordPut.saveIssue .mark (some (addrDie x.slot)) false := by
  rw [State.doSaveRecordConfirmed, hprog]

/-- After the valid mark of a power-failure save the trailing pages begin (R219). -/
theorem State.saveMarked_powerFailure (s : State) (hcode : s.cvn.code ≤ 2) :
    s.saveMarked = s.saveSumEnd.wr R.CVN_STAT_SAVE_ST 4 := if_pos hcode

/-- After the valid mark of a save of code 3 or 4 with nothing left in flight, service resumes (R222). -/
theorem State.saveMarked_resumes (s : State) (hcode : 3 ≤ s.cvn.code) (hprogs : s.cvn.progs = []) :
    s.saveMarked = s.saveResume := by
  simp [State.saveMarked, Nat.not_le.mpr hcode, hprogs]

theorem State.doValidMarkConfirmed_marks (s : State) {x : SaveProg} (hprog : s.saveProgOf .mark = some x)
    (hall : s.cvn.code ≤ 2 ∨ s.cvn.progs = [x]) :
    s.doValidMarkConfirmed = (s.saveDrop x).markPut.saveMarked := by
  rw [State.doValidMarkConfirmed, hprog]
  refine if_neg ?_
  rintro ⟨hcode, hlen⟩
  rcases hall with hle | hone
  · omega
  · simp [hone] at hlen

/-- The only program, taken off the list, leaves none. -/
theorem State.saveDrop_only (s : State) {x : SaveProg} (h : s.cvn.progs = [x]) : (s.saveDrop x).cvn.progs = [] := by
  simp [State.saveDrop, h]

/-! ### The end of the save (R219, Table 7-6) -/

theorem State.doTrailingDone_ends (s : State) (hst : s.rd R.CVN_STAT_SAVE_ST = 4) (htodo : s.cvn.todo = [])
    (hprogs : s.cvn.progs = []) (hflash : s.flash.ops.all (fun o => decide (o.kind ≠ .program)) = true) :
    s.doTrailingDone = (s.wr R.CVN_STAT_SAVE_ST 5).startDown :=
  if_pos ⟨hst, htodo, hprogs, hflash⟩

theorem State.doEnergyExhausted_stops (s : State) (hst : s.rd R.CVN_STAT_SAVE_ST ≠ 0) :
    s.doEnergyExhausted =
      let x : State := s.saveTorn.wr R.CVN_STAT_SAVE_ST 5
      { x with
        cvn := { x.cvn with todo := [], progs := [] }
        dram := { x.dram with pages := x.dram.pages.filter (fun j => match j.src with | .save _ => false | _ => true) } } :=
  if_neg hst

/-- Settles O24: one effect lemma for each command, on the state whose responses are cleared. That every part of the manifest is one
program, issued before any page (log 90), that the steps of a save that need no wait run in the step of its trigger (log 87), and
what becomes of a program without a free slot (log 89) are the model's choices. -/
theorem caravanSteps : Obligations.CaravanSteps := by
  refine ⟨?_, ?_, ?_, ?_, ?_, ?_, ?_, ?_, ?_, ?_, ?_, ?_, ?_, ?_, ?_, ?_⟩
  · intro s hseq
    exact exec_eq_after (·.doPwrFailNLow) rfl (State.powerTrigger_powered _ 1 hseq)
  · intro s hoff
    exact exec_eq_after (·.doPwrFailNLow) rfl (State.powerTrigger_off _ 1 hoff)
  · intro s hseq
    exact exec_eq_after (·.doInputRailCollapse) rfl (s.fresh.powerTrigger_powered 2 hseq)
  · intro s m hbuild hst
    exact exec_eq_after (·.doManifestIssued) rfl (s.fresh.doManifestIssued_issues hbuild hst)
  · intro s p g rest hst htodo hcopy hbuf hdirty hallow
    have heff := s.fresh.doSavePageIssue_page hst htodo hcopy hbuf
    rw [State.fresh_dirtyAt, State.fresh_saveAllows, hdirty, hallow] at heff
    exact exec_eq_after (·.doSavePageIssue) rfl heff
  · intro s p g rest hst htodo hcopy hbuf hdirty hallow
    have heff := s.fresh.doSavePageIssue_page hst htodo hcopy hbuf
    rw [State.fresh_dirtyAt, State.fresh_saveAllows, hdirty, hallow] at heff
    exact exec_eq_after (·.doSavePageIssue) rfl heff
  · intro s p g rest hst htodo hcopy hbuf hclean
    have heff := s.fresh.doSavePageIssue_page hst htodo hcopy hbuf
    rw [State.fresh_dirtyAt, hclean, s.fresh.savePass_counted hst htodo] at heff
    exact exec_eq_after (·.doSavePageIssue) rfl heff
  · intro s k ns lba g d md rest hst htodo hbuf hallow
    have heff := s.fresh.doSavePageIssue_staged hst htodo hbuf
    rw [State.fresh_saveAllows, hallow] at heff
    exact exec_eq_after (·.doSavePageIssue) rfl heff
  · intro s hst htodo
    exact exec_eq_after (·.doSavePageIssue) rfl (s.fresh.doSavePageIssue_empty hst htodo)
  · intro s slot x hfind hprog
    exact exec_eq_after (·.doSaveProgramDone slot false) rfl (s.fresh.doSaveProgramDone_failed hfind hprog)
  · intro s slot x p g hfind hprog hitem hkept
    have heff := s.fresh.doSaveProgramDone_passed hfind hprog (by simp [hitem]) (by simp [hitem])
    rw [(s.fresh.saveDrop x).saveProgEnd_page hitem hkept] at heff
    exact exec_eq_after (·.doSaveProgramDone slot true) rfl heff
  · intro s x hprog
    exact exec_eq_after (·.doSaveRecordConfirmed) rfl (s.fresh.doSaveRecordConfirmed_passed hprog)
  · intro s x hprog hcode
    have heff := s.fresh.doValidMarkConfirmed_marks hprog (.inl hcode)
    rw [(s.fresh.saveDrop x).markPut.saveMarked_powerFailure hcode] at heff
    exact exec_eq_after (·.doValidMarkConfirmed) rfl heff
  · intro s x hprog hcode hone
    have heff := s.fresh.doValidMarkConfirmed_marks hprog (.inr hone)
    rw [(s.fresh.saveDrop x).markPut.saveMarked_resumes hcode (s.fresh.saveDrop_only hone)] at heff
    exact exec_eq_after (·.doValidMarkConfirmed) rfl heff
  · intro s hst htodo hprogs hflash
    exact exec_eq_after (·.doTrailingDone) rfl (s.fresh.doTrailingDone_ends hst htodo hprogs hflash)
  · intro s hst
    exact exec_eq_after (·.doEnergyExhausted) rfl (s.fresh.doEnergyExhausted_stops hst)

/-! ### The end of the pack wait (R448) -/

/-- Restore has begun, in on-touch mode or not: what PACK_WAIT_END leaves, with the mode that it found. -/
def State.restoreBegun (s : State) (onTouch : Bool) : State :=
  ((s.bootSbs.reform.put R.CVN_STAT_OT onTouch).wr R.CVN_STAT_RST_ST 1).wr R.BST_STAT_STAGE 10

/-- The mode is that of the state before the superblocks are closed and the reformation is carried out (R227). -/
theorem State.doPackWaitEnd_begins (s : State) (hstage : s.stage = 9) (hreset : s.boot.inReset = false)
    (hpack : s.rd R.GAU_STAT_PSTATE = 1) (hg : s.rd R.LDG_GUAR_G ≠ 0) (hcap : 3 ≤ (s.capOf true).1) :
    s.doPackWaitEnd = s.restoreBegun s.onTouch := by
  simp [State.doPackWaitEnd, State.restoreBegun, hstage, hreset, hpack, hg, Nat.not_lt.mpr hcap]

/-- A device at SL3 in the pack wait, its image permitting on-touch mode with a tolerance of 500 µs and no least width of a
superblock, that is to be reformed and has one erased superblock: the structure digest opens it, and persistence is withdrawn
(R53, R57, R300). -/
def lastErasedSb : State :=
  let s : State := { State.reset with
    regs := [], act := [], boot := { bootInit with inReset := false }
    erg := { ergInit with
      base := [(65536 * 0x04 + 49, 0 + 1), (65536 * 0x10 + 0, 1 + 1), (65536 * 0x10 + 1, 500 + 1)], reformMark := true }
    ftl := { ftlInit with sbs := [(5, some sbInit)] } }
  (((s.wr R.BST_STAT_STAGE 9).wr R.BST_SL_CUR 3).wr R.GAU_STAT_PSTATE 1).wr R.LDG_GUAR_G 256

/-- It meets what ends the pack wait. -/
theorem lastErasedSb_waits : lastErasedSb.stage = 9 ∧ lastErasedSb.boot.inReset = false ∧
    lastErasedSb.rd R.GAU_STAT_PSTATE = 1 ∧ lastErasedSb.rd R.LDG_GUAR_G ≠ 0 ∧ 3 ≤ (lastErasedSb.capOf true).1 := by
  decide +kernel

theorem lastErasedSb_onTouch : lastErasedSb.fresh.onTouch = true := by decide +kernel

theorem lastErasedSb_reformed_onTouch : lastErasedSb.fresh.bootSbs.reform.onTouch = false := by decide +kernel

/-- The mode that PACK_WAIT_END sets there still stands when the state has settled. -/
theorem lastErasedSb_restoreBegun_on (b : Bool) :
    (lastErasedSb.after (lastErasedSb.fresh.restoreBegun b)).on R.CVN_STAT_OT = b := by
  cases b <;> decide +kernel

/-- Refutes O25: its clause of PACK_WAIT_END sets the on-touch mode that the reformed state gives, the model the one of the state
before. At `lastErasedSb` the reformation withdraws persistence, so that the two differ. -/
theorem not_restoreSteps : ¬ Obligations.RestoreSteps := by
  intro h
  obtain ⟨-, -, -, -, -, -, -, -, -, hpack, -⟩ := h
  obtain ⟨hstage, hreset, hvalid, hg, hcap⟩ := lastErasedSb_waits
  have hclaim : exec .packWaitEnd lastErasedSb = .next (lastErasedSb.after
      (lastErasedSb.fresh.restoreBegun lastErasedSb.fresh.bootSbs.reform.onTouch)) :=
    hpack lastErasedSb hstage hreset hvalid hg hcap
  have hmodel : exec .packWaitEnd lastErasedSb = .next (lastErasedSb.after
      (lastErasedSb.fresh.restoreBegun lastErasedSb.fresh.onTouch)) :=
    exec_eq_after (·.doPackWaitEnd) rfl (lastErasedSb.fresh.doPackWaitEnd_begins hstage hreset hvalid hg hcap)
  rw [lastErasedSb_reformed_onTouch] at hclaim
  rw [lastErasedSb_onTouch] at hmodel
  have hsame : lastErasedSb.after (lastErasedSb.fresh.restoreBegun false) =
      lastErasedSb.after (lastErasedSb.fresh.restoreBegun true) :=
    Host.Outcome.next.inj (hclaim.symm.trans hmodel)
  have hot := congrArg (fun s : State => s.on R.CVN_STAT_OT) hsame
  simp only [lastErasedSb_restoreBegun_on] at hot
  exact absurd hot (by decide)

end Sys2Proof.Machine
end

section
/-!
PROOFS. The statements about the flash channels: reference tracking, extended timing and the power of the groups.
-/
namespace Sys2Proof.Machine

/-! ### Reference tracking (R258, R259) -/

/-- A group whose mean exceeds PROBE_TRIG is due, whatever its period. -/
theorem State.doProbeDue_aboveTrigger (s : State) {chan die group : Nat} (hup : s.dieUp (dieKey chan die) = true)
    (hen : s.on R.FCC_RRT_TRK_EN = true)
    (hmean : 16 * s.rd R.FCC_RRT_PROBE_TRIG < (s.refAt (dieKey chan die) group).mean)
    (hidle : (s.refAt (dieKey chan die) group).probing = false)
    (hread : (s.refAt (dieKey chan die) group).recent ≠ 0) (hgroup : group < 16) :
    s.doProbeDue chan die group =
      let r : RefSt := s.refAt (dieKey chan die) group
      (List.range 3).foldl (fun (s : State) (i : Nat) =>
        s.fIssue (dieKey chan die) .read 7 false (s.sbOf (r.recent - 1)) (r.recent - 1) (FSrc.probe group i))
        (s.setRef (dieKey chan die) group { r with probing := true }) :=
  if_pos (by simp [hup, hen, hmean, hidle, hread, hgroup])

/-- After three good decodes the reference whose turn it is moves toward the lower count, or stays, and the turn passes on. -/
theorem State.doProbeDone_decoded (s : State) {chan die group : Nat} (c0 cm cp : Nat)
    (hprobing : (s.refAt (dieKey chan die) group).probing = true) (hgroup : group < 16) :
    s.doProbeDone chan die group true c0 cm cp =
      let r : RefSt := s.refAt (dieKey chan die) group
      let step : Int := if min cm cp + s.rd R.FCC_RRT_HYST ≤ c0 then (if cm ≤ cp then -1 else 1) else 0
      s.setRef (dieKey chan die) group
        { r with offs := r.offs.set r.next (s.offClamp (r.offs.getD r.next 0 + step)), probing := false
                 probes := satInc 16 r.probes, last := s.tick, readSince := false
                 next := (r.next + 1) % refCount group s.bpc } :=
  if_neg (by simp [hprobing, hgroup])

/-! ### Extended timing (R239, R240) -/

theorem State.inc_rd_other (s : State) (f g : Fld) (i j a b : Nat) (h : g.key a b ≠ f.key i j) :
    (s.inc f i j).rd g a b = s.rd g a b := s.rd_wr_other f g _ i j a b h

/-- The turn of the volumes is no register. -/
@[simp] theorem State.eyeNext_rd (s : State) (c : Nat) (f : Fld) (i j : Nat) : (s.eyeNext c).rd f i j = s.rd f i j := by
  unfold State.eyeNext
  dsimp only
  split <;> rfl

/-- A check of the read eye, counted: what it leaves before its result is looked at. -/
def State.eyeChecked (s : State) (chan : Nat) : State := (s.inc R.FCH_XTST_CHECKS chan).eyeNext chan

/-- Neither a check nor a retraining changes the rate of a channel. -/
theorem State.eyeChecked_retrained_rate (s : State) (chan : Nat) :
    ((s.eyeChecked chan).inc R.FCH_XTST_RETRAINS chan).rd R.FCH_STAT_RATE chan = s.rd R.FCH_STAT_RATE chan := by
  have hretrains : R.FCH_STAT_RATE.key chan ≠ R.FCH_XTST_RETRAINS.key chan := by
    simp only [Fld.key, R.FCH_STAT_RATE, R.FCH_XTST_RETRAINS]
    omega
  have hchecks : R.FCH_STAT_RATE.key chan ≠ R.FCH_XTST_CHECKS.key chan := by
    simp only [Fld.key, R.FCH_STAT_RATE, R.FCH_XTST_CHECKS]
    omega
  rw [State.inc_rd_other _ _ _ _ _ _ _ hretrains, State.eyeChecked, State.eyeNext_rd,
    State.inc_rd_other _ _ _ _ _ _ _ hchecks]

section
variable (s : State) {chan : Nat} {moved : Bool} (hxt : s.on R.FCH_XTST_XT_ON chan = true)
  (hserves : s.rd R.FCH_STAT_STATE chan = 2) (hdue : s.eyeDue chan moved = true)
include hxt hserves hdue

theorem State.doEyeCheck_passed : s.doEyeCheck chan .passed moved = s.eyeChecked chan := by
  simp [State.doEyeCheck, State.eyeChecked, hxt, hserves, hdue]

theorem State.doEyeCheck_trained :
    s.doEyeCheck chan .trained moved = (s.eyeChecked chan).inc R.FCH_XTST_RETRAINS chan := by
  simp [State.doEyeCheck, State.eyeChecked, hxt, hserves, hdue]

/-- A failed training steps the channel down to the next extended rate, while there is one. -/
theorem State.doEyeCheck_stepsDown (hlow : xtBelow (s.rd R.FCH_STAT_RATE chan) ≠ 0) :
    s.doEyeCheck chan .failed moved =
      ((((s.eyeChecked chan).inc R.FCH_XTST_RETRAINS chan).inc R.FCH_XTST_STEPS chan).wr R.FCH_STAT_RATE
        (xtBelow (s.rd R.FCH_STAT_RATE chan)) chan).dieChanged := by
  have hrate := s.eyeChecked_retrained_rate chan
  rw [State.eyeChecked] at hrate
  simp [State.doEyeCheck, State.eyeChecked, hxt, hserves, hdue, hrate, hlow]

end

theorem xtBelow_4800 : xtBelow 4800 = 4400 := rfl

/-! ### The power of the groups (R265) -/

theorem State.doGroupPowerDown_idle (s : State) {grp : Nat} (hen : s.on R.FCC_PWR_PD_EN = true)
    (hon : bit (s.rd R.FCC_STAT_GRP_ON) grp = true)
    (hidle : (s.grpChans grp).all (fun c => decide (s.slotsUsed c = 0)) = true)
    (hsave : s.on R.FCC_STAT_SAVE = false) (hgrp : grp < 8) :
    s.doGroupPowerDown grp =
      (s.grpChans grp).foldl (fun (s : State) c => s.wr R.FCH_STAT_STATE 4 c)
        ((s.wr R.FCC_STAT_GRP_ON (setBitTo (s.rd R.FCC_STAT_GRP_ON) grp false)).pdGroup grp false) :=
  if_pos (by rw [hen, hon, hidle, hsave, decide_eq_true hgrp]; rfl)

theorem State.doGroupWake_waking (s : State) {grp : Nat} (hwaking : bit s.flash.waking grp = true)
    (hoff : bit (s.rd R.FCC_STAT_GRP_ON) grp = false) (hgrp : grp < 8) : s.doGroupWake grp = s.groupOn grp :=
  if_pos (by simp [hwaking, hoff, hgrp])

/-! ### The return of persistence (R64, R300) -/

/-- Outside volatile mode the gate is enabled and the guarantee published again. -/
theorem State.doPersistenceReturn_persistent (s : State) (hwithdrawn : s.on R.FTL_STAT_WITHDRAWN = true)
    (hpool : s.imageShort (s.rd R.FTL_GCTH_GC_ST) = false) (hheld : s.rd R.TRK_HELD_HELD ≤ s.rd R.LDG_GUAR_G)
    (hmode : s.on R.ERG_STAT_VOLATILE = false) :
    s.doPersistenceReturn =
      let x : State := s.put R.FTL_STAT_WITHDRAWN false
      let z : State :=
        { x with trk := { x.trk with gate := true, promised := [] } }.wr R.LDG_GPUB_G_PUB (s.rd R.LDG_GUAR_G)
      ((z.cxlEvent 1 4 0x0006 [z.persState]).closedClear).note 0x07 2 := by
  have hvolatile : (s.put R.FTL_STAT_WITHDRAWN false).on R.ERG_STAT_VOLATILE = false :=
    (congrArg (fun v : Nat => decide (v ≠ 0)) (s.rd_wr_other _ _ _ _ _ _ _ (by decide))).trans hmode
  have hguarantee : (s.put R.FTL_STAT_WITHDRAWN false).rd R.LDG_GUAR_G = s.rd R.LDG_GUAR_G :=
    s.rd_wr_other _ _ _ _ _ _ _ (by decide)
  simp [State.doPersistenceReturn, hwithdrawn, hpool, hheld, hvolatile, hguarantee]

/-- Settles O27: one effect lemma for each command, on the state whose responses are cleared. That a check takes one volume at a
time, and that its period begins anew with the last one (log 212), is the model's choice. -/
theorem flashTrackingTimingAndPower : Obligations.FlashTrackingTimingAndPower := by
  refine ⟨?_, ?_, ?_, ?_, ?_, ?_, ?_, ?_⟩
  · intro s chan die group hup hen hmean hidle hread hgroup
    exact exec_eq_after (·.doProbeDue chan die group) rfl
      (s.fresh.doProbeDue_aboveTrigger hup hen hmean hidle hread hgroup)
  · intro s chan die group c0 cm cp hprobing hgroup
    exact exec_eq_after (·.doProbeDone chan die group true c0 cm cp) rfl
      (s.fresh.doProbeDone_decoded c0 cm cp hprobing hgroup)
  · intro s chan moved hxt hserves hdue
    exact exec_eq_after (·.doEyeCheck chan .passed moved) rfl (s.fresh.doEyeCheck_passed hxt hserves hdue)
  · intro s chan moved hxt hserves hdue
    exact exec_eq_after (·.doEyeCheck chan .trained moved) rfl (s.fresh.doEyeCheck_trained hxt hserves hdue)
  · intro s chan moved hxt hserves hdue hrate
    have hlow : xtBelow (s.fresh.rd R.FCH_STAT_RATE chan) = 4400 := by rw [State.fresh_rd, hrate, xtBelow_4800]
    have heff := s.fresh.doEyeCheck_stepsDown hxt hserves hdue (by rw [hlow]; decide)
    rw [hlow] at heff
    exact exec_eq_after (·.doEyeCheck chan .failed moved) rfl heff
  · intro s grp hen hon hidle hsave hgrp
    exact exec_eq_after (·.doGroupPowerDown grp) rfl (s.fresh.doGroupPowerDown_idle hen hon hidle hsave hgrp)
  · intro s grp hwaking hoff hgrp
    exact exec_eq_after (·.doGroupWake grp) rfl (s.fresh.doGroupWake_waking hwaking hoff hgrp)
  · intro s hwithdrawn hpool hheld hmode
    exact exec_eq_after (·.doPersistenceReturn) rfl
      (s.fresh.doPersistenceReturn_persistent hwithdrawn hpool hheld hmode)

end Sys2Proof.Machine
end

section
/-!
PROOFS. The statements about flash translation: what its operations leave of the NVMe service, and the effect of each of its
commands.
-/
namespace Sys2Proof.Machine

/-! ### What the operations of flash translation leave of the NVMe service -/

@[simp] theorem State.ite_nvm (c : Prop) [Decidable c] (s t : State) :
    (if c then s else t).nvm = if c then s.nvm else t.nvm := apply_ite _ _ _ _

/-- Operations of which each leaves the NVMe service alone leave it alone one after the other. -/
theorem foldl_nvm {α : Type} {f : State → α → State} (h : ∀ (s : State) (a : α), (f s a).nvm = s.nvm) (l : List α)
    (s : State) : (l.foldl f s).nvm = s.nvm := by
  induction l generalizing s with
  | nil => rfl
  | cons a l ih => exact (ih (f s a)).trans (h s a)

@[simp] theorem State.setDrain_nvm (s : State) (way : Nat) (b : Bool) : (s.setDrain way b).nvm = s.nvm := by
  simp [State.setDrain]

@[simp] theorem State.drainRefresh_nvm (s : State) (way : Nat) : (s.drainRefresh way).nvm = s.nvm := by
  simp [State.drainRefresh]

@[simp] theorem State.dramPush_nvm (s : State) (line : Nat) (wr : Bool) (data : List Byte) (be : Nat) (psn : Bool)
    (src : DSrc) (urg : Nat) (qent : Option Nat) : (s.dramPush line wr data be psn src urg qent).nvm = s.nvm :=
  State.drainRefresh_nvm _ _

@[simp] theorem State.setJob_nvm (s : State) (j : PageIo) : (s.setJob j).nvm = s.nvm := rfl

@[simp] theorem State.bufTake_nvm (s : State) (k : Nat) : (s.bufTake k).2.nvm = s.nvm := by
  unfold State.bufTake
  split <;> rfl

@[simp] theorem State.pageLine_nvm (s : State) (src : DSrc) (i : Nat) : (s.pageLine src i).nvm = s.nvm := by
  unfold State.pageLine
  split <;> simp

@[simp] theorem State.pageBuf_nvm (s : State) (j : PageIo) : (s.pageBuf j).nvm = s.nvm := by
  simp [State.pageBuf]

@[simp] theorem State.pageStart_nvm (s : State) (j : PageIo) : (s.pageStart j).nvm = s.nvm := by
  rw [State.pageStart, State.pagePush, foldl_nvm fun s i => s.pageLine_nvm j.src i, State.pageBuf_nvm]

@[simp] theorem State.mapIo_nvm (s : State) (byte : Nat) : (s.mapIo byte).nvm = s.nvm := by
  simp [State.mapIo]

@[simp] theorem State.setCoarse_nvm (s : State) (i v : Nat) : (s.setCoarse i v).nvm = s.nvm := State.mapIo_nvm _ _

@[simp] theorem State.setFine_nvm (s : State) (g e v : Nat) : (s.setFine g e v).nvm = s.nvm := State.mapIo_nvm _ _

@[simp] theorem State.groupRefresh_nvm (s : State) : s.groupRefresh.nvm = s.nvm := rfl

@[simp] theorem State.freeGroup_nvm (s : State) (g : Nat) : (s.freeGroup g).nvm = s.nvm := rfl

@[simp] theorem State.freeRefresh_nvm (s : State) : s.freeRefresh.nvm = s.nvm := rfl

/-- A split fills a group from the coarse entry, or waits. -/
@[simp] theorem State.splitUnit_nvm (s : State) (i : Nat) : (s.splitUnit i).2.nvm = s.nvm := by
  unfold State.splitUnit
  dsimp only
  split
  · rfl
  · split
    · rfl
    · rw [State.groupRefresh_nvm, State.setCoarse_nvm]
      exact foldl_nvm (fun s e => by simp) _ s

/-- A namespace slot's map entry belongs to flash translation alone. -/
@[simp] theorem State.setNsEntry_nvm (s : State) (x v : Nat) : (s.setNsEntry x v).nvm = s.nvm := by
  have hsplit := s.splitUnit_nvm (x / s.unitSlots)
  unfold State.setNsEntry
  dsimp only
  split
  · rfl
  · split
    case h_1 h => simpa [h] using hsplit
    case h_2 h => simpa [h] using hsplit

@[simp] theorem State.healthRefresh_nvm (s : State) : s.healthRefresh.nvm = s.nvm := by
  obtain ⟨l, o, h⟩ := s.healthRefresh_frame
  rw [h]

@[simp] theorem State.alertPers_nvm (s : State) : s.alertPers.nvm = s.nvm := by
  simp [State.alertPers, State.alert]

@[simp] theorem State.refresh_nvm (s : State) : s.refresh.nvm = s.nvm := by
  rw [State.refresh_eq, State.healthRefresh_nvm]
  exact s.alertPers_nvm

@[simp] theorem State.cxlEvent_nvm (s : State) (log typ sub : Nat) (data : List Nat) :
    (s.cxlEvent log typ sub data).nvm = s.nvm := by
  obtain ⟨l, o, h⟩ := s.cxlEvent_frame log typ sub data
  rw [h]

@[simp] theorem State.closedClear_nvm (s : State) : s.closedClear.nvm = s.nvm := by
  simp [State.closedClear]

@[simp] theorem State.stgSub_nvm (s : State) (k : Nat) : (s.stgSub k).nvm = s.nvm := by
  simp [State.stgSub, State.setHeld]

/-- Only the staging pages change when one is freed. -/
@[simp] theorem State.freeStg_cmds (s : State) (n : Nat) : (s.freeStg n).nvm.cmds = s.nvm.cmds := by
  unfold State.freeStg
  split
  · rfl
  · dsimp only
    split
    · rw [State.stgSub_nvm]
      rfl
    · rfl

@[simp] theorem State.stagedObsolete_nvm (s : State) (y : StgSt) : (s.stagedObsolete y).nvm = s.nvm := by
  simp [State.stagedObsolete]

@[simp] theorem State.nvmRefresh_nvm (s : State) : s.nvmRefresh.nvm = s.nvm := rfl

/-! ### Checkpoints (R290 to R292) -/

section
variable (s : State)
  (hdue : s.rd R.FTL_CP_CP_GIB * 262144 ≤ s.ftl.cpSlots ∨
    (s.ftl.mapChanged = true ∧ s.ftl.cpTick + s.rd R.FTL_CPT_CP_TICKS ≤ s.tick))
include hdue

theorem State.doCheckpointStart_begins (hidle : s.ftl.cp = none) : s.doCheckpointStart = s.cpBegin := by
  simp [State.doCheckpointStart, hdue, hidle]

theorem State.doCheckpointStart_waits (hruns : s.ftl.cp ≠ none) :
    s.doCheckpointStart = { s with ftl := { s.ftl with cpDue := true } } := by
  simp [State.doCheckpointStart, hdue, Option.isSome_iff_ne_none, hruns]

end

/-- A checkpoint becomes the root, and the journal before its position is dropped. -/
def State.cpRooted (s : State) (c : CpSt) : State :=
  ({ s with ftl := { s.ftl with
    cp := none
    root := some c
    journal := s.ftl.journal.drop (s.ftl.journal.length - (s.ftl.jpos - c.jpos)) } }.put R.FTL_STAT_CP_BUSY false).wr
      R.FTL_CSEQ_CSEQ c.seq

/-- The erases that waited for a checkpoint of this journal position begin. -/
def State.cpErases (s : State) (jpos : Nat) : State :=
  (s.sbList.filter (fun e => decide (e.2.state = 3) && !e.2.erasing && decide (e.2.movedSeq ≤ jpos))).foldl
    (fun s e => s.startErase e.1) s

theorem State.doCheckpointComplete_confirmed (s : State) {c : CpSt} (hcp : s.ftl.cp = some c) (hstage : c.stage = 4) :
    s.doCheckpointComplete =
      let y : State := (s.cpRooted c).cpErases c.jpos
      if y.ftl.cpDue then y.cpBegin else y := by
  unfold State.doCheckpointComplete
  rw [hcp]
  exact if_neg (not_not.mpr hstage)

/-! ### Victims: garbage collection and wear levelling (R282, R286) -/

theorem State.gcNext_erases (s : State) {n : Nat} (hvictim : s.ftl.victim = 0) (hnext : s.eraseNext = some n) :
    s.gcNext = s.startVictim n false := by
  simp [State.gcNext, hvictim, hnext]

theorem State.doGcStart_erases (s : State) {n : Nat} (hlevel : 3 ≤ s.level) (hvictim : s.ftl.victim = 0)
    (hnext : s.eraseNext = some n) : s.doGcStart = s.startVictim n false :=
  (if_pos ⟨hlevel, by simp [hnext]⟩).trans (s.gcNext_erases hvictim hnext)

theorem State.doGcStart_collects (s : State) (hnext : s.eraseNext = none) (hidle : s.on R.FTL_STAT_GC_ACT = false)
    (hfree : s.rd R.FTL_FREE_F < s.rd R.FTL_GCTH_GC_ST) (hlevel : 3 ≤ s.level) :
    s.doGcStart = (s.put R.FTL_STAT_GC_ACT true).gcNext := by
  simp [State.doGcStart, hnext, hidle, hfree, hlevel]

/-- Where one superblock alone may be relocated, it is the least-worn. -/
theorem State.wlNext_only (s : State) {n : Nat} {b : SbSt}
    (hspread : s.rd R.FTL_WL_WL_SPREAD < s.rd R.FTL_WEAR_WMAX - s.rd R.FTL_WEAR_WMIN)
    (hidle : s.on R.FTL_STAT_WL_BUSY = false) (hvictim : s.ftl.victim = 0)
    (honly : s.sbList.filter (fun e => decide (e.2.state = 2) && !s.sbProtected e.1) = [(n, b)]) :
    s.wlNext = (s.put R.FTL_STAT_WL_BUSY true).startVictim n true := by
  simp [State.wlNext, hidle, hvictim, honly, Nat.not_le.mpr hspread]

/-! ### Moves (R284) -/

/-- The state without the pending move of a slot. -/
def State.moveTaken (s : State) (src : Nat) : State :=
  { s with ftl := { s.ftl with moves := s.ftl.moves.filter (fun x => decide (x.1 ≠ src)) } }

section
variable (s : State) {src dst : Nat} {c : SlotC}
  (hmove : s.ftl.moves.find? (fun e => decide (e.1 = src)) = some (src, dst)) (hslot : s.slot src = some c)
include hmove hslot

/-- The copy of an image slot takes the place of its source while the map points there, and is dead otherwise. -/
theorem State.doRelocationMove_image (hkind : c.kind = 0x01) :
    s.doRelocationMove src =
      (if s.imgAt c.key = src then ((s.moveTaken src).setImg c.key dst).jot 4 [0, c.key, src, dst]
       else (s.moveTaken src).setSlot dst none).victimEmptied := by
  unfold State.doRelocationMove
  rw [hmove]
  dsimp only
  split
  case h_1 h => cases hslot.symm.trans h
  case h_2 h =>
    cases hslot.symm.trans h
    rw [if_pos hkind]
    rfl

/-- The same of a namespace slot, while no page is staged. -/
theorem State.doRelocationMove_namespace (hkind : c.kind = 0x10) (hstg : s.nvm.stg = []) :
    s.doRelocationMove src =
      (if s.nsEntry (c.key % 2 ^ 40) = src then
         ((s.moveTaken src).setNsEntry (c.key % 2 ^ 40) dst).jot 4 [1, c.key, src, dst]
       else (s.moveTaken src).setSlot dst none).victimEmptied := by
  have hmap (f : Nat × StgSt → Nat × StgSt) : s.nvm.stg.map f = s.nvm.stg := by rw [hstg, List.map_nil]
  have hheld : (s.nvm.stg.filter (fun e => decide (e.2.prev = src))).isEmpty = true := by rw [hstg]; rfl
  unfold State.doRelocationMove
  rw [hmove]
  dsimp only
  split
  case h_1 h => cases hslot.symm.trans h
  case h_2 h =>
    cases hslot.symm.trans h
    rw [if_neg (by omega), if_pos (.inl hkind), hmap, if_pos hheld]
    rfl

end

/-! ### Folds (R275) -/

/-- The unit `i` of group `g` is copied to the slots from `a` on, and its fold stands. -/
def State.foldUnit (s : State) (u g i a : Nat) : State :=
  let y : State := (List.range u).foldl (fun s e =>
    let c : SlotC := match s.slot (s.fineAt g e) with
      | some c => c
      | none => { kind := 0x10, key := s.nsOfUnit i * 2 ^ 40 + i * u + e, gen := s.nvm.wseq, data := []
                  md := cellsOf (List.replicate 512 255), marks := [] }
    (s.setSlot (a + e) (some c)).fIssue (addrDie a) .program 6 (s.on R.FTL_STAT_GC_URGENT) (s.sbOf a) (a + e) (.fold i)) s
  let f : FoldSt := { unit := i, group := g, touched := false, dst := a, left := u }
  { y with ftl := { y.ftl with folds := y.ftl.folds ++ [f], folding := true } }

theorem State.doFoldStart_aboveHigh (s : State) {g i a : Nat}
    (hhigh : s.rd R.FTL_CP_FOLD_HI * s.groupsMax < s.ftl.groups.length * 100)
    (hunit : s.ftl.groups.find? (fun e => !s.ftl.folds.any (fun f => decide (f.unit = e.2)) &&
      (List.range s.unitSlots).all (fun i => decide (s.fineAt e.1 i ≠ 1) && decide (s.fineAt e.1 i ≠ 2))) = some (g, i))
    (hroom : (s.assign 4 s.unitSlots).1 = some a) :
    s.doFoldStart = (s.assign 4 s.unitSlots).2.foldUnit s.unitSlots g i a := by
  have hassign : s.assign 4 s.unitSlots = (some a, (s.assign 4 s.unitSlots).2) := Prod.ext hroom rfl
  unfold State.doFoldStart
  dsimp only
  rw [if_neg (by simp [hhigh]), hunit]
  dsimp only
  rw [hassign]
  rfl

/-- The state without the fold of a unit. -/
def State.foldTaken (s : State) (unit : Nat) : State :=
  { s with ftl := { s.ftl with folds := s.ftl.folds.filter (fun f => decide (f.unit ≠ unit)) } }

/-- Folding ends once the groups in use have fallen to FOLD_LO. -/
def State.foldRest (s : State) : State :=
  if s.ftl.groups.length * 100 ≤ s.rd R.FTL_CP_FOLD_LO * s.groupsMax
  then { s with ftl := { s.ftl with folding := false } } else s

section
variable (s : State) {unit : Nat} {f : FoldSt}
  (hfold : s.ftl.folds.find? (fun f => decide (f.unit = unit)) = some f) (hleft : f.left = 0)
include hfold hleft

theorem State.doFoldSwap_untouched (htouched : f.touched = false) :
    s.doFoldSwap unit =
      let y : State := ((s.foldTaken unit).setCoarse unit (4 * (f.dst / s.unitSlots) + 1)).freeGroup f.group
      ({ y with ftl := { y.ftl with splitWait := y.ftl.splitWait - 1 } }.freeRefresh).foldRest := by
  simp [State.doFoldSwap, State.foldTaken, State.foldRest, hfold, hleft, htouched]

theorem State.doFoldSwap_touched (htouched : f.touched = true) :
    s.doFoldSwap unit =
      ((List.range s.unitSlots).foldl (fun y e => y.setSlot (f.dst + e) none) (s.foldTaken unit)).foldRest := by
  simp [State.doFoldSwap, State.foldTaken, State.foldRest, hfold, hleft, htouched]

end

/-! ### Destages (R276) -/

/-- With no command in flight, a confirmed destage of the newest page of its slot only moves the slot to flash. -/
theorem State.destageConfirm_newest (s : State) {n : Nat} {y : StgSt} (hpage : s.stgAt n = some y) (hdst : y.dst = 2)
    (hnewest : s.stgFind y.ns y.slot = some n) (hcmds : s.nvm.cmds = []) :
    s.destageConfirm n =
      (((s.setNsEntry (s.devSlot (s.ns y.ns) y.slot) y.addr).freeStg n).stagedObsolete y).nvmRefresh := by
  simp [State.destageConfirm, hpage, hdst, hnewest, hcmds]

/-! ### What the hours bring: media scan, block groups and health records (R288, R289, R301) -/

theorem not_early_or_low {tick due level : Nat} (hdue : due ≤ tick) (hlevel : 3 ≤ level) : ¬(tick < due ∨ level < 3) := by
  omega

theorem State.doBlockGroupAge_older (s : State) {n : Nat} (hclosed : (s.sb n).state = 2)
    (hage : (s.sb n).group < ageGroup (s.sb n).native ((s.tick - (s.sb n).closeTick) / 32768)) :
    s.doBlockGroupAge n =
      s.setSb n { s.sb n with group := ageGroup (s.sb n).native ((s.tick - (s.sb n).closeTick) / 32768) } :=
  if_pos ⟨hclosed, hage⟩

/-- Slot `i` of a health record: the lifetime sums of up to 48 dies. -/
def State.healthSlot (s : State) (dies : List Nat) (i : Nat) : State :=
  s.sysWrite 0x24 i s.ftl.healthRecs (cellsOf (((dies.drop (48 * i)).take 48).flatMap (fun k =>
    leBytes 4 k ++ (s.lifeSums k).flatMap (leBytes 8))))

/-- A health record takes the next number and a slot for every 48 dies. -/
theorem State.healthWrite_eq (s : State) :
    s.healthWrite =
      let x : State := { s with ftl := { s.ftl with healthRecs := s.ftl.healthRecs + 1 } }.wearRefresh
      (List.range (max 1 (cdiv s.flash.dies.length 48))).foldl
        (fun s i => s.healthSlot (x.flash.dies.map (fun e => e.1)) i) x := by
  rw [← List.length_map (as := s.flash.dies) (fun e => e.1)]
  rfl

theorem State.doHealthRecord_due (s : State) (hdue : s.ftl.healthTick + 24 * hourTicks ≤ s.tick) (hlevel : 3 ≤ s.level) :
    s.doHealthRecord = { s with ftl := { s.ftl with healthTick := s.tick } }.healthWrite :=
  if_neg (not_early_or_low hdue hlevel)

/-- Settles O28: one effect lemma for each command, on the state whose responses are cleared. The order of a superblock's
slots that the media scan follows (log 103), and the layout of a health record's bytes (log 215), are the model's choice. -/
theorem flashTranslationSteps : Obligations.FlashTranslationSteps := by
  refine ⟨?_, ?_, ?_, ?_, ?_, ?_, ?_, ?_, ?_, ?_, ?_, ?_, ?_, ?_, ?_, ?_, ?_, ?_⟩
  · intro s hslots hidle
    exact exec_eq_after (·.doCheckpointStart) rfl (s.fresh.doCheckpointStart_begins (.inl hslots) hidle)
  · intro s hchanged hticks hidle
    exact exec_eq_after (·.doCheckpointStart) rfl (s.fresh.doCheckpointStart_begins (.inr ⟨hchanged, hticks⟩) hidle)
  · intro s hslots hruns
    exact exec_eq_after (·.doCheckpointStart) rfl (s.fresh.doCheckpointStart_waits (.inl hslots) hruns)
  · intro s c hcp hstage
    exact exec_eq_after (·.doCheckpointComplete) rfl (s.fresh.doCheckpointComplete_confirmed hcp hstage)
  · intro s hnext hidle hfree hlevel
    exact exec_eq_after (·.doGcStart) rfl (s.fresh.doGcStart_collects hnext hidle hfree hlevel)
  · intro s n hnext hvictim hlevel
    exact exec_eq_after (·.doGcStart) rfl (s.fresh.doGcStart_erases hlevel hvictim hnext)
  · intro s src dst c hmove hslot hkind hpoints
    exact exec_eq_after (·.doRelocationMove src) rfl
      ((s.fresh.doRelocationMove_image hmove hslot hkind).trans (congrArg _ (if_pos hpoints)))
  · intro s src dst c hmove hslot hkind hpoints
    exact exec_eq_after (·.doRelocationMove src) rfl
      ((s.fresh.doRelocationMove_image hmove hslot hkind).trans (congrArg _ (if_neg hpoints)))
  · intro s src dst c hmove hslot hkind hstg hpoints
    exact exec_eq_after (·.doRelocationMove src) rfl
      ((s.fresh.doRelocationMove_namespace hmove hslot hkind hstg).trans (congrArg _ (if_pos hpoints)))
  · intro s src dst c hmove hslot hkind hstg hpoints
    exact exec_eq_after (·.doRelocationMove src) rfl
      ((s.fresh.doRelocationMove_namespace hmove hslot hkind hstg).trans (congrArg _ (if_neg hpoints)))
  · intro s n b hspread hidle hvictim honly
    exact exec_eq_after (·.doWearLevellingStart) rfl (s.fresh.wlNext_only hspread hidle hvictim honly)
  · intro s hdue hlevel
    exact exec_eq_after (·.doMediaScan) rfl (if_neg (not_early_or_low hdue hlevel))
  · intro s sb hclosed hage
    exact exec_eq_after (·.doBlockGroupAge sb) rfl (s.fresh.doBlockGroupAge_older hclosed hage)
  · intro s g i a hhigh hunit hroom
    exact exec_eq_after (·.doFoldStart) rfl (s.fresh.doFoldStart_aboveHigh hhigh hunit hroom)
  · intro s unit f hfold hleft htouched
    exact exec_eq_after (·.doFoldSwap unit) rfl (s.fresh.doFoldSwap_untouched hfold hleft htouched)
  · intro s unit f hfold hleft htouched
    exact exec_eq_after (·.doFoldSwap unit) rfl (s.fresh.doFoldSwap_touched hfold hleft htouched)
  · intro s stg y hpage hdst hnewest hcmds _
    exact exec_eq_after (fun s => (s.destageConfirm stg).stgKick) rfl
      (congrArg State.stgKick (s.fresh.destageConfirm_newest hpage hdst hnewest hcmds))
  · intro s hdue hlevel
    exact exec_eq_after (·.doHealthRecord) rfl
      ((s.fresh.doHealthRecord_due hdue hlevel).trans (State.healthWrite_eq _))

end Sys2Proof.Machine
end

section
/-!
PROOFS. The statements about the NVMe service: its queues and their commands' fetch, resets and power states, the admin
commands, and the I/O commands.
-/
namespace Sys2Proof.Machine

/-! ### Doorbells and fetch (R304, R305) -/

/-- A tail inside its queue is taken. -/
theorem State.doSqDoorbell_inside (s : State) {f q tail : Nat} {x : SqSt} (hen : (s.fn f).en = true)
    (hfind : (s.fn f).sqs.find? (fun e => decide (e.1 = q)) = some (q, x)) (htail : tail < x.size) :
    s.doSqDoorbell f q tail =
      (s.setFn f { s.fn f with
        sqs := (s.fn f).sqs.map (fun y => if y.1 = q then (q, { y.2 with tail := tail }) else y) }).psWake f := by
  simp [State.doSqDoorbell, hen, hfind, Nat.not_le.mpr htail]

/-- A head inside its queue is taken. -/
theorem State.doCqHeadDoorbell_inside (s : State) {f q head : Nat} {x : CqSt} (hen : (s.fn f).en = true)
    (hfind : (s.fn f).cqs.find? (fun e => decide (e.1 = q)) = some (q, x)) (hhead : head < x.size) :
    s.doCqHeadDoorbell f q head =
      (s.setFn f { s.fn f with
        cqs := (s.fn f).cqs.map (fun y => if y.1 = q then (q, { y.2 with head := head }) else y) }).psWake f := by
  simp [State.doCqHeadDoorbell, hen, hfind, Nat.not_le.mpr hhead]

/-- The command that a fetch from queue `q` of function `f` makes of an entry. -/
def State.fetchedCmd (s : State) (f q opc cid nsid slba nlb : Nat) : CmdSt :=
  { fn := f, sq := q, cid := cid, opc := opc, nsid := nsid, slba := slba, nlb := nlb, order := s.nvm.order
    wseq := 0, wt := false, data := [], md := [], prot := [], need := [], got := [], begun := false, stgs := []
    ranges := [], stage := .fetched, args := [], att := (s.ns nsid).ctrls.contains f
    cq := match (s.fn f).sqs.find? (fun e => decide (e.1 = q)) with | some e => e.2.cq | none => 0 }

/-- A fetch from queue `q` of function `f`: the queue's head advances, and the command enters under the lowest free tag. `left` is
what the burst still allows, `wrr` the credits that arbitration leaves. -/
def State.fetchFrom (s : State) (f q left : Nat) (wrr : List Nat) (c : CmdSt) : State :=
  let y : State := s.setFn f { s.fn f with
    sqs := (s.fn f).sqs.map (fun e => if e.1 = q then (q, { e.2 with head := (e.2.head + 1) % e.2.size }) else e)
    next := q, burst := left, wrr := wrr }
  { y with nvm := { y.nvm with cmds := y.nvm.cmds ++ [(s.freeTag, c)], order := y.nvm.order + 1, rr := f } }

/-- With no burst under way the next function in rotation is served, and an arbitration burst of one command ends with it. -/
theorem State.doCommandFetch_next (s : State) {opc f q : Nat} (cid nsid slba nlb : Nat) {wrr : List Nat}
    (hruns : s.nvm.stopped = false) (hroom : s.nvm.cmds.length < 16384) (hrr : (s.fn s.nvm.rr).burst = 0)
    (hnext : rotNext s.nvm.rr (s.fnIds.filter (fun f => decide (s.sqReady f ≠ []))) = some f)
    (hqueue : sqArbitrate (s.fn f) (s.sqReady f) = some (q, wrr)) (hburst : (s.fn f).burst = 0)
    (hone : bits ((s.fn f).feat 0x01 0) 0 3 = 0)
    (hopc : (if q = 0 then adminOpcodes else nvmOpcodes).contains opc = true) :
    s.doCommandFetch opc cid nsid slba nlb =
      (s.fetchFrom f q 0 wrr (s.fetchedCmd f q opc cid nsid slba nlb)).nvmRefresh := by
  unfold State.doCommandFetch
  rw [if_neg (by simp [hruns, hroom])]
  dsimp only
  rw [if_neg (by simp [hrr]), hnext]
  dsimp only
  rw [hqueue]
  dsimp only
  rw [if_pos hopc, if_neg (by simp [hburst]), hone]
  rfl

/-! ### Enabling, resets and shutdown (R306, R335) -/

/-- An enabled function has its admin queues alone, and is ready when the device serves SL4. -/
theorem State.doControllerEnable_enables (s : State) {f : Nat} (ams : Bool) (hpresent : s.fnPresent f = true)
    (hoff : (s.fn f).en = false) :
    s.doControllerEnable f ams =
      s.setFn f { s.fn f with
        en := true, rdy := s.on R.BST_STAT_DONE && decide (s.level = 4), shst := false, shutReq := false, ams := ams
        sqs := [(0, { size := 4096, cq := 0, prio := 0, head := 0, tail := 0, stalled := false })]
        cqs := [(0, { size := 4096, ien := true, vec := 0, head := 0, tail := 0 })] } := by
  simp [State.doControllerEnable, hpresent, hoff]

/-- Without commands there is none to tear down. -/
theorem State.fnTear_idle (s : State) (f : Nat) (hcmds : s.nvm.cmds = []) : s.fnTear f = s := by
  simp [State.fnTear, hcmds]

theorem State.fnReset_idle (s : State) (f : Nat) (hcmds : s.nvm.cmds = []) :
    s.fnReset f =
      (s.setFn f { fnInit with
        changed := (s.fn f).changed, errCnt := (s.fn f).errCnt, errs := (s.fn f).errs }).nvmRefresh.nvmKick := by
  rw [State.fnReset, s.fnTear_idle f hcmds]

theorem State.doShutdown_enabled (s : State) {f : Nat} (hen : (s.fn f).en = true) :
    s.doShutdown f = (s.setFn f { s.fn f with shutReq := true }).nvmKick := by
  simp [State.doShutdown, hen]

/-- Outside a save a function-level reset is carried out at once. -/
theorem State.doFlr_noSave (s : State) (port ld fn : Nat) (hsave : s.cvn.code = 0) :
    s.doFlr port ld fn = s.flrNow port ld fn := if_pos hsave

/-- That of an NVMe function takes its MSI-X table and resets it. -/
theorem State.flrNow_nvme (s : State) (port ld : Nat) {fn : Nat} (hfn : 1 ≤ fn) (hpresent : s.fnPresent (fn - 1) = true) :
    s.flrNow port ld fn =
      { s with host := { s.host with msixOff := setIns (1000 + (fn - 1)) s.host.msixOff } }.fnReset (fn - 1) := by
  have hne : fn ≠ 0 := by omega
  unfold State.flrNow
  rw [if_neg hne, if_neg hne]
  exact if_pos hpresent

/-- That of a memory-device function takes its MSI-X table and its claims on the check-value engines. -/
theorem State.flrNow_device (s : State) (port ld : Nat) :
    s.flrNow port ld 0 =
      { s with host := { s.host with msixOff := setIns (ldKey port ld) s.host.msixOff } }.crcHostRelease
        (fun k => decide (k = ldKey port ld)) := rfl

/-! ### The ends of a PS3 entry (R332) -/

section
variable (s : State) {f n : Nat} (hentry : (s.fn f).psEntry ≠ 0) (hwaits : s.psEntries f = [n])
include hentry hwaits

/-- With nothing in flight but event requests and the entry itself, the function is in PS3. -/
theorem State.doPs3EntryDone_enters (hidle : s.fnInfl f = (s.fn f).aers.length + 1) :
    s.doPs3EntryDone f = (s.setFn f { s.fn f with ps := 3, psEntry := 0 }).nvmFinish n 0 0 := by
  simp [State.doPs3EntryDone, hentry, hwaits, hidle]

theorem State.doPs3EntryTimeout_returns :
    s.doPs3EntryTimeout f = (s.setFn f { s.fn f with ps := (s.fn f).lastOp, psEntry := 0 }).nvmFinish n 0 0 := by
  simp [State.doPs3EntryTimeout, hentry, hwaits]

end

/-- Settles O30: one effect lemma for each command, on the state whose responses are cleared. That a fetched command takes the
lowest free tag (log 104), that staging pages are granted in order of arrival (log 112) and that events are coalesced until 1,024
ticks after the last one (log 113) are the model's choices. -/
theorem nvmeQueuesAndFetch : Obligations.NvmeQueuesAndFetch := by
  refine ⟨?_, ?_, ?_, ?_, ?_, ?_, ?_, ?_, ?_, ?_, ?_, ?_, ?_, ?_⟩
  · intro s fn sq tail q hen _ hfind htail
    exact exec_eq_after (·.doSqDoorbell fn sq tail) rfl (s.fresh.doSqDoorbell_inside hen hfind htail)
  · intro s fn cq head q hen _ hfind hhead
    exact exec_eq_after (·.doCqHeadDoorbell fn cq head) rfl (s.fresh.doCqHeadDoorbell_inside hen hfind hhead)
  · intro s opc cid nsid slba nlb f q wrr hruns hroom hrr hnext hqueue hburst hone hopc
    exact exec_eq_after (·.doCommandFetch opc cid nsid slba nlb) rfl
      (s.fresh.doCommandFetch_next cid nsid slba nlb hruns hroom hrr hnext hqueue hburst hone hopc)
  · intro s
    exact exec_eq_after (·.doRangeLockGrant) rfl rfl
  · intro s
    exact exec_eq_after (·.stgKick) rfl rfl
  · intro s fn hpend hdue
    exact exec_eq_after (·.doAenCoalesceEnd fn) rfl (if_pos (by simp [hpend, hdue]))
  · intro s fn ams hpresent hoff
    exact exec_eq_after (·.doControllerEnable fn ams) rfl (s.fresh.doControllerEnable_enables ams hpresent hoff)
  · intro s fn hcmds
    exact exec_eq_after (·.fnReset fn) rfl (s.fresh.fnReset_idle fn hcmds)
  · intro s fn hen
    exact exec_eq_after (·.doShutdown fn) rfl (s.fresh.doShutdown_enabled hen)
  · intro s port ld fn hsave hfn hpresent
    exact exec_eq_after (·.doFlr port ld fn) rfl
      ((s.fresh.doFlr_noSave port ld fn hsave).trans (s.fresh.flrNow_nvme port ld hfn hpresent))
  · intro s port ld hsave
    exact exec_eq_after (·.doFlr port ld 0) rfl
      ((s.fresh.doFlr_noSave port ld 0 hsave).trans (s.fresh.flrNow_device port ld))
  · intro s port ld fn hsave
    exact exec_eq_after (·.doFlr port ld fn) rfl (if_neg hsave)
  · intro s fn n hentry hwaits hidle
    exact exec_eq_after (·.doPs3EntryDone fn) rfl (s.fresh.doPs3EntryDone_enters hentry hwaits hidle)
  · intro s fn n hentry hwaits
    exact exec_eq_after (·.doPs3EntryTimeout fn) rfl (s.fresh.doPs3EntryTimeout_returns hentry hwaits)

/-! ### A fetched admin command (R307) -/

/-- An admin command of opcode `opc` stands fetched under tag `t`, and the core that owns the NVMe engine runs. -/
structure State.AdminFetched (s : State) (t opc : Nat) (c : CmdSt) : Prop where
  cmd : s.cmd t = some c
  admin : c.sq = 0
  opcode : c.opc = opc
  fetched : c.stage = CStage.fetched
  runs : s.roleRuns 1 = true

/-- A command that virtual functions may give too takes its effect. -/
theorem State.AdminFetched.takesEffect {s : State} {t opc : Nat} {c : CmdSt} (h : s.AdminFetched t opc c)
    (f : CmdSt → State) : s.admin t opc false f = f c := by
  obtain ⟨hcmd, hadmin, hopcode, hfetched, hruns⟩ := h
  simp [State.admin, hcmd, hadmin, hopcode, hfetched, hruns]

/-- A command for physical functions alone takes its effect for one. -/
theorem State.AdminFetched.takesEffect_pf {s : State} {t opc : Nat} {c : CmdSt} (h : s.AdminFetched t opc c)
    (hpf : isPf c.fn = true) (f : CmdSt → State) : s.admin t opc true f = f c := by
  obtain ⟨hcmd, hadmin, hopcode, hfetched, hruns⟩ := h
  simp [State.admin, hcmd, hadmin, hopcode, hfetched, hruns, hpf]

/-! ### Queues (R303, Table 10-9) -/

section
variable {s : State} {t : Nat} {c : CmdSt}

/-- A completion queue within the function's allotment is created. -/
theorem State.doCreateCq_allotted {qid size vec : Nat} (h : s.AdminFetched t 0x05 c) (hio : qid ≠ 0)
    (hqid : qid ≤ s.fnQp c.fn) (hnew : (s.fn c.fn).cqs.any (fun e => decide (e.1 = qid)) = false) (hmin : 2 ≤ size)
    (hmax : size ≤ s.mqes) (hvec : vec < s.fnVec c.fn) :
    s.doCreateCq t qid size vec true true =
      (s.setFn c.fn { s.fn c.fn with
        cqs := (s.fn c.fn).cqs ++ [(qid, { size := size, ien := true, vec := vec, head := 0, tail := 0 })] }).nvmFinish t 0 0 := by
  rw [State.doCreateCq, h.takesEffect]
  dsimp only
  rw [if_neg (by simp [hio, hnew, Nat.not_lt.mpr hqid]), if_neg (by omega), if_neg (by simp),
    if_neg (by simp [hvec])]

/-- A submission queue within the function's allotment is created on a completion queue that stands. -/
theorem State.doCreateSq_allotted {qid size cqid : Nat} (prio : Nat) (h : s.AdminFetched t 0x01 c) (hio : qid ≠ 0)
    (hqid : qid ≤ s.fnQp c.fn) (hnew : (s.fn c.fn).sqs.any (fun e => decide (e.1 = qid)) = false) (hmin : 2 ≤ size)
    (hmax : size ≤ s.mqes) (hcqid : cqid ≠ 0) (hcq : (s.fn c.fn).cqs.any (fun e => decide (e.1 = cqid)) = true) :
    s.doCreateSq t qid size cqid prio true =
      (s.setFn c.fn { s.fn c.fn with
        sqs := (s.fn c.fn).sqs ++
          [(qid, { size := size, cq := cqid, prio := prio % 4, head := 0, tail := 0, stalled := false })] }).nvmFinish t 0 0 := by
  rw [State.doCreateSq, h.takesEffect]
  dsimp only
  rw [if_neg (by simp [hio, hnew, Nat.not_lt.mpr hqid]), if_neg (by omega), if_neg (by simp), if_neg (by simp [hcqid, hcq])]

/-- A completion queue that no submission queue uses is deleted. -/
theorem State.doDeleteCq_unused {qid : Nat} (h : s.AdminFetched t 0x04 c) (hio : qid ≠ 0)
    (hold : (s.fn c.fn).cqs.any (fun e => decide (e.1 = qid)) = true)
    (hunused : (s.fn c.fn).sqs.any (fun e => decide (e.2.cq = qid)) = false) :
    s.doDeleteCq t qid =
      (s.setFn c.fn { s.fn c.fn with cqs := (s.fn c.fn).cqs.filter (fun e => decide (e.1 ≠ qid)) }).nvmFinish t 0 0 := by
  rw [State.doDeleteCq, h.takesEffect]
  dsimp only
  rw [if_neg (by simp [hio, hold]), if_neg (by simp [hunused])]

/-- With no command but the deletion itself in flight, the queue's deletion aborts none. -/
theorem State.doDeleteSq_empty {qid : Nat} (h : s.AdminFetched t 0x00 c) (hio : qid ≠ 0)
    (hold : (s.fn c.fn).sqs.any (fun e => decide (e.1 = qid)) = true) (honly : s.nvm.cmds = [(t, c)]) :
    s.doDeleteSq t qid =
      (s.setFn c.fn { s.fn c.fn with sqs := (s.fn c.fn).sqs.filter (fun e => decide (e.1 ≠ qid)) }).nvmFinish t 0 0 := by
  have hmine : s.nvm.cmds.filter (fun e => decide (e.2.fn = c.fn) && decide (e.2.sq = qid) &&
      decide (e.2.stage ≠ .programming)) = [] := by
    simp [honly, h.admin, hio.symm]
  rw [State.doDeleteSq, h.takesEffect]
  dsimp only
  rw [if_neg (by simp [hio, hold]), hmine]
  rfl

/-! ### Log pages and Identify data (R308, R309) -/

/-- A supported page other than the Changed Namespace List, which reading empties. -/
theorem State.doGetLogPage_supported {lid : Nat} {d : List Nat} (h : s.AdminFetched t 0x02 c)
    (hpage : s.logPage c.fn lid = some d) (hlid : lid ≠ 4) : s.doGetLogPage t lid = s.nvmFinish t 0 0 d := by
  simp [State.doGetLogPage, h.takesEffect, hpage, hlid]

theorem State.doIdentify_supported {cns : Nat} {d : List Nat} (h : s.AdminFetched t 0x06 c)
    (hdata : s.identify c.fn cns c.nsid = some d) : s.doIdentify t cns = s.nvmFinish t 0 0 d := by
  simp [State.doIdentify, h.takesEffect, hdata]

/-! ### Abort (R330) -/

/-- The command that ABORT names, other than itself. -/
def State.abortTarget (s : State) (t fn sq cid : Nat) : Option (Nat × CmdSt) :=
  s.nvm.cmds.find? (fun e => decide (e.2.fn = fn) && decide (e.2.sq = sq) && decide (e.2.cid = cid) && decide (e.1 ≠ t))

theorem State.doAbort_noTarget {sq cid : Nat} (h : s.AdminFetched t 0x08 c) (hnone : s.abortTarget t c.fn sq cid = none) :
    s.doAbort t sq cid = (s.inc R.NVC_ABRT_ABRT_REQ).nvmFinish t 0 0 [1] := by
  have hinc : (s.inc R.NVC_ABRT_ABRT_REQ).abortTarget t c.fn sq cid = none := hnone
  unfold State.abortTarget at hinc
  rw [State.doAbort, h.takesEffect]
  dsimp only
  rw [hinc]

/-- Without staging pages there is none to return. -/
theorem State.restoreAll_noStaging (s : State) (t : Nat) (hstg : s.nvm.stg = []) : s.restoreAll t = s := by
  simp [State.restoreAll, hstg]

/-- Only a Format or deletion that waits has closed its namespace. -/
theorem State.reopenNs_fetched (s : State) {d : CmdSt} (hfetched : d.stage = CStage.fetched) : s.reopenNs d = s :=
  if_neg (by simp [hfetched])

/-- A target not yet executed ends with Command Abort Requested, and its buffers and its event request with it. -/
theorem State.doAbort_waiting {sq cid n : Nat} {d : CmdSt} (h : s.AdminFetched t 0x08 c)
    (htarget : s.abortTarget t c.fn sq cid = some (n, d)) (hbegun : d.begun = false)
    (hfetched : d.stage = CStage.fetched) (hstg : s.nvm.stg = []) :
    s.doAbort t sq cid =
      let y : State := ((s.inc R.NVC_ABRT_ABRT_REQ).inc R.NVC_ABRT_ABRT_HIT).bufDrop (65536 + n)
      ((y.setFn d.fn { y.fn d.fn with aers := (y.fn d.fn).aers.filter (fun a => decide (a ≠ n)) }).nvmFinish n 0 7).nvmFinish
        t 0 0 [0] := by
  have hinc : (s.inc R.NVC_ABRT_ABRT_REQ).abortTarget t c.fn sq cid = some (n, d) := htarget
  have hrestore := State.restoreAll_noStaging ((s.inc R.NVC_ABRT_ABRT_REQ).inc R.NVC_ABRT_ABRT_HIT) n hstg
  unfold State.abortTarget at hinc
  rw [State.doAbort, h.takesEffect]
  dsimp only
  rw [hinc]
  dsimp only
  rw [if_neg (by simp [hbegun, hfetched]), hrestore,
    State.reopenNs_fetched _ hfetched]

/-! ### Features, power states and write modes (R308, R316, R327, R331, R332, Table 10-3) -/

/-- Asynchronous Event Configuration is a feature of the controller. -/
theorem State.doSetFeatures_eventConfiguration (v : Nat) (h : s.AdminFetched t 0x09 c) (hnsid : c.nsid = 0) :
    s.doSetFeatures t 0x0B v false = (s.setFn c.fn ((s.fn c.fn).setFeat 0x0B v)).nvmFinish t 0 0 := by
  simp [State.doSetFeatures, h.takesEffect, hnsid]

/-- No feature is saveable. -/
theorem State.doSetFeatures_save (fid v : Nat) (h : s.AdminFetched t 0x09 c) :
    s.doSetFeatures t fid v true = s.nvmFinish t 1 0x0D := by
  simp [State.doSetFeatures, h.takesEffect]

theorem State.doPowerManagement_operational {ps : Nat} (h : s.AdminFetched t 0x09 c) (hps : ps < 3) :
    s.doPowerManagement t ps = (s.setFn c.fn { s.fn c.fn with ps := ps, lastOp := ps }).nvmFinish t 0 0 := by
  rw [State.doPowerManagement, h.takesEffect]
  dsimp only
  rw [if_neg (by omega), if_pos hps]

theorem State.doPowerManagement_ps3 (h : s.AdminFetched t 0x09 c) :
    s.doPowerManagement t 3 =
      (s.setFn c.fn { s.fn c.fn with psEntry := t + 1 }).setCmd t { c with stage := .waitCmds, begun := true } := by
  simp [State.doPowerManagement, h.takesEffect]

theorem State.doConfiguredWriteMode_up {v : Nat} (h : s.AdminFetched t 0x09 c) (hup : s.nsUp c.nsid = true) (hv : v ≤ 1) :
    s.doConfiguredWriteMode t v =
      (s.setNs c.nsid { s.ns c.nsid with cfgWt := decide (v = 1) }).nvmFinish t 0 0 := by
  simp [State.doConfiguredWriteMode, h.takesEffect, hup, Nat.not_lt.mpr hv]

theorem State.doLossAcknowledge_up (h : s.AdminFetched t 0x09 c) (hup : s.nsUp c.nsid = true) :
    s.doLossAcknowledge t =
      (s.setNs c.nsid { s.ns c.nsid with lossStg := false, lossUnk := false }).nvmRefresh.nvmFinish t 0 0 := by
  simp [State.doLossAcknowledge, h.takesEffect, hup]

theorem State.doGetFeatures_power (h : s.AdminFetched t 0x0A c) :
    s.doGetFeatures t 0x02 = s.nvmFinish t 0 0 [(s.fn c.fn).ps] := by
  simp [State.doGetFeatures, h.takesEffect]

/-! ### Event requests (R308) -/

/-- Without a waiting event the request stands. -/
theorem State.doAsyncEventRequest_stands (h : s.AdminFetched t 0x0C c) (hfew : (s.fn c.fn).aers.length < 4)
    (hnone : (s.fn c.fn).events = []) :
    s.doAsyncEventRequest t =
      (s.setFn c.fn { s.fn c.fn with aers := (s.fn c.fn).aers ++ [t] }).setCmd t { c with stage := .waitCmds } := by
  simp [State.doAsyncEventRequest, h.takesEffect, Nat.not_le.mpr hfew, hnone]

/-- The oldest waiting event completes the request. -/
theorem State.doAsyncEventRequest_takes {e : Nat} {es : List Nat} (h : s.AdminFetched t 0x0C c)
    (hfew : (s.fn c.fn).aers.length < 4) (hwait : (s.fn c.fn).events = e :: es) :
    s.doAsyncEventRequest t = (s.setFn c.fn { s.fn c.fn with events := es }).nvmFinish t 0 0 [e] := by
  simp [State.doAsyncEventRequest, h.takesEffect, Nat.not_le.mpr hfew, hwait]

end

/-- Settles O31: one effect lemma for each command, on the state whose responses are cleared. That Abort completes at once with its
result (log 108), and the opcodes, statuses and identifiers of the NVMe specification (log 110), are the model's choices. -/
theorem nvmeAdminQueuesFeaturesAndLogs : Obligations.NvmeAdminQueuesFeaturesAndLogs := by
  refine ⟨?_, ?_, ?_, ?_, ?_, ?_, ?_, ?_, ?_, ?_, ?_, ?_, ?_, ?_, ?_, ?_, ?_⟩
  · intro s tag qid size vec c hcmd hadmin hopc hfetched hruns hio hqid hnew hmin hmax hvec
    exact exec_eq_after (·.doCreateCq tag qid size vec true true) rfl
      (State.doCreateCq_allotted ⟨hcmd, hadmin, hopc, hfetched, hruns⟩ hio hqid hnew hmin hmax hvec)
  · intro s tag qid size cqid prio c hcmd hadmin hopc hfetched hruns hio hqid hnew hmin hmax hcqid hcq
    exact exec_eq_after (·.doCreateSq tag qid size cqid prio true) rfl
      (State.doCreateSq_allotted prio ⟨hcmd, hadmin, hopc, hfetched, hruns⟩ hio hqid hnew hmin hmax hcqid hcq)
  · intro s tag qid c hcmd hadmin hopc hfetched hruns hio hold hunused
    exact exec_eq_after (·.doDeleteCq tag qid) rfl
      (State.doDeleteCq_unused ⟨hcmd, hadmin, hopc, hfetched, hruns⟩ hio hold hunused)
  · intro s tag qid c hcmd hadmin hopc hfetched hruns hio hold honly
    exact exec_eq_after (·.doDeleteSq tag qid) rfl
      (State.doDeleteSq_empty ⟨hcmd, hadmin, hopc, hfetched, hruns⟩ hio hold honly)
  · intro s tag c lid d hcmd hadmin hopc hfetched hruns hpage hlid
    exact exec_eq_after (·.doGetLogPage tag lid) rfl
      (State.doGetLogPage_supported ⟨hcmd, hadmin, hopc, hfetched, hruns⟩ hpage hlid)
  · intro s tag c cns d hcmd hadmin hopc hfetched hruns hdata
    exact exec_eq_after (·.doIdentify tag cns) rfl (State.doIdentify_supported ⟨hcmd, hadmin, hopc, hfetched, hruns⟩ hdata)
  · intro s tag sq cid c hcmd hadmin hopc hfetched hruns hnone
    exact exec_eq_after (·.doAbort tag sq cid) rfl (State.doAbort_noTarget ⟨hcmd, hadmin, hopc, hfetched, hruns⟩ hnone)
  · intro s tag c sq cid n d hcmd hadmin hopc hfetched hruns htarget hbegun hwaits hstg
    exact exec_eq_after (·.doAbort tag sq cid) rfl
      (State.doAbort_waiting ⟨hcmd, hadmin, hopc, hfetched, hruns⟩ htarget hbegun hwaits hstg)
  · intro s tag value c hcmd hadmin hopc hfetched hruns hnsid
    exact exec_eq_after (·.doSetFeatures tag 0x0B value false) rfl
      (State.doSetFeatures_eventConfiguration value ⟨hcmd, hadmin, hopc, hfetched, hruns⟩ hnsid)
  · intro s tag fid value c hcmd hadmin hopc hfetched hruns
    exact exec_eq_after (·.doSetFeatures tag fid value true) rfl
      (State.doSetFeatures_save fid value ⟨hcmd, hadmin, hopc, hfetched, hruns⟩)
  · intro s tag ps c hcmd hadmin hopc hfetched hruns hps
    exact exec_eq_after (·.doPowerManagement tag ps) rfl
      (State.doPowerManagement_operational ⟨hcmd, hadmin, hopc, hfetched, hruns⟩ hps)
  · intro s tag c hcmd hadmin hopc hfetched hruns
    exact exec_eq_after (·.doPowerManagement tag 3) rfl (State.doPowerManagement_ps3 ⟨hcmd, hadmin, hopc, hfetched, hruns⟩)
  · intro s tag value c hcmd hadmin hopc hfetched hruns hup hvalue
    exact exec_eq_after (·.doConfiguredWriteMode tag value) rfl
      (State.doConfiguredWriteMode_up ⟨hcmd, hadmin, hopc, hfetched, hruns⟩ hup hvalue)
  · intro s tag c hcmd hadmin hopc hfetched hruns hup
    exact exec_eq_after (·.doLossAcknowledge tag) rfl (State.doLossAcknowledge_up ⟨hcmd, hadmin, hopc, hfetched, hruns⟩ hup)
  · intro s tag c hcmd hadmin hopc hfetched hruns
    exact exec_eq_after (·.doGetFeatures tag 0x02) rfl (State.doGetFeatures_power ⟨hcmd, hadmin, hopc, hfetched, hruns⟩)
  · intro s tag c hcmd hadmin hopc hfetched hruns hfew hnone
    exact exec_eq_after (·.doAsyncEventRequest tag) rfl
      (State.doAsyncEventRequest_stands ⟨hcmd, hadmin, hopc, hfetched, hruns⟩ hfew hnone)
  · intro s tag c e es hcmd hadmin hopc hfetched hruns hfew hwait
    exact exec_eq_after (·.doAsyncEventRequest tag) rfl
      (State.doAsyncEventRequest_takes ⟨hcmd, hadmin, hopc, hfetched, hruns⟩ hfew hwait)

/-! ### Namespaces (R310, R311, R314) -/

section
variable {s : State} {t : Nat} {c : CmdSt}

/-- Namespace `n` is created at coarse index `b` with `u` units of format `lbaf`, without metadata, and journaled. -/
def State.nsCreated (s : State) (n b u lbaf : Nat) : State :=
  (s.setNs n { nsInit with
    size := u * (s.unitSlots * lbasPerSlot lbaf), base := b, units := u, lbaf := lbaf, ext := false, pit := 0, pil := false
    ready := s.on R.FTL_STAT_MAP_NS }).jot 6 [n]

/-- A size that the pool holds takes a contiguous range that is free, under the lowest free identifier. -/
theorem State.doNamespaceManagement_creates {i b size lbaf : Nat} (h : s.AdminFetched t 0x0D c)
    (hpf : isPf c.fn = true) (hlbaf : lbaf ≤ 1) (hsize : size ≠ 0)
    (hpool : (s.nvm.nss.map (fun e => e.2.units)).sum + cdiv size (s.unitSlots * lbasPerSlot lbaf) ≤ s.poolUnits)
    (hid : (List.range 1024).find? (fun i => !s.nsUp (i + 1)) = some i)
    (hrange : s.freeRange (cdiv size (s.unitSlots * lbasPerSlot lbaf)) = some b) :
    s.doNamespaceManagement t false size lbaf false 0 false =
      (s.nsCreated (i + 1) b (cdiv size (s.unitSlots * lbasPerSlot lbaf)) lbaf).account.nvmFinish t 0 0 [i + 1] := by
  rw [State.doNamespaceManagement, h.takesEffect_pf hpf]
  dsimp only
  rw [if_neg (by simp), if_neg (by omega), if_neg (by simp [hsize]), if_neg (Nat.not_lt.mpr hpool), hid]
  dsimp only
  rw [if_neg (by simp [hrange]), hrange]
  rfl

/-- A namespace that stands open is closed, and its deletion waits for the commands fetched before. -/
theorem State.doNamespaceManagement_deletes (size lbaf : Nat) (ext : Bool) (pit : Nat) (pil : Bool)
    (h : s.AdminFetched t 0x0D c) (hpf : isPf c.fn = true) (hup : (s.ns c.nsid).units ≠ 0) (hopen : (s.ns c.nsid).closed = 0) :
    s.doNamespaceManagement t true size lbaf ext pit pil =
      ((s.setNs c.nsid { s.ns c.nsid with closed := 2 }).setCmd t { c with stage := .waitCmds }).nvmKick := by
  simp [State.doNamespaceManagement, h.takesEffect_pf hpf, hup, hopen]

section
variable {ctrls : List Nat} (h : s.AdminFetched t 0x15 c) (hpf : isPf c.fn = true) (hup : (s.ns c.nsid).units ≠ 0)
  (hsome : ctrls ≠ []) (hpresent : ctrls.any (fun f => !s.fnPresent f) = false)
include h hpf hup hsome hpresent

/-- A namespace is attached to controllers of which it is attached to none. -/
theorem State.doNamespaceAttachment_attaches (hnone : ctrls.any (fun f => (s.ns c.nsid).ctrls.contains f) = false) :
    s.doNamespaceAttachment t false ctrls =
      ((s.setNs c.nsid { s.ns c.nsid with
        ctrls := ctrls.foldl (fun m f => setIns f m) (s.ns c.nsid).ctrls }).nsChanged c.nsid ctrls).nvmFinish t 0 0 := by
  rw [State.doNamespaceAttachment, h.takesEffect_pf hpf]
  dsimp only
  rw [if_neg hup, if_neg (by simp [hsome, hpresent]), if_neg (by simp), if_neg (ne_true_of_eq_false hnone)]

/-- A namespace is detached from controllers to all of which it is attached. -/
theorem State.doNamespaceAttachment_detaches (hall : ctrls.any (fun f => !(s.ns c.nsid).ctrls.contains f) = false) :
    s.doNamespaceAttachment t true ctrls =
      ((s.setNs c.nsid { s.ns c.nsid with
        ctrls := (s.ns c.nsid).ctrls.filter (fun f => !ctrls.contains f) }).nsChanged c.nsid ctrls).nvmFinish t 0 0 := by
  rw [State.doNamespaceAttachment, h.takesEffect_pf hpf]
  dsimp only
  rw [if_neg hup, if_neg (by simp [hsome, hpresent]), if_pos rfl, if_neg (ne_true_of_eq_false hall)]

end

/-- A Format of an attached namespace closes it, and waits for the commands fetched before. -/
theorem State.doFormatNvm_begins {lbaf ses : Nat} (ext pil : Bool) (h : s.AdminFetched t 0x80 c)
    (hup : (s.ns c.nsid).units ≠ 0) (hattached : (s.ns c.nsid).ctrls.contains c.fn = true)
    (hopen : (s.ns c.nsid).closed = 0) (hses : ses ≤ 1) (hlbaf : lbaf ≤ 1) (hidle : s.nvm.sanitize = 0) :
    s.doFormatNvm t lbaf ext 0 pil ses =
      ((s.setNs c.nsid { s.ns c.nsid with closed := 1 }).setCmd t
        { c with stage := .waitCmds, args := [lbaf, b2n ext, 0, b2n pil, ses] }).nvmKick := by
  rw [State.doFormatNvm, h.takesEffect]
  dsimp only
  rw [if_neg (by rw [hattached]; simp [hup, hopen]), if_neg (by omega), if_neg (by omega), if_neg (by simp [hidle])]

/-! ### Sanitize (R315) -/

/-- With no namespace, no slot of one and no command but the Sanitize itself, the pass has nothing to tear down or erase. -/
theorem State.doSanitizeBlockErase_empty (h : s.AdminFetched t 0x84 c) (hpf : isPf c.fn = true)
    (hidle : s.nvm.sanitize = 0) (hsbs : s.nsSbs none = []) (hnss : s.nvm.nss = []) (honly : s.nvm.cmds = [(t, c)]) :
    s.doSanitizeBlockErase t 2 =
      (({ s with
        nvm := { s.nvm with sanitize := 100001, sanStatus := 2 }
        ftl := { s.ftl with eraseWait := s.ftl.eraseWait ++ [(100000, [])] } } : State).nvmFinish t 0 0).eraseKick.gcNext := by
  have hio : s.nvm.cmds.filter (fun e => decide (e.2.sq ≠ 0)) = [] := by simp [honly, h.admin]
  rw [State.doSanitizeBlockErase, h.takesEffect_pf hpf, if_neg (by simp), if_neg (by simp [hidle])]
  dsimp only
  rw [hsbs, hio]
  dsimp only [List.foldl_nil]
  rw [hnss]
  rfl

/-! ### Firmware (R336, R472, R477 to R481) -/

/-- A commit without activation replaces the slot that does not run, if its image is valid. -/
theorem State.doFirmwareCommit_stores {slot : Nat} (h : s.AdminFetched t 0x10 c) (hpf : isPf c.fn = true)
    (hslot : slot = 1 ∨ slot = 2) (hother : slot - 1 ≠ s.fwu.run) :
    s.doFirmwareCommit t 0 slot =
      let r : Nat × State := s.fwClose.fwCheck (slot - 1) 7
      if r.1 = 0 then r.2.nvmFinish t 0 0 else r.2.nvmFinish t 1 (fwStatus r.1) := by
  have hnamed : ¬slot = 0 := by omega
  have hlast : ¬2 < slot := by omega
  rw [State.doFirmwareCommit, h.takesEffect_pf hpf]
  simp [hnamed, hlast, hother, ite_not]

/-- The first data of a download opens it. -/
theorem State.fwData_opens (s : State) (owner : Nat) {off : Nat} {data : List Nat} (hidle : s.rd R.FWU_STAT_STATE = 0)
    (hact : s.fwu.act = 0) (hend : off + data.length ≤ 12582912) :
    (s.fwData owner off data).1 = true := by
  simp [State.fwData, hidle, hact, Nat.not_lt.mpr hend]

/-- Whole blocks are taken, and the command waits for each of them. -/
theorem State.doFirmwareImageDownload_taken {off : Nat} {data : List Byte} (h : s.AdminFetched t 0x11 c)
    (hpf : isPf c.fn = true) (hoff : off % 4096 = 0) (hlen : data.length % 4096 = 0) (hsome : data ≠ [])
    (htaken : (s.fwData (c.fn + 1) off (data.map (·.toNat))).1 = true) :
    s.doFirmwareImageDownload t off data =
      let x : State := (s.fwData (c.fn + 1) off (data.map (·.toNat))).2.setCmd t { c with stage := .running }
      { x with fwu := { x.fwu with
        waits := x.fwu.waits ++ [(t, (List.range (data.length / 4096)).map (fun k => k + off / 4096))] } } := by
  have hdata : s.fwData (c.fn + 1) off (data.map (·.toNat)) =
      (true, (s.fwData (c.fn + 1) off (data.map (·.toNat))).2) := Prod.ext htaken rfl
  rw [State.doFirmwareImageDownload, h.takesEffect_pf hpf, if_neg (by simp [hoff, hlen, hsome]), hdata]

end

/-! ### A fetched I/O command (R307, R313, R320, R326) -/

/-- An I/O command of opcode `opc` stands fetched under tag `t`. -/
structure State.IoFetched (s : State) (t opc : Nat) (c : CmdSt) : Prop where
  cmd : s.cmd t = some c
  io : c.sq ≠ 0
  opcode : c.opc = opc
  fetched : c.stage = CStage.fetched

section
variable {s : State} {t opc : Nat} {c : CmdSt}

theorem State.IoFetched.takesEffect (h : s.IoFetched t opc c) (f : CmdSt → State) : s.io t opc f = f c := by
  obtain ⟨hcmd, hio, hopcode, hfetched⟩ := h
  simp [State.io, hcmd, hio, hopcode, hfetched]

/-- A Flush of every namespace, or of one that is served, waits for the earlier writes. -/
theorem State.doFlush_waits (h : s.IoFetched t 0x00 c) (hserved : c.nsid = 0xFFFFFFFF ∨ s.nvmGate c = 0) :
    s.doFlush t = (s.setCmd t { c with stage := .waitCmds }).nvmKick := by
  rw [State.doFlush, h.takesEffect, if_neg fun ⟨hone, hshut⟩ => hserved.elim hone hshut]

theorem State.doWrite_starts (data md : List Byte) (prot : List Nat) (h : s.IoFetched t 0x01 c) :
    s.doWrite t data md prot false = (s.setCmd t { c with data := data, md := md, prot := prot }).nvmStart t := by
  simp [State.doWrite, h.takesEffect]

theorem State.doWrite_transferError (data md : List Byte) (prot : List Nat) (h : s.IoFetched t 0x01 c) :
    s.doWrite t data md prot true = s.nvmFinish t 0 4 := by
  simp [State.doWrite, h.takesEffect]

/-- Read, Compare and Verify. -/
theorem State.doRead_starts (data md : List Byte) (prot : List Nat) (h : s.IoFetched t opc c) :
    s.doRead t opc data md prot = (s.setCmd t { c with data := data, md := md, prot := prot }).nvmStart t :=
  h.takesEffect _

/-- Write Uncorrectable and Write Zeroes. -/
theorem State.doMapCmd_starts (h : s.IoFetched t opc c) : s.doMapCmd t opc = s.nvmStart t := h.takesEffect _

section
variable {ranges : List Nat} (h : s.IoFetched t 0x09 c) (hfew : (pairs ranges).length ≤ 256)
include h hfew

theorem State.doDatasetManagement_deallocates :
    s.doDatasetManagement t true ranges = (s.setCmd t { c with ranges := pairs ranges }).nvmStart t := by
  simp [State.doDatasetManagement, h.takesEffect, Nat.not_lt.mpr hfew]

/-- Without Deallocate the command completes with the status that its namespace gives. -/
theorem State.doDatasetManagement_hint :
    s.doDatasetManagement t false ranges = s.nvmFinish t 0 (s.nvmGate c) := by
  simp [State.doDatasetManagement, h.takesEffect, Nat.not_lt.mpr hfew]

end

end

/-- Settles O32: one effect lemma for each command, on the state whose responses are cleared. That a namespace takes the lowest free
identifier and is created in one step (log 114), that a Sanitize is a block erase alone (log 115), and the opcodes and statuses of
the NVMe specification (log 110) are the model's choices. -/
theorem nvmeNamespaceAndIoCommands : Obligations.NvmeNamespaceAndIoCommands := by
  refine ⟨?_, ?_, ?_, ?_, ?_, ?_, ?_, ?_, ?_, ?_, ?_, ?_, ?_, ?_, ?_, ?_, ?_, ?_, ?_, ?_⟩
  · intro s tag c i b size lbaf hcmd hadmin hopc hfetched hruns hpf hlbaf hsize hpool hid hrange
    exact exec_eq_after (·.doNamespaceManagement tag false size lbaf false 0 false) rfl
      (State.doNamespaceManagement_creates ⟨hcmd, hadmin, hopc, hfetched, hruns⟩ hpf hlbaf hsize hpool hid hrange)
  · intro s tag c size lbaf pit ext pil hcmd hadmin hopc hfetched hruns hpf hup hopen
    exact exec_eq_after (·.doNamespaceManagement tag true size lbaf ext pit pil) rfl
      (State.doNamespaceManagement_deletes size lbaf ext pit pil ⟨hcmd, hadmin, hopc, hfetched, hruns⟩ hpf hup hopen)
  · intro s tag c ctrls hcmd hadmin hopc hfetched hruns hpf hup hsome hpresent hnone
    exact exec_eq_after (·.doNamespaceAttachment tag false ctrls) rfl
      (State.doNamespaceAttachment_attaches ⟨hcmd, hadmin, hopc, hfetched, hruns⟩ hpf hup hsome hpresent hnone)
  · intro s tag c ctrls hcmd hadmin hopc hfetched hruns hpf hup hsome hpresent hall
    exact exec_eq_after (·.doNamespaceAttachment tag true ctrls) rfl
      (State.doNamespaceAttachment_detaches ⟨hcmd, hadmin, hopc, hfetched, hruns⟩ hpf hup hsome hpresent hall)
  · intro s tag slot c hcmd hadmin hopc hfetched hruns hpf hslot hother
    exact exec_eq_after (·.doFirmwareCommit tag 0 slot) rfl
      (State.doFirmwareCommit_stores ⟨hcmd, hadmin, hopc, hfetched, hruns⟩ hpf hslot hother)
  · intro s tag c off data hcmd hadmin hopc hfetched hruns hpf hidle hact hoff hlen hsome hend
    have htaken := s.fresh.fwData_opens (c.fn + 1) (data := data.map (·.toNat)) hidle hact (by rwa [List.length_map])
    exact exec_eq_after (·.doFirmwareImageDownload tag off data) rfl
      (State.doFirmwareImageDownload_taken ⟨hcmd, hadmin, hopc, hfetched, hruns⟩ hpf hoff hlen hsome htaken)
  · intro s hsave hact hwait
    exact exec_eq_after (·.doActivationWaitExpiry) rfl (if_pos ⟨hsave, hact, hwait⟩)
  · intro s hact
    exact exec_eq_after (·.doCxlHoldEnd) rfl (if_pos hact)
  · intro s tag c lbaf pit ses ext pil hcmd hadmin hopc hfetched hruns hup hattached hopen hses hlbaf hpit hidle
    subst hpit
    exact exec_eq_after (·.doFormatNvm tag lbaf ext 0 pil ses) rfl
      (State.doFormatNvm_begins ext pil ⟨hcmd, hadmin, hopc, hfetched, hruns⟩ hup hattached hopen hses hlbaf hidle)
  · intro s tag c hcmd hadmin hopc hfetched hruns hpf hidle hsbs hnss honly
    exact exec_eq_after (·.doSanitizeBlockErase tag 2) rfl
      (State.doSanitizeBlockErase_empty ⟨hcmd, hadmin, hopc, hfetched, hruns⟩ hpf hidle hsbs hnss honly)
  · intro s tag c hcmd hio hopc hfetched hserved
    exact exec_eq_after (·.doFlush tag) rfl (State.doFlush_waits ⟨hcmd, hio, hopc, hfetched⟩ hserved)
  · intro s tag c data md prot hcmd hio hopc hfetched
    exact exec_eq_after (·.doWrite tag data md prot false) rfl
      (State.doWrite_starts data md prot ⟨hcmd, hio, hopc, hfetched⟩)
  · intro s tag c data md prot hcmd hio hopc hfetched
    exact exec_eq_after (·.doWrite tag data md prot true) rfl
      (State.doWrite_transferError data md prot ⟨hcmd, hio, hopc, hfetched⟩)
  · intro s tag c prot hcmd hio hopc hfetched
    exact exec_eq_after (·.doRead tag 0x02 [] [] prot) rfl (State.doRead_starts [] [] prot ⟨hcmd, hio, hopc, hfetched⟩)
  · intro s tag c data md prot hcmd hio hopc hfetched
    exact exec_eq_after (·.doRead tag 0x05 data md prot) rfl (State.doRead_starts data md prot ⟨hcmd, hio, hopc, hfetched⟩)
  · intro s tag c prot hcmd hio hopc hfetched
    exact exec_eq_after (·.doRead tag 0x0C [] [] prot) rfl (State.doRead_starts [] [] prot ⟨hcmd, hio, hopc, hfetched⟩)
  · intro s tag c hcmd hio hopc hfetched
    exact exec_eq_after (·.doMapCmd tag 0x04) rfl (State.doMapCmd_starts ⟨hcmd, hio, hopc, hfetched⟩)
  · intro s tag c hcmd hio hopc hfetched
    exact exec_eq_after (·.doMapCmd tag 0x08) rfl (State.doMapCmd_starts ⟨hcmd, hio, hopc, hfetched⟩)
  · intro s tag c ranges hcmd hio hopc hfetched hfew
    exact exec_eq_after (·.doDatasetManagement tag true ranges) rfl
      (State.doDatasetManagement_deallocates ⟨hcmd, hio, hopc, hfetched⟩ hfew)
  · intro s tag c ranges hcmd hio hopc hfetched hfew
    exact exec_eq_after (·.doDatasetManagement tag false ranges) rfl
      (State.doDatasetManagement_hint ⟨hcmd, hio, hopc, hfetched⟩ hfew)

end Sys2Proof.Machine
end

section
/-!
PROOFS. The statement about the audit of the books, the firmware operations and maintenance, and the statement about datapath
buffers and semaphores.
-/
namespace Sys2Proof.Machine

/-! ### BOOK_AUDIT of the shadow books (R349, R350) -/

/-- The differences that an audit of book 1 alone reports. -/
def shadowDiffs (d : Int) : List Int := [0, d, 0, 0, 0, 0, 0, 0, 0, 0, 0, 0]

/-- The mask 2 selects book 1 and no other. -/
theorem selectedDiffs_of_shadowMask (f : Nat → Int) :
    (List.range 12).map (fun b => if bit 2 b then f b else 0) = shadowDiffs (f 1) := rfl

/-- The unbalanced books of an audit of book 1 alone: book 1, if it differs. -/
theorem unbalanced_shadowDiffs (d : Int) :
    (List.range 12).filter (fun b => decide ((shadowDiffs d).getD b 0 ≠ 0)) = if d = 0 then [] else [1] := by
  by_cases h : d = 0
  · subst h
    rfl
  · simp [shadowDiffs, List.range_succ, h]

/-- An audit of book 1 corrects and reclaims nothing: it ends with the comparison of that book. -/
theorem State.doBookAudit_shadow {s u : State} {slot e arg : Nat} (h : s.Starts slot 0x07 [arg] u e)
    (hsel : arg % 4096 = 2) (hkeep : bit arg 16 = false) :
    s.doBookAudit slot arg =
      u.loqEnd e (if u.bookDiff 1 = 0 then loSuccess else loDiff) (if u.bookDiff 1 = 0 then 0 else 2)
        (u.bookRecord 2 (if u.bookDiff 1 = 0 then 0 else 2) 0 0 (shadowDiffs (u.bookDiff 1))) := by
  have hheld : bit 2 5 = false := rfl
  have hleaks : bit 2 4 = false := rfl
  rw [State.doBookAudit, State.longOp_of_starts _ h, if_neg (by simp [h.noSave])]
  simp only [hsel, hkeep, selectedDiffs_of_shadowMask, unbalanced_shadowDiffs, hheld, hleaks]
  by_cases hdiff : u.bookDiff 1 = 0 <;> simp [hdiff]

/-! ### Firmware (R475, R484) -/

theorem State.doFwVerify_verifies {s u : State} {slot e fw : Nat} (h : s.Starts slot 0x08 [fw] u e) (hfw : fw ≤ 1) :
    s.doFwVerify slot fw =
      (u.fwCheck fw 7).2.loqEnd e (if (u.fwCheck fw 7).1 = 0 then loSuccess else loFailed) (u.fwCheck fw 7).1 := by
  rw [State.doFwVerify, State.longOp_of_starts _ h, if_neg (Nat.not_lt.mpr hfw)]

theorem State.doFwConfirm_confirms {s u : State} {slot e arg : Nat} (h : s.Starts slot 0x09 [arg] u e)
    (htrial : u.fwu.trial = true) (hrun : u.fwu.next = u.fwu.run) :
    s.doFwConfirm slot arg =
      (u.fwConfirm (bit arg 0)).loqEnd e loSuccess ((u.fwConfirm (bit arg 0)).rd R.FWU_SVN_FLOOR) := by
  rw [State.doFwConfirm, State.longOp_of_starts _ h, if_neg (by simp [htrial, hrun])]

/-! ### MEM_SANITIZE (R509) and the completions of a ring (R514) -/

theorem State.memSanitizeStart_runs (s : State) {e : Nat} (hdec : s.anyDecoder = false)
    (hfull : s.on R.DRM_STAT_DEGRADED = false)
    (halone : s.loq.ents.any (fun x => decide (x.1 ≠ e) && x.2.used && !x.2.ended && decide (x.2.op = 0x0B)) = false)
    (hsave : s.cvn.code = 0) : s.memSanitizeStart e = s.memSanitize := by
  rw [State.memSanitizeStart, if_neg (by simp [hdec, hfull]), if_neg (by rw [halone]; exact Bool.false_ne_true),
    if_neg (by simp [hsave])]

theorem State.doMemSanitize_clears {s u : State} {slot e : Nat} (h : s.Starts slot 0x0B [] u e)
    (hdec : u.anyDecoder = false) (hfull : u.on R.DRM_STAT_DEGRADED = false)
    (halone : u.loq.ents.any (fun x => decide (x.1 ≠ e) && x.2.used && !x.2.ended && decide (x.2.op = 0x0B)) = false) :
    s.doMemSanitize slot = u.memSanitize := by
  rw [State.doMemSanitize, State.longOp_of_starts _ h, u.memSanitizeStart_runs hdec hfull halone h.noSave]

theorem State.doLoqCompletionPost_writes (s : State) {ring e : Nat} (hring : ring < 2)
    (holdest : s.loq.post.find? (fun k => decide (ringOf (s.loqEnt k).slot = ring)) = some e)
    (hroom : s.ringCnt ring < 64) : s.doLoqCompletionPost ring = (s.ringWrite ring e).loqPosted e := by
  simp [State.doLoqCompletionPost, holdest, hring.ne, hroom]

/-- Settles O13: one effect lemma for each operation, on the state that its issue left. That CFL_MAINT passes over frozen sectors
(log 228) and that an audit samples all its books in one step (log 85) are the model's choices. -/
theorem auditFirmwareAndMaintenanceOperations : Obligations.AuditFirmwareAndMaintenanceOperations := by
  refine ⟨?_, ?_, ?_, ?_, ?_, ?_, ?_⟩
  · intro s slot e arg u hreset hslot hissue hsave hodber hsel hkeep
    exact exec_eq_after (·.doBookAudit slot arg) rfl
      (State.doBookAudit_shadow ⟨hreset, hslot, hissue, hodber, hsave⟩ hsel hkeep)
  · intro s slot e fw u hreset hslot hissue hsave hodber hfw
    exact exec_eq_after (·.doFwVerify slot fw) rfl
      (State.doFwVerify_verifies ⟨hreset, hslot, hissue, hodber, hsave⟩ hfw)
  · intro s slot e arg u hreset hslot hissue hsave hodber htrial hrun
    exact exec_eq_after (·.doFwConfirm slot arg) rfl
      (State.doFwConfirm_confirms ⟨hreset, hslot, hissue, hodber, hsave⟩ htrial hrun)
  · intro s slot e u hreset hslot hissue hsave hodber
    exact exec_eq_after (·.doCflMaintReerase slot) rfl
      (State.longOp_of_starts _ ⟨hreset, hslot, hissue, hodber, hsave⟩)
  · intro s slot e u hreset hslot hissue hsave hodber
    exact exec_eq_after (·.doCflMaintCompact slot) rfl
      (State.longOp_of_starts _ ⟨hreset, hslot, hissue, hodber, hsave⟩)
  · intro s slot e u hreset hslot hissue hsave hodber hdec hfull halone
    exact exec_eq_after (·.doMemSanitize slot) rfl
      (State.doMemSanitize_clears ⟨hreset, hslot, hissue, hodber, hsave⟩ hdec hfull halone)
  · intro s ring e hring holdest hroom
    exact exec_eq_after (·.doLoqCompletionPost ring) rfl (s.fresh.doLoqCompletionPost_writes hring holdest hroom)

/-! ### Datapath buffers (R342 to R344, R346) -/

/-- The operation `op` of consumer `k` is live: it holds a buffer or waits for one. -/
def State.bufLive (s : State) (k op : Nat) : State :=
  { s with buf := { s.buf with live := smSet false (65536 * k + op % 65536) true s.buf.live } }

/-- Outside a save a consumer's request is granted where R342 permits it and none of its own is older; else it waits. What R342
asks is the same before the operation counts as live: it counts buffers only. -/
theorem State.doBufferRequest_eq (s : State) {k : Nat} (op : Nat) (hlo : 1 ≤ k) (hhi : k ≤ 9) (hsave : s.buf.save = false) :
    s.doBufferRequest k op =
      if s.bufGrants k && !s.buf.wait.any (fun e => decide (e.1 = k)) then (s.bufLive k op).bufGive k op
      else { s.bufLive k op with
        buf := { (s.bufLive k op).buf with wait := s.buf.wait ++ [(k, op % 65536)] } } := by
  have hconsumer : ¬(k = 0 ∨ 9 < k ∨ (s.buf.save ∧ k = 8)) := by
    simp only [hsave, Bool.false_eq_true, false_and, or_false]
    omega
  rw [State.doBufferRequest, if_neg hconsumer]
  rfl

theorem State.doBufferRequest_granted (s : State) {k : Nat} (op : Nat) (hlo : 1 ≤ k) (hhi : k ≤ 9)
    (hsave : s.buf.save = false) (hgrant : s.bufGrants k = true) (hnone : s.buf.wait = []) :
    s.doBufferRequest k op = (s.bufLive k op).bufGive k op := by
  rw [s.doBufferRequest_eq op hlo hhi hsave, if_pos (by simp [hgrant, hnone])]

theorem State.doBufferRequest_waits (s : State) {k : Nat} (op : Nat) (hlo : 1 ≤ k) (hhi : k ≤ 9)
    (hsave : s.buf.save = false) (hgrant : s.bufGrants k = false) :
    s.doBufferRequest k op =
      { s.bufLive k op with buf := { (s.bufLive k op).buf with wait := s.buf.wait ++ [(k, op % 65536)] } } := by
  rw [s.doBufferRequest_eq op hlo hhi hsave, if_neg (by simp [hgrant])]

theorem State.doBufferFree_owner (s : State) {b k op : Nat} {e : Nat × Nat}
    (hfind : s.buf.own.find? (fun x => decide (x.1 = b)) = some e) (howner : e.2 = 65536 * k + op % 65536) :
    s.doBufferFree b k op =
      (let own := s.buf.own.filter (fun x => decide (x.1 ≠ b))
       let ends := own.all (fun x => decide (x.2 ≠ e.2)) && !s.buf.wait.contains (k, op % 65536)
       { s with buf := { s.buf with
          own := own, live := if ends then smSet false e.2 false s.buf.live else s.buf.live } }.bufServe) := by
  rw [State.doBufferFree, hfind]
  exact if_pos howner

theorem State.doBufferFree_double (s : State) {b : Nat} (k op : Nat)
    (hfind : s.buf.own.find? (fun x => decide (x.1 = b)) = none) :
    s.doBufferFree b k op =
      { s with buf := { s.buf with dbl := inc32 s.buf.dbl } }.signal (.odber 0x0A 1) b
        (ownerBytes (65536 * k + op % 65536)) := by
  rw [State.doBufferFree, hfind]

theorem State.doBufferFree_foreign (s : State) {b k op : Nat} {e : Nat × Nat}
    (hfind : s.buf.own.find? (fun x => decide (x.1 = b)) = some e) (hother : e.2 ≠ 65536 * k + op % 65536) :
    s.doBufferFree b k op =
      { s with buf := { s.buf with foreign := inc32 s.buf.foreign } }.signal (.odber 0x0A 2) b
        (ownerBytes (65536 * k + op % 65536) ++ ownerBytes e.2) := by
  rw [State.doBufferFree, hfind]
  exact if_neg hother

theorem State.doHandOff_passes (s : State) {b op : Nat} (new : Nat)
    (howner : s.buf.own.any (fun e => decide (e.1 = b) && decide (e.2 = 65536 * 3 + op % 65536)) = true)
    (hgrant : s.bufGrants 1 = true) :
    s.doHandOff b op new =
      ({ s with buf := { s.buf with
          own := s.buf.own.map (fun (e : Nat × Nat) => if e.1 = b then (b, 65536 + new % 65536) else e)
          live := smSet false (65536 + new % 65536) true s.buf.live } }.bufServe).handRead b (new % 65536) := by
  rw [State.doHandOff, if_pos (by rw [howner, hgrant]; rfl)]

/-! ### Semaphores (R351, R352) -/

theorem State.doSemaphoreAcquire_grants (s : State) {n : Nat} {cores : List Nat} {c : Nat} (hn : n < 64)
    (hfree : (s.sem n).holder = 0)
    (hfirst : ((List.range 4).map (fun i => ((s.sem n).next + i) % 4)).find?
      (fun c => cores.contains c && s.coreRuns c) = some c) :
    s.doSemaphoreAcquire n cores =
      (s.setSem n { s.sem n with holder := c + 1, next := (c + 1) % 4 }).emit
        (.granted (100 + c) (2 * n + b2n (s.sem n).ownerReset)) := by
  rw [State.doSemaphoreAcquire, if_neg (by simp [hfree, Nat.not_le.mpr hn]), hfirst]

theorem State.doSemaphoreRelease_frees (s : State) {n c : Nat} (hn : n < 64) (hruns : s.coreRuns c = true)
    (hholds : (s.sem n).holder = c + 1) :
    s.doSemaphoreRelease n c = s.setSem n { s.sem n with holder := 0, ownerReset := false } := by
  rw [State.doSemaphoreRelease, if_neg (by simp [hruns]), if_pos ⟨hn, hholds⟩]

theorem State.doSemaphoreRelease_foreign (s : State) {n c : Nat} (hruns : s.coreRuns c = true)
    (hother : (s.sem n).holder ≠ c + 1) : s.doSemaphoreRelease n c = s.bookFault 12 := by
  rw [State.doSemaphoreRelease, if_neg (by simp [hruns]), if_neg (fun h => hother h.2)]

/-- Settles O29: one effect lemma for each command, on the state whose responses are cleared. That the lowest free buffer is taken
(log 104) and that an owner's last free ends its operation's tag (log 181) are the model's choices. -/
theorem buffersAndSemaphores : Obligations.BuffersAndSemaphores := by
  refine ⟨?_, ?_, ?_, ?_, ?_, ?_, ?_, ?_, ?_⟩
  · intro s who op hlo hhi hsave hgrant hnone
    exact exec_eq_after (·.doBufferRequest who op) rfl (s.fresh.doBufferRequest_granted op hlo hhi hsave hgrant hnone)
  · intro s who op hlo hhi hsave hgrant
    exact exec_eq_after (·.doBufferRequest who op) rfl (s.fresh.doBufferRequest_waits op hlo hhi hsave hgrant)
  · intro s buf who op e hfind howner
    exact exec_eq_after (·.doBufferFree buf who op) rfl (s.fresh.doBufferFree_owner hfind howner)
  · intro s buf who op hfind
    exact exec_eq_after (·.doBufferFree buf who op) rfl (s.fresh.doBufferFree_double who op hfind)
  · intro s buf who op e hfind hother
    exact exec_eq_after (·.doBufferFree buf who op) rfl (s.fresh.doBufferFree_foreign hfind hother)
  · intro s buf op new howner hgrant
    exact exec_eq_after (·.doHandOff buf op new) rfl (s.fresh.doHandOff_passes new howner hgrant)
  · intro s sem cores c hsem hfree hfirst
    exact exec_eq_after (·.doSemaphoreAcquire sem cores) rfl (s.fresh.doSemaphoreAcquire_grants hsem hfree hfirst)
  · intro s sem core hsem hruns hholds
    exact exec_eq_after (·.doSemaphoreRelease sem core) rfl (s.fresh.doSemaphoreRelease_frees hsem hruns hholds)
  · intro s sem core hruns hother
    exact exec_eq_after (·.doSemaphoreRelease sem core) rfl (s.fresh.doSemaphoreRelease_foreign hruns hother)

end Sys2Proof.Machine
end

section
/-!
PROOFS. The statements about the general check-value engines: who owns one, and what its data inputs consume.
-/
namespace Sys2Proof.Machine

/-! ### A write of an engine's register (R362, R505) -/

/-- The engines' registers lie above every run that a device may lack. -/
theorem geReg_outside_absentRuns (eng off : Nat) :
    ∀ r ∈ absentRuns, ¬(r.1 ≤ geReg eng off ∧ geReg eng off < r.2) := by
  intro r hr hin
  have hbelow : ∀ r ∈ absentRuns, r.2 ≤ R.CRC_GE_OWN_CLAIM.base := by decide
  have hrun := hbelow r hr
  rw [geReg] at hin
  omega

/-- A write of an engine's register has its effect where the engine exists and the path may write it. -/
theorem State.geAt_taken (s : State) {p : Path} {eng off : Nat} (f : State → State) (heng : eng < 8)
    (hup : s.pathUp p = true) (hmay : s.mayWrite p (geReg eng off) = true) : s.geAt p eng off f = f s := by
  rw [State.geAt, if_neg (Nat.not_le.mpr heng)]
  exact s.actAt_always f hup hmay (geReg_outside_absentRuns eng off)

/-- The same for a register that takes writes of the owner only. -/
theorem State.geAt_owned (s : State) {p : Path} {eng off : Nat} (f : State → State) (heng : eng < 8)
    (hup : s.pathUp p = true) (hmay : s.mayWrite p (geReg eng off) = true)
    (howner : s.rd R.CRC_GE_OWN_OWNER eng = geWho p) : s.geAt p eng off (·.geOwned p eng f) = f s := by
  rw [s.geAt_taken _ heng hup hmay, State.geOwned, if_pos howner]

/-! ### Ownership and the initial value (R360, R361, R362) -/

theorem State.geClaim_free_twi (s : State) {e : Nat} (hfree : s.rd R.CRC_GE_OWN_OWNER e = 0) :
    s.geClaim .twi e =
      { s with buf := { s.buf with crcVia := smSet 0 e 0 s.buf.crcVia } }.wr R.CRC_GE_OWN_OWNER 6 e :=
  if_pos hfree

theorem State.geRelease_owner (s : State) {p : Path} {e : Nat} (howner : s.rd R.CRC_GE_OWN_OWNER e = geWho p) :
    s.geRelease p e =
      ({ s with buf := { s.buf with crcVia := smSet 0 e 0 s.buf.crcVia } }.wr R.CRC_GE_OWN_OWNER 0 e).put
        R.CRC_GE_OWN_OWNER_RST false e :=
  if_pos howner

/-- INIT with the polynomial in force leaves POLY and takes its initial value. -/
theorem State.geStart_same_poly (s : State) {e poly : Nat} (hlt : poly < 4) (hpoly : s.rd R.CRC_GE_CTL_POLY e = poly) :
    s.geStart e poly = (s.wr R.CRC_GE_VAL_VAL (geInit poly) e).wr R.CRC_GE_LEN_LEN 0 e := by
  simp only [State.geStart, Nat.mod_eq_of_lt hlt, hpoly, if_true]

/-! ### What a feed of bytes leaves in the registers (R358) -/

/-- VAL and LEN of one engine are two field instances. -/
theorem geVal_key_ne_geLen_key (e : Nat) : R.CRC_GE_VAL_VAL.key e ≠ R.CRC_GE_LEN_LEN.key e := by
  simp only [Fld.key, R.CRC_GE_VAL_VAL, R.CRC_GE_LEN_LEN]
  omega

/-- The running value takes each byte of the data in turn. -/
theorem State.geFeed_rd_val (s : State) (e n data : Nat) :
    (s.geFeed e n data).rd R.CRC_GE_VAL_VAL e =
      (leBytes n data).foldl (geByte (s.rd R.CRC_GE_CTL_POLY e))
        (s.rd R.CRC_GE_VAL_VAL e % 2 ^ gePolyW (s.rd R.CRC_GE_CTL_POLY e)) % 2 ^ R.CRC_GE_VAL_VAL.wd :=
  (State.rd_wr_other _ _ _ _ _ _ _ _ (geVal_key_ne_geLen_key e)).trans (State.rd_wr ..)

/-- LEN counts the bytes. -/
theorem State.geFeed_rd_len (s : State) (e n data : Nat) :
    (s.geFeed e n data).rd R.CRC_GE_LEN_LEN e = (s.rd R.CRC_GE_LEN_LEN e + n) % 2 ^ 32 :=
  State.rd_wr ..

/-- A feed leaves every field but VAL and LEN of its engine. -/
theorem State.geFeed_rd_other (s : State) (e n data : Nat) {f : Fld} {i j : Nat}
    (hval : f.key i j ≠ R.CRC_GE_VAL_VAL.key e) (hlen : f.key i j ≠ R.CRC_GE_LEN_LEN.key e) :
    (s.geFeed e n data).rd f i j = s.rd f i j :=
  (State.rd_wr_other _ _ _ _ _ _ _ _ hlen).trans (State.rd_wr_other _ _ _ _ _ _ _ _ hval)

theorem leBytes_one (v : Nat) : leBytes 1 v = [v % 256] := by
  simp [leBytes]

theorem leBytes_two (v : Nat) : leBytes 2 v = [v % 256, v / 256 % 256] := by
  simp [leBytes, List.range_succ]

theorem leBytes_four (v : Nat) :
    leBytes 4 v = [v % 256, v / 256 % 256, v / 65536 % 256, v / 16777216 % 256] := by
  simp [leBytes, List.range_succ]

/-! ### The three data inputs (R358, R362) -/

section
variable {s : State} {p : Path} {e : Nat} (heng : e < 8) (hup : s.pathUp p = true)
  (howner : s.rd R.CRC_GE_OWN_OWNER e = geWho p)
include heng hup howner

theorem exec_dinB_owner (data : Nat) (hmay : s.mayWrite p (geReg e 0x08) = true) :
    exec (.dinB p e data) s = .next (s.after (s.fresh.geFeed e 1 data)) :=
  exec_eq_after (·.doDinB p e data) rfl (s.fresh.geAt_owned _ heng hup hmay howner)

theorem exec_dinH_owner (data : Nat) (hmay : s.mayWrite p (geReg e 0x0C) = true) :
    exec (.dinH p e data) s = .next (s.after (s.fresh.geFeed e 2 data)) :=
  exec_eq_after (·.doDinH p e data) rfl (s.fresh.geAt_owned _ heng hup hmay howner)

theorem exec_dinW_owner (data : Nat) (hmay : s.mayWrite p (geReg e 0x10) = true) :
    exec (.dinW p e data) s = .next (s.after (s.fresh.geFeed e 4 data)) :=
  exec_eq_after (·.doDinW p e data) rfl (s.fresh.geAt_owned _ heng hup hmay howner)

end

/-- Settles O53: a data write of the owner is a feed of its 1, 2 or 4 low bytes, least significant first. -/
theorem engineTakesBytesInOrder : Obligations.EngineTakesBytesInOrder := by
  refine ⟨?_, ?_, ?_⟩
  · intro s p e data heng hup hmay howner
    refine ⟨_, exec_dinB_owner heng hup howner data hmay, ?_, s.fresh.geFeed_rd_len e 1 data,
      fun _ _ _ => s.fresh.geFeed_rd_other e 1 data⟩
    rw [State.geFeed_rd_val, leBytes_one]
    rfl
  · intro s p e data heng hup hmay howner
    refine ⟨_, exec_dinH_owner heng hup howner data hmay, ?_, s.fresh.geFeed_rd_len e 2 data,
      fun _ _ _ => s.fresh.geFeed_rd_other e 2 data⟩
    rw [State.geFeed_rd_val, leBytes_two]
    rfl
  · intro s p e data heng hup hmay howner
    refine ⟨_, exec_dinW_owner heng hup howner data hmay, ?_, s.fresh.geFeed_rd_len e 4 data,
      fun _ _ _ => s.fresh.geFeed_rd_other e 4 data⟩
    rw [State.geFeed_rd_val, leBytes_four]
    rfl

/-- Settles O16: one effect lemma for each command, on the state whose responses are cleared. -/
theorem checkEngines : Obligations.CheckEngines := by
  refine ⟨?_, ?_, ?_, ?_, ?_, ?_⟩
  · rintro s path eng hup hmay heng hfree rfl
    exact exec_eq_after (·.doCrcClaim .twi eng) rfl
      ((s.fresh.geAt_taken (p := .twi) _ heng hup hmay).trans (s.fresh.geClaim_free_twi hfree))
  · intro s path eng hup hmay heng howner
    exact exec_eq_after (·.doCrcRelease path eng) rfl
      ((s.fresh.geAt_taken _ heng hup hmay).trans (s.fresh.geRelease_owner howner))
  · intro s path eng poly hup hmay heng howner hlt hpoly
    refine exec_eq_after (·.doInit path eng poly) rfl ?_
    rw [State.doInit, Nat.mod_eq_of_lt hlt]
    exact (s.fresh.geAt_owned _ heng hup hmay howner).trans (s.fresh.geStart_same_poly hlt hpoly)
  · intro s path eng data hup hmay heng howner
    exact exec_dinB_owner heng hup howner data hmay
  · intro s path eng data hup hmay heng howner
    exact exec_dinH_owner heng hup howner data hmay
  · intro s path eng data hup hmay heng howner
    exact exec_dinW_owner heng hup howner data hmay

end Sys2Proof.Machine
end

section
/-!
PROOFS. The two statements about words and bytes that outlast power: what a program changes in the code flash, and the check that a
record carries.
-/
namespace Sys2Proof.Machine

/-! ### Programs of the code flash (R420, R430) -/

/-- A program of words is one of all but the last, and then one of the last. -/
theorem State.cflProgram_concat (s : State) (k : Nat) (ws : List Nat) (w : Nat) :
    s.cflProgram k (ws ++ [w]) = (s.cflProgram k ws).cflProgram (k + ws.length) [w] := by
  have hzip : (ws ++ [w]).zip (List.range (ws ++ [w]).length) = ws.zip (List.range ws.length) ++ [(w, ws.length)] := by
    rw [List.length_append, List.length_singleton, List.range_succ, List.zip_append (by simp)]
    rfl
  unfold State.cflProgram
  rw [hzip, List.foldl_append]
  rfl

theorem State.cflProgram_one_word (s : State) (k w j : Nat) :
    smGet 0xFFFFFFFF (s.cflProgram k [w]).cfl.arr j =
      if j = k then Nat.land (smGet 0xFFFFFFFF s.cfl.arr j) (w % 2 ^ 32) else smGet 0xFFFFFFFF s.cfl.arr j := by
  refine (smGet_smSet 0xFFFFFFFF k _ s.cfl.arr j).trans ?_
  split
  · subst j
    rfl
  · rfl

/-- What any word reads after a program: inside it the bits that the old word and the data both have, outside it the old word. -/
theorem State.cflProgram_word (s : State) (k : Nat) (ws : List Nat) (j : Nat) :
    smGet 0xFFFFFFFF (s.cflProgram k ws).cfl.arr j =
      if k ≤ j ∧ j < k + ws.length then
        Nat.land (smGet 0xFFFFFFFF s.cfl.arr j) (ws.getD (j - k) 0 % 2 ^ 32)
      else smGet 0xFFFFFFFF s.cfl.arr j := by
  induction ws using List.reverseRecOn with
  | nil => exact (if_neg (by simp only [List.length_nil]; omega)).symm
  | append_singleton ws w ih =>
    rw [State.cflProgram_concat, State.cflProgram_one_word, ih, List.length_append, List.length_singleton]
    by_cases hlast : j = k + ws.length
    · subst hlast
      rw [if_pos rfl, if_neg (by omega), if_pos (by omega), Nat.add_sub_cancel_left]
      simp
    · rw [if_neg hlast]
      by_cases hin : k ≤ j ∧ j < k + ws.length
      · have hold : (ws ++ [w]).getD (j - k) 0 = ws.getD (j - k) 0 := List.getD_append _ _ _ _ (by omega)
        rw [if_pos hin, if_pos (by omega), hold]
      · rw [if_neg hin, if_neg (by omega)]

/-- Settles O56, from what any word reads after a program. -/
theorem codeFlashProgramOnlyClearsBits : Obligations.CodeFlashProgramOnlyClearsBits := by
  intro s k ws
  refine ⟨fun i hi => ?_, fun j hj => ?_⟩
  · rw [State.cflProgram_word, if_pos (by omega), Nat.add_sub_cancel_left]
  · rw [State.cflProgram_word, if_neg (by omega)]

/-! ### The bytes of a record (R455, Table 18-1) -/

@[simp] theorem leBytes_length (n v : Nat) : (leBytes n v).length = n := by
  simp [leBytes]

theorem leBytes_succ (n v : Nat) : leBytes (n + 1) v = v % 256 :: leBytes n (v / 256) := by
  simp [leBytes, List.range_succ_eq_map, Nat.div_div_eq_div_mul, Nat.pow_succ']

/-- A number that fits its little-endian bytes is what they spell. -/
theorem ofLe_leBytes {n v : Nat} (h : v < 256 ^ n) : ofLe (leBytes n v) = v := by
  induction n generalizing v with
  | zero => simp_all [leBytes, ofLe]
  | succ n ih =>
    rw [leBytes_succ, ofLe, ih (by rw [Nat.pow_succ] at h; omega)]
    omega

theorem crcBitR_lt {poly v : Nat} (hpoly : poly < 2 ^ 32) (hv : v < 2 ^ 32) : crcBitR poly v < 2 ^ 32 := by
  have hhalf : v / 2 < 2 ^ 32 := by omega
  unfold crcBitR
  split
  · exact Nat.xor_lt_two_pow hhalf hpoly
  · exact hhalf

theorem crcByteR_lt {poly v : Nat} (b : Nat) (hpoly : poly < 2 ^ 32) (hv : v < 2 ^ 32) : crcByteR poly v b < 2 ^ 32 :=
  List.foldlRecOn (motive := (· < 2 ^ 32)) _ _ (Nat.xor_lt_two_pow hv (by omega)) (fun _ h _ _ => crcBitR_lt hpoly h)

/-- The check value is a word of 32 bits. -/
theorem crc32c_lt (bs : List Nat) : crc32c bs < 2 ^ 32 :=
  Nat.xor_lt_two_pow
    (List.foldlRecOn (motive := (· < 2 ^ 32)) bs _ (by decide) (fun _ h b _ => crcByteR_lt b (by decide) h)) (by decide)

theorem recBody_length (r : EvRecord) (seq : Nat) : (recBody r seq).length = 58 := by
  simp [recBody]

theorem recBody_take_two (r : EvRecord) (seq : Nat) : (recBody r seq).take 2 = leBytes 2 r.typ.num := by
  simp only [recBody, List.append_assoc]
  exact List.take_left' (leBytes_length ..)

/-- Settles O57: the body fills the first 58 bytes, its check the next four. -/
theorem recordBytesCarryTheirCheck : Obligations.RecordBytesCarryTheirCheck := by
  intro r seq
  have hbody : (recBody r seq).length = 58 := recBody_length r seq
  have hcheck : (recBody r seq ++ leBytes 4 (crc32c (recBody r seq))).length = 62 := by simp [hbody]
  have hbytes : recBytes r seq = recBody r seq ++ (leBytes 4 (crc32c (recBody r seq)) ++ [0xC3, 0x5A]) :=
    List.append_assoc ..
  refine ⟨?_, ?_, ?_, ?_⟩
  · simp [hbytes, hbody]
  · rw [hbytes, List.take_append_of_le_length (by omega), recBody_take_two]
  · rw [hbytes, List.drop_left' hbody, List.take_left' (leBytes_length ..), List.take_left' hbody,
      ofLe_leBytes (crc32c_lt _)]
  · rw [recBytes, List.drop_left' hcheck]
    rfl

end Sys2Proof.Machine
end

section
/-!
PROOFS. The statement about the actions of registers that concern power, resets, the code flash, the recorder and downloads.
-/
namespace Sys2Proof.Machine

/-! ### Power and resets (R390, R396, R416, R452) -/

theorem State.seqOff_before_ready (s : State) (hready : s.on R.CVN_STAT_READY = false) :
    s.seqOff false = s.startDown := by
  rw [State.seqOff, if_neg (by simp [hready])]

/-- A forced off asks for no readiness. -/
theorem State.seqOff_forced (s : State) : s.seqOff true = s.startDown := by
  rw [State.seqOff, if_neg (by simp)]

theorem State.warmReq_core (s : State) (n : Nat) (hreset : s.boot.inReset = false) (hwarm : s.boot.warm = false)
    (hsave : s.cvn.code = 0) (hact : s.fwu.act = 0) : s.warmReq (.core n) = s.warmBegin 0 := by
  rw [State.warmReq, if_neg (by simp [hreset, hwarm]), if_neg (by simp [hsave, hact])]

/-- Both two-wire ports are in every device. -/
theorem twiCtl_outside_absentRuns {port : Nat} (hport : port < 2) : ∀ r ∈ absentRuns,
    ¬(r.1 ≤ R.TWI_CTL_FLT_CLR.base + port * 0x1000 ∧ R.TWI_CTL_FLT_CLR.base + port * 0x1000 < r.2) := by
  interval_cases port <;> decide

/-! ### The code flash (R424, R427, R429, R435) -/

/-- Both banks of the code flash are in every device. -/
theorem cflOwn_outside_absentRuns {bank : Nat} (hbank : bank < 2) : ∀ r ∈ absentRuns,
    ¬(r.1 ≤ R.CFL_OWN_CLAIM.base + 4 * bank ∧ R.CFL_OWN_CLAIM.base + 4 * bank < r.2) := by
  interval_cases bank <;> decide

theorem State.cflClaim_free (s : State) {p : Path} {b w : Nat} (hwho : cflWho p = some w)
    (hfree : s.rd R.CFL_OWN_OWNER b = 0) :
    s.cflClaim p b = (s.wr R.CFL_OWN_OWNER w b).emit (.granted w b) := by
  simp [State.cflClaim, hwho, hfree]

/-- The ERASE that the descriptor words spell, as the queue takes it. -/
def State.erasePushed (s : State) : CflDesc :=
  { id := s.cfl.next, op := 2, sus := bit (s.rd R.CFL_DQ_WORD 0) 4, tag := bits (s.rd R.CFL_DQ_WORD 0) 16 16
    addr := bits (s.rd R.CFL_DQ_WORD 1) 0 25, src := s.rd R.CFL_DQ_WORD 2, count := bits (s.rd R.CFL_DQ_WORD 3) 0 9
    ba := bits (s.rd R.CFL_DQ_WORD 3) 9 1, by0 := s.rd R.CFL_OWN_OWNER (bits (s.rd R.CFL_DQ_WORD 1) 0 25 / 2 ^ 24)
    stage := 0, susps := 0, data := [], status := 0, pulses := 0, endAddr := 0 }

/-- A sound ERASE of the bank's owner is the one descriptor of an empty queue. -/
theorem State.cflPush_erase (s : State) {p : Path} (hempty : s.cfl.queue = [])
    (hop : bits (s.rd R.CFL_DQ_WORD 0) 0 4 = 2) (hsound : descOk (fun k => s.rd R.CFL_DQ_WORD k) = true)
    (howner : cflWho p = some (s.rd R.CFL_OWN_OWNER (bits (s.rd R.CFL_DQ_WORD 1) 0 25 / 2 ^ 24))) :
    s.cflPush p = { s with cfl := { s.cfl with next := s.cfl.next + 1 } }.setDq [s.erasePushed] := by
  unfold State.cflPush
  dsimp only
  rw [hop, hempty, hsound, if_neg (by simp), if_neg (by simpa using howner), if_neg (by simp), if_neg (by omega)]
  rfl

/-- HEAD advances over completions that were posted and not yet consumed. -/
theorem State.cflHead_advances (s : State) {head : Nat} (hhead : head < 64)
    (hcnt : (head + 64 - s.rd R.CFL_CRHEAD_HEAD) % 64 ≤ s.cfl.cnt) :
    s.cflHead head =
      { s.wr R.CFL_CRHEAD_HEAD head with
        cfl := { s.cfl with cnt := s.cfl.cnt - (head + 64 - s.rd R.CFL_CRHEAD_HEAD) % 64 } }.cflDrain := by
  rw [State.cflHead, Nat.mod_eq_of_lt hhead]
  exact if_pos hcnt

/-! ### The recorder and downloads (R466, R472, R473) -/

/-- An index below 32 lies in every area. -/
theorem State.evrSel_inside (s : State) {area index : Nat} (harea : area ≤ 2) (hindex : index < 32) :
    s.evrSel area index = ((s.wr R.EVR_SEL_AREA area).wr R.EVR_SEL_INDEX index).evrPrefetch := by
  rw [State.evrSel, Nat.mod_eq_of_lt (by omega), Nat.mod_eq_of_lt (by omega)]
  exact if_neg (by omega)

/-- An open download for which no command waits is abandoned. -/
theorem State.fwAbandon_unawaited (s : State) (hopen : s.rd R.FWU_STAT_STATE = 1) (hwaits : s.fwu.waits = []) :
    s.fwAbandon =
      (let x : State := { s with fwu := { s.fwu with waits := [], part := [], blocks := [], erased := [] } }
       (((x.wr R.FWU_STAT_STATE 0).wr R.FWU_STAT_OWNER 0).wr R.FWU_DLST_BLOCKS 0).fwUnverified (1 - s.fwu.run)) := by
  rw [State.fwAbandon, if_neg (by simp [hopen]), State.fwFailWaits, hwaits]
  rfl

/-- What the open download, or none, must be like to take data (R472, R473, R478). -/
theorem State.fwData_taken_iff (s : State) (owner off : Nat) (data : List Nat) :
    (s.fwData owner off data).1 = true ↔
      ¬(2 ≤ s.rd R.FWU_STAT_STATE ∨ (s.rd R.FWU_STAT_STATE = 1 ∧ s.rd R.FWU_STAT_OWNER ≠ owner) ∨
        12582912 < off + data.length ∨ s.fwu.act ≠ 0) := by
  unfold State.fwData
  dsimp only
  split
  case isTrue h => simp only [h, not_true_eq_false, Bool.false_eq_true]
  case isFalse h => simp only [h, not_false_eq_true]

/-- A word that the download takes moves OFF on. -/
theorem State.fwWord1_taken (s : State) {p : Path} {word : Nat}
    (htaken : (s.fwData (fwWho p) (4 * s.rd R.FWU_DOFF_OFF) (leBytes 4 word)).1 = true) :
    s.fwWord1 p word =
      (s.fwData (fwWho p) (4 * s.rd R.FWU_DOFF_OFF) (leBytes 4 word)).2.wr R.FWU_DOFF_OFF
        (s.rd R.FWU_DOFF_OFF + 1) := by
  unfold State.fwWord1
  dsimp only
  split
  case h_1 h => rw [h]
  case h_2 h => simp [h] at htaken

/-- Settles O15: each action is taken along its path, on the state whose responses are cleared. -/
theorem registerActionsOfPowerResetAndTransfers : Obligations.RegisterActionsOfPowerResetAndTransfers := by
  refine ⟨?_, ?_, ?_, ?_, ?_, ?_, ?_, ?_, ?_, ?_, ?_, ?_, ?_, ?_⟩
  · intro s path hup hmay hready
    exact exec_eq_after (·.doOff path) rfl
      ((s.fresh.actAt_always _ hup hmay (by decide)).trans (s.fresh.seqOff_before_ready hready))
  · intro s path hup hmay
    exact exec_eq_after (·.doForce path) rfl
      ((s.fresh.actAt_always _ hup hmay (by decide)).trans s.fresh.seqOff_forced)
  · intro s path hup hmay hdrv
    exact exec_eq_after (·.doSeqCtlFltClr path) rfl
      ((s.fresh.actAt_always _ hup hmay (by decide)).trans (if_pos hdrv))
  · intro s path port hup hmay hport hfaulted
    exact exec_eq_after (·.doTwiCtlFltClr path port) rfl ((if_neg (Nat.not_le.mpr hport)).trans
      ((s.fresh.actAt_always _ hup hmay (twiCtl_outside_absentRuns hport)).trans (if_pos hfaulted)))
  · rintro s path hup hmay rfl hreset hwarm hsave hact
    exact exec_eq_after (·.doWarm (.core 3)) rfl
      ((s.fresh.actAt_always (p := .core 3) _ hup hmay (by decide)).trans (s.fresh.warmReq_core 3 hreset hwarm hsave hact))
  · intro s path bank w hup hmay hbank hwho hfree
    exact exec_eq_after (·.doCflClaim path bank) rfl ((if_neg (Nat.not_le.mpr hbank)).trans
      ((s.fresh.actAt_always _ hup hmay (cflOwn_outside_absentRuns hbank)).trans (s.fresh.cflClaim_free hwho hfree)))
  · intro s path bank hup hmay hbank howner
    exact exec_eq_after (·.doCflRelease path bank) rfl ((if_neg (Nat.not_le.mpr hbank)).trans
      ((s.fresh.actAt_always _ hup hmay (cflOwn_outside_absentRuns hbank)).trans (if_pos howner)))
  · rintro s path hup hmay rfl
    exact exec_eq_after (·.doWpLock (.core 0)) rfl
      ((s.fresh.actAt_always (p := .core 0) _ hup hmay (by decide)).trans (if_pos rfl))
  · intro s path hup hmay hempty hop hsound howner
    exact exec_eq_after (·.doPush path) rfl
      ((s.fresh.actAt_always _ hup hmay (by decide)).trans (s.fresh.cflPush_erase hempty hop hsound howner))
  · intro s path head hup hmay hhead hcnt
    refine exec_eq_after (·.doCflCrheadWrite path head) rfl ?_
    rw [State.doCflCrheadWrite, Nat.mod_eq_of_lt hhead]
    exact (s.fresh.actAt_always _ hup hmay (by decide)).trans (s.fresh.cflHead_advances hhead hcnt)
  · intro s path area index hup hmay harea hindex
    refine exec_eq_after (·.doEvrSelWrite path area index) rfl ?_
    rw [State.doEvrSelWrite, Nat.mod_eq_of_lt (by omega), Nat.mod_eq_of_lt (by omega)]
    exact (s.fresh.actAt_always _ hup hmay (by decide)).trans (s.fresh.evrSel_inside harea hindex)
  · intro s path hup hmay
    exact exec_eq_after (·.doAdv path) rfl (s.fresh.actAt_always _ hup hmay (by decide))
  · intro s path hup hmay hopen hwaits
    exact exec_eq_after (·.doFwuAbort path) rfl
      ((s.fresh.actAt_always _ hup hmay (by decide)).trans (s.fresh.fwAbandon_unawaited hopen hwaits))
  · intro s path word hup hmay htaken
    exact exec_eq_after (·.doFwuDdataWrite path word) rfl
      ((s.fresh.actAt_always _ hup hmay (by decide)).trans (s.fresh.fwWord1_taken
        ((s.fresh.fwData_taken_iff ..).mpr ((s.fwData_taken_iff ..).mp htaken))))

end Sys2Proof.Machine
end

section
/-!
PROOFS. The statement about the backup gauge: its samples, estimates, pack states, audits and learned values.
-/
namespace Sys2Proof.Machine

/-! ### Samples and estimates (R364, R367, R368, R379) -/

theorem State.doGaugeSample_supplied (s : State) (v t id ser : Nat) (serOk ntcBad : Bool)
    (h : s.seq.main = true ∨ s.cvn.code ≠ 0) : s.doGaugeSample v t id ser serOk ntcBad = s.gauSample v t id ser serOk ntcBad := by
  rw [State.doGaugeSample, if_pos (by simpa using h)]

/-- What the registers of a sample take: the serial counts where the device that PACK_TWI names answers. -/
def State.sampleTaken (s : State) (v t id ser : Nat) (serOk ntcBad : Bool) : State :=
  let m : State := ((((s.wr R.GAU_MEAS_V v).wr R.GAU_MEAS_T t).wr R.GAU_ID_ID_CODE id).put R.GAU_ID_SER_OK
    (serOk && s.serReads)).wr R.GAU_SER_SER (if serOk && s.serReads then ser else 0)
  { m with gau := { s.gau with ntcBad := ntcBad } }

/-- The readings of a sample leave the state of the serial's port. -/
theorem State.gauSample_eq (s : State) (v t id ser : Nat) (serOk ntcBad : Bool) :
    s.gauSample v t id ser serOk ntcBad =
      let n : State := ((s.sampleTaken v t id ser serOk ntcBad).restSample).packPolicyCheck.packStep
      let p : State := if !n.packOn then n
        else if n.gau.aud ≠ 0 ∨ n.cvn.code = 1 ∨ n.cvn.code = 2 then n else n.idleRule
      p.audSample.coldNow.estFall := by
  have hreads : (((s.wr R.GAU_MEAS_V v).wr R.GAU_MEAS_T t).wr R.GAU_ID_ID_CODE id).serReads = s.serReads := by
    simp (disch := decide) only [State.serReads, State.rd_wr_other]
    rfl
  rw [State.gauSample]
  dsimp only
  rw [hreads]
  rfl

@[simp] theorem State.fresh_loadedV (s : State) (j k o pp n c : Nat) :
    s.fresh.loadedV j k o pp n c = s.loadedV j k o pp n c := by
  induction n generalizing c with
  | zero => rfl
  | succ n ih => simp only [State.loadedV, State.fresh_resT, State.fresh_rd, State.fresh_rateClass, ih]

@[simp] theorem State.fresh_eCol (s : State) (k pp n soc e : Nat) : s.fresh.eCol k pp n soc e = s.eCol k pp n soc e := by
  induction n generalizing soc e with
  | zero => rfl
  | succ n ih =>
    rw [State.eCol, State.eCol]
    dsimp only
    rw [State.fresh_ocv, State.fresh_rateClass, State.fresh_loadedV]
    simp only [ih]
    rfl

/-- The deliverable energy does not depend on the responses of the last command. -/
@[simp] theorem State.fresh_deliverable (s : State) : s.fresh.deliverable = s.deliverable := by
  simp only [State.deliverable, State.fresh_eCol]
  rfl

/-- The estimate `e` stands in the gauge and in the ledger, with the readings that it was made from. -/
def State.estPublished (s : State) (e : Nat) : State :=
  { (s.wr R.GAU_EG_E_G e).wr R.LDG_EGAU_E_G e with
    gau := { s.gau with estDue := false, socEst := s.rd R.GAU_SOC_SOC, tEst := s.gauT } }

/-- It writes no other register. -/
theorem State.estPublished_rd (s : State) (e : Nat) {f : Fld} (hgau : f.key ≠ R.GAU_EG_E_G.key)
    (hldg : f.key ≠ R.LDG_EGAU_E_G.key) : (s.estPublished e).rd f = s.rd f :=
  (State.rd_wr_other (s.wr R.GAU_EG_E_G e) _ _ _ _ _ _ _ hldg).trans (State.rd_wr_other _ _ _ _ _ _ _ _ hgau)

/-- A countdown above the estimate takes the estimate (R200). -/
def State.cdnLowered (s : State) (e : Nat) : State :=
  if s.on R.LDG_STAT_CDN_ACT && decide (e < s.rd R.LDG_CDN_CDN) then (s.wr R.LDG_CDN_CDN e).cdnpNow else s

@[simp] theorem State.cdnLowered_ledger (s : State) (e : Nat) : (s.cdnLowered e).ledger = s.ledger := by
  unfold State.cdnLowered
  split <;> rfl

theorem State.cdnLowered_tick (s : State) (e : Nat) : (s.cdnLowered e).tick = s.tick := by
  unfold State.cdnLowered
  split
  · simp (disch := decide) only [State.tick, State.cdnpNow, State.rd_wr_other]
  · rfl

/-- The ledger starts from the first estimate of a cold boot (R189). -/
def State.ledgerBegun (s : State) (e : Nat) : State :=
  if s.ledger.started then s
  else { s.wr R.LDG_EUSE_E_USE e with ledger := { s.ledger with started := true, tLast := s.tick } }

/-- An estimate is due by a trigger or by its period. -/
theorem State.doEstimate_due (s : State) (hhib : s.on R.GAU_STAT_HIB = false)
    (hlrn : s.ledger.started = true ∨ s.gau.lrnDue = false)
    (hdue : s.gau.estDue = true ∨
      (s.rd R.GAU_SMP_EST_INT ≠ 0 ∧ s.tick % s.rd R.GAU_SMP_EST_INT = 512 % s.rd R.GAU_SMP_EST_INT)) :
    s.doEstimate =
      (((s.estPublished (min s.deliverable (2 ^ 32 - 1))).cdnLowered (min s.deliverable (2 ^ 32 - 1))).ledgerBegun
        (min s.deliverable (2 ^ 32 - 1))).ledgerStart false := by
  have hlate : (!s.ledger.started && s.gau.lrnDue) = false := by
    rcases hlrn with h | h <;> simp [h]
  have hnow : (s.gau.estDue ||
      decide (s.rd R.GAU_SMP_EST_INT ≠ 0 ∧ s.tick % s.rd R.GAU_SMP_EST_INT = 512 % s.rd R.GAU_SMP_EST_INT)) = true := by
    rw [Bool.or_eq_true, decide_eq_true_eq]
    exact hdue
  have hsoc : ((s.wr R.GAU_EG_E_G (min s.deliverable (2 ^ 32 - 1))).wr R.LDG_EGAU_E_G
      (min s.deliverable (2 ^ 32 - 1))).rd R.GAU_SOC_SOC = s.rd R.GAU_SOC_SOC :=
    s.estPublished_rd _ (by decide) (by decide)
  have ht : ((s.wr R.GAU_EG_E_G (min s.deliverable (2 ^ 32 - 1))).wr R.LDG_EGAU_E_G
      (min s.deliverable (2 ^ 32 - 1))).gauT = s.gauT :=
    congrArg s16 (s.estPublished_rd _ (by decide) (by decide))
  simp only [State.doEstimate, hhib, hnow, hlate, hsoc, ht, Bool.not_true, Bool.or_self, Bool.false_eq_true, if_false]
  rfl

/-- The same with each operand read before the estimate. -/
theorem State.estimate_operands (s : State) (e : Nat) :
    ((s.estPublished e).cdnLowered e).ledgerBegun e =
      let y : State := if s.on R.LDG_STAT_CDN_ACT && decide (e < s.rd R.LDG_CDN_CDN) then
        ((s.estPublished e).wr R.LDG_CDN_CDN e).cdnpNow else s.estPublished e
      if s.ledger.started then y
        else { y.wr R.LDG_EUSE_E_USE e with ledger := { s.ledger with started := true, tLast := s.tick } } := by
  have htick : ((s.estPublished e).cdnLowered e).tick = s.tick :=
    (State.cdnLowered_tick _ _).trans (s.estPublished_rd _ (by decide) (by decide))
  have hact : (s.estPublished e).on R.LDG_STAT_CDN_ACT = s.on R.LDG_STAT_CDN_ACT := by
    rw [State.on, s.estPublished_rd _ (by decide) (by decide)]
    rfl
  have hcdn : (s.estPublished e).rd R.LDG_CDN_CDN = s.rd R.LDG_CDN_CDN := s.estPublished_rd _ (by decide) (by decide)
  rw [State.ledgerBegun, htick, State.cdnLowered_ledger, State.cdnLowered, hact, hcdn]
  rfl

/-! ### Pack states and learned values (R370, R372, R378) -/

/-- A fault whose cause has been absent for 32,768 ticks. -/
theorem State.doFaultCauseCleared_long (s : State) (hfault : s.rd R.GAU_STAT_PSTATE = 3) (hgone : s.gau.causeGone ≠ 0)
    (hlong : s.gau.causeGone + 32767 ≤ s.tick) (hclear : s.causeStays = false) :
    s.doFaultCauseCleared = s.packArrive :=
  if_pos ⟨hfault, hgone, by omega, by rw [hclear]; rfl⟩

/-- SOC_REP moves toward the whole percent of the state of charge. -/
theorem State.doSocRepStep_due (s : State) (hon : s.packOn = true) (hat : s.gau.repAt + 983040 ≤ s.tick) :
    s.doSocRepStep =
      let want : Nat := s.rd R.GAU_SOC_SOC * 100 / 65536
      let r : Nat := s.rd R.GAU_SOC_SOC_REP
      { s.wr R.GAU_SOC_SOC_REP (if r < want then r + 1 else if want < r then r - 1 else r) with
        gau := { s.gau with repAt := s.tick } } := by
  rw [State.doSocRepStep, if_pos (by simp [hon, hat])]
  simp (disch := decide) only [State.tick, State.rd_wr_other]
  rfl

theorem State.doLearnedValueWrite_due (s : State)
    (hdue : s.gau.lrnDue = true ∨ s.rd R.GAU_LRNT_TICK + 2831155200 ≤ s.tick) (hmain : s.seq.main = true)
    (hsave : s.cvn.code = 0) :
    s.doLearnedValueWrite =
      (let l : Learned := { s.gau.learned with soc := s.rd R.GAU_SOC_SOC }
       ({ s with gau := { s.gau with learned := l, lvFlash := some l, lrnDue := false } }.lvAppend).wr R.GAU_LRNT_TICK
        s.tick) := by
  rw [State.doLearnedValueWrite, if_pos (by simpa [hmain, hsave] using hdue), s.lrnWrite_powered hmain hsave]

/-! ### Audits (R373, R374) -/

theorem State.doAuditStart_due (s : State) (hidle : s.gau.aud = 0)
    (hdue : s.gau.audDue = true ∨ s.gau.learned.audTick + s.ap R.GAU_AUD_AUD_PER * 2831155200 ≤ s.tick)
    (hretry : s.gau.audRetry ≤ s.tick) (hbar : s.audBar = 0) : s.doAuditStart = s.audStart 0 :=
  if_pos ⟨hidle, by simpa using hdue, hretry, hbar⟩

/-- At the first rest of an audit the state of charge is that of the open voltage, and the load connects. -/
theorem State.doAuditRestReached_first (s : State) (hrest : s.on R.GAU_STAT_REST = true) (haud : s.gau.aud = 1) :
    s.doAuditRestReached =
      { s.wr R.GAU_SOC_SOC (s.socV s.gauV s.gauT) with
        gau := { s.gau with aud := 2, audAt := s.tick, audSoc0 := s.socV s.gauV s.gauT, audO0 := s.gauV } }.audLoad
          true := by
  rw [State.doAuditRestReached, if_neg (by simp [hrest]), if_pos haud]
  simp (disch := decide) only [State.tick, State.gauV, State.rd_wr_other]
  rfl

/-- An audit that has discharged the pack by less than 2 % learns nothing. -/
theorem State.doAuditRestReached_shallow (s : State) (hrest : s.on R.GAU_STAT_REST = true) (haud : s.gau.aud = 4)
    (hshallow : s.gau.audSoc0 < s.socV s.gauV s.gauT + 1311) :
    s.doAuditRestReached = (s.wr R.GAU_SOC_SOC (s.socV s.gauV s.gauT)).audDisq 7 := by
  rw [State.doAuditRestReached, if_neg (by simp [hrest]), if_neg (by simp [haud]), if_pos haud]
  exact if_pos hshallow

/-- The resistance of the loaded pack against that of the tables. -/
theorem State.doAuditLoadSample_loaded (s : State) (v : Nat) (haud : s.gau.aud = 2) (hat : s.gau.audAt + 64 ≤ s.tick) :
    s.doAuditLoadSample v =
      let rm : Nat := cdiv ((s.gau.audO0 - v) * s.gp 11 1) v
      let r0 : Nat := s.resT (segBelow s.gau.audSoc0) ((s.cols s.gauT).headD 0)
        (s.rateClass (cdiv (v * 1000) (s.gp 11 1)))
      { s.wr R.GAU_MEAS_V v with gau := { s.gau with aud := 3, audAt := s.tick, audRf := cdiv (rm * 1000) r0 } } := by
  rw [State.doAuditLoadSample, if_neg (by omega)]
  simp (disch := decide) only [State.tick, State.rd_wr_other]
  rfl

/-- Settles O33: each command on the state whose responses are cleared. That an audit takes its resistance from the lower of the
columns that bracket the temperature (log 230) is the model's choice. -/
theorem gaugeSamplesEstimatesAndAudits : Obligations.GaugeSamplesEstimatesAndAudits := by
  refine ⟨?_, ?_, ?_, ?_, ?_, ?_, ?_, ?_, ?_, ?_, ?_⟩
  · intro s v tm id ser serOk ntcBad hsup
    exact exec_eq_after (·.doGaugeSample v tm id ser serOk ntcBad) rfl
      ((s.fresh.doGaugeSample_supplied v tm id ser serOk ntcBad hsup).trans (s.fresh.gauSample_eq ..))
  · intro s hhib hlrn hdue
    have heff := s.fresh.doEstimate_due hhib hlrn hdue
    rw [State.fresh_deliverable, State.estimate_operands] at heff
    exact exec_eq_after (·.doEstimate) rfl heff
  · intro s hfault hgone hlong hclear
    exact exec_eq_after (·.doFaultCauseCleared) rfl (s.fresh.doFaultCauseCleared_long hfault hgone hlong hclear)
  · intro s hon hat
    exact exec_eq_after (·.doSocRepStep) rfl (s.fresh.doSocRepStep_due hon hat)
  · intro s hidle hdue hretry hbar
    exact exec_eq_after (·.doAuditStart) rfl (s.fresh.doAuditStart_due hidle hdue hretry hbar)
  · intro s hrest haud
    exact exec_eq_after (·.doAuditRestReached) rfl (s.fresh.doAuditRestReached_first hrest haud)
  · intro s hrest haud hshallow
    exact exec_eq_after (·.doAuditRestReached) rfl (s.fresh.doAuditRestReached_shallow hrest haud hshallow)
  · intro s v haud hat
    exact exec_eq_after (·.doAuditLoadSample v) rfl (s.fresh.doAuditLoadSample_loaded v haud hat)
  · intro s hdue hmain hsave
    exact exec_eq_after (·.doLearnedValueWrite) rfl (s.fresh.doLearnedValueWrite_due hdue hmain hsave)
  · intro s v tm id ser serOk ntcBad hhib
    exact exec_eq_after (·.doHibernationSample v tm id ser serOk ntcBad) rfl (if_pos hhib)
  · intro s v tm id ser serOk ntcBad hhib
    exact exec_eq_after (·.doIsnsWake v tm id ser serOk ntcBad) rfl (if_neg (by simpa using hhib))

end Sys2Proof.Machine
end

section
/-!
PROOFS. The statements about the power sequencer: its sequences of rails, and its supervision and supplies.
-/
namespace Sys2Proof.Machine

/-! ### What sequences leave of the sequencer's state and of the time -/

/-- The retained table's entries lie below the tick counter. -/
theorem State.seqEntry_tick (s : State) {n : Nat} (hn : n < 32) (dly dep th ovf : Nat) :
    (s.seqEntry n dly dep th ovf).tick = s.tick := by
  simp (disch := simp only [Fld.key, R.PWR_TICK_TICK, R.SEQ_RDLY_ON_DLY, R.SEQ_RDLY_OFF_DLY, R.SEQ_RDEP_DEP,
    R.SEQ_RTH_OFF_TH, R.SEQ_RTH_UV_TH, R.SEQ_RFLG_OV_TH, R.SEQ_RFLG_FLAGS]; omega) only
    [State.tick, State.seqEntry, State.rd_wr_other]

theorem State.seqBootstrap_tick (s : State) : s.seqBootstrap.tick = s.tick := by
  refine (State.rd_wr_other _ _ _ _ _ _ _ _ (by decide)).trans
    (List.foldlRecOn (motive := fun t : State => t.tick = s.tick) rails _ rfl fun t ht n hn => ?_)
  have hlt : n < 32 := List.mem_range.mp hn
  split
  · exact (t.seqEntry_tick hlt ..).trans ht
  · exact (t.seqEntry_tick hlt ..).trans ht

@[simp] theorem State.railDrive_off_seqState (s : State) (n : Nat) : (s.railDrive n false).seqState = s.seqState :=
  (State.rd_wr_other ((s.wr R.SEQ_ON_RAILS _).emit _) _ _ _ _ _ _ _ (by decide)).trans
    (State.rd_wr_other _ _ _ _ _ _ _ _ (by decide))

/-! ### Sequences (R384 to R389, R397) -/

/-- A rail that is turned on is enabled from this tick. -/
theorem State.railDrive_on (s : State) (n : Nat) :
    s.railDrive n true =
      let x : State := (s.wr R.SEQ_ON_RAILS (setBitTo (s.rd R.SEQ_ON_RAILS) n true)).emit (.issue 1 [n, 1])
      { x with seq := { s.seq with enAt := smSet 0 n s.tick s.seq.enAt } } := by
  have htick : (s.wr R.SEQ_ON_RAILS (setBitTo (s.rd R.SEQ_ON_RAILS) n true)).tick = s.tick :=
    State.rd_wr_other _ _ _ _ _ _ _ _ (by decide)
  rw [← htick]
  rfl

/-- A rail that fails in an up-sequence is turned off with its dependants, and those of them not yet on are dropped. -/
theorem State.railFail_eq (s : State) (n cause : Nat) :
    s.railFail n cause =
      let deps : List Nat := s.dependants n
      let x : State := (s.railDrive n false).wr R.SEQ_FAIL_RAILS (setBitTo (s.rd R.SEQ_FAIL_RAILS) n true)
      let waiting : List Nat := deps.filter (fun d => !x.railOn d)
      let y : State := { x with seq := { x.seq with
        dropped := Nat.lor s.seq.dropped (railMask (fun d => waiting.contains d)) } }
      (y.offList deps).seqLog n cause (if s.seqState = 2 then 1 else 0) := by
  have hstate : ((s.railDrive n false).wr R.SEQ_FAIL_RAILS (setBitTo (s.rd R.SEQ_FAIL_RAILS) n true)).seqState =
      s.seqState :=
    (State.rd_wr_other _ _ _ _ _ _ _ _ (by decide)).trans (s.railDrive_off_seqState n)
  rw [← hstate]
  rfl

/-- The end of phase 1 starts phase 2 where an image is validated already. -/
theorem State.doPhaseEnd_first (s : State) (hstate : s.seqState = 1)
    (hended : rails.all (fun n => !s.phaseRail n || s.railGood n || s.railFailed n || bit s.seq.dropped n) = true) :
    s.doPhaseEnd =
      let bad : Bool := rails.any (fun n => s.phaseRail n && (s.railFailed n || bit s.seq.dropped n))
      let x : State := { s with boot := { s.boot with p1done := true, p1bad := bad } }
      if s.seq.phase2Ready then x.startPhase2 else x := by
  rw [State.doPhaseEnd, hended]
  exact (if_neg (by decide)).trans (if_pos hstate)

/-- At the end of phase 2 a boot that waits for it goes on. -/
theorem State.doPhaseEnd_second (s : State) (hstate : s.seqState = 2)
    (hended : rails.all (fun n => !s.phaseRail n || s.railGood n || s.railFailed n || bit s.seq.dropped n) = true) :
    s.doPhaseEnd =
      let x : State := s.wr R.SEQ_STAT_STATE 3
      if s.rd R.BST_STAT_STAGE = 7 then x.stage8 else x := by
  have hstage : (s.wr R.SEQ_STAT_STATE 3).rd R.BST_STAT_STAGE = s.rd R.BST_STAT_STAGE :=
    State.rd_wr_other _ _ _ _ _ _ _ _ (by decide)
  rw [State.doPhaseEnd, hended, ← hstage]
  exact (if_neg (by decide)).trans ((if_neg (by omega)).trans (if_pos hstate))

/-- The return of main power is an on request, which a down-sequence latches. -/
theorem State.doMainPowerOn_returns (s : State) (hmain : s.seq.main = false) :
    s.doMainPowerOn =
      let x : State := ({ s with seq := { s.seq with main := true } }.put R.GAU_STAT_HIB false).estNow
      (if s.seqState = 4 then x.put R.SEQ_STAT_ON_LATCH true else x).startIfReady := by
  have hstate : (({ s with seq := { s.seq with main := true } } : State).put R.GAU_STAT_HIB false).seqState =
      s.seqState :=
    State.rd_wr_other { s with seq := { s.seq with main := true } } _ _ _ _ _ _ _ (by decide)
  rw [State.doMainPowerOn, if_neg (by simp [hmain]), ← hstate]
  rfl

/-- Phase 1 starts, from the bootstrap table where no table is retained. -/
theorem State.startIfReady_starts (s : State) (hready : s.canStart = true) :
    s.startIfReady =
      let x : State := if s.seq.tblOk then s else s.seqBootstrap
      let y : State := (((x.put R.SEQ_STAT_BOOTSTRAP (!s.seq.tblOk)).wr R.SEQ_STAT_STATE 1).put R.SEQ_STAT_ON_LATCH
        false).wr R.SEQ_FAIL_RAILS 0
      { y with
        seq := { x.seq with
          start := s.tick, wasOn := 0, offs := [], dropped := 0, logged := false, snap := false, oow := [], pgLow := []
          phase2Ready := false }
        boot := { x.boot with p1done := false, p1bad := false } } := by
  have htick : ∀ x : State, ((((x.put R.SEQ_STAT_BOOTSTRAP (!s.seq.tblOk)).wr R.SEQ_STAT_STATE 1).put
      R.SEQ_STAT_ON_LATCH false).wr R.SEQ_FAIL_RAILS 0).tick = x.tick := fun x => by
    simp (disch := decide) only [State.tick, State.put, State.rd_wr_other]
  rw [State.startIfReady, if_neg (by simp [hready])]
  cases htable : s.seq.tblOk with
  | true =>
    rw [← htick s, htable]
    rfl
  | false =>
    rw [← s.seqBootstrap_tick, ← htick s.seqBootstrap, htable]
    rfl

/-- Settles O34: one effect lemma for each command, on the state whose responses are cleared. -/
theorem sequencerPhasesAndRails : Obligations.SequencerPhasesAndRails := by
  refine ⟨?_, ?_, ?_, ?_, ?_, ?_, ?_, ?_, ?_, ?_⟩
  · intro s hmain
    exact exec_eq_after (·.doMainPowerOn) rfl (s.fresh.doMainPowerOn_returns hmain)
  · intro s rail hlt hphase hoff hfailed hdropped hdelay hdeps
    refine exec_eq_after (·.doRailEnable rail) rfl ((if_pos ?_).trans (s.fresh.railDrive_on rail))
    exact ⟨hlt, hphase, by simp [hoff], by simp [hfailed], by simp [hdropped], hdelay, hdeps⟩
  · intro s rail hlt hphase hon hbad hlate
    exact exec_eq_after (·.doPgTimeout rail) rfl
      ((if_pos ⟨hlt, hphase, hon, by simp [hbad], hlate⟩).trans (s.fresh.railFail_eq rail 1))
  · intro s hstate hended
    exact exec_eq_after (·.doPhaseEnd) rfl (s.fresh.doPhaseEnd_first hstate hended)
  · intro s hstate hended
    exact exec_eq_after (·.doPhaseEnd) rfl (s.fresh.doPhaseEnd_second hstate hended)
  · intro s rail hlt hlisted hon hdelay hdeps
    exact exec_eq_after (·.doRailDisable rail) rfl (if_pos ⟨hlt, hlisted, hon, hdelay, hdeps⟩)
  · intro s rail hlt hlisted hon hlate hdeps
    exact exec_eq_after (·.doOffWaitExpiry rail) rfl (if_pos ⟨hlt, hlisted, hon, hlate, by simp [hdeps]⟩)
  · intro s hstate hgone
    exact exec_eq_after (·.doDownSequenceEnd) rfl
      (if_neg (not_or.mpr ⟨not_not.mpr hstate, Bool.eq_false_iff.mp (congrArg (!·) hgone)⟩))
  · intro s hready
    exact exec_eq_after (·.doTMinOffExpiry) rfl (s.fresh.startIfReady_starts hready)
  · intro s
    exact exec_eq_after (·.doPwrFailNRelease) rfl rfl

/-! ### Supplies and CHIP_RST_N (R451, R526) -/

theorem State.doMainPowerLoss_noAudit (s : State) (hmain : s.seq.main = true) (haud : s.gau.aud = 0) :
    s.doMainPowerLoss =
      let x : State := { s with seq := { s.seq with main := false } }
      if s.cvn.code = 0 then x.put R.GAU_STAT_HIB true else x := by
  have hnone : ({ s with seq := { s.seq with main := false } } : State).audDisq 3 =
      { s with seq := { s.seq with main := false } } := if_pos haud
  rw [State.doMainPowerLoss, if_neg (by simp [hmain]), hnone]
  rfl

theorem State.doChipRstNAssert_noSave (s : State) (hsave : s.cvn.code = 0) : s.doChipRstNAssert = s.chipReset := by
  simp only [State.doChipRstNAssert, hsave]

theorem State.doChipRstNAssert_hardSave (s : State) (hsave : s.cvn.code = 1 ∨ s.cvn.code = 2) :
    s.doChipRstNAssert = s := by
  rcases hsave with h | h <;> simp only [State.doChipRstNAssert, h]

theorem State.doChipRstNAssert_softSave (s : State) (hsave : 3 ≤ s.cvn.code) :
    s.doChipRstNAssert = { s with cvn := { s.cvn with coldLatched := true } } := by
  obtain ⟨n, hn⟩ : ∃ n, s.cvn.code = n + 3 := ⟨s.cvn.code - 3, by omega⟩
  simp only [State.doChipRstNAssert, hn]

/-- Settles O35: one effect lemma for each command, on the state whose responses are cleared. -/
theorem supervisionAndSupplies : Obligations.SupervisionAndSupplies := by
  refine ⟨?_, ?_, ?_, ?_, ?_, ?_, ?_, ?_, ?_, ?_, ?_, ?_⟩
  · intro s readings pg fltLow hon
    exact exec_eq_after (·.doFaultScan readings pg fltLow) rfl (if_neg hon)
  · intro s avgs hon
    exact exec_eq_after (·.doTelemetryAverage avgs) rfl (if_neg hon)
  · intro s hdrv hheld hend
    exact exec_eq_after (·.doFltHoldExpiry) rfl (if_pos ⟨hdrv, hheld, hend⟩)
  · intro s
    exact exec_eq_after (·.doSeqFltNRelease) rfl rfl
  · intro s
    exact exec_eq_after (·.doSequencerSupplyCollapse) rfl rfl
  · intro s hmain haud
    exact exec_eq_after (·.doMainPowerLoss) rfl (s.fresh.doMainPowerLoss_noAudit hmain haud)
  · intro s hmain haud
    exact exec_eq_after (·.doMainPowerLoss) rfl (if_neg (by simp [hmain]))
  · intro s
    exact exec_eq_after (·.doAlwaysOnReset) rfl rfl
  · intro s hvbat
    exact exec_eq_after (·.doVbatAonReturn) rfl (if_neg (by simp [hvbat]))
  · intro s hsave
    exact exec_eq_after (·.doChipRstNAssert) rfl (s.fresh.doChipRstNAssert_noSave hsave)
  · intro s hsave
    exact exec_eq_after (·.doChipRstNAssert) rfl (s.fresh.doChipRstNAssert_hardSave hsave)
  · intro s hsave
    exact exec_eq_after (·.doChipRstNAssert) rfl (s.fresh.doChipRstNAssert_softSave hsave)

end Sys2Proof.Machine
end

section
/-!
PROOFS. The statements about TWI0: its command codes and alerts, and the messages that it carries.
-/
namespace Sys2Proof.Machine

/-! ### An awake port (R408, R411) -/

/-- A port that a supply powers and whose fast path is awake, or has no main power to sleep from, serves at once. -/
theorem State.twiAddress_awake (s : State) (f : State → State) (hsup : s.seq.main = true ∨ s.seq.vbat = true)
    (hawake : s.seq.main = false ∨ s.on R.TWI_STAT_SLEEP 0 = false) : s.twiAddress f = f s := by
  rw [State.twiAddress, if_neg (by rcases hsup with h | h <;> simp [h]),
    if_neg (by rcases hawake with h | h <;> simp [h])]

/-- A port whose fast path sleeps wakes it; whether it serves too follows the stretch mode. -/
theorem State.twiAddress_asleep (s : State) (f : State → State) (hmain : s.seq.main = true)
    (hsleep : s.on R.TWI_STAT_SLEEP 0 = true) :
    s.twiAddress f =
      if s.on R.TWI_STAT_STRETCH 0 then f (s.pdWake 29)
      else ((s.pdWake 29).inc R.TWI_CNT2_WAKE_NACK 0).emit .twiNack := by
  rw [State.twiAddress, if_neg (by simp [hmain]), if_pos (by simp [hmain, hsleep])]

theorem State.doFastPathWake_asleep (s : State) (hmain : s.seq.main = true) (hsleep : s.on R.TWI_STAT_SLEEP 0 = true) :
    s.doFastPathWake =
      if s.on R.TWI_STAT_STRETCH 0 then s.pdWake 29
      else ((s.pdWake 29).inc R.TWI_CNT2_WAKE_NACK 0).emit .twiNack := by
  rw [State.doFastPathWake, if_pos (by simp [hmain, hsleep]), s.twiAddress_asleep _ hmain hsleep]

/-! ### Record reads (R467, Table 15-5) -/

section
variable {s : State} (hsup : s.seq.main = true ∨ s.seq.vbat = true)
  (hawake : s.seq.main = false ∨ s.on R.TWI_STAT_SLEEP 0 = false)
  (harea : s.evr.twiArea = 0 ∨ (s.seq.main = true ∧ s.level ≠ 0))
include hsup hawake harea

/-- A latched record is read, and the pointer moves to the next of its area. -/
theorem State.doRecRead_latched (hlatch : s.evr.twiLatch.isSome = true) :
    s.doRecRead =
      let x : State := match s.evr.twiLatch with
        | some (_, some y) => s.emit (.twi 64 (recBytes y.record y.seq))
        | _ => s.emit (.twi 0 [])
      { x with evr := { s.evr with
        twiIndex := nextIndex s.evr.twiArea s.evr.twiIndex, twiFetching := true, twiLatch := none } } := by
  obtain ⟨⟨r, x⟩, hx⟩ := Option.isSome_iff_exists.mp hlatch
  have hserved : ¬(s.evr.twiArea ≠ 0 ∧ ((!s.seq.main) = true ∨ s.level = 0)) := by
    rcases harea with h | ⟨hm, hl⟩
    · simp [h]
    · simp [hm, hl]
  rw [State.doRecRead, s.twiAddress_awake _ hsup hawake, if_neg hserved, if_neg (by simp [hx]), if_neg (by simp [hx])]
  simp only [hx]
  cases x <;> rfl

/-- In no-stretch mode a read before the latch is ready is not acknowledged. -/
theorem State.doRecRead_early (hlatch : s.evr.twiLatch = none) (hstretch : s.on R.TWI_STAT_STRETCH 0 = false) :
    s.doRecRead = { s with evr := { s.evr with twiFetching := true } }.emit .twiNack := by
  have hserved : ¬(s.evr.twiArea ≠ 0 ∧ ((!s.seq.main) = true ∨ s.level = 0)) := by
    rcases harea with h | ⟨hm, hl⟩
    · simp [h]
    · simp [hm, hl]
  rw [State.doRecRead, s.twiAddress_awake _ hsup hawake, if_neg hserved, if_pos (by simp [hlatch, hstretch])]

end

/-! ### Packets (R413) -/

/-- A packet with a good PEC that the fast path serves joins its message. -/
theorem State.doMctp_served (s : State) (src tag : Nat) (som eom : Bool) (data : List Byte) (hmain : s.seq.main = true)
    (hsleep : s.on R.TWI_STAT_SLEEP 0 = false) (hfast : s.fastPath = true) :
    s.doMctp src tag som eom data true = s.mctpPacket src tag som eom (data.map (fun (b : Byte) => b.toNat)) := by
  rw [State.doMctp, s.twiAddress_awake _ (.inl hmain) (.inr hsleep), if_neg (by simp [hfast])]
  rfl

/-- The first of several packets opens a message where none of its source and tag is in assembly and there is room. -/
theorem State.mctpPacket_opens (s : State) {src tag : Nat} {data : List Nat}
    (hnew : s.twi.asm.any (fun m => decide (m.src = src) && decide (m.tag = tag)) = false) (hroom : s.twi.asm.length < 4)
    (hlen : data.length ≤ 64) :
    s.mctpPacket src tag true false data =
      { s with twi := { s.twi with
        asm := s.twi.asm ++ [({ src := src, tag := tag, data := data, tick := s.tick } : MctpAsm)] } } := by
  have hnone : s.twi.asm.find? (fun m => decide (m.src = src) && decide (m.tag = tag)) = none := by
    simpa using hnew
  have hkept : s.twi.asm.filter (fun m => !decide (m.src = src) || !decide (m.tag = tag)) = s.twi.asm :=
    List.filter_eq_self.mpr fun m hm => by simpa [not_or, imp_iff_not_or] using List.any_eq_false.mp hnew m hm
  have hsmall : ¬64 < data.length ∧ ¬4224 < data.length := by omega
  have hfits : ¬4 ≤ s.twi.asm.length := by omega
  simp [State.mctpPacket, hnone, hkept, hsmall, hfits]

/-- Settles O36: each command on the state whose responses are cleared. -/
theorem twoWireCommandCodesAndAlerts : Obligations.TwoWireCommandCodesAndAlerts := by
  refine ⟨?_, ?_, ?_, ?_, ?_, ?_, ?_, ?_, ?_, ?_, ?_, ?_, ?_, ?_⟩
  · intro s hsup hawake
    exact exec_eq_after (·.doIdent) rfl (s.fresh.twiAddress_awake _ hsup hawake)
  · intro s hsup hawake
    exact exec_eq_after (·.doStatus) rfl (s.fresh.twiAddress_awake _ hsup hawake)
  · intro s mask hsup hawake hmask
    refine exec_eq_after (·.doAlertAck mask true) rfl ((s.fresh.twiAddress_awake _ hsup hawake).trans ?_)
    rw [Nat.mod_eq_of_lt hmask]
    rfl
  · intro s mask hsup hawake
    exact exec_eq_after (·.doAlertAck mask false) rfl (s.fresh.twiAddress_awake _ hsup hawake)
  · intro s area index hsup hawake harea hindex
    refine exec_eq_after (·.doRecSel area index true) rfl ((s.fresh.twiAddress_awake _ hsup hawake).trans ?_)
    rw [Nat.mod_eq_of_lt harea, Nat.mod_eq_of_lt hindex]
    rfl
  · intro s hsup hawake harea hlatch
    exact exec_eq_after (·.doRecRead) rfl (State.doRecRead_latched (s := s.fresh) hsup hawake harea hlatch)
  · intro s hsup hawake harea hlatch hstretch
    exact exec_eq_after (·.doRecRead) rfl (State.doRecRead_early (s := s.fresh) hsup hawake harea hlatch hstretch)
  · intro s src tag data hmain hsleep hfast hnew hroom hlen
    exact exec_eq_after (·.doMctp src tag true false data true) rfl
      ((s.fresh.doMctp_served src tag true false data hmain hsleep hfast).trans
        (s.fresh.mctpPacket_opens hnew hroom (by simpa using hlen)))
  · intro s src tag som eom data hmain hsleep hfast
    exact exec_eq_after (·.doMctp src tag som eom data true) rfl
      (s.fresh.doMctp_served src tag som eom data hmain hsleep hfast)
  · intro s hdriven
    exact exec_eq_after (·.doAlertResponse true) rfl (if_neg (by simp [hdriven]))
  · intro s
    exact exec_eq_after (·.doAlertResponse false) rfl (ite_self _)
  · intro s src tag hlate
    exact exec_eq_after (·.doMctpAssemblyTimeout src tag) rfl (if_pos hlate)
  · intro s hmain hsleep hstretch
    exact exec_eq_after (·.doFastPathWake) rfl
      ((s.fresh.doFastPathWake_asleep hmain hsleep).trans (if_pos hstretch))
  · intro s hmain hsleep hstretch
    exact exec_eq_after (·.doFastPathWake) rfl
      ((s.fresh.doFastPathWake_asleep hmain hsleep).trans (if_neg (by simp [hstretch])))

/-! ### Messages (R413, R414) -/

/-- An NVMe-MI message is processed at once where Odber runs (R443). -/
theorem State.miServe_of_now (s : State) (i : Instr) (f : State → State) (h : s.mctpNow = true)
    (hodber : s.boot.bootBlock = false) : s.miServe i f = f s := by
  rw [State.miServe, s.mctpServe_of_now _ _ h, if_neg (by simp [hodber])]

theorem State.eidNow_of_static (s : State) (h : s.ergBase 0x06 3 0 ≠ 0) : s.eidNow = s.ergBase 0x06 3 0 :=
  if_pos h

/-! ### The tunnel of admin commands (R414) -/

section
variable (s : State) {ctrl nsid arg : Nat} (hnow : s.mctpNow = true) (hodber : s.boot.bootBlock = false)
  (hctrl : s.fnIds.contains ctrl = true)
include hnow hodber hctrl

theorem State.tunnel_identify {d : List Nat} (hd : s.identify ctrl (arg % 256) nsid = some d) :
    s.doNvmeAdminTunnel ctrl 0x06 nsid arg = s.emit (.cqe ctrl 0 0 0 0 d) := by
  rw [State.doNvmeAdminTunnel, s.miServe_of_now _ _ hnow hodber, if_neg (not_not.mpr hctrl)]
  simp only [hd]

theorem State.tunnel_logPage {d : List Nat} (hpage : [0x01, 0x02, 0x03, 0xC0, 0xC1].contains (arg % 256) = true)
    (hd : s.logPage ctrl (arg % 256) = some d) :
    s.doNvmeAdminTunnel ctrl 0x02 nsid arg = s.emit (.cqe ctrl 0 0 0 0 d) := by
  rw [State.doNvmeAdminTunnel, s.miServe_of_now _ _ hnow hodber, if_neg (not_not.mpr hctrl)]
  simp only [hd, if_pos hpage, Option.getD_some]

theorem State.tunnel_feature {v : Nat} (hv : s.featureOf ctrl (arg % 256) nsid = some v) :
    s.doNvmeAdminTunnel ctrl 0x0A nsid arg = s.emit (.cqe ctrl 0 0 0 0 [v]) := by
  rw [State.doNvmeAdminTunnel, s.miServe_of_now _ _ hnow hodber, if_neg (not_not.mpr hctrl)]
  simp only [hv]

/-- The tunnel carries Identify, Get Log Page and Get Features; any other opcode is an invalid one. -/
theorem State.tunnel_otherOpcode {opc : Nat} (h06 : opc ≠ 0x06) (h02 : opc ≠ 0x02) (h0A : opc ≠ 0x0A) :
    s.doNvmeAdminTunnel ctrl opc nsid arg = s.emit (.cqe ctrl 0 0 0 1 []) := by
  rw [State.doNvmeAdminTunnel, s.miServe_of_now _ _ hnow hodber, if_neg (not_not.mpr hctrl)]
  split
  · exact absurd rfl h06
  · exact absurd rfl h02
  · exact absurd rfl h0A
  · rfl

end

/-- Settles O37: each message on the state whose responses are cleared. The layouts of the control and NVMe-MI answers (log 146)
are PRESUMED. -/
theorem managementMessages : Obligations.ManagementMessages := by
  refine ⟨?_, ?_, ?_, ?_, ?_, ?_, ?_, ?_, ?_, ?_, ?_, ?_, ?_, ?_, ?_, ?_, ?_, ?_, ?_, ?_⟩
  · intro s eid hnow hne hlt hfree
    exact exec_eq_after (·.doSetEndpointId eid) rfl ((s.fresh.mctpServe_of_now _ _ hnow).trans
      ((if_neg (by omega)).trans (if_neg (not_not.mpr hfree))))
  · intro s eid hnow hne hlt hstatic
    refine exec_eq_after (·.doSetEndpointId eid) rfl ((s.fresh.mctpServe_of_now _ _ hnow).trans
      ((if_neg (by omega)).trans ((if_pos hstatic).trans ?_)))
    rw [s.fresh.eidNow_of_static hstatic]
    rfl
  · intro s hnow
    exact exec_eq_after (·.doGetEndpointId) rfl (s.fresh.mctpServe_of_now _ _ hnow)
  · intro s hnow
    exact exec_eq_after (·.doGetEndpointUuid) rfl (s.fresh.mctpServe_of_now _ _ hnow)
  · intro s mtype hnow hbase
    exact exec_eq_after (·.doGetMctpVersionSupport mtype) rfl ((s.fresh.mctpServe_of_now _ _ hnow).trans (if_pos hbase))
  · intro s mtype hnow h0 h255 h4 h7E
    exact exec_eq_after (·.doGetMctpVersionSupport mtype) rfl ((s.fresh.mctpServe_of_now _ _ hnow).trans
      ((if_neg (by omega)).trans (if_neg (by simp [mctpTypes, h0, h4, h7E]))))
  · intro s hnow
    exact exec_eq_after (·.doGetMessageTypeSupport) rfl (s.fresh.mctpServe_of_now _ _ hnow)
  · intro s hnow
    exact exec_eq_after (·.doGetVendorDefinedMessageSupport 0) rfl (s.fresh.mctpServe_of_now _ _ hnow)
  · intro s port ctrl hnow hodber
    exact exec_eq_after (·.doReadNvmeMiDataStructure 2 port ctrl) rfl (s.fresh.miServe_of_now _ _ hnow hodber)
  · intro s dtype port ctrl hnow hodber hle h2 h3
    exact exec_eq_after (·.doReadNvmeMiDataStructure dtype port ctrl) rfl ((s.fresh.miServe_of_now _ _ hnow hodber).trans
      ((if_neg h2).trans ((if_neg (by rintro ⟨h, hc⟩; exact h3.elim (· h) hc)).trans (if_pos hle))))
  · intro s clear hnow hodber
    exact exec_eq_after (·.doNvmSubsystemHealthStatusPoll clear) rfl (s.fresh.miServe_of_now _ _ hnow hodber)
  · intro s ctrl count hnow hodber
    exact exec_eq_after (·.doControllerHealthStatusPoll ctrl count) rfl (s.fresh.miServe_of_now _ _ hnow hodber)
  · intro s id value hnow hodber hid
    exact exec_eq_after (·.doConfigurationSet id value) rfl
      ((s.fresh.miServe_of_now _ _ hnow hodber).trans (if_pos hid))
  · intro s value hnow hodber hunit
    exact exec_eq_after (·.doConfigurationSet 3 value) rfl ((s.fresh.miServe_of_now _ _ hnow hodber).trans
      ((if_neg (by omega)).trans (if_pos ⟨rfl, hunit⟩)))
  · intro s hnow hodber
    exact exec_eq_after (·.doConfigurationGet 1) rfl (s.fresh.miServe_of_now _ _ hnow hodber)
  · intro s hnow hodber
    exact exec_eq_after (·.doConfigurationGet 3) rfl (s.fresh.miServe_of_now _ _ hnow hodber)
  · intro s ctrl nsid arg d hnow hodber hctrl hd
    exact exec_eq_after (·.doNvmeAdminTunnel ctrl 0x06 nsid arg) rfl
      (s.fresh.tunnel_identify hnow hodber hctrl hd)
  · intro s ctrl nsid arg d hnow hodber hctrl hpage hd
    exact exec_eq_after (·.doNvmeAdminTunnel ctrl 0x02 nsid arg) rfl
      (s.fresh.tunnel_logPage hnow hodber hctrl hpage hd)
  · intro s ctrl nsid arg v hnow hodber hctrl hv
    exact exec_eq_after (·.doNvmeAdminTunnel ctrl 0x0A nsid arg) rfl
      (s.fresh.tunnel_feature hnow hodber hctrl hv)
  · intro s ctrl opc nsid arg hnow hodber hctrl h06 h02 h0A
    exact exec_eq_after (·.doNvmeAdminTunnel ctrl opc nsid arg) rfl
      (s.fresh.tunnel_otherOpcode hnow hodber hctrl h06 h02 h0A)

end Sys2Proof.Machine
end

section
/-!
PROOFS. The statement about the controller transfers of the two-wire ports and their bus clears.
-/
namespace Sys2Proof.Machine

/-- A write of one field of an indexed register leaves another field of the same register as it was. -/
theorem State.rd_wr_row (s : State) (f g : Fld) (v i : Nat) (hst : g.st = f.st)
    (hne : 8 * g.base + g.lo ≠ 8 * f.base + f.lo) : (s.wr f v i 0).rd g i 0 = s.rd g i 0 :=
  s.rd_wr_other f g v i 0 i 0 (by simp only [Fld.key, hst]; omega)

/-! ### Transfers (R401, R404, R409) -/

section
variable (s : State) {x : TwiXfer} (hseg : x.port = 0 ∨ s.ergBase 0x06 5 0 = 0 ∨ s.twi.mux = x.seg + 1)
  (harb : x.losses < s.rd R.TWI_POL_ARB_MAX x.port)
include hseg harb

/-- A transfer whose segment needs no selection and that wins the bus stays in progress where its address is not answered and a
retry is allowed; otherwise it ends with its outcome as its status. -/
theorem State.xferRun_won (hout : x.outcome ≤ 2) :
    s.xferRun x =
      let t : State := s.addSat R.TWI_CNT1_ARB_LOST (min x.losses (s.rd R.TWI_POL_ARB_MAX x.port)) x.port
      if x.outcome = 1 ∧ s.rd R.TWI_POL_RETRY_N x.port ≠ 0 then
        { t with twi := { s.twi with run := smSet none x.port (some { x with tries := 1 }) s.twi.run } }.wr
          R.TWI_STAT_STATE 1 x.port
      else t.xferEnd { x with tries := 1 } x.outcome := by
  have hnosel : (decide (x.port = 1) && decide (s.ergBase 0x06 5 0 ≠ 0) && decide (s.twi.mux ≠ x.seg + 1)) = false := by
    rcases hseg with h | h | h <;> simp [h]
  have hwon (n : Nat) : ¬(s.addSat R.TWI_CNT1_ARB_LOST n x.port).rd R.TWI_POL_ARB_MAX x.port ≤ x.losses := by
    rw [State.addSat, State.rd_wr_row _ R.TWI_CNT1_ARB_LOST R.TWI_POL_ARB_MAX _ _ rfl (by decide)]
    omega
  unfold State.xferRun
  simp only [hnosel, Bool.false_and, Bool.false_eq_true, if_false, if_neg (hwon _)]
  obtain h | h | h : x.outcome = 0 ∨ x.outcome = 1 ∨ x.outcome = 2 := by omega
  · simp [h]
  · by_cases hn : s.rd R.TWI_POL_RETRY_N x.port = 0 <;> simp [h, hn]
  · simp [h]

end

/-- The transfer that a command asks for, before it is on the bus. -/
def State.xferAsked (s : State) (port addr seg outcome losses : Nat) (muxNack : Bool) : TwiXfer :=
  { port := port, addr := addr, seg := seg, outcome := outcome, losses := losses, tries := 0,
    pec := decide (port = 0) || (bit (s.ergBase 0x06 14 0) 8 && decide (addr = s.pol 0x12 6 0)), muxNack := muxNack }

section
variable {s : State} {port addr seg outcome losses : Nat} {muxNack : Bool}

/-- A transfer of a port that is not clearing or faulted, with none in progress, goes on the bus. -/
theorem State.doTwi1Transfer_starts (hport : port < 2) (haddr : addr < 128) (hseg : seg < 4) (hsave : s.saveHard = false)
    (hstate : s.rd R.TWI_STAT_STATE port < 3) (hrun : smGet none s.twi.run port = none) :
    s.doTwi1Transfer port addr seg outcome losses muxNack =
      s.xferRun (s.xferAsked port addr seg outcome losses muxNack) := by
  rw [State.doTwi1Transfer, if_neg (by omega)]
  dsimp only
  rw [if_neg (by simp [hsave]), if_neg (by omega), if_neg (by simp [hrun]), Nat.mod_eq_of_lt haddr, Nat.mod_eq_of_lt hseg]
  rfl

/-- Such a transfer waits behind one in progress. -/
theorem State.doTwi1Transfer_waits (hport : port < 2) (hsave : s.saveHard = false)
    (hstate : s.rd R.TWI_STAT_STATE port < 3) (hrun : (smGet none s.twi.run port).isSome = true) :
    s.doTwi1Transfer port addr seg outcome losses muxNack =
      { s with twi := { s.twi with queue :=
        s.twi.queue ++ [s.xferAsked port (addr % 128) (seg % 4) outcome losses muxNack] } } := by
  rw [State.doTwi1Transfer, if_neg (by omega)]
  dsimp only
  rw [if_neg (by simp [hsave]), if_neg (by omega), if_pos hrun]
  rfl

/-- A transfer of a port that is clearing, waits between attempts or is faulted ends with Bus Fault. -/
theorem State.doTwi1Transfer_faulted (hport : port < 2) (haddr : addr < 128) (hstate : 3 ≤ s.rd R.TWI_STAT_STATE port)
    (hsave : s.saveHard = false) :
    s.doTwi1Transfer port addr seg outcome losses muxNack =
      s.xferEnd (s.xferAsked port addr (seg % 4) outcome losses muxNack) 6 := by
  rw [State.doTwi1Transfer, if_neg (by omega)]
  dsimp only
  rw [if_neg (by simp [hsave]), if_pos hstate, Nat.mod_eq_of_lt haddr]
  rfl

end

/-! ### Retries and time-outs (R406, R409) -/

section
variable (s : State) {port : Nat} {x : TwiXfer} (hx : smGet none s.twi.run port = some x)
include hx

/-- A transfer that waits for its address to be answered is tried again. -/
theorem State.doAddressRetry_tries (hout : x.outcome = 1) (acked : Bool) :
    s.doAddressRetry port acked =
      if acked then (s.xferEnd { x with tries := x.tries + 1 } 0).xferIdle port
      else if s.rd R.TWI_POL_RETRY_N port < x.tries + 1 then (s.xferEnd { x with tries := x.tries + 1 } 1).xferIdle port
      else { s with twi := { s.twi with
        run := smSet none port (some { x with tries := x.tries + 1 }) s.twi.run } } := by
  rw [State.doAddressRetry]
  simp only [hx, if_neg (not_not.mpr hout)]

theorem State.doTargetStretchTimeout_running :
    s.doTargetStretchTimeout port = ((s.inc R.TWI_CNT1_TMO port).xferEnd x 5).xferIdle port := by
  rw [State.doTargetStretchTimeout]
  simp only [hx]

end

/-- SCL held low ends a reception of TWI0. -/
theorem State.doTargetSclTimeout_target (s : State) :
    s.doTargetSclTimeout 0 =
      let x : State := s.inc R.TWI_CNT1_TMO 0
      if s.rd R.TWI_STAT_STATE 0 = 2 then x.wr R.TWI_STAT_STATE 0 0 else x := by
  have hstate : (s.inc R.TWI_CNT1_TMO 0).rd R.TWI_STAT_STATE 0 = s.rd R.TWI_STAT_STATE 0 :=
    State.rd_wr_other _ _ _ _ _ _ _ _ (by decide)
  rw [← hstate]
  rfl

/-! ### Bus clears (R416) -/

section
variable (s : State) {port : Nat} (hport : port < 2) (hwait : s.rd R.TWI_STAT_STATE port ≠ 4)
  (hfault : s.rd R.TWI_STAT_STATE port ≠ 5) (hrun : smGet none s.twi.run port = none)
include hport hwait hfault hrun

/-- A bus that comes free returns the port to Idle with a fresh count of attempts. -/
theorem State.doBusClearAttempt_freed :
    s.doBusClearAttempt port true =
      ((s.wr R.TWI_STAT_STATE 3 port).wr R.TWI_STAT_CLR_TRY 0 port).xferIdle port := by
  rw [State.doBusClearAttempt, if_neg (by omega)]
  simp only [hrun, if_true]

/-- A failed attempt is counted and recorded; the third leaves the port Faulted, and any other one waits. -/
theorem State.doBusClearAttempt_failed :
    s.doBusClearAttempt port false =
      let n : Nat := s.rd R.TWI_STAT_CLR_TRY port + 1
      let x : State := (((s.wr R.TWI_STAT_STATE 3 port).wr R.TWI_STAT_CLR_TRY n port).inc R.TWI_CNT1_STUCK port).signal
        (.fixed 0x0E01 2) 0xFFFFFFFF [port, n]
      if 3 ≤ n then
        let y : State := (x.wr R.TWI_STAT_STATE 5 port).xferFlush port 6
        if port = 1 then ((y.alert 6).put R.GAU_ID_SER_OK false).wr R.GAU_SER_SER 0 else y
      else
        { x.wr R.TWI_STAT_STATE 4 port with
          twi := { x.twi with waitAt := smSet 0 port (x.tick + 1148) x.twi.waitAt } } := by
  have htry : (s.wr R.TWI_STAT_STATE 3 port).rd R.TWI_STAT_CLR_TRY port = s.rd R.TWI_STAT_CLR_TRY port :=
    State.rd_wr_row _ _ _ _ _ rfl (by decide)
  rw [State.doBusClearAttempt, if_neg (by omega)]
  simp only [hrun, htry]
  rfl

end

/-- Settles O38: each command on the state whose responses are cleared. That a transfer of a port that is clearing, waits between
attempts or is faulted ends with Bus Fault is the model's choice (log 150, DEDUCED), and when an unanswered address is sent again is
the sender's (log 231, DEDUCED). -/
theorem twoWireTransfers : Obligations.TwoWireTransfers := by
  refine ⟨?_, ?_, ?_, ?_, ?_, ?_, ?_, ?_, ?_, ?_, ?_, ?_, ?_, ?_, ?_, ?_⟩
  · intro s port addr seg losses muxNack hport haddr hseg hsave hstate hrun hmux harb
    exact exec_eq_after (·.doTwi1Transfer port addr seg 0 losses muxNack) rfl
      ((State.doTwi1Transfer_starts (s := s.fresh) hport haddr hseg hsave hstate hrun).trans
        ((s.fresh.xferRun_won hmux harb (show 0 ≤ 2 by decide)).trans (if_neg fun h => absurd h.1 (show (0 : Nat) ≠ 1 by decide))))
  · intro s port addr seg losses muxNack hport haddr hseg hsave hstate hrun hmux harb hretry
    exact exec_eq_after (·.doTwi1Transfer port addr seg 1 losses muxNack) rfl
      ((State.doTwi1Transfer_starts (s := s.fresh) hport haddr hseg hsave hstate hrun).trans
        ((s.fresh.xferRun_won hmux harb (show 1 ≤ 2 by decide)).trans (if_neg fun h => h.2 hretry)))
  · intro s port addr seg losses muxNack hport haddr hseg hsave hstate hrun hmux harb hretry
    exact exec_eq_after (·.doTwi1Transfer port addr seg 1 losses muxNack) rfl
      ((State.doTwi1Transfer_starts (s := s.fresh) hport haddr hseg hsave hstate hrun).trans
        ((s.fresh.xferRun_won hmux harb (show 1 ≤ 2 by decide)).trans (if_pos ⟨rfl, hretry⟩)))
  · intro s port addr seg losses muxNack hport haddr hseg hsave hstate hrun hmux harb
    exact exec_eq_after (·.doTwi1Transfer port addr seg 2 losses muxNack) rfl
      ((State.doTwi1Transfer_starts (s := s.fresh) hport haddr hseg hsave hstate hrun).trans
        ((s.fresh.xferRun_won hmux harb (show 2 ≤ 2 by decide)).trans (if_neg fun h => absurd h.1 (show (2 : Nat) ≠ 1 by decide))))
  · intro s port addr seg outcome losses muxNack hport hsave hstate hrun
    exact exec_eq_after (·.doTwi1Transfer port addr seg outcome losses muxNack) rfl
      (State.doTwi1Transfer_waits (s := s.fresh) hport hsave hstate hrun)
  · intro s port addr seg outcome losses muxNack hport haddr hstate hsave _
    exact exec_eq_after (·.doTwi1Transfer port addr seg outcome losses muxNack) rfl
      (State.doTwi1Transfer_faulted (s := s.fresh) hport haddr hstate hsave)
  · intro s port x hx hout _
    exact exec_eq_after (·.doAddressRetry port true) rfl (s.fresh.doAddressRetry_tries hx hout true)
  · intro s port x hx hout _ hlast
    exact exec_eq_after (·.doAddressRetry port false) rfl
      ((s.fresh.doAddressRetry_tries hx hout false).trans (if_pos hlast))
  · intro s port x hx hout _ hmore
    exact exec_eq_after (·.doAddressRetry port false) rfl
      ((s.fresh.doAddressRetry_tries hx hout false).trans (if_neg (Nat.not_lt.mpr hmore)))
  · intro s port x hx
    exact exec_eq_after (·.doTargetStretchTimeout port) rfl (s.fresh.doTargetStretchTimeout_running hx)
  · intro s hstretch
    exact exec_eq_after (·.doStretchLimit) rfl (if_pos hstretch)
  · intro s
    exact exec_eq_after (·.doTargetSclTimeout 0) rfl s.fresh.doTargetSclTimeout_target
  · intro s port hport hwait hfault hrun
    exact exec_eq_after (·.doBusClearAttempt port true) rfl (s.fresh.doBusClearAttempt_freed hport hwait hfault hrun)
  · intro s port hport hwait hfault hrun hearly
    exact exec_eq_after (·.doBusClearAttempt port false) rfl
      ((s.fresh.doBusClearAttempt_failed hport hwait hfault hrun).trans
        (if_neg (fun h : 3 ≤ s.rd R.TWI_STAT_CLR_TRY port + 1 => by omega)))
  · intro s port hport hwait hfault hrun hthird
    exact exec_eq_after (·.doBusClearAttempt port false) rfl
      ((s.fresh.doBusClearAttempt_failed hport hwait hfault hrun).trans
        (if_pos (show 3 ≤ s.rd R.TWI_STAT_CLR_TRY port + 1 by omega)))
  · intro s port hstate hset hdue
    exact exec_eq_after (·.doClearWaitExpiry port) rfl (if_pos ⟨hstate, hset, hdue⟩)

end Sys2Proof.Machine
end

section
/-!
PROOFS. The statement about the descriptors and the reads of the two code-flash banks.
-/
namespace Sys2Proof.Machine

/-! ### Programs (R430, R431) -/

section
variable (s : State) {bank : Nat} (data : List Byte) {d : CflDesc} (hd : s.nextDesc bank = some d) (hop : d.op = 1)
include hd hop

theorem State.doProgram_idle (hidle : s.bankSt bank = 0) :
    s.doProgram bank data = s.programStart d (data.map fun b => b.toNat) 1 := by
  rw [State.doProgram]
  simp only [hd, if_neg (not_not.mpr hop), if_pos hidle]

/-- A program that may suspend suspends the erase of another sector, which its owner still owns. -/
theorem State.doProgram_suspends {e : CflDesc} (hsus : d.sus = true) (hbusy : s.bankSt bank = 2)
    (he : s.runDesc bank 2 = some e) (howned : e.by0 ≠ 0) (hother : d.addr / 65536 ≠ e.addr / 65536)
    (hsusps : e.susps < 32) :
    s.doProgram bank data =
      ((s.setDesc { e with stage := 2, susps := e.susps + 1 }).setBankSt bank 3).programSus bank d
        (data.map fun b => b.toNat) := by
  rw [State.doProgram]
  simp [hd, hop, hsus, hbusy, he, howned, hother, hsusps]

end

section
variable (s : State) {d : CflDesc} (data : List Nat) (st : Nat)

/-- A program of a protected sector ends at once. -/
theorem State.programStart_protected (h : s.protectedSector (d.addr / 65536) = true) :
    s.programStart d data st = s.cflEnd { d with data := data } 3 0 d.addr := if_pos h

/-- Otherwise one of a sector whose erase was interrupted ends at once. -/
theorem State.programStart_interrupted (h : s.protectedSector (d.addr / 65536) = false)
    (heint : s.eint (d.addr / 65536) = true) :
    s.programStart d data st = s.cflEnd { d with data := data } 5 0 d.addr :=
  (if_neg (by simp [h])).trans (if_pos heint)

/-- Otherwise it runs, unless its first page is not erased. -/
theorem State.programStart_writable (h : s.protectedSector (d.addr / 65536) = false)
    (heint : s.eint (d.addr / 65536) = false) :
    s.programStart d data st =
      if s.notErased (d.addr / 4) (pageWords data 0) then s.cflEnd { d with data := data } 4 0 d.addr
      else (s.setDesc { d with data := data, stage := 1 }).setBankSt d.bank st :=
  (if_neg (by simp [h])).trans (if_neg (by simp [heint]))

end

section
variable (s : State) {bank : Nat} (pulses : Nat) {d : CflDesc} (hd : s.runDesc bank 1 = some d)
  (herased : s.firstBad d d.count = none)
include hd herased

/-- A program whose pages are erased and verify writes them all. -/
theorem State.doCflProgramDone_ok :
    s.doCflProgramDone bank pulses 0 =
      ((s.cflPages d d.count).cflEnd d 0 pulses (d.addr + 256 * (d.count - 1))).eraseResume bank := by
  rw [State.doCflProgramDone]
  simp [hd, herased]

/-- A program whose page fails verify writes the pages before it, and part of that page. -/
theorem State.doCflProgramDone_fails {fail : Nat} (hfail : 1 ≤ fail) (hin : fail ≤ d.count) :
    s.doCflProgramDone bank pulses fail =
      ((((s.cflPages d (fail - 1)).cflPartial (d.addr / 4 + 64 * (fail - 1)) (pageWords d.data (fail - 1))).put
        R.CFL_STAT_FAIL_P true).cflEnd d 1 8 (d.addr + 256 * (fail - 1))).eraseResume bank := by
  have hpage : fail ≠ 0 ∧ fail - 1 < d.count := by omega
  rw [State.doCflProgramDone]
  simp only [hd, herased, if_pos hpage]

end

/-! ### Erases and selections (R430, R437) -/

section
variable (s : State) {bank : Nat} {d : CflDesc}

/-- The erase at the head of an idle bank starts unless its sector is protected, from the committer while it is frozen. -/
theorem State.doErase_idle (hd : s.nextDesc bank = some d) (hop : d.op = 2) (hidle : s.bankSt bank = 0) :
    s.doErase bank =
      if (if d.by0 = 5 then s.wpFrozen (d.addr / 65536) else s.protectedSector (d.addr / 65536)) then s.cflEnd d 3 0 d.addr
      else ((s.eraseStart (d.addr / 65536)).setDesc { d with stage := 1 }).setBankSt bank 2 := by
  rw [State.doErase]
  simp only [hd, hop, hidle, ne_eq, not_true_eq_false, or_self, if_false]

/-- An erase that runs ends OK, or with its failure. -/
theorem State.doCflEraseDone_running (hd : s.runDesc bank 2 = some d) (hstage : d.stage = 1) (pulses : Nat) (pass : Bool) :
    s.doCflEraseDone bank pulses pass =
      (if pass then ((s.setBankSt bank 0).eraseOk (d.addr / 65536)).cflEnd d 0 pulses d.addr
        else ((s.setBankSt bank 0).put R.CFL_STAT_FAIL_E true).cflEnd d 2 24 d.addr).committerRelease := by
  rw [State.doCflEraseDone]
  simp only [hd, if_neg (not_not.mpr hstage)]

/-- The selection at the head of bank 0 writes the next word while a number is left for it. -/
theorem State.doSelect_idle (hd : s.nextDesc 0 = some d) (hop : d.op = 3) (hidle : s.bankSt 0 = 0) :
    s.doSelect =
      if s.cfl.selAny ∧ s.cfl.selSeq = 0xFFFF then s.cflEnd d 8 0 0 else (s.selectWord d.ba).cflEnd d 0 0 0 := by
  rw [State.doSelect]
  simp only [hd, hop, hidle, ne_eq, not_true_eq_false, or_self, if_false]

end

/-! ### Reads (R426) -/

section
variable (s : State) {core addr : Nat} (hcore : s.coreRuns core = true) (haddr : addr < 33554432)
include hcore haddr

theorem State.doBankRead_idle (hidle : s.bankSt (addr / 16777216) = 0) :
    s.doBankRead core addr = s.emit (.coreData core addr (s.cflWord (addr / 4))) := by
  have hmod : addr % 33554432 = addr := Nat.mod_eq_of_lt haddr
  simp [State.doBankRead, hmod, hidle, hcore]

/-- A read of a bank that programs is a bus fault. -/
theorem State.doBankRead_busy (hbusy : s.bankSt (addr / 16777216) = 1) :
    s.doBankRead core addr = (s.inc R.CFL_BFLT_BFLT).emit (.busFault (addr / 16777216) addr) := by
  have hmod : addr % 33554432 = addr := Nat.mod_eq_of_lt haddr
  simp [State.doBankRead, hmod, hbusy, hcore]

end

/-- Settles O39: each command on the state whose responses are cleared. A selection without a valid word writes SEQ 0 (log 155) and
the program that ends at once in a suspended erase lets the erase resume (log 184) by the model's choice (DEDUCED), and so is a word
of an interrupted sector an open value (log 152, DESIGN CHOICE). -/
theorem codeFlashBanks : Obligations.CodeFlashBanks := by
  refine ⟨?_, ?_, ?_, ?_, ?_, ?_, ?_, ?_, ?_, ?_, ?_, ?_, ?_, ?_⟩
  · intro s bank data d hd hop hidle hprot
    exact exec_eq_after (·.doProgram bank data) rfl
      ((s.fresh.doProgram_idle data hd hop hidle).trans (s.fresh.programStart_protected _ 1 hprot))
  · intro s bank data d hd hop hidle hprot heint
    exact exec_eq_after (·.doProgram bank data) rfl
      ((s.fresh.doProgram_idle data hd hop hidle).trans (s.fresh.programStart_interrupted _ 1 hprot heint))
  · intro s bank data d hd hop hidle hprot heint
    exact exec_eq_after (·.doProgram bank data) rfl
      ((s.fresh.doProgram_idle data hd hop hidle).trans (s.fresh.programStart_writable _ 1 hprot heint))
  · intro s bank data d e hd hop hsus hbusy he howned hother hsusps
    exact exec_eq_after (·.doProgram bank data) rfl
      (s.fresh.doProgram_suspends data hd hop hsus hbusy he howned hother hsusps)
  · intro s bank pulses d hd _ herased
    exact exec_eq_after (·.doCflProgramDone bank pulses 0) rfl (s.fresh.doCflProgramDone_ok pulses hd herased)
  · intro s bank pulses fail d hd herased hfail hin
    exact exec_eq_after (·.doCflProgramDone bank pulses fail) rfl
      (s.fresh.doCflProgramDone_fails pulses hd herased hfail hin)
  · intro s bank d hd hop hidle hopen
    exact exec_eq_after (·.doErase bank) rfl
      ((s.fresh.doErase_idle hd hop hidle).trans (if_neg (Bool.eq_false_iff.mp hopen)))
  · intro s bank d hd hop hidle howner hprot
    exact exec_eq_after (·.doErase bank) rfl
      ((s.fresh.doErase_idle hd hop hidle).trans (if_pos ((if_neg howner).trans hprot)))
  · intro s bank pulses d hd hstage
    exact exec_eq_after (·.doCflEraseDone bank pulses true) rfl (s.fresh.doCflEraseDone_running hd hstage pulses true)
  · intro s bank pulses d hd hstage
    exact exec_eq_after (·.doCflEraseDone bank pulses false) rfl (s.fresh.doCflEraseDone_running hd hstage pulses false)
  · intro s d hd hop hidle hnumber
    exact exec_eq_after (·.doSelect) rfl ((s.fresh.doSelect_idle hd hop hidle).trans
      (if_neg fun ⟨hany, hseq⟩ => hnumber.elim (fun h => Bool.eq_false_iff.mp h hany) (fun h => h hseq)))
  · intro s d hd hop hidle hany hseq
    exact exec_eq_after (·.doSelect) rfl ((s.fresh.doSelect_idle hd hop hidle).trans (if_pos ⟨hany, hseq⟩))
  · intro s core addr hcore haddr hidle
    exact exec_eq_after (·.doBankRead core addr) rfl (s.fresh.doBankRead_idle hcore haddr hidle)
  · intro s core addr hcore haddr hbusy
    exact exec_eq_after (·.doBankRead core addr) rfl (s.fresh.doBankRead_busy hcore haddr hbusy)

end Sys2Proof.Machine
end

section
/-!
PROOFS. The statement about the event recorder, its committer and its prefetches, and about the download of firmware.
-/
namespace Sys2Proof.Machine

/-! ### From event to record (R459, R461) -/

/-- Within a rate window its end is not due. -/
theorem State.doRateWindowEnd_within (s : State) (h : s.tick / 32768 = s.evr.winAt / 32768) : s.doRateWindowEnd = s :=
  if_pos h

/-- At its end each type suppressed in the window raises one record, and the counts start afresh. -/
theorem State.doRateWindowEnd_over (s : State) (h : s.tick / 32768 ≠ s.evr.winAt / 32768) :
    s.doRateWindowEnd =
      let x : State := s.evr.supp.reverse.foldl (fun t e => t.recEnter [t.suppRecord e]) s
      { x with evr := { x.evr with seen := [], supp := [], winAt := x.tick / 32768 * 32768 } } := if_neg h

theorem State.doEventRaise_none (s : State) (h : s.tick / 32768 = s.evr.winAt / 32768) (hnone : s.evr.reports = []) :
    s.doEventRaise = s := by
  rw [State.doEventRaise, s.doRateWindowEnd_within h]
  simp only [hnone, List.takeWhile_nil, List.drop_nil]

/-- The oldest report, of no group, becomes a record unless its type is over its rate. -/
theorem State.doEventRaise_oldest (s : State) {r : EvReport} {rest : List EvReport}
    (h : s.tick / 32768 = s.evr.winAt / 32768) (hreports : s.evr.reports = r :: rest) (hgrp : r.grp = 0)
    (howner : s.reportable r = true) :
    s.doEventRaise =
      let x : State := { s with evr := { s.evr with reports := rest } }
      if !neverSuppressed r.typ && decide (s.rd R.EVR_CFG_RATE_MAX ≤ seenOf s.evr.seen r.typ) then
        let y : State := x.inc R.EVR_SUPP_SUPP
        { y with evr := { y.evr with supp := seenAdd y.evr.supp r.typ } }
      else
        let y : State := { x with evr := { x.evr with seen := seenAdd x.evr.seen r.typ } }
        (y.recEnter [recOf r]).fsRaise (y.ownerOf (r.typ.num / 256)) := by
  have hfirst : (r :: rest).takeWhile (fun x => !s.reportable x) = [] := by simp [howner]
  rw [State.doEventRaise, s.doRateWindowEnd_within h]
  simp only [hfirst, hreports, hgrp, List.length_nil, List.drop_zero, List.nil_append, Nat.zero_ne_one, if_false,
    List.map_cons, List.map_nil]
  rfl

/-! ### The committer (R424, R463) -/

/-- The committer's claim leaves the registers outside the bank's ownership and EVR_STAT.COMMIT as they were. -/
theorem State.committerOwns_rd_other (s : State) (b : Bool) (f : Fld) (i : Nat)
    (howner : f.key i ≠ R.CFL_OWN_OWNER.key 1) (hreset : f.key i ≠ R.CFL_OWN_OWNER_RESET.key 1)
    (hcommit : f.key i ≠ R.EVR_STAT_COMMIT.key) : (s.committerOwns b).rd f i = s.rd f i :=
  (State.rd_wr_other _ _ _ _ _ _ _ _ hcommit).trans
    ((State.rd_wr_other _ _ _ _ _ _ _ _ hreset).trans (State.rd_wr_other _ _ _ _ _ _ _ _ howner))

theorem State.committerOwns_eint (s : State) (b : Bool) (sector : Nat) : (s.committerOwns b).eint sector = s.eint sector :=
  congrArg (bit · (sector % 32)) (s.committerOwns_rd_other b R.CFL_EINT_EINT (sector / 32)
    (by simp only [Fld.key, R.CFL_EINT_EINT, R.CFL_OWN_OWNER]; omega)
    (by simp only [Fld.key, R.CFL_EINT_EINT, R.CFL_OWN_OWNER_RESET]; omega)
    (by simp only [Fld.key, R.CFL_EINT_EINT, R.EVR_STAT_COMMIT]; omega))

theorem State.doRecordCommit_none (s : State) (good : Bool) (hnext : s.nextRecord = none) :
    s.doRecordCommit good = s.committerRelease := by
  rw [State.doRecordCommit]
  simp only [hnext]

/-- With the bank, no erase on it and its sector's protection clear, the committer programs the next record. -/
theorem State.doRecordCommit_programs (s : State) (good : Bool) {r : EvRecord} (hnext : s.nextRecord = some r)
    (hmain : s.seq.main = true) (hstage : 2 ≤ s.rd R.BST_STAT_STAGE) (hbank : s.committerBank = true)
    (hroom : s.cfl.queue.length < 64) (herase : s.erase1 = none) (hidle : s.rd R.CFL_STAT_B1_ST = 0)
    (heint : s.eint (459 + poolSlot (s.rd R.EVR_NEXT_SEQ) / 1024) = false)
    (hfrozen : s.wpFrozen (459 + poolSlot (s.rd R.EVR_NEXT_SEQ) / 1024) = false) :
    s.doRecordCommit good = ((s.committerOwns true).commitOne r good).committerRelease := by
  have hseq : (s.committerOwns true).rd R.EVR_NEXT_SEQ = s.rd R.EVR_NEXT_SEQ :=
    s.committerOwns_rd_other true _ _ (by decide) (by decide) (by decide)
  have hbusy : (s.committerOwns true).rd R.CFL_STAT_B1_ST = 0 :=
    (s.committerOwns_rd_other true _ _ (by decide) (by decide) (by decide)).trans hidle
  have hnoerase : (s.committerOwns true).erase1 = none := herase
  have hearly : ¬s.rd R.BST_STAT_STAGE < 2 := by omega
  have hfull : ¬64 ≤ s.cfl.queue.length := by omega
  rw [State.doRecordCommit]
  simp [hnext, hmain, hearly, hfrozen, hbank, hfull, hnoerase, hbusy, hseq, s.committerOwns_eint, heint]

/-! ### Firmware blocks (R473, R474) -/

/-- A block of which every byte has arrived is checked by its CRC; a sound one is programmed unless it is there already or its
sector's protection stands frozen. -/
theorem State.doFirmwareBlockReceived_whole (s : State) {block : Nat} (hopen : s.rd R.FWU_STAT_STATE = 1)
    (hin : block < 3072)
    (hwhole : (List.range 4096).all (fun k => (s.fwPart (4096 * block + k)).isSome) = true) :
    s.doFirmwareBlockReceived block =
      let bs : List Nat := (List.range 4096).map (fun k => (s.fwPart (4096 * block + k)).getD 0)
      let x : State := { s with fwu := { s.fwu with part := smErase (fun k => decide (k / 4096 = block)) s.fwu.part } }
      if crc32c (bs.take 4092) ≠ ofLe (bs.drop 4092) then
        (x.inc R.FWU_DLST_CRC_ERR).fwFailWaits (fun e => e.2.contains block)
      else if s.fwu.blocks.contains block then
        (if x.fwBytes (1 - s.fwu.run) (1024 * block) 1024 = bs then x.fwBlockDone block else x.fwAbandon)
      else if s.wpFrozen (fwSector (1 - s.fwu.run) + block / 16) then x
      else (x.fwProgram block bs).fwBlockDone block := by
  have hall : ((List.range 4096).map (fun k => s.fwPart (4096 * block + k))).any (fun b => b.isNone) = false := by
    simpa [List.any_eq_false, List.all_eq_true, Option.isSome_iff_ne_none] using hwhole
  rw [State.doFirmwareBlockReceived]
  dsimp only
  rw [if_neg (by simpa [hopen, hall] using hin), List.map_map]
  rfl

/-- Settles O41: each command on the state whose responses are cleared. The windows at whole multiples of 32,768 ticks (log 169), the
bank that the committer owns for a commit (log 153) and the torn slot of a commit that fails (log 167) are the model's choices
(DEDUCED), and so is the SEQ of a retained record an open value (log 166, DESIGN CHOICE). -/
theorem recorderAndDownload : Obligations.RecorderAndDownload := by
  refine ⟨?_, ?_, ?_, ?_, ?_, ?_, ?_, ?_, ?_, ?_⟩
  · intro s hwithin hnone
    exact exec_eq_after (·.doEventRaise) rfl (s.fresh.doEventRaise_none hwithin hnone)
  · intro s r rest hwithin hreports hgrp howner
    exact exec_eq_after (·.doEventRaise) rfl (s.fresh.doEventRaise_oldest hwithin hreports hgrp howner)
  · intro s hover hnone
    refine exec_eq_after (·.doRateWindowEnd) rfl ((s.fresh.doRateWindowEnd_over hover).trans ?_)
    simp only [State.fresh_evr, hnone, List.reverse_nil, List.foldl_nil]
    rfl
  · intro s e hover hone
    refine exec_eq_after (·.doRateWindowEnd) rfl ((s.fresh.doRateWindowEnd_over hover).trans ?_)
    simp only [State.fresh_evr, hone, List.reverse_singleton, List.foldl_cons, List.foldl_nil]
    rfl
  · intro s good r hnext hmain hstage hbank hroom herase hidle heint hfrozen
    exact exec_eq_after (·.doRecordCommit good) rfl
      (s.fresh.doRecordCommit_programs good hnext hmain hstage hbank hroom herase hidle heint hfrozen)
  · intro s good hnext
    exact exec_eq_after (·.doRecordCommit good) rfl (s.fresh.doRecordCommit_none good hnext)
  · intro s hfetching
    exact exec_eq_after (·.doPrefetchDone true) rfl (if_pos hfetching)
  · intro s hfetching
    exact exec_eq_after (·.doPrefetchDone false) rfl (if_pos hfetching)
  · intro s block hopen hin hwhole
    exact exec_eq_after (·.doFirmwareBlockReceived block) rfl
      (s.fresh.doFirmwareBlockReceived_whole hopen hin hwhole)
  · intro s hidle
    exact exec_eq_after (·.doDownloadIdleTimeout) rfl (if_pos hidle)

end Sys2Proof.Machine
end

section
/-!
PROOFS. The statements about the mailbox: its firmware commands and long operations, and its poison and sanitize commands.
-/
namespace Sys2Proof.Machine

/-! ### Firmware (R472, R477, R512) -/

section
variable (s : State) {port ld : Nat} (h : s.mbxServes port ld = true)
include h

/-- With one slot valid and none to follow the running one, the other slot's revision reads 0. -/
theorem State.doGetFwInfo_firstOnly (hnext : s.fwu.next = s.fwu.run) (hvalid : s.on R.FWU_SLOT_VALID 0 = true)
    (hinvalid : s.on R.FWU_SLOT_VALID 1 = false) :
    s.doGetFwInfo port ld =
      s.mbxDone (ldKey port ld) 0x0200 rcSuccess
        [2, s.fwu.run + 1, 0, 1, s.rd R.FWU_REV_FR 0, s.rd R.FWU_REV_FR 1, 0, 0] := by
  rw [State.doGetFwInfo, s.mbx_served h rfl]
  simp [hnext, hvalid, hinvalid]

/-- A transfer that starts takes its data where none is open and the data is whole blocks inside a slot. -/
theorem State.doTransferFw_starts (hdev : s.on R.MBX_STAT_DEVWIDE = false) (hclosed : s.rd R.FWU_STAT_STATE = 0) {off : Nat}
    {data : List Byte} (hoff : off % 4096 = 0) (hlen : data.length % 4096 = 0) (hne : data ≠ [])
    (hin : off + data.length ≤ 12582912) :
    s.doTransferFw port ld 1 1 off data =
      (s.fwData 3 off (data.map fun b => b.toNat)).2.mbxDone (ldKey port ld) 0x0201 rcSuccess := by
  obtain ⟨-, -, hact, -⟩ := (s.mbxServes_iff port ld).mp h
  have htaken : (s.fwData 3 off (data.map fun b => b.toNat)).1 = true :=
    (s.fwData_taken_iff ..).mpr (by simp [hclosed, hact]; omega)
  rw [State.doTransferFw, s.mbx_served h (by simp [hdev])]
  simp [hoff, hlen, hne, htaken]

/-- An offline activation of a slot makes it the next image where it verifies, and otherwise answers what failed. -/
theorem State.doActivateFw_offline (hdev : s.on R.MBX_STAT_DEVWIDE = false) {slot : Nat} (hslot : 1 ≤ slot) (hle : slot ≤ 2) :
    s.doActivateFw port ld 1 slot =
      let v : Nat × State := s.fwClose.fwCheck (slot - 1) 10
      if v.1 = 0 then (v.2.fwTarget (slot - 1)).mbxDone (ldKey port ld) 0x0202 rcSuccess
      else v.2.mbxDone (ldKey port ld) 0x0202 (if v.1 ≤ 7 then rcVerifyFailed else rcActFailed) := by
  have hvalid : ¬(slot = 0 ∨ 2 < slot) := by omega
  rw [State.doActivateFw, s.mbx_served h (by simp [hdev])]
  simp [hvalid]

theorem State.doReadCompletions_count {count : Nat} (hpos : 1 ≤ count) (hle : count ≤ 64) :
    s.doReadCompletions port ld count =
      (s.ringTake 0 count true).1.mbxDone (ldKey port ld) 0xC004 rcSuccess (s.ringTake 0 count true).2 := by
  rw [State.doReadCompletions, s.mbx_served h rfl, if_neg (by omega)]

theorem State.doWriteLoadBuffer_free {off : Nat} {words : List Nat} (hlen : words.length ≤ 1024)
    (hin : off + words.length ≤ 65536) (hfree : s.bufBusy = false) :
    s.doWriteLoadBuffer port ld off words = (s.lbWrite off words).mbxDone (ldKey port ld) 0xC005 rcSuccess := by
  rw [State.doWriteLoadBuffer, s.mbx_served h rfl, if_neg (by omega), if_neg (by simp [hfree])]

/-! ### Poison and sanitize (R508, R509) -/

section
variable {dpa a : Nat} (hline : s.lineOf port ld dpa = some a) (htakes : s.mbxTakes a = true)
include hline htakes

/-- The mark of a line that is in service is written as a store of the line with no byte enabled. -/
theorem State.doInjectPoison_stores (honline : s.isOffline a = false) :
    s.doInjectPoison port ld dpa =
      ((s.pageStore (a / 4096)).dramPush a true [] 0 true .rewrite 1 none).mbxDone (ldKey port ld) 0x4301 rcSuccess := by
  rw [State.doInjectPoison, s.mbx_served h rfl]
  simp [hline, htakes, State.mbxStore, honline]

/-- A line of data without a mark is stored, and the line leaves the list. -/
theorem State.doClearPoison_stores {data : List Byte} (hlen : data.length = 64) :
    s.doClearPoison port ld dpa data =
      ((s.setLd (ldKey port ld) { s.ld port ld with poisoned := setDel (a / 64) (s.ld port ld).poisoned }).mbxStore a allBe
        data false).mbxDone (ldKey port ld) 0x4302 rcSuccess := by
  rw [State.doClearPoison, s.mbx_served h rfl]
  simp [hline, htakes, hlen]

end

/-- A sanitize that is issued runs in the background of its mailbox. -/
theorem State.mbxSanitize_issued (hdev : s.on R.MBX_STAT_DEVWIDE = false) (hdec : s.anyDecoder = false) {u : State} {e : Nat}
    (hissue : s.issueLong 3 0x0B [] = (u, some e)) (opc : Nat) (i : Instr) :
    s.mbxSanitize port ld opc i =
      ((({ u with loq := { u.loq with bg := some (ldKey port ld, e) } }.wr R.MBX_STAT_BG 1).put R.MBX_STAT_DEVWIDE
        true).mbxDone (ldKey port ld) opc rcBackground).memSanitizeStart e := by
  rw [State.mbxSanitize, s.mbx_served h (by simp [hdev]), if_neg (by simp [hdec])]
  simp only [hissue]

end

/-- Settles O10: each command on the state whose responses are cleared. The action codes of Transfer FW (log 48) and the mailbox's
return codes (log 44) are PRESUMED; that Read Completions releases what it returns is the model's choice (log 149, DEDUCED). -/
theorem mailboxFirmwareAndLongOperations : Obligations.MailboxFirmwareAndLongOperations := by
  refine ⟨?_, ?_, ?_, ?_, ?_, ?_⟩
  · intro s port ld h hnext hvalid hinvalid
    exact exec_eq_after (·.doGetFwInfo port ld) rfl (s.fresh.doGetFwInfo_firstOnly h hnext hvalid hinvalid)
  · intro s port ld off data h hdev hclosed hoff hlen hne hin
    exact exec_eq_after (·.doTransferFw port ld 1 1 off data) rfl
      (s.fresh.doTransferFw_starts h hdev hclosed hoff hlen hne hin)
  · intro s port ld slot h hdev hslot hle
    exact exec_eq_after (·.doActivateFw port ld 1 slot) rfl (s.fresh.doActivateFw_offline h hdev hslot hle)
  · intro s port ld op args h
    exact exec_eq_after (·.doIssueLongOperation port ld op args) rfl (s.fresh.mbx_served h rfl)
  · intro s port ld count h hpos hle
    exact exec_eq_after (·.doReadCompletions port ld count) rfl (s.fresh.doReadCompletions_count h hpos hle)
  · intro s port ld off words h hlen hin hfree
    exact exec_eq_after (·.doWriteLoadBuffer port ld off words) rfl (s.fresh.doWriteLoadBuffer_free h hlen hin hfree)

/-- Settles O8: each command on the state whose responses are cleared. That Clear Poison takes the line off the list, that a store
waits for its acceptance and that it enters the bank queue at urgency 1 are the model's choices (log 50, DEDUCED); the return codes
(log 44) and the order of the list's fields (log 45) are PRESUMED. -/
theorem mailboxPoisonAndSanitize : Obligations.MailboxPoisonAndSanitize := by
  refine ⟨?_, ?_, ?_, ?_, ?_⟩
  · intro s port ld dpa len h
    exact exec_eq_after (·.doGetPoisonList port ld dpa len) rfl (s.fresh.mbx_served h rfl)
  · intro s port ld dpa a h hline htakes honline
    exact exec_eq_after (·.doInjectPoison port ld dpa) rfl (s.fresh.doInjectPoison_stores h hline htakes honline)
  · intro s port ld dpa a data h hline hlen htakes
    exact exec_eq_after (·.doClearPoison port ld dpa data) rfl (s.fresh.doClearPoison_stores h hline htakes hlen)
  · intro s port ld e u h hdev hdec hissue
    exact exec_eq_after (·.doSanitize port ld) rfl (s.fresh.mbxSanitize_issued h hdev hdec hissue 0x4400 _)
  · intro s port ld e u h hdev hdec hissue
    exact exec_eq_after (·.doSecureErase port ld) rfl (s.fresh.mbxSanitize_issued h hdev hdec hissue 0x4401 _)

end Sys2Proof.Machine
end

section
/-!
PROOFS. The statement about the clocks, the voltage, thermal and equalization loops, and the switched domains.
-/
namespace Sys2Proof.Machine

/-! ### Core voltage (R494 to R496) -/

section
variable (s : State) (slack : Nat) (hen : s.on R.PWR_LOOP_AVS_EN = true) (hflt : s.on R.PWR_STAT_AVS_FLT = false)
  (hreset : s.boot.inReset = false)
include hen hflt hreset

/-- A run of the enabled loop records the slack; with no request waiting it asks for more voltage below the low slack, and for
less above the high slack outside a save and a warm reset, within the limits. -/
theorem State.doAvsLoopRun_enabled :
    s.doAvsLoopRun slack =
      let x : State := s.wr R.PWR_CPM_SLACK_MIN (min slack 63)
      let v : Nat := s.rd R.PWR_AVSST_VSET
      if s.pwr.avsWait then x
      else if slack < s.rd R.PWR_CPM_SLACK_LO then (if v + 5 ≤ s.rd R.PWR_AVS_VMAX then x.avsAsk (v + 5) else x)
      else if s.rd R.PWR_CPM_SLACK_HI < slack ∧ 705 ≤ v ∧ s.cvn.code = 0 ∧ (!s.boot.warm) = true then x.avsAsk (v - 5)
      else x := by
  rw [State.doAvsLoopRun, if_neg (by simp [hen, hflt, hreset])]
  simp (disch := decide) only [State.rd_wr_other, State.wr_pwr, State.wr_cvn, State.wr_boot]

theorem State.doAvsLoopRun_raises (hwait : s.pwr.avsWait = false) (hlow : slack < s.rd R.PWR_CPM_SLACK_LO)
    (hmax : s.rd R.PWR_AVSST_VSET + 5 ≤ s.rd R.PWR_AVS_VMAX) :
    s.doAvsLoopRun slack = (s.wr R.PWR_CPM_SLACK_MIN (min slack 63)).avsAsk (s.rd R.PWR_AVSST_VSET + 5) :=
  (s.doAvsLoopRun_enabled slack hen hflt hreset).trans
    ((if_neg (by simp [hwait])).trans ((if_pos hlow).trans (if_pos hmax)))

theorem State.doAvsLoopRun_lowers (hwait : s.pwr.avsWait = false) (hlow : s.rd R.PWR_CPM_SLACK_LO ≤ slack)
    (hhigh : s.rd R.PWR_CPM_SLACK_HI < slack) (hmin : 705 ≤ s.rd R.PWR_AVSST_VSET) (hsave : s.cvn.code = 0)
    (hwarm : s.boot.warm = false) :
    s.doAvsLoopRun slack = (s.wr R.PWR_CPM_SLACK_MIN (min slack 63)).avsAsk (s.rd R.PWR_AVSST_VSET - 5) :=
  (s.doAvsLoopRun_enabled slack hen hflt hreset).trans
    ((if_neg (by simp [hwait])).trans ((if_neg (Nat.not_lt.mpr hlow)).trans
      (if_pos ⟨hhigh, hmin, hsave, congrArg (!·) hwarm⟩)))

/-- While a request waits, and with the slack in its band, the voltage stays. -/
theorem State.doAvsLoopRun_holds
    (hhold : s.pwr.avsWait = true ∨ (s.rd R.PWR_CPM_SLACK_LO ≤ slack ∧ slack ≤ s.rd R.PWR_CPM_SLACK_HI)) :
    s.doAvsLoopRun slack = s.wr R.PWR_CPM_SLACK_MIN (min slack 63) := by
  refine (s.doAvsLoopRun_enabled slack hen hflt hreset).trans ?_
  rcases hhold with hwait | ⟨hlow, hhigh⟩
  · exact if_pos hwait
  · exact ite_eq_left_iff.mpr fun _ => (if_neg (Nat.not_lt.mpr hlow)).trans (if_neg fun h => Nat.not_lt.mpr hhigh h.1)

end

section
variable (s : State) (volts : Nat) (hwait : s.pwr.avsWait = true) (hreset : s.boot.inReset = false)
  (hflt : s.on R.PWR_STAT_AVS_FLT = false)
include hwait hreset hflt

/-- A failed transaction is tried again three times; the next failure stops the loop. -/
theorem State.doAvsTransactionDone_bad :
    s.doAvsTransactionDone false volts =
      if s.pwr.avsTry < 3 then
        { s with pwr := { s.pwr with avsTry := s.pwr.avsTry + 1 } }.emit (.issue 3 [s.rd R.PWR_AVSST_VSET])
      else ({ s with pwr := { s.pwr with avsWait := false, avsTry := 0 } }.put R.PWR_STAT_AVS_FLT true).note 0x12 2 := by
  rw [State.doAvsTransactionDone, if_neg (by simp [hwait, hreset, hflt])]
  rfl

/-- A voltage that is read back confirms the request where it is near enough. -/
theorem State.doAvsTransactionDone_good :
    s.doAvsTransactionDone true volts =
      let x : State := s.wr R.PWR_AVSST_VREAD volts
      { x with pwr := { s.pwr with
        avsTry := 0,
        avsWait := decide (volts + 10 < s.rd R.PWR_AVSST_VSET) || decide (s.rd R.PWR_AVSST_VSET + 10 < volts) } } := by
  rw [State.doAvsTransactionDone, if_neg (by simp [hwait, hreset, hflt])]
  rfl

end

/-! ### Core levels (R492) -/

/-- The end of a window of a core in a powered domain: a busy core runs faster, and one idle for four windows slower. -/
theorem State.doFsWindowEnd_powered (s : State) {core : Nat} (busy : Nat) (hcore : core < 4)
    (hreset : s.boot.inReset = false) (hon : s.pdOn (24 + core) = true) :
    s.doFsWindowEnd core busy =
      let v : Nat := s.rd R.PWR_FS_LVL 0 core
      let n : Nat := if busy < 25 then smGet 0 s.pwr.fsLow core + 1 else 0
      let w : Nat × Nat := if 75 < busy then (v - 1, n) else if 4 ≤ n then (v + 1, 0) else (v, n)
      { s with pwr := { s.pwr with fsLow := smSet 0 core w.2 s.pwr.fsLow } }.fsSet core w.1 := by
  rw [State.doFsWindowEnd, if_neg (by simp [hreset, hon]; omega)]

/-! ### Thermal stages (R498) -/

/-- The readings and the hottest of them are recorded. -/
def State.thermalSense (s : State) (temps : List Nat) : State :=
  (((List.range 32).foldl (fun x k => x.wr R.PWR_TSNS_T (temps.getD k 0) k) s).wr R.PWR_THERM_TJ
    (temps.getD (hottest temps) 0)).wr R.PWR_THERM_HOT (hottest temps)

/-- Since when the hottest reading has stayed below each stage, with its margin. -/
def State.coolSince (s : State) (tj : Int) : List (Nat × Nat) :=
  [1, 2, 3, 4].foldl (fun m k =>
    if s.stageAt k - 48 < tj then smSet 0 k 0 m else if smGet 0 m k = 0 then smSet 0 k (s.tick + 1) m else m) s.pwr.coolAt

/-- The stage of the hottest reading is entered, and each core keeps its level as far as the stage permits. -/
def State.thermalStage (s : State) (tj : Int) : State :=
  let z : State := { s with pwr := { s.pwr with coolAt := s.coolSince tj } }
  let new : Nat := ([4, 3, 2, 1].find? (fun k => decide (s.stageAt k ≤ tj) || (decide (k ≤ s.rd R.PWR_STAT_STAGE) &&
    !(decide (smGet 0 (s.coolSince tj) k ≠ 0) && decide (smGet 0 (s.coolSince tj) k - 1 + 1024 ≤ s.tick))))).getD 0
  ((z.wr R.PWR_STAT_STAGE new).stageEnter (s.rd R.PWR_STAT_STAGE) new).fsAll

theorem State.doThermalRead_running (s : State) (temps : List Nat) (hreset : s.boot.inReset = false) :
    s.doThermalRead temps = (s.thermalSense temps).thermalStage (s16 (temps.getD (hottest temps) 0)) := by
  rw [State.doThermalRead, if_neg (Bool.eq_false_iff.mp hreset)]
  extract_lets x h y tj
  have hsense : s.thermalSense temps = y := rfl
  rw [hsense]
  clear_value y
  rfl

/-! ### Equalization (R502) -/

/-- A repeated equalization is counted, with the margin that it follows. -/
def State.eqCounted (s : State) (n port : Nat) : State := (s.wr R.PWR_EQ_MARG_MIN n port).inc R.PWR_EQ_REDO port

/-- The counts leave the port's rate as it was. -/
theorem State.eqCounted_rate (s : State) (n : Nat) {port : Nat} (hport : port < 2) :
    (s.eqCounted n port).rd R.HP_STAT_RATE port = s.rd R.HP_STAT_RATE port :=
  (State.rd_wr_other _ _ _ _ _ _ _ _ (by simp only [Fld.key, R.HP_STAT_RATE, R.PWR_EQ_REDO]; omega)).trans
    (State.rd_wr_other _ _ _ _ _ _ _ _ (by simp only [Fld.key, R.HP_STAT_RATE, R.PWR_EQ_MARG_MIN]; omega))

/-- The counts leave the port's width as it was. -/
theorem State.eqCounted_width (s : State) (n : Nat) {port : Nat} (hport : port < 2) :
    (s.eqCounted n port).rd R.HP_STAT_WIDTH port = s.rd R.HP_STAT_WIDTH port :=
  (State.rd_wr_other _ _ _ _ _ _ _ _ (by simp only [Fld.key, R.HP_STAT_WIDTH, R.PWR_EQ_REDO]; omega)).trans
    (State.rd_wr_other _ _ _ _ _ _ _ _ (by simp only [Fld.key, R.HP_STAT_WIDTH, R.PWR_EQ_MARG_MIN]; omega))

section
variable (s : State) {port marg : Nat} (rate width : Nat) (hport : port < 2) (hen : s.on R.PWR_LOOP_EQ_EN = true)
  (hlink : s.rd R.HP_STAT_LINK port = 2) (hrate : 5 ≤ s.rd R.HP_STAT_RATE port)
include hport hen hlink hrate

/-- A margin that is not low ends a row of low ones. -/
theorem State.doEqMeasurement_wide (hmarg : s.rd R.PWR_EQ_EQ_MARG port ≤ marg) :
    s.doEqMeasurement port marg rate width =
      { s.wr R.PWR_EQ_MARG_MIN (min marg 127) port with
        pwr := { s.pwr with eqLow := smSet 0 port 0 s.pwr.eqLow } } := by
  have hkept : (s.wr R.PWR_EQ_MARG_MIN (min marg 127) port).rd R.PWR_EQ_EQ_MARG port = s.rd R.PWR_EQ_EQ_MARG port :=
    s.rd_wr_row _ _ _ _ rfl (by decide)
  rw [State.doEqMeasurement, if_neg (by simp [hen, hlink]; omega)]
  dsimp only
  rw [hkept, if_neg (Nat.not_lt.mpr hmarg), if_neg fun h => absurd h.1 (by decide)]
  rfl

/-- The third low margin in a row repeats equalization, where none ran in the last 60 s; a lower rate or width is reported. -/
theorem State.doEqMeasurement_repeats (hmarg : marg < s.rd R.PWR_EQ_EQ_MARG port) (hlow : 2 ≤ smGet 0 s.pwr.eqLow port)
    (hlast : smGet 0 s.pwr.eqAt port = 0 ∨ smGet 0 s.pwr.eqAt port - 1 + 1966080 ≤ s.tick) :
    s.doEqMeasurement port marg rate width =
      let x : State := { s.wr R.PWR_EQ_MARG_MIN (min marg 127) port with pwr := { s.pwr with
        eqLow := smSet 0 port 0 s.pwr.eqLow, eqAt := smSet 0 port (s.tick + 1) s.pwr.eqAt } }.inc R.PWR_EQ_REDO port
      let y : State := (x.wr R.HP_STAT_RATE rate port).wr R.HP_STAT_WIDTH width port
      if rate < s.rd R.HP_STAT_RATE port ∨ width < s.rd R.HP_STAT_WIDTH port then y.note 0x12 5 port else y := by
  have hkept : (s.wr R.PWR_EQ_MARG_MIN (min marg 127) port).rd R.PWR_EQ_EQ_MARG port = s.rd R.PWR_EQ_EQ_MARG port :=
    s.rd_wr_row _ _ _ _ rfl (by decide)
  have htick : (s.wr R.PWR_EQ_MARG_MIN (min marg 127) port).tick = s.tick :=
    s.rd_wr_other _ _ _ _ _ _ _ (by simp only [Fld.key, R.PWR_TICK_TICK, R.PWR_EQ_MARG_MIN]; omega)
  have hdue : 3 ≤ (if marg < (s.wr R.PWR_EQ_MARG_MIN (min marg 127) port).rd R.PWR_EQ_EQ_MARG port then
        smGet 0 s.pwr.eqLow port + 1 else 0) ∧
      (smGet 0 s.pwr.eqAt port = 0 ∨
        smGet 0 s.pwr.eqAt port - 1 + 1966080 ≤ (s.wr R.PWR_EQ_MARG_MIN (min marg 127) port).tick) := by
    rw [hkept, if_pos hmarg, htick]
    exact ⟨by omega, hlast⟩
  rw [← s.eqCounted_rate (min marg 127) hport, ← s.eqCounted_width (min marg 127) hport, ← htick, State.doEqMeasurement,
    if_neg (by simp [hen, hlink]; omega)]
  refine (if_pos hdue).trans (if_congr ?_ rfl rfl)
  exact (Bool.or_eq_true _ _).to_iff.trans (or_congr decide_eq_true_iff decide_eq_true_iff)

end

/-- Settles O42: each command on the state whose responses are cleared. The 10 mV within which a read-back confirms a step and the
three further tries of a failed transaction (log 176), the windows that count anew after each step of a core's level (log 177) and
what makes a domain idle (logs 178 and 179) are the model's choices (DEDUCED), and so is what equalization leaves (log 180, DESIGN
CHOICE). -/
theorem clocksLoopsAndDomains : Obligations.ClocksLoopsAndDomains := by
  refine ⟨?_, ?_, ?_, ?_, ?_, ?_, ?_, ?_, ?_, ?_, ?_, ?_, ?_, ?_, ?_, ?_⟩
  · intro s hrc hsupply
    exact exec_eq_after (·.doCrystalStable) rfl (if_neg (by rcases hsupply with h | h <;> simp [hrc, h]))
  · intro s hxtal
    exact exec_eq_after (·.doCrystalStop) rfl (if_neg (by simp [hxtal]))
  · intro s slack hen hflt hreset hwait hlow hmax
    exact exec_eq_after (·.doAvsLoopRun slack) rfl
      (s.fresh.doAvsLoopRun_raises slack hen hflt hreset hwait hlow hmax)
  · intro s slack hen hflt hreset hwait hlow hhigh hmin hsave hwarm
    exact exec_eq_after (·.doAvsLoopRun slack) rfl
      (s.fresh.doAvsLoopRun_lowers slack hen hflt hreset hwait hlow hhigh hmin hsave hwarm)
  · intro s slack hen hflt hreset hhold
    exact exec_eq_after (·.doAvsLoopRun slack) rfl (s.fresh.doAvsLoopRun_holds slack hen hflt hreset hhold)
  · intro s volts hwait hreset hflt htry
    exact exec_eq_after (·.doAvsTransactionDone false volts) rfl
      ((s.fresh.doAvsTransactionDone_bad volts hwait hreset hflt).trans (if_pos htry))
  · intro s volts hwait hreset hflt htry
    exact exec_eq_after (·.doAvsTransactionDone false volts) rfl
      ((s.fresh.doAvsTransactionDone_bad volts hwait hreset hflt).trans (if_neg (Nat.not_lt.mpr htry)))
  · intro s volts hwait hreset hflt
    exact exec_eq_after (·.doAvsTransactionDone true volts) rfl
      (s.fresh.doAvsTransactionDone_good volts hwait hreset hflt)
  · intro s slack hstretch hreset hemg
    exact exec_eq_after (·.doCpmEmergency slack) rfl (if_neg (by
      rintro (h | h | h)
      · exact Bool.eq_false_iff.mp hstretch h
      · exact Bool.eq_false_iff.mp hreset h
      · exact Nat.not_lt.mpr h hemg))
  · intro s slack hlow
    exact exec_eq_after (·.doStretchEnd slack) rfl (if_pos hlow)
  · intro s core busy hcore hreset hon
    exact exec_eq_after (·.doFsWindowEnd core busy) rfl (s.fresh.doFsWindowEnd_powered busy hcore hreset hon)
  · intro s temps hreset
    refine exec_eq_after (·.doThermalRead temps) rfl ((s.fresh.doThermalRead_running temps hreset).trans ?_)
    extract_lets x h y
    have hsense : s.fresh.thermalSense temps = y := rfl
    rw [hsense]
    clear_value y
    rfl
  · intro s port marg rate width hport hen hlink hrate hmarg
    exact exec_eq_after (·.doEqMeasurement port marg rate width) rfl
      (s.fresh.doEqMeasurement_wide rate width hport hen hlink hrate hmarg)
  · intro s port marg rate width hport hen hlink hrate hmarg hlow hlast
    exact exec_eq_after (·.doEqMeasurement port marg rate width) rfl
      (s.fresh.doEqMeasurement_repeats rate width hport hen hlink hrate hmarg hlow hlast)
  · intro s pd hon hidle hset hsave hreset
    exact exec_eq_after (·.doDomainIdle pd) rfl
      (if_pos ⟨hon, hidle, hset, congrArg (!·) hsave, congrArg (!·) hreset⟩)
  · intro s pd hreset hpd hoff
    exact exec_eq_after (·.doDomainWake pd) rfl
      ((if_pos ⟨congrArg (!·) hreset, hpd⟩).trans (if_neg (Bool.eq_false_iff.mp hoff)))

end Sys2Proof.Machine
end
